-- ==== Sys2Proof/Word.lean ====
section
/-! DEFINITION. The word types of the XK6151 (00_scope.md R9-R14, 11_kazluisk_dictionary.md R336). -/

namespace Sys2Proof

/-- A byte of a BLOB, of a memory or of a message. -/
abbrev Byte := BitVec 8

/-- A 32-bit word: scalar registers, instruction words, record words (R147, R151). -/
abbrev Word := BitVec 32

/-- A Drumline time in LSB of 15.625 ps (R14, R38): a 64-bit count that wraps. -/
abbrev Dlt := BitVec 64

end Sys2Proof
end

