-- ==== Sys2Proof/Config.lean ====
section
/-! DEFINITION. What the implementation fixes and the spec does not state: free values (constants without a body) and
the mask ROM. Nothing can be proved of a value here. -/

namespace Sys2Proof

/-- Free value: a fresh 64-bit value for each place in the sequence of free values drawn (log entry 7). `State.free`
counts the places. UNVERIFIED: no proof may rest on one of its values. -/
opaque Config.freeBits : Nat → BitVec 64

/-- The instruction words of the standard correction program in mask ROM (R191, R338): the manual defines the program's
behaviour and not its instruction sequence (log entry 5). -/
opaque Config.romWord : Nat → Word

/-- The minor version of the standard program, fixed by the mask ROM (R338; log entry 5). -/
opaque Config.stdMinor : BitVec 16

/-- The 5 × 5 patterns of the standard program in mask ROM (R175, R202): the manual gives the table no content (log entry
5). -/
opaque Config.subTable : Nat → BitVec 24

/-- A word of the region registers window at an offset (R118): the spec names what the window shows and not where, so the
word is a free function of the row map (row and buffer), the live engine count, the bank and the slot in use (log entry 7). -/
opaque Config.regionWord : List (Int × Nat) → Nat → Bool → Bool → Nat → Word

/-- The 16-bit lane that the standard program gives with stage 8 off for a v7 that does not fit in it (R192; log entry 10). -/
opaque Config.narrowLane : Int → BitVec 16

/-- C16 of an overloaded pixel of value 0 (R208), by frame, region, row, column and context: the manual gives it for positive
and for negative values (log entry 10). -/
opaque Config.ovrZero : BitVec 32 → Nat → Nat → Nat → Nat → BitVec 16

/-- The vector reads of the coefficient bank in one item of the standard program (R263): the manual gives the unit and not the
number (log entry 10). -/
opaque Config.itemReads : Nat

/-- The blocks that the statistics and the tone curve of one frame cost on a seam transmit slot (R210, R215, R266): the manual
names the class and not the number (log entry 28). -/
opaque Config.statBlocks : Nat → Nat

/-- The transmitter delay that the port measures at a beat (R347): it lies in the transceiver (log entry 33). -/
opaque Config.tdcMeas : Nat → BitVec 8

/-- Marks one free bit taken from the sequence of free values, for a detector whose answer the manual leaves open
(R86; log entry 8). -/
def Config.freeBit (n : Nat) : Bool := (Config.freeBits n).getLsbD 0

end Sys2Proof
end

