-- ==== Sys2Proof/Syntax.lean ====
section
/-! DEFINITION. The commands of the block: one constructor for each row of spec/opcode_table.json. The table gives no
operands, so each constructor carries what its rule needs from outside: the operands of a write, a received message, a
measured value, the unit concerned. -/

namespace Sys2Proof

/-- The sources that can discipline DLT (R56). -/
inductive TimeSource where
  | drumBus | lane | syncIn
deriving DecidableEq, Repr

/-- A scheduler of R46. -/
inductive Sched where
  | package
  | die (q : Fin 4)
  | cluster
deriving DecidableEq, Repr

/-- Where a landing stroke came from, in the order of R51 for strokes of equal codes. -/
inductive StrokeSrc where
  | clusterSeq | dieSched | packageSched | rimshot | calibration | gongAction | sunGuard
deriving DecidableEq, Repr

/-- A stroke as it lands on its units (R45, R50): its target, the scheduler's limit on it (R46), its argument and, for a
repeating entry, its PERIOD and the launch time of its next occurrence. -/
structure Landing where
  level  : BitVec 4  := 5
  mask   : BitVec 16 := 0
  index  : BitVec 16 := 0
  arg    : BitVec 32 := 0
  period : BitVec 48 := 0
  next   : Option Dlt := none
  src    : StrokeSrc := .packageSched
  only   : Option Sched := none   -- a die scheduler or a cluster sequencer acts on its own units only
  entry  : Nat := 0               -- its entry in that scheduler (R46, R51)
  dies   : BitVec 6 := 0x3F       -- the dies on which it lands: [3:0] Q3-Q0, [4] S, [5] C (R40, R457)
  edges  : List Nat := []         -- beats from launch to the destination edges of its further domains (R53, R55)
deriving DecidableEq, Repr

/-- One conversion of one CU in a slot (R75, R84, R86). For a pixel and for J0 to J3, `x` is the input current as the
decimator averages it, in units of 0.5 µA / 2^32 (I_FS of range 0 over 2^32), whatever the range; `runs` gives an input that
moved within the slot: its values in the same unit, each with the conversion cycles it lasted, in order; without runs the
input is steady at `x`. For J4 `x` is the temperature above 273.15 K in units of 0.25 mK / 2^13; for J5 and J7 the deviation
from nominal in ppm; for J6 the converter's offset in LSB. -/
structure Sample where
  cu   : Nat
  x    : Int
  runs : List (Int × Nat) := []
deriving DecidableEq, Repr

/-- What SFDP discovery found (R365, R366); `none` in the command means that the signature is missing. -/
structure Sfdp where
  density  : Nat
  fourByte : Bool                       -- 4-byte address commands; else 4-byte mode is entered with B7h
  pageSize : Nat
  dtr      : Option Nat := none         -- DTR fast read and its dummy cycles
  prog     : Nat × Nat                  -- typical page-program time in µs and its maximum multiplier
  erase4   : Option (Nat × Nat) := none -- the 4 KiB erase type, likewise
  erase64  : Option (Nat × Nat) := none -- the 64 KiB erase type
  taps     : List Bool := []            -- at which of the 32 delay taps the header reads right (R366)
  copy     : List Byte := []
deriving DecidableEq, Repr

/-- The three objects whose write resets the MC decimator (R99). -/
inductive McFilter where
  | k | d
  | gainSel (ch : Fin 16)
deriving DecidableEq, Repr

/-- A dictionary access, as every transport carries it (R345, R361, R362). -/
structure DictReq where
  cmd    : Nat          -- 1 READ, 2 WRITE, 3 READ_ACTIVE; on CAN FD any CMD of R353
  tag    : Nat := 0
  index  : Nat
  sub    : Nat
  offset : Nat := 0
  length : Nat := 0
  data   : List Byte := []
  client : Nat := 0     -- the KTP client, on CAN FD
  stamp  : Dlt := 0     -- DLT of its arrival (R349), set by the part as it queues the request
deriving DecidableEq, Repr

/-- A packet of the Kettle link as it arrives (R318, R319). -/
structure RxPacket where
  seq   : Nat
  kind  : Nat
  whole : Bool          -- every block came from a codeword without an uncorrectable flag
  crcOk : Bool          -- the CRC-32 matches
  req   : DictReq       -- meaning for KIND 1
deriving DecidableEq, Repr

/-- The fields of a HELLO control block (R317, R323). -/
structure HelloMsg where
  uid      : BitVec 64
  version  : Nat
  rate     : Nat
  canRef   : Bool
  canFollow: Bool
  seen     : Bool       -- has seen the far HELLO
  capacity : Nat
  role     : Nat
deriving DecidableEq, Repr

/-- A transmission of the drum bus as received (R404): the DLT at which its timestamp point arrived, and its bytes between the
start delimiter and the end mark, which are the payload of 256 bytes and its CRC-32. -/
structure DrumRx where
  arrival : Dlt
  bytes   : List Byte
deriving DecidableEq, Repr

/-- What another controller goes on to do with this part as its target (R380, R381). -/
inductive OwnAccess where
  | write (bytes : List Byte)
  | read (n : Nat)
deriving DecidableEq, Repr

/-- How a controller transfer on ACC goes (R378-R380): done with the bytes read, a NACK of the address or of the written byte
`k`, arbitration lost after `k` bytes, `own` being what the winner does where it addresses this part, or SCL held low for
ACC_STRETCH_MS. -/
inductive XferResult where
  | done (read : List Byte)
  | addrNack
  | dataNack (k : Nat)
  | arbLost (k : Nat) (own : Option OwnAccess)
  | sclLow
deriving DecidableEq, Repr

/-- What the check of the accessory bus finds (R378): SCL toggles; SDA is high; the pulse that finds SDA high, 0 for none. -/
structure BusTest where
  toggles : Bool
  sdaHigh : Bool
  pulses  : Nat
deriving DecidableEq, Repr

/-- What a STOP of another controller leads to (R378, R380): what the check that waits for it finds, and how the transfer that lost
arbitration goes when it starts again. -/
structure BusStop where
  test : BusTest := ⟨false, true, 0⟩
  res  : XferResult := .addrNack
deriving DecidableEq, Repr

/-- An engine that reads memory while it works, and the words that upsets have struck when it reads them (R138). -/
structure EngineHit where
  p     : Fin 272
  upset : List Nat := []
deriving DecidableEq, Repr

/-- What the status poll or read-back of the flash shows (R368, R369). -/
structure FlashPoll where
  wip    : Bool
  verify : Bool := true     -- the segment read back equal
deriving DecidableEq, Repr

/-- THE COMMANDS: one constructor per row of spec/opcode_table.json, in the table's order. -/
inductive Instr where
  -- power and start-up (15)
  | aonPowerOn
  | resetNLow (ns : Nat)
  | stage1Entry
  | stage2Entry (sfdp : Option Sfdp)
  | stage3Entry
  | railGood (r : Fin 12)
  | railLost (r : Fin 12)
  -- Drumline and strokes (02)
  | beat
  | dltCopyCompare (die : Fin 4) (found : Dlt)
  | dltCopyReload (die : Fin 4)
  | refInLoss
  | refInReturn
  | strokeEntryWrite (sched : Sched) (off : Nat) (bytes : List Byte)
  | strokeForward (e : Fin 256)
  | strokeFire (sched : Sched) (e : Nat)
  | lateStrokeFire (sched : Sched) (e : Nat)
  | rimshotGo (v : Nat)
  | rimshotFire
  | syncInEdge (falling : Bool) (stamp : Dlt)
  | sourceEventMissed (src : TimeSource)
  | syncModeWrite (v : Nat)
  | stepGo (v : Nat)
  | dltStep
  | gong (l : Landing)
  | gongLowEnd
  | bell (l : Landing)
  | commitShadow (l : Landing)
  | swapBank (l : Landing)
  | swapProg (l : Landing)
  -- frames (03)
  | frameStart (l : Landing)
  | frameEntryRun (p : Fin 272)
  | slotEnd (q : Fin 4) (samples : List Sample)
  | frameGate (temps : List (Nat × Nat))
  | inject (l : Landing)
  | injTrigEdge
  | sunTrippedClear (v : Nat)
  -- monitor converter (03)
  | mcStart (l : Landing)
  | mcStop
  | mcOutput (x : Int) (ovr : Bool)
  | mcRdWrite (v : Nat)
  | mcFilterWrite (which : McFilter) (v : Nat)
  | mcInjGo (v : Nat)
  | mcCalZero
  | mcCalFullScale
  | mcCalStepDone
  -- engine fabric (04)
  | itemRelease (g : Fin 64) (row : Nat)
  | itemClaim (p : Fin 272)
  | itemCommit (p : EngineHit)
  | endEntryRun (p : Fin 272)
  | claimTimeout (p : Fin 272)
  | checkCompare (g : Fin 64) (row : Nat)
  | engineFault (p : Fin 272) (code : Nat)
  | haloArrival (g : Fin 64) (row : Int) (words : List (Int × Word))
  | seamBlockReceive (link : Fin 4) (crcOk : Bool)
  | progSlotWrite (slot : Fin 2) (off : Nat) (bytes : List Byte)
  | tableAreaWrite (off : Nat) (bytes : List Byte)
  | fEngWrite (q : Fin 4) (v : Nat)
  | enginePllLock (q : Fin 4)
  | vddeMeasure (q : Fin 4) (mv : Nat)
  -- engine instructions (05): engine p issues the word whose bits [25:0] are f
  | smov (p : Fin 272) (f : BitVec 26)
  | sadd (p : Fin 272) (f : BitVec 26)
  | ssub (p : Fin 272) (f : BitVec 26)
  | sand (p : Fin 272) (f : BitVec 26)
  | sor (p : Fin 272) (f : BitVec 26)
  | sshl (p : Fin 272) (f : BitVec 26)
  | sshr (p : Fin 272) (f : BitVec 26)
  | scmp (p : Fin 272) (f : BitVec 26)
  | sbr (p : Fin 272) (f : BitVec 26)
  | sloop (p : Fin 272) (f : BitVec 26)
  | scall (p : Fin 272) (f : BitVec 26)
  | sret (p : Fin 272) (f : BitVec 26)
  | pfx (p : Fin 272) (f : BitVec 26)
  | ldpx (p : Fin 272) (f : BitVec 26) (upset : List Nat)
  | ldcf (p : Fin 272) (f : BitVec 26) (upset : List Nat)
  | ldst (p : Fin 272) (f : BitVec 26) (upset : List Nat)
  | stst (p : Fin 272) (f : BitVec 26)
  | ldl (p : Fin 272) (f : BitVec 26) (upset : List Nat)
  | stl (p : Fin 272) (f : BitVec 26)
  | vadd (p : Fin 272) (f : BitVec 26)
  | vsub (p : Fin 272) (f : BitVec 26)
  | vmul (p : Fin 272) (f : BitVec 26)
  | vmac (p : Fin 272) (f : BitVec 26)
  | vshr (p : Fin 272) (f : BitVec 26)
  | vsat (p : Fin 272) (f : BitVec 26)
  | vmin (p : Fin 272) (f : BitVec 26)
  | vmax (p : Fin 272) (f : BitVec 26)
  | vabs (p : Fin 272) (f : BitVec 26)
  | vcmp (p : Fin 272) (f : BitVec 26)
  | vsel (p : Fin 272) (f : BitVec 26)
  | vlut (p : EngineHit) (f : BitVec 26)
  | vtag (p : Fin 272) (f : BitVec 26)
  | vnbr (p : EngineHit) (f : BitVec 26)
  | vhist (p : Fin 272) (f : BitVec 26) (upset : List Nat)
  | vstat (p : Fin 272) (f : BitVec 26)
  | vmom (p : Fin 272) (f : BitVec 26)
  | emitLine (p : Fin 272) (f : BitVec 26)
  | emitRecord (p : Fin 272) (f : BitVec 26)
  | emitRemote (p : Fin 272) (f : BitVec 26)
  | waits (p : Fin 272) (f : BitVec 26)
  | waitsRelease (p : Fin 272) (cause : Fin 4) (event : Fin 32)
  | engEvent (l : Landing)
  | lease (p : Fin 272) (f : BitVec 26)
  | leaseGrant (r : Fin 1352)
  | leaseWaitGiveUp (p : Fin 272)
  | free (p : Fin 272) (f : BitVec 26)
  | engineBell (p : Fin 272) (f : BitVec 26)
  -- standard program (06)
  | histogramMerge
  | shadeGridWrite (bytes : List Byte)
  | gimbalRateWrite (yaw pitch roll : Option Int) (stamp : Dlt)
  | stdReload (v : Nat)
  -- calibration (07)
  | calStart (l : Landing)
  | calTwoPointZero
  | calTwoPointFullScale
  | calClapperRefresh
  | calDriftPoint (point : Nat)
  | calAbort
  | calRunFinish (readBackOk : Bool)
  | clapRefreshTimeout
  | offsetUpdateWrite (g : Fin 64)
  | sceneUpdate
  | imgSaveActive
  | imgSaveInactive
  | imgSaveComplete
  | imgLoad
  | imgLoadComplete
  | inactiveBanksWrite (off : Nat) (bytes : List Byte)
  | commitGo (v : Nat)
  | commitCheckDone
  -- rolls (08)
  | rollBoundary
  | allocApply (v : Nat)
  -- views (09)
  | viewOpen (l : Landing)
  | viewClose (l : Landing)
  | linePageWrite (v : Fin 16) (line : Nat)
  | frameRecordWrite (v : Fin 16)
  | viewStallTimeout (v : Fin 16)
  | creditGo (v : Nat)
  | recordPageFlush (v : Fin 16)
  -- lanes (10)
  | laneEnableWrite (n : Fin 8) (v : Nat)
  | laneRestart (n : Fin 8) (v : Nat)
  | codewordReceive (n : Fin 8) (message parity : List Nat) (reads : List Nat)
  | hello (n : Fin 8) (m : HelloMsg)
  | tapReq (n : Fin 8) (tap op preset num : Nat)
  | tapResp (n : Fin 8) (num status : Nat) (coefs : Word)
  | tapReqRetry (n : Fin 8)
  | trainDone (n : Fin 8)
  | trainLimitExpiry (n : Fin 8)
  | helloTimeout (n : Fin 8)
  | holdoffExpiry (n : Fin 8)
  | pktReceive (n : Fin 8) (p : RxPacket)
  | ack (n : Fin 8) (seq : Nat)
  | nak (n : Fin 8) (seq : Nat)
  | credit (n : Fin 8) (seq : Nat) (view : Fin 16) (ring : Fin 2) (count : Word)
  | replayTimeout (n : Fin 8)
  | linkStallTimeout (n : Fin 8)
  | down (n : Fin 8) (cause : Nat)
  | timeSyncSend (n : Fin 8)
  | timeSync (n : Fin 8) (t1 t2 t3 : Dlt)
  | timeReq (n : Fin 8) (t3 t4 : Dlt)
  | timeResp (n : Fin 8) (t4 t3 : Dlt)
  | ttRoleReq (n : Fin 8) (v : Nat)
  | roleReq (n : Fin 8) (role num : Nat)
  | roleResp (n : Fin 8) (num status : Nat)
  | roleReqRetry (n : Fin 8)
  | eyeGo (v : Nat)
  | eyePointDone (symbols errors : Word)
  -- dictionary and CAN FD (11)
  | dictServe
  | registerWrite (r : DictReq)
  | claim (n : Nat) (serial : BitVec 48)
  | heartbeat (n : Nat) (serial : BitVec 48) (state : Nat)
  | heartbeatSend
  | nodeExpire (n : Nat)
  | claimListenEnd
  | claimWaitEnd
  | claimRetry
  | canBusOffRecovery
  | canClassicFrame
  | canApply (v : Nat)
  | ktpOpen (c : Nat) (server : Nat) (serial : BitVec 48) (tag : Nat)
  | ktpRead (c tag index sub : Nat)
  | ktpWrite (c tag index sub : Nat) (data : List Byte)
  | readActive (c tag index sub : Nat)
  | segRead (c tag index sub offset length : Nat)
  | segWrite (c tag index sub offset length : Nat)
  | segData (c : Nat) (last toggle : Bool) (data : List Byte)
  | bulkRead (c tag index sub offset length : Nat)
  | bulkWrite (c tag index sub offset length : Nat)
  | bulkData (c seq : Nat) (data : List Byte)
  | bulkAck (c status lastSeq nextBlock : Nat)
  | bulkEnd (c : Nat) (crc : Word)
  | abort (c code : Nat)
  | ktpTimeout (c : Nat)
  | bellAck (seq : Nat)
  | canBellSend
  | canTrackSend
  | canFocusSend
  | statusSend
  -- serial ports (12)
  | flashWindowWrite (off : Nat) (bytes : List Byte)
  | flashStatusPoll (r : FlashPoll)
  | flashProgramTimeout
  | eraseGo (v : Nat)
  | eraseTimeout
  | sspiFrame (clocks : Nat) (input : Word) (early : Bool)
  | sspiRequestTimeout
  | accEnable (v : Nat) (toggles sdaHigh : Bool) (pulses : Nat)
  | accStretchTimeout
  | xferGo (v : Nat) (r : XferResult)
  | accTargetWrite (bytes : List Byte)
  | accTargetRead (n : Nat)
  | lensPoll (r : XferResult)
  | lensGridReadDone (r : XferResult)
  -- actuators (13)
  | clapper (l : Landing)
  | actStart (l : Landing)
  | malletStoreWrite (b : Fin 2) (entries : Bool) (off : Nat) (bytes : List Byte)
  | malletEnd (b : Fin 2)
  | target (b : Fin 2)
  | ramp (b : Fin 2)
  | waitPeak (b : Fin 2)
  | peakReached (b : Fin 2) (ma : Nat)
  | waitPeakTimeout (b : Fin 2)
  | hold (b : Fin 2)
  | decayFast (b : Fin 2)
  | decaySlow (b : Fin 2)
  | decayFloorReached (b : Fin 2)
  | waitTime (b : Fin 2)
  | waitTimeEnd (b : Fin 2)
  | measureDip (b : Fin 2)
  | measurePos (b : Fin 2)
  | measureCurrent (b : Fin 2) (ma : Nat)
  | branch (b : Fin 2)
  | dipDetected (b : Fin 2) (ma us : Nat)
  | clapPosChange (level : Bool)
  | driveStickWaitEnd (b : Fin 2)
  | malletTimeout (b : Fin 2)
  | overCurrent (b : Fin 2) (ma : Nat)
  | vactUndervoltage (mv : Nat)
  | coilModelUpdate (ma : List Nat)
  | trip (ns : Nat)
  | tripActiveClear (v : Nat)
  | syncOut (l : Landing)
  | syncOutPulseEnd
  | timeMark (l : Landing)
  -- ensembles (14)
  | ensEnableWrite (v : Nat)
  | drumSlot (readBackOk : Bool)
  | masterBeacon (r : DrumRx)
  | memberBeacon (r : DrumRx)
  | slotClaim (r : DrumRx)
  | masterClaim (r : DrumRx)
  | leave (r : DrumRx)
  | drumCycle
  | mirrorApply
  | gongReceive (ns : Nat) (stamp : Dlt)
  -- power modes, wake and heat (15)
  | powerModeRun
  | powerModeRetain
  | powerModeSleep
  | powerModeStandby
  | wakeEdge (ns ticks : Nat)
  | canRxWake (ns ticks : Nat)
  | sleepTimerExpiry (ticks : Nat)
  | aonWakeCommand (ticks : Nat)
  | aonClearCommand (cool : Bool)
  | sensorRead (temps : List Int)
  | thermalShutdown (sensor : Fin 40) (temp : Int)
  | referencesSettled (readBack1 readBack2 : Bool)
  | trainDoneSend (n : Fin 8) (ber1e9 : Nat)
  | rateSeekTimeout (n : Fin 8)
  | flashReadComplete (p : Option (Fin 272))
  | canBusError (transmit : Bool) (delta : Nat)
  | canIntegrationComplete
  | accStopCondition (r : BusStop)
  | gongNRise
  | railGoodTimeout (d : Fin 30)
  | vddAonRemoval
deriving DecidableEq, Repr

end Sys2Proof
end

