-- ==== Sys2Proof/Machine/Bits.lean ====
section
/-! DEFINITION. Bit fields, byte order, rounding, modular time and the two CRCs of the spec (R10, R11, R22, R157, R317,
02_drumline.md on times modulo 2^64). Everything here may be mended. -/

namespace Sys2Proof.Machine

/-- Bits `[hi:lo]` of a natural number (R10). -/
def bits (w hi lo : Nat) : Nat := (w >>> lo) % 2 ^ (hi + 1 - lo)

/-- Bit `i` of a natural number. -/
def bit (w i : Nat) : Bool := w.testBit i

/-- The two's complement reading of the low `w` bits of `n`. -/
def signedOf (w n : Nat) : Int :=
  let m := n % 2 ^ w
  if m < 2 ^ (w - 1) then (m : Int) else (m : Int) - (2 : Int) ^ w

/-- The low `w` bits of an integer in two's complement. -/
def wrapNat (w : Nat) (x : Int) : Nat := (x % (2 : Int) ^ w).toNat

/-- `n` bytes of a value, least significant first (R11). -/
def leBytes : Nat → Nat → List Byte
  | 0, _ => []
  | n + 1, v => BitVec.ofNat 8 v :: leBytes n (v / 256)

/-- The value of bytes given least significant first (R11). -/
def leVal : List Byte → Nat
  | [] => 0
  | b :: bs => b.toNat + 256 * leVal bs

/-- Bytes of a list of 32-bit words, little-endian (R11, R21). -/
def wordsBytes (ws : List Word) : List Byte := ws.flatMap fun w => leBytes 4 w.toNat

/-- 32-bit words of a list of bytes, little-endian; a short tail is padded with zeros. -/
def bytesWords : List Byte → List Word
  | a :: b :: c :: d :: r => BitVec.ofNat 32 (leVal [a, b, c, d]) :: bytesWords r
  | [] => []
  | r => [BitVec.ofNat 32 (leVal r)]

/-- The nearest integer to `n / d`, halves upwards, for a positive divisor (R157). -/
def roundDiv (n d : Int) : Int := (2 * n + d).fdiv (2 * d)

/-- `round` of a rational, halves towards plus infinity (R157). -/
def roundRat (r : Rat) : Int := (r + 1 / 2).floor

/-- `roundDiv` for a divisor of either sign; 0 for a zero divisor. -/
def roundDivS (n d : Int) : Int := if d < 0 then roundDiv (-n) (-d) else roundDiv n d

/-- Round half away from zero (R177), for a positive divisor. -/
def roundAway (n d : Int) : Int := if n < 0 then -((2 * (-n) + d).fdiv (2 * d)) else (2 * n + d).fdiv (2 * d)

/-- `clamp(x, lo, hi)` of the formulas of the spec. -/
def clampInt (x lo hi : Int) : Int := if x < lo then lo else if hi < x then hi else x

/-- One step of a reflected CRC-32 (R22: generator 0x04C1_1DB7 reflected is 0xEDB8_8320). -/
def crc32Bits : Nat → Nat → Nat
  | 0, c => c
  | k + 1, c => crc32Bits k (if c.testBit 0 then (c >>> 1) ^^^ 0xEDB88320 else c >>> 1)

/-- The register after the bytes, from the register `c`. -/
def crc32Go : Nat → List Byte → Nat
  | c, [] => c
  | c, b :: bs => crc32Go (crc32Bits 8 (c ^^^ b.toNat)) bs

/-- The CRC-32 of R22 over bytes. -/
def crc32 (bs : List Byte) : Word := BitVec.ofNat 32 (crc32Go 0xFFFFFFFF bs ^^^ 0xFFFFFFFF)

/-- One step of the CRC-16 of R317 (generator 0x1021, no reflection). -/
def crc16Bits : Nat → Nat → Nat
  | 0, c => c
  | k + 1, c => crc16Bits k (if c.testBit 15 then ((c <<< 1) ^^^ 0x1021) % 65536 else (c <<< 1) % 65536)

/-- The CRC-16 of R317 over bytes: initial value 0xFFFF, no final exclusive-OR. -/
def crc16 (bs : List Byte) : BitVec 16 :=
  BitVec.ofNat 16 (bs.foldl (fun c b => crc16Bits 8 (c ^^^ (b.toNat <<< 8))) 0xFFFF)

/-- `a` is equal to or later than `b`, modulo 2^64 with half the range forward (02_drumline.md). -/
def Dlt.reached (a b : Dlt) : Bool := (a - b).toNat < 2 ^ 63

/-- `a - b` as a signed number of LSB, modulo 2^64 with half the range forward. -/
def Dlt.diff (a b : Dlt) : Int := (a - b).toInt

/-- A DLT moved by a signed number of LSB. -/
def Dlt.add (a : Dlt) (d : Int) : Dlt := a + BitVec.ofInt 64 d

/-- Bits set in the low `n` bits of a number. -/
def countBits : Nat → Nat → Nat
  | 0, _ => 0
  | n + 1, v => countBits n v + (if v.testBit n then 1 else 0)

/-- The positions of the set bits below `n`, ascending. -/
def setBits (n v : Nat) : List Nat := (List.range n).filter fun i => v.testBit i

/-- Replace the bits `[hi:lo]` of a number. -/
def putBits (w hi lo v : Nat) : Nat :=
  let k := hi + 1 - lo
  w - ((bits w hi lo) <<< lo) + ((v % 2 ^ k) <<< lo)

/-- Put or clear one bit. -/
def putBit (w i : Nat) (b : Bool) : Nat := putBits w i i (if b then 1 else 0)

end Sys2Proof.Machine
end

