-- ==== Sys2Proof/Machine/Masol.lean ====
section
/-! DEFINITION. The Masol descriptor table (01_masol_table.md): the boot check of R20, the walk of R24, and the factory
table of this model's part (an XK6151-L8 or -L4; log entry 4). -/

namespace Sys2Proof.Machine

/-- A record: its header word (R23) and its payload. -/
def Masol.record (ty : Nat) (payload : List Word) : List Word :=
  BitVec.ofNat 32 (payload.length * 65536 + ty) :: payload

/-- A whole table (R21): header, records, end record, with LENGTH and CRC filled in. -/
def Masol.build (records : List Word) : List Word :=
  let body := records ++ [0x0000FFFF]
  let len := 4 * (4 + body.length)
  [0x4C4F534D, 0x00010000, BitVec.ofNat 32 len, crc32 (wordsBytes body)] ++ body

/-- The types met by the walk of R24 from the words after the header, or `none` for a walk error: `left` is the number of
words from here to the last word before LENGTH, that word included. -/
def Masol.walk : Nat → Nat → List Word → Option (List (Nat × List Word))
  | 0, _, _ => none
  | fuel + 1, left, ws =>
    match ws with
    | [] => none
    | h :: rest =>
      let ty := bits h.toNat 15 0
      let len := bits h.toNat 31 16
      if ty = 0xFFFF then (if left = 1 then some [] else none)
      else if left < len + 2 then none
      else (Masol.walk fuel (left - (len + 1)) (rest.drop len)).map ((ty, rest.take len) :: ·)

/-- The least payload length of each known record type at minor version 0 (R26: a shorter record is a walk error). -/
def Masol.minLen (ty : Nat) (payload : List Word) : Nat :=
  let n := bits (payload.headD 0).toNat 15 0
  match ty with
  | 0x1 => 4
  | 0x2 => 1 + 2 * bits (payload.headD 0).toNat 7 0
  | 0x3 => 1921
  | 0x4 => 146
  | 0x5 => 1 + n | 0x6 => 1 + 3 * n | 0x7 => 1 + n | 0x8 => 1 + 3 * n | 0x9 => 1 + n
  | 0xA => 1 + 2 * n | 0xB => 1 + 2 * n | 0xC => 6 | 0xD => 1 + n | 0xE => 1 + n | 0xF => 3
  | _ => 0

/-- The record rule of R25 with the length rule of R26: each of the types 1 to 15 exactly once, none too short. -/
def Masol.recordsOk (rs : List (Nat × List Word)) : Bool :=
  (List.range 15).all (fun t => (rs.filter fun r => r.1 = t + 1).length = 1) &&
  rs.all fun r => Masol.minLen r.1 r.2 ≤ r.2.length

/-- The boot check of R20: 0 valid, 1 MAGIC, 4 VER_MAJOR, 3 LENGTH or walk, 2 CRC; the first failing check decides. -/
def Masol.check (t : List Word) : Nat :=
  let len := (t.getD 2 0).toNat
  if t.getD 0 0 ≠ 0x4C4F534D then 1
  else if bits (t.getD 1 0).toNat 31 16 ≠ 1 then 4
  else if len % 4 ≠ 0 ∨ len < 20 ∨ 65536 < len then 3
  else if crc32 (wordsBytes ((t.take (len / 4)).drop 4)) ≠ t.getD 3 0 then 2
  else match Masol.walk (len / 4) (len / 4 - 4) ((t.take (len / 4)).drop 4) with
    | none => 3
    | some rs => if Masol.recordsOk rs then 0 else 3

/-- Record 0x0002 (R28). -/
def Masol.hierarchy : List Word :=
  [4, 0x00A000C0, 0x01002020, 0x00280030, 0x02000404, 0x00080008, 0x03000506, 0x00020002, 0x04000404]

/-- Record 0x0003 (R29) for given dead and spare CUs. -/
def Masol.cuRecord (dead spare : List Nat) : List Word :=
  BitVec.ofNat 32 (dead.length * 65536 + spare.length) ::
  (List.range 1920).map fun w =>
    BitVec.ofNat 32 (((List.range 16).map fun m =>
      (if (16 * w + m) ∈ dead then 2 else if (16 * w + m) ∈ spare then 1 else 0) <<< (2 * m)).sum)

/-- Record 0x0004 (R30) from PHYS and STATE. -/
def Masol.engineRecord (phys state : List Nat) : List Word :=
  BitVec.ofNat 32 (272 * 65536 + 256) ::
  ((List.range 128).map fun w => BitVec.ofNat 32 (phys.getD (2 * w) 0 + 65536 * phys.getD (2 * w + 1) 0)) ++
  ((List.range 17).map fun w =>
    BitVec.ofNat 32 (((List.range 16).map fun m => state.getD (16 * w + m) 0 <<< (2 * m)).sum))

/-- The stroke-action record 0x000E (R32, R50): code, permitted levels, period permitted, argument used. -/
def Masol.actions : List (Nat × List Nat × Bool × Bool) :=
  [(0x01, [5, 6], false, true), (0x02, [3, 4, 5], true, true), (0x10, [3, 4, 5], true, true),
   (0x11, [3, 4, 5], false, true), (0x12, [3, 4, 5], false, true), (0x20, [5], true, true),
   (0x22, [1, 2, 4, 5], true, true), (0x28, [5], true, true), (0x29, [5], false, false), (0x30, [3, 4], true, true),
   (0x40, [5], false, true), (0x41, [5], false, true), (0x50, [5], true, true), (0x51, [5], true, true),
   (0x60, [5], true, true), (0x61, [5], true, true), (0x70, [5], false, true)]

/-- The power domains of R421: rail code and parent, domain by domain (255 for none). -/
def Masol.domainRail (d : Nat) : Nat :=
  if d < 6 then [0, 8, 11, 2, 2, 0].getD d 0
  else match (d - 6) % 6 with
    | 0 => 2 | 1 => 3 | 2 => 4 + (d - 6) / 6 | 3 => 8 | _ => 9
/-- The parent of a domain (R421). -/
def Masol.domainParent (d : Nat) : Nat :=
  if d < 6 then [255, 0, 1, 1, 1, 0].getD d 255
  else match (d - 6) % 6 with
    | 0 => 4 | 1 => d - 1 | 2 => d + 1 | 3 => 3 | 4 => d - 1 | _ => d - 2

/-- The lane records of R32: die, rates and reference pair of lane n. -/
def Masol.laneWord (n : Nat) : Word := BitVec.ofNat 32 (((n / 2) <<< 16) + ((n / 2) <<< 8) + (3 <<< 4) + n)

/-- The factory table of a part with no dead CU and no fenced engine (log entry 4): the default column of R27-R33. -/
def Masol.factory (isL4 : Bool) (trimCrc : Word) (hotSpots : List (Int × Int)) : List Word :=
  let lanes := if isL4 then 4 else 8
  let doms := (List.range 29).filter fun d => !isL4 || !((10 ≤ d && d ≤ 13) || (18 ≤ d && d ≤ 21))
  let freq (d : Nat) : Nat := if d = 0 then 200000000 else if d = 22 then 100000000 else if d = 23 then 80000000
    else if d = 24 then 6144000 else if d = 25 then 32768 else 0
  let xy (x y : Int) : Word := BitVec.ofNat 32 (65536 * wrapNat 16 y + wrapNat 16 x)
  let dieOf (i : Nat) : Nat := if i < 32 then i / 8 else if i < 36 then 4 else 5
  Masol.build
    (Masol.record 0x1 [0x14001800, 0x1F402020, 0x36B01F40, 0] ++
     Masol.record 0x2 Masol.hierarchy ++
     Masol.record 0x3 (Masol.cuRecord [] []) ++
     Masol.record 0x4 (Masol.engineRecord (List.range 256) []) ++
     Masol.record 0x5 (15 :: (List.range 15).map fun k => BitVec.ofNat 32 (((k + 1) * 4096 + 4095) * 65536 + (k + 1) * 4096)) ++
     Masol.record 0x6 (8 :: [0x00010300, 8192, 128, 0x00020300, 1024, 64, 0x00030300, 4096, 64, 0x00040400, 64, 272,
        0x00050400, 256, 272, 0x00060300, 16, 256, 0x00070400, 4, 1, 0x00080400, 262144, 1]) ++
     Masol.record 0x7 (BitVec.ofNat 32 lanes :: (List.range lanes).map Masol.laneWord) ++
     Masol.record 0x8 [2, 0x00040100, 0x0BB803E8, 0x7D000064, 0x01040100, 0x0BB803E8, 0x7D000064] ++
     Masol.record 0x9 (30 :: (List.range 30).map fun d => BitVec.ofNat 32 ((Masol.domainParent d <<< 16) +
        (Masol.domainRail d <<< 12) + (if d = 0 then 512 else 0) + (if 6 ≤ d ∧ (d - 6) % 6 = 3 then 256 else 0) + d)) ++
     Masol.record 0xA (1961 ::
        (((List.range 40).flatMap fun i => [BitVec.ofNat 32 ((dieOf i <<< 16) + i),
            xy (hotSpots.getD i (0, 0)).1 (hotSpots.getD i (0, 0)).2]) ++
         ((List.range 1920).flatMap fun c => [BitVec.ofNat 32 (0x01040000 + c),
            xy ((128 * (c % 48) + 64 : Nat) : Int) ((128 * (c / 48) + 64 : Nat) : Int)]) ++
         [0x0204FFFF, 0x00100010])) ++
     Masol.record 0xB (BitVec.ofNat 32 doms.length :: doms.flatMap fun d =>
        [BitVec.ofNat 32 ((d <<< 16) + (if d < 2 then 0 else 0x0203)), BitVec.ofNat 32 (freq d)]) ++
     Masol.record 0xC [1, 0, 0, 0x78000440, 8, trimCrc] ++
     Masol.record 0xD [5, 0x01140400, 0x02100001, 0x030A0000, 0x041E0000, 0x05080000] ++
     Masol.record 0xE (BitVec.ofNat 32 Masol.actions.length :: Masol.actions.map fun a =>
        BitVec.ofNat 32 ((a.1 <<< 16) + ((a.2.1.map fun l => 1 <<< (7 + l)).sum) +
          (if a.2.2.1 then 2 else 0) + (if a.2.2.2 then 1 else 0))) ++
     Masol.record 0xF [0x00010000, 0, 8192])

end Sys2Proof.Machine
end

