-- ==== Sys2Proof/Machine/State.lean ====
section
/-! DEFINITION. The state of the block as plain data. Dictionary objects live in ONE object store (`State.obj`), keyed by
index, subindex and byte offset, holding only what differs from the object's default (R335, R338); everything else the
spec gives the part has a named field. INVENTORY.md lists every piece with its rule. -/

namespace Sys2Proof.Machine

/-! ## Stores and memories -/

/-- A sparse store: keys strictly rising, no entry equal to what an unlisted key reads as. -/
abbrev Store := List (Nat × Int)

/-- A byte memory in canonical form: addresses strictly rising, no entry equal to what an unlisted address reads as. -/
abbrev Mem := List Host.Cell

/-- What a coefficient bank reads as where no cell is listed (R195, R426). -/
inductive Fill where
  | zero | neutral
deriving DecidableEq, Repr

/-- A coefficient bank of 8 MiB (R195): its fill and the bytes that differ from it. -/
structure Bank where
  fill  : Fill := .zero
  cells : Mem := []
deriving DecidableEq, Repr

/-- The type of a dictionary object (R336). -/
inductive ObjType where
  | u8 | u16 | u32 | u64 | i16 | i32 | i64 | bool | str | blob
deriving DecidableEq, Repr

/-- The access right of a dictionary object (R337). -/
inductive Access where
  | ro | rw | rws | rwc | rl
deriving DecidableEq, Repr

/-- One row of the object tables: the indexes `index … index + nIndex - 1`, the subindexes `sub … sub + nSub - 1`, type,
access, size in bytes, default, least and largest value, shadow group (4 for none) and whether it is a count of events. -/
structure ObjRow where
  index  : Nat
  nIndex : Nat
  sub    : Nat
  nSub   : Nat
  ty     : ObjType
  acc    : Access
  size   : Nat
  dflt   : Int
  lo     : Option Int
  hi     : Option Int
  group  : Nat
  count  : Bool
deriving DecidableEq, Repr

/-! ## Factory memory -/

/-- The one-time-programmable memory (R1, R227, R228, R338): particular to each part (log entry 4). -/
structure Otp where
  masol      : List Word
  serial48   : BitVec 48
  isL4       : Bool
  siliconRev : BitVec 16
  trimBlock  : List Byte          -- the newest programmed block
  trimCrc    : Word               -- CRC of Masol record 0x000C
  trimCount  : Nat
  trimTime   : BitVec 64
  regionTaps : List Byte
  seamTaps   : Word
  cuTrims    : List (Nat × Byte)  -- comparator trims that are not 0
  laneTrims  : List Byte
  deadCus    : List Nat
  physMap    : List Nat           -- PHYS of the factory engine map (R30)
  engState   : List Nat           -- STATE of the factory engine map
deriving DecidableEq, Repr

/-! ## Drumline -/

/-- A time source's qualification record (R57, R58). -/
structure Source where
  run       : Nat := 0            -- consecutive good events, saturating at 8
  missed    : Nat := 0            -- consecutive failed expected events since the last good one
  last      : Dlt := 0            -- time of the last good event
  first     : Dlt := 0            -- time of the event that opened the run
  qualified : Bool := false
  everQual  : Bool := false       -- has qualified since reset
  inLock    : Nat := 0            -- consecutive events within ±64 LSB
  outLock   : Nat := 0            -- consecutive events outside
  locked    : Bool := false
deriving DecidableEq, Repr

/-- The count, the beat and the servo (R38-R41, R57-R64, R455). -/
structure Clock where
  dlt        : Dlt := 0
  beats      : Nat := 0
  copies     : Vector Dlt 4 := Vector.replicate 4 0
  reloadDue  : Vector Bool 4 := Vector.replicate 4 false
  acc        : BitVec 32 := 0
  advance    : Nat := 320
  refLost    : Bool := false
  running    : Bool := false
  stepDue    : Option (Nat × Bool × Int) := none   -- beat from which a step is due, absolute, value
  stepUser   : Bool := false
  integ      : Rat := 0
  sources    : Vector Source 3 := Vector.replicate 3 {}   -- drum bus, lane, SYNC_IN
  syncOut    : Bool := false
  syncOutEnd : Nat := 0
deriving DecidableEq, Repr

/-- A scheduler entry (R44) with the part's own marks: the launch time of its next occurrence, the beat from which its
content applies (R47), whether that occurrence has been forwarded, and whether a late firing is still to come (R48). -/
structure Stroke where
  launch  : Dlt
  mask    : BitVec 16
  index   : BitVec 16
  action  : BitVec 16
  strict  : Bool
  level   : BitVec 4
  arg     : BitVec 32
  period  : BitVec 48
  repeatN : BitVec 16
  state   : Nat
  fires   : Nat
  next    : Dlt
  applies : Nat
  forwarded : Bool := false
  lateDue   : Bool := false
  passed    : Bool := false       -- passed over by a forward step (R63)
  dies      : BitVec 6 := 0       -- dies on which the occurrence has fired already, while their copies differ (R40)
deriving DecidableEq, Repr

/-- A stroke that has fired and whose landing is to come (R53). -/
structure Fired where
  action : BitVec 16
  l      : Landing
  beat   : Nat
  order  : Nat := 2 ^ 63    -- place in LAUNCH order among strokes of one beat, for those that a step has passed over (R63)
deriving DecidableEq, Repr

/-- The schedulers and the rimshot (R46, R52). -/
structure Strokes where
  entries  : List (Nat × Stroke) := []   -- keyed by scheduler and entry, rising; absent is empty
  rimshot  : Option Fired := none
  inflight : List Fired := []
  replaced : List (Nat × Stroke) := []   -- content at the start of the beat of entries written in it (R47, R49)
  landed   : List Fired := []            -- strokes that have landed in this beat (R51)
deriving DecidableEq, Repr

/-! ## Focal plane and monitor converter -/

/-- A conversion slot (R70, R75): a tile position or a J channel, and whether it is an injected one. -/
structure Slot where
  isJ : Bool
  n   : Nat
  inj : Bool := false
  target : Landing := {}          -- injected slots: the target of the request (R79)
deriving DecidableEq, Repr

/-- A quadrant's scan: the slot that is running (the head) and those to come (R71, R80), and when that slot started, in
tenths of a beat: the cycles of the 2,000 MHz oscillator, from which beat and modulator are divided (R39, R70). -/
structure Scan where
  todo  : List Slot := []
  start : Nat := 0
deriving DecidableEq, Repr

/-- A frame (R71, R74, R16): its scan parameters as in force at its start, and the marks gathered for its record. -/
structure Frame where
  num       : BitVec 32
  profile   : Nat
  landing   : Dlt
  beat      : Nat := 0            -- beat of that landing (R68)
  deadline  : Dlt
  entry     : Option Nat := none  -- the repeating package entry that launched it (R72)
  tFrame    : Nat                 -- t_frame in LSB (R72)
  n : Nat
  g : Nat
  k : Nat
  div : Nat
  rho       : Nat := 1            -- NBR_RADIUS in force
  jMask     : Nat
  mask      : List Byte           -- SCAN_MASK, 512 bytes
  lastPos   : Option Nat := none  -- SCAN_MODE 1: the position converted last (R82, R111)
  banks     : BitVec 64 := 0      -- active bank of each region at its start, 1 for B (R145)
  live      : List Nat := []      -- live engines of each region at its start (R145)
  slotsEnd  : Option Dlt := none  -- end of the last slot
  set2      : BitVec 4 := 0       -- rule 2 marking per quadrant
  set3      : Bool := false       -- rule 3 marking
  shutter   : Bool := false       -- CLAP_STATE was 1 so far (R397)
  throttled : Bool := false
  unsynced  : Bool := false
  mixedGen  : Bool := false
  filterChg : Bool := false
  timeStep  : Bool := false
  dissent   : Bool := false
  quality   : Bool := false
  truncated : Bool := false          -- a view has truncated it (R297, R358)
  genMap    : BitVec 64 := 0
  discards  : BitVec 64 := 0
  runSlots  : BitVec 64 := 0
  gateDone  : Bool := false        -- the thermometer conversion has ended
  gated     : BitVec 64 := 0        -- regions whose pages have been written and whose items are released (R194)
  reset     : BitVec 64 := 0        -- filter-reset causes known at the start (R206)
  calKind   : Nat := 0            -- kind of the calibration run that counts this frame, 6 only stage 7 off, 0 none (R234)
  calFirst  : Bool := false       -- it is the first frame that the run counts
  swapped   : BitVec 64 := 0      -- regions that swapped bank or program at its start (R206, R245)
deriving DecidableEq, Repr

/-- The last urgent request (R78): its beat, source, channels and target, the scans before it and what each quadrant did:
0 not concerned, 1 served, 2 dropped for the deadline, 3 dropped as busy. -/
structure InjReq where
  beat  : Nat
  trig  : Bool
  chans : Nat
  scans : Vector Scan 4
  outs  : List Nat
deriving DecidableEq, Repr

/-- The focal plane (03). -/
structure Focal where
  frames     : List Frame := []           -- newest first: the frame in progress and those still referred to
  scans      : Vector Scan 4 := Vector.replicate 4 {}
  started    : Bool := false              -- a frame has been launched since reset
  newFilter  : Bool := true               -- the next frame counts as a change of N (R88, R431)
  biasRange  : Vector Nat 4 := Vector.replicate 4 12   -- BIAS_SEL + 8·RANGE_SEL of the last frame, 4 + 8·1
  settle     : Vector Nat 4 := Vector.replicate 4 0    -- frames left under rule 2 of R87
  ovr        : Vector Nat 64 := Vector.replicate 64 0
  inj        : Option InjReq := none      -- the last urgent request (R78)
  refc       : Store := []                -- REFC per CU (R198)
  jSeen      : Store := []                -- 1 at 8·CU + channel once that J channel has been converted (R194)
  clt        : Store := []                -- cluster temperatures of the last conversion, mK above 173.15 K (R68)
deriving DecidableEq, Repr

/-- The MC's sequencer (R99-R105). -/
structure Mc where
  running  : Bool := false
  seqMode  : Bool := false
  stopping : Bool := false
  pos      : Nat := 0            -- channel of a native scan, or entry of the regular sequence
  outs     : Nat := 0            -- outputs since the last decimator reset
  inj      : Option Nat := none  -- entry of the injected sequence in progress
  deadline : Option Dlt := none
  entry    : Option Nat := none  -- the repeating package entry that started it (R101)
  since    : Nat := 0            -- when the integration in progress began, in 1/96 of a beat (R97, R99)
  calStep  : Nat := 0            -- calibration step running, 0 none
  calCh    : Nat := 0            -- its channel
  calSum   : Int := 0
  calCount : Nat := 0
  calOvr   : Bool := false
  calZero  : Option Nat := none  -- channel of the last successful step 1
deriving DecidableEq, Repr

/-! ## Engine fabric -/

/-- A work item (R109) or a region's END_ENTRY (R117). -/
structure Item where
  region : Nat
  row    : Nat
  frame  : BitVec 32
  endEntry : Bool := false
deriving DecidableEq, Repr

/-- The kinds of run (R142); a third run is made only to compare (R134). -/
inductive RunKind where
  | item | check | third | frameEntry | endEntry
deriving DecidableEq, Repr

/-- A line segment or record emitted and not yet committed (R115, R181, R182). -/
inductive Emit where
  | px (site col : Nat) (lane : Word) (tag : BitVec 4) (half : Bool)
  | record (view : Nat) (bytes : List Byte) (ty : BitVec 16)
  | remote (region off : Nat) (bytes : List Byte) (link : Nat)
deriving DecidableEq, Repr

/-- A WAITS in progress (R184): its event mask, its fields, the timeout in engine cycles, the beat at which it began, and the
landing timestamps of the first FRAME_START and the first roll boundary since. -/
structure Wait where
  mask  : Word
  clear : Bool
  fs    : Bool
  rb    : Bool
  limit : Nat
  sd    : Nat
  beat  : Nat
  fsLand : Option Dlt := none
  rbLand : Option Dlt := none
deriving DecidableEq, Repr

/-- A run in progress on an engine (R143, R145). -/
structure Run where
  kind    : RunKind
  item    : Item
  slot    : Nat                   -- program slot A 0 or B 1
  grant   : Nat                   -- ROLL_COUNT at the claim (R116)
  first   : Option Nat := none    -- the engine whose fault run this run repeats (R138)
  primary : Nat := 272            -- check and third runs: the primary engine (R133)
  other   : Nat := 272            -- third runs: the engine of the check run (R134)
  pfx? : Option (BitVec 26) := none
  writes  : Mem := []             -- bytes of the item write buffer, by frame-state offset
  blocks  : List Nat := []        -- 64-byte blocks the write buffer holds
  emits   : List Emit := []       -- newest first
  bells   : List Nat := []        -- codes, newest first
  sig     : List Byte := []       -- what the signature covers, newest first (R133)
  hists   : List Nat := []        -- histogram banks this run updated
  used    : List Nat := []        -- leased resources this run used
  waiting : Option Wait := none   -- WAITS in progress
  leasing : Option (Nat × Nat × Nat × Nat) := none                  -- LEASE: resource, expiry, WAIT, ROLL_COUNT at issue
  owed    : Option (Nat × Nat) := none                              -- ROM program: engine cycles and vector reads still to be charged (R224, R265)
  flash   : Option (Nat × Bool × Nat) := none                       -- LDL stalled on the flash window: address, V, destination
  ended   : Bool := false         -- SRET met an empty call stack
  fault   : Nat := 0
deriving DecidableEq, Repr

/-- A vector register or accumulator's lanes with its tag nibbles (R147, R148). -/
structure VReg where
  lanes : BitVec 512 := 0
  tags  : BitVec 128 := 0
deriving DecidableEq, Repr

/-- An accumulator: 32 lanes of 48 bits and 32 tag nibbles (R147). -/
structure AReg where
  lanes : BitVec 1536 := 0
  tags  : BitVec 128 := 0
deriving DecidableEq, Repr

/-- An active hardware loop (R163). -/
structure Loop where
  start : Nat
  endp  : Nat
  left  : Nat
  depth : Nat
deriving DecidableEq, Repr

/-- The moments of one target (R180). -/
structure Moment where
  n    : Nat := 0
  sw   : Nat := 0
  swx  : Nat := 0
  peak : BitVec 32 := 0
deriving DecidableEq, Repr

/-- The machine state of a physical engine (R147). -/
structure Engine where
  s     : Vector Word 16 := Vector.replicate 16 0
  v     : Vector VReg 32 := Vector.replicate 32 {}
  a     : Vector AReg 4 := Vector.replicate 4 {}
  m     : Vector Word 8 := Vector.replicate 8 0      -- entry 0 is never read: M0 reads all ones
  fl    : Word := 0
  pc    : Nat := 0
  calls : List Nat := []                             -- newest first
  loops : List Loop := []                            -- innermost first
  evp   : Word := 0
  evLand : List (Nat × Dlt) := []                    -- landing timestamps of the pending events
  icount : Word := 0
  land  : Dlt := 0
  wreason : Word := 0
  stSum : Int := 0
  stSq  : Nat := 0
  stMin : Int := 0
  stMax : Int := 0
  stCnt : Word := 0
  stNew : Bool := false           -- cleared at the start of the run, no signedness chosen yet (R143, R179)
  mom   : Vector Moment 32 := Vector.replicate 32 {}
  run   : Option Run := none
  entryDue : Option (BitVec 32) := none              -- frame whose FRAME_ENTRY this engine has still to run
  lastFault : Nat := 0
deriving DecidableEq, Repr

/-- A run that has ended and waits for its comparison (R133, R134, R138). -/
structure DoneRun where
  engine : Nat
  item   : Item
  kind   : RunKind
  sig    : Word
  run    : Run
deriving DecidableEq, Repr

/-- A row buffer in use (R120, R122). -/
structure RowBuf where
  buf   : Nat
  frame : BitVec 32
  row   : Int           -- region row; negative and above 639 for halo rows
deriving DecidableEq, Repr

/-- A frame in a region: the rows released and ended, the halo words arrived (row, column), END_ENTRY, the discard of R279. -/
structure RFrame where
  num       : BitVec 32
  released  : List Nat := []
  ended     : List Nat := []
  halos     : List (Int × Int) := []
  endDone   : Bool := false
  discarded : Bool := false
deriving DecidableEq, Repr

/-- A region (R1, R113, R122, R130, R195, R221). -/
structure Region where
  active    : Bool := false                 -- active coefficient bank: false A, true B
  slot      : Nat := 0                      -- program slot in force
  swapBank  : Option (BitVec 32) := none
  swapProg  : Option Nat := none
  serial    : BitVec 32 := 0
  queue     : List Item := []
  claimed   : List (Item × Nat) := []       -- items claimed and not ended, with the engine
  frames    : List RFrame := []             -- frames with work or rows here, oldest first
  lastItem  : Dlt := 0
  bufs      : List RowBuf := []
  histBad   : List (BitVec 32 × Nat) := []  -- histogram banks invalid for a frame
  histRead  : List (BitVec 32) := []        -- frames whose bank the collector has read
deriving DecidableEq, Repr

/-- A resource's lease (R274, R277). -/
structure Lease where
  holder  : Nat := 0xFFFF
  waiting : List (Nat × Nat) := []          -- engine, EXPIRY; first come first
  expiry  : Nat := 0                        -- ROLL_COUNT at which it ends
  grant   : Nat := 0
  revoked : Nat := 0
  rolling : Bool := false
  bad     : Bool := false                   -- an abandoned run, a fence or a revoked claim touched it (R275)
deriving DecidableEq, Repr

/-- The engine fabric (04). -/
structure Fabric where
  engines   : Vector Engine 272 := Vector.replicate 272 {}
  phys      : Vector Nat 256                -- PHYS of the live Masol
  state     : Vector Nat 272                -- STATE of the live Masol
  changeDlt : Dlt := 0
  changeBeat : Option Nat := none           -- beat of the last change, for one change per beat (R36)
  fences    : List (Nat × Nat) := []        -- logical number awaiting its PHYS rewrite, and the beat of the fence
  regions   : Vector Region 64 := Vector.replicate 64 {}
  checks    : List (Item × Nat) := []       -- items whose check run is still to be claimed, with the primary engine
  thirds    : List (Item × Nat × Nat) := [] -- items awaiting a third run, and the two engines that differ
  reruns    : List (Item × Nat × RunKind) := [] -- runs to repeat after a fault of the engine named (R138)
  done      : List DoneRun := []
  seamFails : Vector Nat 4 := Vector.replicate 4 0
  seamDown  : Vector Bool 4 := Vector.replicate 4 false
  pllIdle   : Vector Nat 4 := Vector.replicate 4 200
  pllReady  : Vector Bool 4 := Vector.replicate 4 false
  engSwitch : Vector (Option (Nat × Bool)) 4 := Vector.replicate 4 none -- committed F_ENG waiting, and whether 0x0415 has rung
  leases    : List (Nat × Lease) := []      -- resources that are not free and unused, by entry number
deriving DecidableEq, Repr

/-! ## Pipeline and calibration -/

/-- The scope over which a captured value comes into force (R219). -/
inductive Scope where
  | package
  | quad (q : Nat)
  | regions (mask : BitVec 64)
deriving DecidableEq, Repr

/-- A value captured by a COMMIT_SHADOW (R219). -/
structure Capture where
  key   : Nat
  val   : Int
  scope : Scope
deriving DecidableEq, Repr

/-- Shadow values and swaps of the package (R218-R222). -/
structure Shadow where
  staged   : List (Nat × Int) := []     -- staged values of RWS objects, by key
  ctx      : List (Nat × Int) := []     -- staged writes of contexts, by key
  captured : List Capture := []
  region   : Store := []                -- in-force values per region that differ from the default: region · 2^64 + key
  newestGen  : BitVec 32 := 0
  newestSlot : Nat := 0
  converterCommits : Nat := 0           -- converter-group commits in force so far (R238)
deriving DecidableEq, Repr

/-- The sums of one target for a frame (R211). -/
structure TrackSum where
  frame : BitVec 32 := 0
  n     : Nat := 0
  sw    : Nat := 0
  swx   : Nat := 0             -- of array columns
  swy   : Nat := 0             -- of array rows
  peak  : Nat := 0             -- largest weight
  fin   : Bool := false
deriving DecidableEq, Repr

/-- The sums of one focus window for a frame (R212). -/
structure FocusSum where
  frame : BitVec 32 := 0
  sum   : Nat := 0
  pairs : Nat := 0
  ovr   : Bool := false
  fin   : Bool := false
deriving DecidableEq, Repr

/-- A window in array coordinates (R211, R212). -/
structure Win where
  x : Nat
  y : Nat
  w : Nat
  h : Nat
deriving DecidableEq, Repr

/-- A target between frames (R211): its state, the results in a row with AREA 0, and the window of modes 2 and 3. -/
structure Target where
  state  : Nat := 0
  misses : Nat := 0
  win    : Option Win := none
deriving DecidableEq, Repr

/-- What the parameter pages of a frame hold (R194): the objects in force at its gate, for the package and per region, the
windows, the gimbal gate bit, the filter-reset bits and ACTIVE_SITES. -/
structure Page where
  frame   : BitVec 32
  obj     : Store := []
  region  : Store := []
  targets : List (Nat × Win) := []
  focus   : List (Nat × Win) := []
  gimbal  : BitVec 64 := 0
  reset   : BitVec 64 := 0
  sites   : BitVec 64 := 0
  clt     : Store := []               -- cluster temperatures of the frame's own conversion (R194)
  j4      : List (Nat × Int) := []    -- J4 results valid at the gate, by CU (R194)
  refc    : Store := []               -- REFC of every CU at the gate (R198)
  scene   : BitVec 64 := 0            -- regions in which scene refinement updates its estimates (R243, R245)
deriving DecidableEq, Repr

/-- The statistics of a region or of the package for a frame (R209, R210). -/
structure Stats where
  frame : BitVec 32 := 0
  count : Nat := 0
  sum   : Nat := 0
  max   : Nat := 0
  min   : Nat := 0xFFFF
  ovr   : Nat := 0
  valid : Bool := false        -- formed, with a valid histogram
deriving DecidableEq, Repr

/-- The collectors, tone curve, tracking and focus (06). -/
structure Pipe where
  pages    : List Page := []                   -- newest first
  sums     : Vector Stats 128 := Vector.replicate 128 {}    -- 2·region + frame mod 2
  hists    : Store := []                       -- (64·(frame mod 2) + region)·4096 + bin, as the collectors read them
  merged   : Option (BitVec 32) := none        -- frame of the last package merge
  track    : Vector TrackSum 64 := Vector.replicate 64 {}   -- 2·target + frame mod 2
  targets  : Vector Target 32 := Vector.replicate 32 {}
  trackDue : List (Nat × List Byte) := []      -- tracking entries to be broadcast, by target, in the order they became final
  focus    : Vector FocusSum 32 := Vector.replicate 32 {}   -- 2·window + frame mod 2
  focusDue : List (Nat × List Byte) := []      -- focus entries, by window
  acq      : List (BitVec 32 × Nat × Nat × Nat) := []       -- hottest pixels of rows: frame, C16, column, row
  romSlot  : Option Nat := none                -- slots that hold the ROM image: 0 A, 1 B, 2 both
  lensCrc  : Option (List Byte × Word) := none -- LENS_ID and GRID_CRC last identified
  gridWait : Option (List Byte) := none        -- a lens grid waiting for a free slot (R204)
deriving DecidableEq, Repr

/-- A calibration run (R231-R247). -/
structure CalRun where
  kind     : Nat                    -- 1 zero, 2 full scale, 3 clapper refresh, 4 drift point
  point    : Nat := 0
  begun    : Bool := false          -- its first step has been taken
  abort    : Bool := false          -- an abort has landed
  step     : Nat := 0               -- 2 waiting for SHUTTER, 3 skipping, 4 counting, 5 finishing
  closed   : Bool := false          -- this run has fired a closing stroke and no opening one yet
  t0       : Dlt := 0               -- when the closing stroke fired
  skip     : Nat := 0               -- SHUTTER frames still to skip
  need     : Nat := 0               -- frames to count
  started  : Nat := 0               -- counted frames started
  frames   : Nat := 0               -- counted frames whose slots have ended
  last     : BitVec 32 := 0         -- the last counted frame
  tSum     : Nat := 0               -- sum of all cluster temperatures over the counted frames, mK
  tFirst   : Option Nat := none     -- sum of the cluster temperatures of the first counted frame
  tLast    : Nat := 0
  boot     : Bool := false          -- launched under R259
deriving DecidableEq, Repr

/-- A commit check in progress (R258): region or 0xFF, GEN, the CRCs of the regions concerned, LOAD_UOF_MODE. -/
structure Partner where
  region : Nat
  gen    : BitVec 32
  crcs   : List (BitVec 32)
  mode   : Nat
deriving DecidableEq, Repr

/-- An image load in progress (R254, R256): slot, LOAD_UOF_MODE at its start, at boot, and whether the other slot has failed. -/
structure Load where
  slot  : Nat
  mode  : Nat
  boot  : Bool := false
  second : Bool := false
deriving DecidableEq, Repr

/-- Calibration (07). -/
structure Cal where
  run       : Option CalRun := none
  deferred  : Bool := false           -- a refresh waits under R255
  zeroDone  : Bool := false           -- the last run was a successful zero step
  zeroCommit : Nat := 0               -- converter commits at that time
  t0        : Rat := 0                -- T0 of the zero step, mK above 173.15 K
  ownBanks  : Bool := false           -- the inactive banks are owned by the calibration sequencer (R233)
  update    : Option (List Nat) := none   -- an offset update is ready: the regions still to be written (R235)
  applied   : Bool := false           -- the gate that the update applies from has passed
  uof       : Store := []             -- the words [95:64] of the update: region · 2^24 + pixel, plus 1 · 2^40
  sceneDue  : Option (BitVec 32) := none  -- the frame that completed SCENE_PERIOD
  sceneDirty : Bool := false          -- estimates are to be zeroed when the suspension ends (R245)
  save      : Option (Nat × Nat) := none  -- image save: 1 active or 2 inactive, slot
  saveT0    : Dlt := 0                -- DLT at the start of the save
  saveSwap  : Bool := false           -- a bank swapped during an active save (R253)
  load      : Option Load := none
  partner   : Option Partner := none
  uofWait   : List Nat := []          -- regions loaded with their UOF copied and not swapped since (R255)
  bootSwap  : Bool := false           -- the boot load is verified: all regions swap at the next frame start (R256)
deriving DecidableEq, Repr

/-! ## Budgets -/

/-- A remote write that waits at a link transmitter for sticks (R183, R270). -/
structure SeamBlock where
  slot   : Nat
  cls    : Nat
  region : Nat
  off    : Nat
  bytes  : List Byte
deriving DecidableEq, Repr

/-- The roll and its counters (08). -/
structure Rolls where
  running  : Bool := false            -- the first roll has started
  origin   : Nat := 0                 -- beat of the last boundary
  sticks   : Store := []              -- sticks left, by 16 · instance + class
  residue  : Store := []              -- units charged towards the next stick
  free     : Store := []              -- free pool of each instance
  cap      : Store := []              -- capacity of each instance in this roll
  stalled  : List Nat := []           -- 16 · instance + class with work waiting in this roll
  idle     : Bool := false            -- this roll is an idle roll (R273, R435)
  applyDue : Bool := false            -- an accepted allocation table waits for the boundary
  taken    : List Int := []           -- the bytes of that table (R269)
  owed     : Store := []              -- units that wait for sticks, by 16 · instance + class (R270)
  debtIn   : Nat × Nat := (0, 0)      -- ACT_DEBT of the two banks before this roll's deduction (R267)
  seam     : List SeamBlock := []     -- blocks that wait in the class queues of the link transmitters, oldest first (R270)
deriving DecidableEq, Repr

/-! ## Views and lanes -/

/-- A frame that a view has taken (R290, R294), or a closed page of a record view (R302), whose record is to come. -/
structure VFrame where
  num      : BitVec 32
  first    : Nat                      -- FIRST_PAGE
  pages    : Nat
  lines    : Nat                      -- H_v; the entry count of a record page
  stripe   : List Nat                 -- live lanes at its start
  drops    : Nat := 0                 -- frames dropped since the frame taken before it
  written  : List Nat := []           -- lines written
  unacked  : List Nat := []           -- lines written and not yet acknowledged
  waiting  : List Nat := []           -- complete lines that wait for credit or EGRESS sticks (R296)
  valid    : Option Nat := none       -- LINES after a truncation
  t0       : Dlt := 0                 -- first entry of a record page
  endDlt   : Dlt := 0                 -- last acknowledgement; last entry of a record page
deriving DecidableEq, Repr

/-- A view (09). -/
structure View where
  closing   : Bool := false
  openFrame : BitVec 32 := 0
  frames    : List VFrame := []       -- oldest first
  drops     : Nat := 0                -- frames dropped since the last frame taken
  stallFrom : Option Dlt := none      -- since when a line or record has been waiting (R296)
  recWaits  : Bool := false           -- the record of the oldest frame waits (R295, R296)
  page      : List Byte := []         -- bytes of the open page of a record view
  pageN     : Nat := 0                -- its entries
  pageT0    : Dlt := 0
  pageT1    : Dlt := 0
  buffered  : List (Dlt × List Byte) := []  -- entries waiting for a credited page
deriving DecidableEq, Repr

/-- A packet sent, or waiting for room in the replay buffer, and not yet acknowledged (R320): its SEQ, KIND, blocks, and
what it carries. -/
structure TxPacket where
  seq    : Nat
  kind   : Nat
  blocks : Nat
  view   : Option Nat := none         -- a WRITE of this view
  frame  : BitVec 32 := 0
  line   : Nat := 0
  addr   : Nat := 0
  header : List Byte := []            -- KIND 1 and 2: the transport header (R361)
  data   : List Byte := []
deriving DecidableEq, Repr

/-- A lane (10). -/
structure Lane where
  rate     : Nat := 0
  goodRun  : Nat := 0                 -- consecutive good codewords
  badRun   : Nat := 0                 -- consecutive uncorrectable codewords
  fill     : Nat := 8                 -- blocks in the elastic buffer
  coefs    : Word := 0xFC38FC00       -- own coefficients (P3)
  lastReq  : Option (Nat × Nat) := none       -- TAP_REQ number answered last and its status
  reqNum   : Nat := 0                 -- number of this end's own TAP_REQ
  reqOpen  : Bool := false
  sentDone : Bool := false
  rcvdDone : Bool := false
  attempts : Nat := 0                 -- failed attempts at this rate
  ratesFailed : Nat := 0
  seen     : Bool := false            -- a valid HELLO has been received
  txSeq    : Nat := 0
  unacked  : List TxPacket := []      -- oldest first
  sentN    : Nat := 0                 -- how many of them have been put on the line (R320)
  rxScr    : Nat := 0                 -- the descrambler: the last 58 scrambled payload bits (R306)
  sinceFiller : Nat := 0              -- blocks sent since the last FILLER (R309)
  rxSeq    : Nat := 0                 -- SEQ expected
  nakSent  : Bool := false
  replays  : Nat := 0
  since    : Nat := 0                 -- beat of entry into the present state
  auto     : Bool := true             -- LANE_RATE was 0 at the last LOCK entry (R315)
  held     : Bool := false            -- lock has been found at this rate since bring-up began (R315)
  search   : Nat := 0                 -- step of the search (R312): 0 to 7 the preset measured, 8 back to the best preset,
                                      -- 9 + 2j the trial of step j, 10 + 2j taking it back, 25 ended
  best     : Nat := 0                 -- best preset so far
  base     : Option Nat := none       -- corrected symbols of what the search stands on
  gained   : Bool := false            -- a step of this round has been kept
  meas     : Option (Nat × Nat) := none  -- measurement in progress: its first beat, symbols corrected so far
  berCw    : Nat := 0                 -- codewords since the search ended
  helloAt  : Nat := 0                 -- beat of the last HELLO sent
  doneAt   : Nat := 0                 -- beat of the last TRAIN_DONE sent
  reqBody  : Nat := 0                 -- byte 1 of the own TAP_REQ
  reqAt    : Nat := 0                 -- beat at which it was sent last
  ackAt    : Nat := 0                 -- beat of the last ACK advance, or at which the first packet became unacknowledged
  replayAt : Nat := 0                 -- beat of the last replay
  nakAt    : Nat := 0                 -- beat of the last NAK sent
  ttAt     : Option Nat := none       -- beat of the last TIME_SYNC sent
  roleAt   : Nat := 0                 -- beat at which ROLE_REQ was sent last
  roleReq  : Option (Nat × Nat × Nat) := none -- role asked, request number, tries
  lastRole : Option (Nat × Nat) := none       -- ROLE_REQ number answered last and its status
  roleNum  : Nat := 0
  ttT1     : Dlt := 0
  ttT2     : Dlt := 0
  ttT3     : Dlt := 0
  ttOpen   : Bool := false
  uncorr   : List Nat := []           -- beats of the uncorrectable codewords of the last second
deriving DecidableEq, Repr

/-- What the part puts on the accessory bus (R378, R379). -/
inductive AccSym where
  | start | stop | pulse
  | byte (b : Byte)
deriving DecidableEq, Repr

/-- What the part has sent or driven outside, newest last: a message on a lane, on CAN, on the drum bus, on ACC, on FSPI,
or a response to a dictionary request (model's own record; log entry 12). -/
inductive Sent where
  | lane (n : Nat) (ctrl : Bool) (bytes : List Byte)     -- a block of the lane: H and its payload (R306)
  | can (id : Nat) (brs : Bool) (bytes : List Byte)    -- bytes as padded; BRS as sent (R347)
  | drum (bytes : List Byte)
  | fspi (cmd addr : Nat) (bytes : List Byte)
  | acc (syms : List AccSym)
  | sspi (w : Word)                                     -- a word shifted out (R374)
  | reply (transport tag status : Nat) (data : List Byte)
deriving DecidableEq, Repr

/-! ## Dictionary, CAN, serial ports -/

/-- A bell record (R359). -/
structure Bell where
  seq  : BitVec 16
  code : BitVec 16
  arg  : BitVec 32
  dlt  : Dlt
  sent : Bool := false
deriving DecidableEq, Repr

/-- A node of the CAN bus (R352). -/
structure Node where
  id     : Nat
  serial : BitVec 48
  state  : Nat
  dlt    : Dlt
  beat   : Nat := 0                   -- beat of its last heartbeat
deriving DecidableEq, Repr

/-- A KTP transfer in progress (R356). -/
structure Xfer where
  cmd    : Nat
  index  : Nat
  sub    : Nat
  offset : Nat
  length : Nat
  moved  : Nat := 0
  applied : Nat := 0                  -- bytes of a write already applied: whole entries only (R47, R342)
  toggle : Bool := false
  block  : Nat := 32
  seqN   : Nat := 0                   -- last sequence received in order in this block
  data   : List Byte := []            -- bytes moved so far
  ended  : Bool := false              -- every byte has moved; BULK_END is to come
  beat   : Nat := 0                   -- beat at which the far side was heard last
deriving DecidableEq, Repr

/-- A KTP session (R354, R355). -/
structure Session where
  client  : Nat
  serial  : BitVec 48
  lastTag : Option (Nat × List Byte) := none   -- TAG of the last expedited request and its response
  xfer    : Option Xfer := none
deriving DecidableEq, Repr

/-- The dictionary server, the bells and the CAN FD port (11). -/
structure Dict where
  queues   : Vector (List DictReq) 10 := Vector.replicate 10 []   -- CAN FD, service chain, L0-L7
  nextQ    : Nat := 0
  bells    : List Bell := []                  -- oldest first, at most 64
  sent     : List Sent := []
  nodes    : List Node := []
  sessions : List Session := []
  claimTry : Nat := 0                         -- errors of the claim in progress
  claimId  : Nat := 0
  claimAt  : Nat := 0                         -- beat of the last CLAIM of step 2
  retryAt  : Option Nat := none               -- beat from which the CLAIM is sent again after an error
  listenAt : Nat := 0                         -- beat at which listening began
  hbAt     : Nat := 0                         -- beat of the last own heartbeat
  statusAt : Nat := 0                         -- beat of the last STATUS
  heard    : List Nat := []                   -- IDs heard while listening
  hbCount  : Nat := 0
  canNom   : Nat := 3                         -- timing in force: CAN_NOM_RATE and CAN_DATA_RATE (R347)
  canData  : Nat := 4
  lastFrame : Nat × Nat := (0, 0)             -- number and flags of the last ended frame, once its record is gone (R358)
  recErr   : Nat := 0                         -- receive error count
  traErr   : Nat := 0                         -- transmit error count
deriving DecidableEq, Repr

/-- A command of the flash queue (R368, R370, R371): a write, an erase, a dictionary read with its transport (10 once nobody
waits for it any more), or the read of an engine's LDL. -/
inductive FlashOp where
  | program (addr : Nat) (bytes : List Byte)
  | erase (addr size : Nat)
  | read (t : Nat) (r : DictReq)
  | engine (p : Nat)
deriving DecidableEq, Repr

/-- A controller transfer on ACC as it was requested (R379): ACC_XFER's, the header or the grid of the lens EEPROM at an
address, and how it goes once it runs. -/
structure AccReq where
  lens  : Bool                  -- a lens read of R382
  grid  : Bool := false         -- its grid; else its header
  addr  : Nat
  wr    : List Byte
  rdLen : Nat
  res   : XferResult
deriving DecidableEq, Repr

/-- FSPI, SSPI and ACC (12). -/
structure Ports where
  sfdp     : Option Sfdp := none
  flashQ   : List FlashOp := []               -- commands waiting, oldest first
  flashNow : Option FlashOp := none           -- the segment, erase or read in progress
  flashRest : List FlashOp := []              -- remaining segments of the write in progress
  flashAt  : Nat := 0                         -- beat at which the command in progress started
  pollAt   : Nat := 0                         -- beat of its last status poll
  ssOut    : Word := 0x5A000000               -- next output word
  ssIn     : List Word := []                  -- words of the request under assembly, oldest first
  ssNeed   : Nat := 0                         -- words still to come
  ssResp   : List Word := []                  -- words of the response still to send
  ssReady  : List (List Word) := []           -- responses waiting for their status word, oldest first
  ssStat   : Bool := true                     -- the next output word is a status word
  ssAt     : Nat := 0                         -- beat of the last frame of the request under assembly
  ssUndr   : Bool := false
  ssPrev   : Word := 0                        -- the word shifted out last (R375)
  accPtr   : Nat := 0
  accChecked : Bool := false                  -- the check of R378 has found the bus idle since reset
  accWait  : Bool := false                    -- that check waits for another controller's STOP
  accQ     : List AccReq := []                -- controller transfers in the order requested; the first runs (R379)
  accRetry : Nat := 0                         -- arbitration losses of the first
  accBusy  : Bool := false                    -- it lost arbitration and waits for STOP
  accAt    : Nat := 0                         -- beat at which the check or the last transfer on ACC began (R378)
  gridBusy : Bool := false                    -- it is the reading of a lens grid, which is in progress
  gridHdr  : List Byte := []
  lensAt   : Option Nat := none               -- beat of the last header read since the bus was enabled (R382)
deriving DecidableEq, Repr

/-! ## Actuators, ensemble, power -/

/-- A request for a Mallet profile (R385, R387). -/
structure ActReq where
  chan  : Nat
  entry : Nat
  close : Bool := false          -- a profile of KIND close
  sun   : Bool := false
deriving DecidableEq, Repr

/-- What a running profile waits for (R389, R391, R393). -/
inductive ActWait where
  | none
  | peak | floor | time | sticks
deriving DecidableEq, Repr

/-- A profile in progress (R385-R396). -/
structure Profile where
  req     : ActReq
  pc      : Nat
  wait    : ActWait := .none
  target  : Nat := 0             -- regulation target, mA; that at which a RAMP ends
  ramp    : Option (Nat × Nat × Nat) := none -- a RAMP: the target it starts from, the beat at which it began, its length in µs
  drive   : Bool := false        -- a drive phase is in progress
  decay   : Nat := 0             -- 0 none, 1 fast, 2 slow
  turned  : Option Nat := none   -- beat of the last change between drive and slow decay (R384)
  ending  : Bool := false        -- END has issued, and the current decays to zero (R389)
  floorMa : Nat := 0
  t0      : Nat := 0             -- beat at which the profile started (R390)
  waitT0  : Nat := 0             -- beat at which the present wait began
  waitUs  : Nat := 0             -- length of a timed wait, µs
  peakMa  : Nat := 0             -- target of the last TARGET, mA
  peakT0  : Nat := 0             -- beat at which the last TARGET issued
  peakUs  : Option Nat := none   -- time to the peak of the last TARGET, once it has been reached (R393)
  tShort  : Nat := 0             -- µs
  tMin    : Nat := 0
  tMax    : Nat := 0
  dipArm  : Option Nat := none   -- threshold, mA
  dips    : Nat := 0
  posArm  : Bool := false
  energy  : Rat := 0             -- energy of this profile, µJ
deriving DecidableEq, Repr

/-- A Mallet bank (13). -/
structure ActBank where
  run   : Option Profile := none
  queue : List ActReq := []
  fading : Option Nat := none                       -- channel whose current still decays after an abort (R385, R395)
  amps  : Vector Nat 4 := Vector.replicate 4 0      -- measured current per channel, mA
  theta : Vector Rat 4 := Vector.replicate 4 0      -- temperature rise, °C
  owed  : Rat := 0                                  -- ACT energy charged towards the next stick, µJ
deriving DecidableEq, Repr

/-- The actuator drive (13). -/
structure Act where
  banks   : Vector ActBank 2 := Vector.replicate 2 {}
  done    : Vector Bool 8 := Vector.replicate 8 false -- a profile has completed on the channel, 4·bank + channel (R399)
  closeEnded : Option Nat := none                   -- channel whose close profile ended last
deriving DecidableEq, Repr

/-- A drum-bus slot as a package knows it (R406-R408). -/
structure DrumSlot where
  uid    : BitVec 64 := 0
  silent : Nat := 8                    -- cycles since last heard, saturating at 8
  arrival : Word := 0                  -- arrival stamp of the previous cycle's transmission
  heard  : Bool := false               -- heard in the cycle in progress
deriving DecidableEq, Repr

/-- The ensemble (14). -/
structure Ens where
  slots     : Vector DrumSlot 16 := Vector.replicate 16 {}
  listened  : Nat := 0
  near      : Nat := 0                 -- consecutive beacons with |offset| within 1 µs
  claimSlot : Nat := 0
  attempt   : Nat := 0
  backoff   : Nat := 0
  claims    : Nat := 0                 -- consecutive master claims sent
  leaving   : Nat := 0                 -- leaves still to send
  noBeacon  : Nat := 0                 -- cycles without a valid master beacon
  beaconNow : Bool := false            -- a valid master beacon came in this cycle
  inTol     : Nat := 0
  in48      : Nat := 0
  synced    : Bool := false
  unsynced  : Bool := false
  muted     : Bool := false
  differ    : Nat := 0                 -- consecutive cycles with a difference
  agree     : Nat := 0
  claimSent : Bool := false            -- a slot claim has gone out and is not yet confirmed
  pair      : Bool := false            -- t1 and t2 of the last cycle wait for their t4 (R410)
  t1 : Dlt := 0
  t2 : Dlt := 0
  t3 : Option Dlt := none              -- own T_TX of that cycle
  config    : Word := 0                -- own digests at the last FRAME_START landing
  version   : Word := 0
  mirrorNext : Nat := 240
  mirrorNew : List Nat := []           -- entries written since last carried, oldest first
  mirrorIn  : Option (Nat × BitVec 16 × List Word) := none
  gongCause : Option (BitVec 16) := none
  cycleAt   : Option Nat := none       -- cycle whose start has been taken
  sentAt    : Option Nat := none       -- cycle in whose slot the package has sent
deriving DecidableEq, Repr

/-- The levels of the lands (R445, R446). -/
structure Lands where
  resetN   : Bool := true
  tripN    : Bool := true
  clapPos  : Bool := false
  gongOther : Bool := false            -- another package is pulling the shared line low
  gongOwn  : Bool := false             -- this part is pulling it
  gongEnd  : Nat := 0                  -- beat at which the pull ends
deriving DecidableEq, Repr

/-- Power modes (R429), with the stopped state of a thermal shutdown (R436). -/
inductive Mode where
  | run | retain | sleep | standby | shutdown
deriving DecidableEq, Repr

/-- Domains, rails, heat (15). -/
structure Power where
  rails     : Vector Bool 12 := Vector.replicate 12 false
  domains   : Vector Nat 30 := Vector.replicate 30 0     -- 0 off, 1 on, 2 retention, 3 waiting for rail
  mode      : Mode := .run
  entering  : Option Nat := none       -- POWER_MODE reads 4: the code of the mode that waits for the views (R430)
  sleepDlt  : Dlt := 0
  trims     : Bool := false            -- the trim-apply event has taken place
  settling  : Bool := false            -- REF is on and settling, stage 3
  landings  : Nat := 0                 -- FRAME_START landings that would launch a frame (R435)
  levelBeat : Option Nat := none       -- beat of the last change of L
  cool      : Bool := true             -- every 133 °C comparator below its threshold, as last seen
  vactMv    : Nat := 24000             -- VACT as last measured
  temps     : Vector Int 40 := Vector.replicate 40 0
  peak      : Option Int := none       -- highest TJMAX since the last clear
  vioSense  : Option Bool := none      -- 3.3 V (true) or 1.8 V, kept until VDD_AON is removed (R443)
deriving DecidableEq, Repr

/-! ## The whole -/

/-- THE STATE. `pending` is the queue of commands; everything else is the part. -/
structure State where
  pending : List Instr := []
  free    : Nat := 0                   -- places of the sequence of free values drawn so far (log entry 7)
  otp     : Otp
  obj     : Store := []
  mem     : Mem := []
  banks   : Vector Bank 128 := Vector.replicate 128 {}    -- 2·region + (0 A, 1 B)
  eccBad  : List Nat := []
  clk     : Clock := {}
  strokes : Strokes := {}
  focal   : Focal := {}
  mc      : Mc := {}
  fab     : Fabric
  pix     : Store := []                -- committed pixels by frame, site, row and column
  shadow  : Shadow := {}
  pipe    : Pipe := {}
  cal     : Cal := {}
  rolls   : Rolls := {}
  views   : Vector View 16 := Vector.replicate 16 {}
  lanes   : Vector Lane 8 := Vector.replicate 8 {}
  eye     : Option (Nat × Nat) := none -- the eye scan that runs: its lane and its eyes (R331, R332)
  dict    : Dict := {}
  ports   : Ports := {}
  act     : Act := {}
  ens     : Ens := {}
  lands   : Lands := {}
  power   : Power := {}
deriving DecidableEq, Repr

/-- Why a command stops with a fault. The part itself never stops: this reason is for a command that names something
outside the part, which no sender can send (safe: nothing is claimed after it). -/
inductive Fault where
  /-- Raised by nothing at present; kept so that a stop, if one is ever needed, has a name. Safe. -/
  | outsidePart
deriving DecidableEq, Repr

/-- Why a command is refused. -/
inductive Refusal where
  /-- The command has no meaning in this model yet. Safe: nothing is claimed after it. -/
  | notModelled (mnemonic : String)
deriving DecidableEq, Repr

/-- The outcome of a command. -/
abbrev Out := Host.Outcome State Fault Refusal

/-- The positions (x, y) of the 40 hot-spot sensors in the sensor record (R33). R433 fixes TS32 to TS35. The other 36 lie
where each die's design puts them, which the spec does not give: this part has them at (0, 0) (log entry 4, DESIGN CHOICE). -/
def Otp.hotSpots : List (Int × Int) :=
  List.replicate 32 (0, 0) ++ [(1536, 1280), (4608, 1280), (1536, 3840), (4608, 3840)] ++ List.replicate 4 (0, 0)

/-- The factory memory of this model's part (log entry 4, DESIGN CHOICE): an XK6151-L8 without dead CUs or fenced engines. -/
def Otp.part : Otp where
  masol := Masol.factory false (crc32 [0x01]) Otp.hotSpots
  serial48 := 1
  isL4 := false
  siliconRev := 0x0100
  trimBlock := [0x01]
  trimCrc := crc32 [0x01]
  trimCount := 1
  trimTime := 0
  regionTaps := List.replicate 64 0
  seamTaps := 0
  cuTrims := []
  laneTrims := List.replicate 8 0
  deadCus := []
  physMap := List.range 256
  engState := List.replicate 272 0

/-- The engine fabric at reset (R30, R37): the factory engine map, everything idle. -/
def Fabric.reset (o : Otp) : Fabric where
  phys := Vector.ofFn fun i => o.physMap.getD i.val 0x1FF
  state := Vector.ofFn fun i => o.engState.getD i.val 0

/-- THE MACHINE RIGHT AFTER RESET: every object at its default (R338), every memory without content, every domain off and
stage 0 not yet entered: AON_POWER_ON is the first thing that happens (R424). -/
def State.reset : State where
  otp := Otp.part
  fab := Fabric.reset Otp.part

end Sys2Proof.Machine
end

