-- ==== Sys2Proof/Machine/Objects.lean ====
section
/-! DEFINITION. The object dictionary (11_kazluisk_dictionary.md R335-R343): the key of every object in the object
store, and the table of types, access rights, sizes, defaults, ranges and shadow groups, row by row from the object
tables of the chapters. -/

namespace Sys2Proof.Machine

/-! ## Keys: `(index * 256 + subindex) * 2^32`, plus the byte offset in a BLOB. Index arguments are the
instance (profile, context, view, lane, bank, coil) and, last, the place in a range of subindexes. -/

abbrev Obj.PKG_STROKES : Nat := 0x22000000000000
abbrev Obj.DIE_STROKES (i : Nat) : Nat := ((0x2210 + i) * 256 + 0x00) * 4294967296
abbrev Obj.CLUSTER_STROKES : Nat := 0x22200000000000
abbrev Obj.MASOL_STATUS : Nat := 0x10010000000000
abbrev Obj.MASOL_LENGTH : Nat := 0x10020000000000
abbrev Obj.LIVE_GEN : Nat := 0x10030000000000
abbrev Obj.MASOL : Nat := 0x11000000000000
abbrev Obj.LIVE_MASOL : Nat := 0x12000000000000
abbrev Obj.STROKE_LATE : Nat := 0x23000100000000
abbrev Obj.STROKE_REFUSED : Nat := 0x23000200000000
abbrev Obj.TIME_MARK (j : Nat) : Nat := (0x2301 * 256 + 0x01 + j) * 4294967296
abbrev Obj.LANDING_DLT (j : Nat) : Nat := (0x2301 * 256 + 0x10 + j) * 4294967296
abbrev Obj.RS_TARGET : Nat := 0x21000100000000
abbrev Obj.RS_LEVEL : Nat := 0x21000200000000
abbrev Obj.RS_ACTION : Nat := 0x21000300000000
abbrev Obj.RS_ARG : Nat := 0x21000400000000
abbrev Obj.RS_GO : Nat := 0x21000500000000
abbrev Obj.RS_FIRED_DLT : Nat := 0x21000600000000
abbrev Obj.DLT_NOW : Nat := 0x20010000000000
abbrev Obj.REGION_TAPS : Nat := 0x20100000000000
abbrev Obj.SEAM_TAPS : Nat := 0x20110000000000
abbrev Obj.PRIORITY : Nat := 0x20300100000000
abbrev Obj.ACTIVE_SOURCE : Nat := 0x20300200000000
abbrev Obj.LOCK_STATE : Nat := 0x20300300000000
abbrev Obj.FREQ_ADJ : Nat := 0x20300400000000
abbrev Obj.PHASE_ERR : Nat := 0x20300500000000
abbrev Obj.SLEW_LIMIT : Nat := 0x20300600000000
abbrev Obj.LOOP_BW : Nat := 0x20300700000000
abbrev Obj.TIME_LANE : Nat := 0x20300800000000
abbrev Obj.SYNC_MODE : Nat := 0x20310100000000
abbrev Obj.SYNC_EDGE : Nat := 0x20310200000000
abbrev Obj.SYNC_PERIOD : Nat := 0x20310300000000
abbrev Obj.SYNC_PHASE : Nat := 0x20310400000000
abbrev Obj.LAST_EDGE_DLT : Nat := 0x20310500000000
abbrev Obj.MISS_COUNT : Nat := 0x20310600000000
abbrev Obj.STEP_VALUE : Nat := 0x20200100000000
abbrev Obj.STEP_MODE : Nat := 0x20200200000000
abbrev Obj.FORCE : Nat := 0x20200300000000
abbrev Obj.STEP_GO : Nat := 0x20200400000000
abbrev Obj.LAST_STEP_DLT : Nat := 0x20200500000000
abbrev Obj.STEP_COUNT : Nat := 0x20200600000000
abbrev Obj.BACK_STEP_COUNT : Nat := 0x20200700000000
abbrev Obj.BIAS_SEL (j : Nat) : Nat := (0x3020 * 256 + 0x01 + j) * 4294967296
abbrev Obj.RANGE_SEL (j : Nat) : Nat := (0x3020 * 256 + 0x05 + j) * 4294967296
abbrev Obj.P_N (i : Nat) : Nat := ((0x3010 + i) * 256 + 0x01) * 4294967296
abbrev Obj.P_SCAN_MASK (i : Nat) : Nat := ((0x3010 + i) * 256 + 0x02) * 4294967296
abbrev Obj.P_G (i : Nat) : Nat := ((0x3010 + i) * 256 + 0x03) * 4294967296
abbrev Obj.P_K (i : Nat) : Nat := ((0x3010 + i) * 256 + 0x04) * 4294967296
abbrev Obj.P_J_MASK (i : Nat) : Nat := ((0x3010 + i) * 256 + 0x05) * 4294967296
abbrev Obj.P_FMOD_DIV (i : Nat) : Nat := ((0x3010 + i) * 256 + 0x06) * 4294967296
abbrev Obj.P_FRAME_LIMIT (i : Nat) : Nat := ((0x3010 + i) * 256 + 0x07) * 4294967296
abbrev Obj.P_SCAN_MODE (i : Nat) : Nat := ((0x3010 + i) * 256 + 0x08) * 4294967296
abbrev Obj.ACTIVE_PROFILE : Nat := 0x30010000000000
abbrev Obj.FRAME_COUNT : Nat := 0x30020100000000
abbrev Obj.FRAME_REFUSED : Nat := 0x30020200000000
abbrev Obj.REFUSE_CAUSE : Nat := 0x30020300000000
abbrev Obj.LAST_START_DLT : Nat := 0x30020400000000
abbrev Obj.J_RESULTS : Nat := 0x30400000000000
abbrev Obj.INJ_TRIG_MASK : Nat := 0x30300100000000
abbrev Obj.INJ_SERVED (j : Nat) : Nat := (0x3030 * 256 + 0x10 + j) * 4294967296
abbrev Obj.INJ_DROP_DEADLINE (j : Nat) : Nat := (0x3030 * 256 + 0x14 + j) * 4294967296
abbrev Obj.INJ_DROP_BUSY (j : Nat) : Nat := (0x3030 * 256 + 0x18 + j) * 4294967296
abbrev Obj.SEQ_LEN : Nat := 0x30310100000000
abbrev Obj.SEQ_ENTRIES : Nat := 0x30310200000000
abbrev Obj.SEQ_PASSES : Nat := 0x30310300000000
abbrev Obj.SEQ_STEP : Nat := 0x30310400000000
abbrev Obj.INJ_LEN : Nat := 0x30310500000000
abbrev Obj.INJ_ENTRIES : Nat := 0x30310600000000
abbrev Obj.AUTO_CLAP : Nat := 0x30020500000000
abbrev Obj.SET_PENDING : Nat := 0x30020600000000
abbrev Obj.SET_FRAMES_LEFT : Nat := 0x30020700000000
abbrev Obj.SUN_ENABLE : Nat := 0x30500100000000
abbrev Obj.SUN_THRESH : Nat := 0x30500200000000
abbrev Obj.SUN_PROFILE : Nat := 0x30500300000000
abbrev Obj.SUN_TRIPPED : Nat := 0x30500400000000
abbrev Obj.SUN_COUNT : Nat := 0x30500500000000
abbrev Obj.SUN_REGION : Nat := 0x30500600000000
abbrev Obj.SUN_DLT : Nat := 0x30500700000000
abbrev Obj.OVR_COUNTS : Nat := 0x30500800000000
abbrev Obj.MC_SCAN_MASK : Nat := 0x32000100000000
abbrev Obj.MC_K : Nat := 0x32000200000000
abbrev Obj.MC_D : Nat := 0x32000300000000
abbrev Obj.MC_MODE : Nat := 0x32000400000000
abbrev Obj.MC_DWELL : Nat := 0x32000500000000
abbrev Obj.MC_STATE : Nat := 0x32000600000000
abbrev Obj.MC_INJ_SRC : Nat := 0x32000700000000
abbrev Obj.MC_INJ_GO : Nat := 0x32000800000000
abbrev Obj.MC_LOST : Nat := 0x32000900000000
abbrev Obj.MC_REFUSED : Nat := 0x32000A00000000
abbrev Obj.MC_GAIN_SEL (j : Nat) : Nat := (0x3201 * 256 + 0x01 + j) * 4294967296
abbrev Obj.MC_BUF : Nat := 0x32020100000000
abbrev Obj.MC_WR : Nat := 0x32020200000000
abbrev Obj.MC_RD : Nat := 0x32020300000000
abbrev Obj.MC_LAST (j : Nat) : Nat := (0x3203 * 256 + 0x01 + j) * 4294967296
abbrev Obj.MC_OFFSET (j : Nat) : Nat := (0x3204 * 256 + 0x01 + j) * 4294967296
abbrev Obj.MC_GAINCOEF (j : Nat) : Nat := (0x3205 * 256 + 0x01 + j) * 4294967296
abbrev Obj.MC_CAL_CH : Nat := 0x32060100000000
abbrev Obj.MC_CAL_STEP : Nat := 0x32060200000000
abbrev Obj.MC_FS_TARGET : Nat := 0x32060300000000
abbrev Obj.MC_CAL_AVG : Nat := 0x32060400000000
abbrev Obj.MC_SEQ_LEN : Nat := 0x32070100000000
abbrev Obj.MC_SEQ : Nat := 0x32070200000000
abbrev Obj.MC_INJ_LEN : Nat := 0x32070300000000
abbrev Obj.MC_INJ_SEQ : Nat := 0x32070400000000
abbrev Obj.MC_INJ_SERVED : Nat := 0x32070500000000
abbrev Obj.MC_INJ_DROP_DEADLINE : Nat := 0x32070600000000
abbrev Obj.MC_INJ_DROP_BUSY : Nat := 0x32070700000000
abbrev Obj.PROG_A : Nat := 0x40020100000000
abbrev Obj.PROG_B : Nat := 0x40020200000000
abbrev Obj.SLOT_VALID : Nat := 0x40020300000000
abbrev Obj.RUN_SLOTS : Nat := 0x40020400000000
abbrev Obj.PROG_SWAP_PENDING : Nat := 0x40020500000000
abbrev Obj.PROG_REFUSED : Nat := 0x40020600000000
abbrev Obj.TABLE_AREA : Nat := 0x40030000000000
abbrev Obj.NBR_RADIUS : Nat := 0x40010100000000
abbrev Obj.CLAIM_ROLLS : Nat := 0x40010200000000
abbrev Obj.SEAM_LIMIT : Nat := 0x40010300000000
abbrev Obj.CHECK_DIVISOR : Nat := 0x40010400000000
abbrev Obj.ENG_STATE : Nat := 0x40100000000000
abbrev Obj.QUEUE_STATE : Nat := 0x40110000000000
abbrev Obj.CHECK_RUNS : Nat := 0x40200100000000
abbrev Obj.CHECK_MISMATCH : Nat := 0x40200200000000
abbrev Obj.FENCE_COUNT : Nat := 0x40200300000000
abbrev Obj.ENG_FAULTS : Nat := 0x40200400000000
abbrev Obj.PROG_FAULTS : Nat := 0x40200500000000
abbrev Obj.CLAIM_TIMEOUTS : Nat := 0x40200600000000
abbrev Obj.ECC_CORR : Nat := 0x40200700000000
abbrev Obj.ECC_REPAIR : Nat := 0x40200800000000
abbrev Obj.ECC_UNCORR : Nat := 0x40200900000000
abbrev Obj.SEAM_LATE : Nat := 0x40200A00000000
abbrev Obj.F_ENG (j : Nat) : Nat := (0x4030 * 256 + 0x01 + j) * 4294967296
abbrev Obj.F_ENG_ACTIVE (j : Nat) : Nat := (0x4030 * 256 + 0x05 + j) * 4294967296
abbrev Obj.F_ENG_READY : Nat := 0x40300900000000
abbrev Obj.VDDE_MEAS (j : Nat) : Nat := (0x4030 * 256 + 0x0A + j) * 4294967296
abbrev Obj.SEAM_STATE (j : Nat) : Nat := (0x4040 * 256 + 0x01 + j) * 4294967296
abbrev Obj.SEAM_RETRIES (j : Nat) : Nat := (0x4040 * 256 + 0x05 + j) * 4294967296
abbrev Obj.ENG_DATA : Nat := 0x41000000000000
abbrev Obj.LEASES : Nat := 0x43000000000000
abbrev Obj.STD_DIGEST : Nat := 0x50000100000000
abbrev Obj.STD_VERSION : Nat := 0x50000200000000
abbrev Obj.STD_RELOAD : Nat := 0x50000300000000
abbrev Obj.STAGE_ENABLE : Nat := 0x50010100000000
abbrev Obj.DEF_MASK : Nat := 0x50010200000000
abbrev Obj.SUB_SIZE : Nat := 0x50010300000000
abbrev Obj.T_REF : Nat := 0x50010400000000
abbrev Obj.SHADE_SLOT : Nat := 0x50010500000000
abbrev Obj.TF_ALPHA : Nat := 0x50010600000000
abbrev Obj.TF_GATE_LO : Nat := 0x50010700000000
abbrev Obj.TF_GATE_SHIFT : Nat := 0x50010800000000
abbrev Obj.REF_MODE : Nat := 0x50010900000000
abbrev Obj.OMEGA_MAX : Nat := 0x50010A00000000
abbrev Obj.SHADE_GRID : Nat := 0x50010B00000000
abbrev Obj.SHADE_WRITE_SLOT : Nat := 0x50010C00000000
abbrev Obj.STAT_CTX : Nat := 0x50020100000000
abbrev Obj.HIST_BASE : Nat := 0x50020200000000
abbrev Obj.HIST_SHIFT : Nat := 0x50020300000000
abbrev Obj.TONE_MODE : Nat := 0x50020400000000
abbrev Obj.TONE_LO : Nat := 0x50020500000000
abbrev Obj.TONE_HI : Nat := 0x50020600000000
abbrev Obj.PLATEAU : Nat := 0x50020700000000
abbrev Obj.LIN_MIX : Nat := 0x50020800000000
abbrev Obj.GIMBAL_RATE (j : Nat) : Nat := (0x5003 * 256 + 0x01 + j) * 4294967296
abbrev Obj.GIMBAL_DLT : Nat := 0x50030400000000
abbrev Obj.GIMBAL_MAX_AGE : Nat := 0x50030500000000
abbrev Obj.PARAM_SERIAL : Nat := 0x50030600000000
abbrev Obj.REGION_SERIALS : Nat := 0x50030700000000
abbrev Obj.EMISSIVITY (i : Nat) : Nat := ((0x5100 + i) * 256 + 0x01) * 4294967296
abbrev Obj.TAU (i : Nat) : Nat := ((0x5100 + i) * 256 + 0x02) * 4294967296
abbrev Obj.T_REFL (i : Nat) : Nat := ((0x5100 + i) * 256 + 0x03) * 4294967296
abbrev Obj.T_ATM (i : Nat) : Nat := ((0x5100 + i) * 256 + 0x04) * 4294967296
abbrev Obj.PALETTE (i : Nat) : Nat := ((0x5100 + i) * 256 + 0x05) * 4294967296
abbrev Obj.PRIMARIES (i : Nat) : Nat := ((0x5100 + i) * 256 + 0x06) * 4294967296
abbrev Obj.MATRIX (i : Nat) : Nat := ((0x5100 + i) * 256 + 0x07) * 4294967296
abbrev Obj.OFFSETS (i : Nat) : Nat := ((0x5100 + i) * 256 + 0x08) * 4294967296
abbrev Obj.BALANCE (i : Nat) : Nat := ((0x5100 + i) * 256 + 0x09) * 4294967296
abbrev Obj.RAD_A (i : Nat) : Nat := ((0x5100 + i) * 256 + 0x0A) * 4294967296
abbrev Obj.RAD_B (i : Nat) : Nat := ((0x5100 + i) * 256 + 0x0B) * 4294967296
abbrev Obj.HOLD (i : Nat) : Nat := ((0x5100 + i) * 256 + 0x0F) * 4294967296
abbrev Obj.REGION_STATS : Nat := 0x53000100000000
abbrev Obj.PKG_STATS : Nat := 0x53000200000000
abbrev Obj.PKG_HIST : Nat := 0x53000300000000
abbrev Obj.TONE_STALE : Nat := 0x53000400000000
abbrev Obj.HIST_INVALID : Nat := 0x53000500000000
abbrev Obj.TRK_MODE (i : Nat) : Nat := ((0x5400 + i) * 256 + 0x01) * 4294967296
abbrev Obj.TRK_WIN (i j : Nat) : Nat := ((0x5400 + i) * 256 + 0x02 + j) * 4294967296
abbrev Obj.TRK_THRESH (i : Nat) : Nat := ((0x5400 + i) * 256 + 0x06) * 4294967296
abbrev Obj.LOST_FRAMES (i : Nat) : Nat := ((0x5400 + i) * 256 + 0x07) * 4294967296
abbrev Obj.ACQ_THRESH : Nat := 0x54400100000000
abbrev Obj.TRK_RESULT (i : Nat) : Nat := ((0x5480 + i) * 256 + 0x01) * 4294967296
abbrev Obj.FOCUS_WIN (i j : Nat) : Nat := ((0x5500 + i) * 256 + 0x01 + j) * 4294967296
abbrev Obj.FOCUS_WIN_EN (i : Nat) : Nat := ((0x5500 + i) * 256 + 0x05) * 4294967296
abbrev Obj.FOCUS_RESULT (i : Nat) : Nat := ((0x5580 + i) * 256 + 0x01) * 4294967296
abbrev Obj.ACTIVE_GEN : Nat := 0x56000100000000
abbrev Obj.INACTIVE_GEN : Nat := 0x56000200000000
abbrev Obj.BANK_READY : Nat := 0x56000300000000
abbrev Obj.BANK_SWAP_PENDING : Nat := 0x56000400000000
abbrev Obj.EXPECT_GEN : Nat := 0x56000500000000
abbrev Obj.SWAP_COUNT : Nat := 0x56000600000000
abbrev Obj.LAST_GEN_MAP : Nat := 0x56000700000000
abbrev Obj.TRIM_STATE : Nat := 0x60010100000000
abbrev Obj.TRIM_COUNT : Nat := 0x60010200000000
abbrev Obj.TRIM_TIME : Nat := 0x60010300000000
abbrev Obj.TRIM_CRC : Nat := 0x60010400000000
abbrev Obj.TRIM_APPLY_DLT : Nat := 0x60010500000000
abbrev Obj.CU_TRIMS : Nat := 0x60020000000000
abbrev Obj.LANE_TRIMS : Nat := 0x60030000000000
abbrev Obj.CAL_STATE : Nat := 0x60100100000000
abbrev Obj.CAL_RESULT : Nat := 0x60100200000000
abbrev Obj.CAL_GEN : Nat := 0x60100300000000
abbrev Obj.CAL_NAVG : Nat := 0x60100400000000
abbrev Obj.CAL_DT_MAX : Nat := 0x60100500000000
abbrev Obj.CAL_REJECT : Nat := 0x60100600000000
abbrev Obj.CAL_DELTA : Nat := 0x60100700000000
abbrev Obj.CAL_TPLANE : Nat := 0x60100800000000
abbrev Obj.CAL_FRAMES : Nat := 0x60100900000000
abbrev Obj.CAL_REFUSED : Nat := 0x60100A00000000
abbrev Obj.CLAP_CLOSE_PROFILE : Nat := 0x60200100000000
abbrev Obj.CLAP_OPEN_PROFILE : Nat := 0x60200200000000
abbrev Obj.CLAP_SKIP : Nat := 0x60200300000000
abbrev Obj.CLAP_AVG : Nat := 0x60200400000000
abbrev Obj.CLAP_TIMEOUT : Nat := 0x60200500000000
abbrev Obj.UOF_SAT : Nat := 0x60200600000000
abbrev Obj.BOOT_CLAP : Nat := 0x60200700000000
abbrev Obj.SCENE_ENABLE : Nat := 0x60300100000000
abbrev Obj.SCENE_SHIFT : Nat := 0x60300200000000
abbrev Obj.SCENE_PERIOD : Nat := 0x60300300000000
abbrev Obj.SCENE_STEP_MAX : Nat := 0x60300400000000
abbrev Obj.SCENE_MOVING : Nat := 0x60300500000000
abbrev Obj.SCENE_UOF_LIMIT : Nat := 0x60300600000000
abbrev Obj.SCENE_FRAMES : Nat := 0x60300700000000
abbrev Obj.SCENE_STATE : Nat := 0x60300800000000
abbrev Obj.SCENE_FLAGGED : Nat := 0x60300900000000
abbrev Obj.DRIFT_SRC : Nat := 0x60400100000000
abbrev Obj.DRIFT_POINTS : Nat := 0x60400200000000
abbrev Obj.DRIFT_MIN_SEP : Nat := 0x60400300000000
abbrev Obj.DRIFT_POINT_T : Nat := 0x60400400000000
abbrev Obj.DRIFT_DONE : Nat := 0x60400500000000
abbrev Obj.DRIFT_OUTLIERS : Nat := 0x60400600000000
abbrev Obj.IMG_BASE0 : Nat := 0x62000100000000
abbrev Obj.IMG_BASE1 : Nat := 0x62000200000000
abbrev Obj.IMG_SIZE : Nat := 0x62000300000000
abbrev Obj.IMG_SAVE : Nat := 0x62000400000000
abbrev Obj.IMG_LOAD : Nat := 0x62000500000000
abbrev Obj.IMG_SERIALS : Nat := 0x62000600000000
abbrev Obj.IMG_PROGRESS : Nat := 0x62000700000000
abbrev Obj.BOOT_LOAD : Nat := 0x62000800000000
abbrev Obj.LOAD_UOF_MODE : Nat := 0x62000900000000
abbrev Obj.IMG_LAST_SLOT : Nat := 0x62000A00000000
abbrev Obj.INACTIVE_BANKS : Nat := 0x62100000000000
abbrev Obj.COMMIT_REGION : Nat := 0x62110100000000
abbrev Obj.COMMIT_GEN : Nat := 0x62110200000000
abbrev Obj.COMMIT_CRC : Nat := 0x62110300000000
abbrev Obj.COMMIT_GO : Nat := 0x62110400000000
abbrev Obj.COMMIT_CRCS : Nat := 0x62110500000000
abbrev Obj.ROLL_US : Nat := 0x90010100000000
abbrev Obj.ROLL_ACTIVE_US : Nat := 0x90010200000000
abbrev Obj.ROLL_COUNT : Nat := 0x90010300000000
abbrev Obj.LAST_ROLL_DLT : Nat := 0x90010400000000
abbrev Obj.ALLOC_STAGED : Nat := 0x90020000000000
abbrev Obj.ALLOC_ACTIVE : Nat := 0x90030000000000
abbrev Obj.ALLOC_APPLY : Nat := 0x90040100000000
abbrev Obj.ALLOC_BAD : Nat := 0x90040200000000
abbrev Obj.STICKS : Nat := 0x90050000000000
abbrev Obj.CAPACITY : Nat := 0x90060000000000
abbrev Obj.STALL_ROLLS : Nat := 0x90070000000000
abbrev Obj.ENG_CEIL : Nat := 0x90080000000000
abbrev Obj.ACT_PMAX : Nat := 0x90090100000000
abbrev Obj.ACT_DEBT : Nat := 0x90090200000000
abbrev Obj.LS_DISCARD : Nat := 0x90100100000000
abbrev Obj.LS_DISCARD_FRAME : Nat := 0x90100200000000
abbrev Obj.LEASE_REVOKED : Nat := 0x90110100000000
abbrev Obj.LEASE_EXPIRED : Nat := 0x90110200000000
abbrev Obj.ACTIVE_SITES : Nat := 0x70010100000000
abbrev Obj.CREDIT_VIEW : Nat := 0x70020100000000
abbrev Obj.CREDIT_RING : Nat := 0x70020200000000
abbrev Obj.CREDIT_COUNT : Nat := 0x70020300000000
abbrev Obj.CREDIT_GO : Nat := 0x70020400000000
abbrev Obj.VW_SOURCE (i : Nat) : Nat := ((0x7100 + i) * 256 + 0x01) * 4294967296
abbrev Obj.VW_SITE (i : Nat) : Nat := ((0x7100 + i) * 256 + 0x02) * 4294967296
abbrev Obj.VW_FORMAT (i : Nat) : Nat := ((0x7100 + i) * 256 + 0x03) * 4294967296
abbrev Obj.VW_TAGPLANE (i : Nat) : Nat := ((0x7100 + i) * 256 + 0x04) * 4294967296
abbrev Obj.VW_X0 (i : Nat) : Nat := ((0x7100 + i) * 256 + 0x05) * 4294967296
abbrev Obj.VW_Y0 (i : Nat) : Nat := ((0x7100 + i) * 256 + 0x06) * 4294967296
abbrev Obj.VW_W (i : Nat) : Nat := ((0x7100 + i) * 256 + 0x07) * 4294967296
abbrev Obj.VW_H (i : Nat) : Nat := ((0x7100 + i) * 256 + 0x08) * 4294967296
abbrev Obj.VW_COMPACT (i : Nat) : Nat := ((0x7100 + i) * 256 + 0x09) * 4294967296
abbrev Obj.VW_DIV (i : Nat) : Nat := ((0x7100 + i) * 256 + 0x0A) * 4294967296
abbrev Obj.VW_CONTEXT (i : Nat) : Nat := ((0x7100 + i) * 256 + 0x0B) * 4294967296
abbrev Obj.VW_LANES (i : Nat) : Nat := ((0x7100 + i) * 256 + 0x0C) * 4294967296
abbrev Obj.VW_CLASS (i : Nat) : Nat := ((0x7100 + i) * 256 + 0x0D) * 4294967296
abbrev Obj.VW_STALL_LIMIT (i : Nat) : Nat := ((0x7100 + i) * 256 + 0x0E) * 4294967296
abbrev Obj.VW_DATA_BASE (i : Nat) : Nat := ((0x7100 + i) * 256 + 0x0F) * 4294967296
abbrev Obj.VW_DATA_SIZE (i : Nat) : Nat := ((0x7100 + i) * 256 + 0x10) * 4294967296
abbrev Obj.VW_PAGE (i : Nat) : Nat := ((0x7100 + i) * 256 + 0x11) * 4294967296
abbrev Obj.VW_REC_BASE (i : Nat) : Nat := ((0x7100 + i) * 256 + 0x12) * 4294967296
abbrev Obj.VW_REC_SIZE (i : Nat) : Nat := ((0x7100 + i) * 256 + 0x13) * 4294967296
abbrev Obj.VW_FLUSH_US (i : Nat) : Nat := ((0x7100 + i) * 256 + 0x14) * 4294967296
abbrev Obj.VW_STATE (i : Nat) : Nat := ((0x7200 + i) * 256 + 0x01) * 4294967296
abbrev Obj.VW_ERROR (i : Nat) : Nat := ((0x7200 + i) * 256 + 0x02) * 4294967296
abbrev Obj.NEXT_PAGE (i : Nat) : Nat := ((0x7200 + i) * 256 + 0x03) * 4294967296
abbrev Obj.CREDIT_LIMIT (i : Nat) : Nat := ((0x7200 + i) * 256 + 0x04) * 4294967296
abbrev Obj.REC_INDEX (i : Nat) : Nat := ((0x7200 + i) * 256 + 0x05) * 4294967296
abbrev Obj.REC_CREDIT (i : Nat) : Nat := ((0x7200 + i) * 256 + 0x06) * 4294967296
abbrev Obj.VW_FRAMES (i : Nat) : Nat := ((0x7200 + i) * 256 + 0x07) * 4294967296
abbrev Obj.VW_TRUNC (i : Nat) : Nat := ((0x7200 + i) * 256 + 0x08) * 4294967296
abbrev Obj.VW_DROPPED (i : Nat) : Nat := ((0x7200 + i) * 256 + 0x09) * 4294967296
abbrev Obj.MASK_DROPS (i : Nat) : Nat := ((0x7200 + i) * 256 + 0x0A) * 4294967296
abbrev Obj.VW_ABANDONED (i : Nat) : Nat := ((0x7200 + i) * 256 + 0x0B) * 4294967296
abbrev Obj.REC_LOST (i : Nat) : Nat := ((0x7200 + i) * 256 + 0x0C) * 4294967296
abbrev Obj.CREDIT_OVER (i : Nat) : Nat := ((0x7200 + i) * 256 + 0x0D) * 4294967296
abbrev Obj.LANES_LIVE (i : Nat) : Nat := ((0x7200 + i) * 256 + 0x0E) * 4294967296
abbrev Obj.VW_PARTNER_UID (i : Nat) : Nat := ((0x7200 + i) * 256 + 0x0F) * 4294967296
abbrev Obj.STALL_TIMER (i : Nat) : Nat := ((0x7200 + i) * 256 + 0x10) * 4294967296
abbrev Obj.OWN_UID64 : Nat := 0x80010100000000
abbrev Obj.LINK_STALL_US : Nat := 0x80010200000000
abbrev Obj.REPLAY_TIMEOUT : Nat := 0x80010300000000
abbrev Obj.TT_PERIOD_US : Nat := 0x80010400000000
abbrev Obj.LANE_ENABLE (i : Nat) : Nat := ((0x8010 + i) * 256 + 0x01) * 4294967296
abbrev Obj.LANE_RATE (i : Nat) : Nat := ((0x8010 + i) * 256 + 0x02) * 4294967296
abbrev Obj.LANE_REACH (i : Nat) : Nat := ((0x8010 + i) * 256 + 0x03) * 4294967296
abbrev Obj.TX_INIT_PRESET (i : Nat) : Nat := ((0x8010 + i) * 256 + 0x04) * 4294967296
abbrev Obj.TX_FIXED (i : Nat) : Nat := ((0x8010 + i) * 256 + 0x05) * 4294967296
abbrev Obj.TRAIN_LIMIT (i : Nat) : Nat := ((0x8010 + i) * 256 + 0x06) * 4294967296
abbrev Obj.TT_ROLE_REQ (i : Nat) : Nat := ((0x8010 + i) * 256 + 0x07) * 4294967296
abbrev Obj.TT_ROLE_ALLOW (i : Nat) : Nat := ((0x8010 + i) * 256 + 0x08) * 4294967296
abbrev Obj.LANE_ASYM (i : Nat) : Nat := ((0x8010 + i) * 256 + 0x09) * 4294967296
abbrev Obj.LANE_RESTART (i : Nat) : Nat := ((0x8010 + i) * 256 + 0x0A) * 4294967296
abbrev Obj.LANE_STATE (i : Nat) : Nat := ((0x8100 + i) * 256 + 0x01) * 4294967296
abbrev Obj.RATE_ACTIVE (i : Nat) : Nat := ((0x8100 + i) * 256 + 0x02) * 4294967296
abbrev Obj.PARTNER_UID (i : Nat) : Nat := ((0x8100 + i) * 256 + 0x03) * 4294967296
abbrev Obj.TX_COEFS (i : Nat) : Nat := ((0x8100 + i) * 256 + 0x04) * 4294967296
abbrev Obj.FAR_TX_COEFS (i : Nat) : Nat := ((0x8100 + i) * 256 + 0x05) * 4294967296
abbrev Obj.DOWN_CAUSE (i : Nat) : Nat := ((0x8100 + i) * 256 + 0x06) * 4294967296
abbrev Obj.LAST_UP_DLT (i : Nat) : Nat := ((0x8100 + i) * 256 + 0x07) * 4294967296
abbrev Obj.TT_ROLE (i : Nat) : Nat := ((0x8100 + i) * 256 + 0x08) * 4294967296
abbrev Obj.TT_DELAY (i : Nat) : Nat := ((0x8100 + i) * 256 + 0x09) * 4294967296
abbrev Obj.LANE_COUNTERS (i : Nat) : Nat := ((0x8100 + i) * 256 + 0x0A) * 4294967296
abbrev Obj.EYE_LANE : Nat := 0x82000100000000
abbrev Obj.EYE_MASK : Nat := 0x82000200000000
abbrev Obj.EYE_DWELL : Nat := 0x82000300000000
abbrev Obj.EYE_GO : Nat := 0x82000400000000
abbrev Obj.EYE_STATE : Nat := 0x82000500000000
abbrev Obj.EYE_POINT : Nat := 0x82000600000000
abbrev Obj.EYE_RESULT : Nat := 0x82000700000000
abbrev Obj.PRODUCT : Nat := 0x10000100000000
abbrev Obj.SILICON_REV : Nat := 0x10000200000000
abbrev Obj.SERIAL48 : Nat := 0x10000300000000
abbrev Obj.OBJ_DIR : Nat := 0x13000100000000
abbrev Obj.OBJ_COUNT : Nat := 0x13000200000000
abbrev Obj.BELL_QUEUE : Nat := 0x14000100000000
abbrev Obj.BELL_COUNT : Nat := 0x14000200000000
abbrev Obj.BELL_ACK : Nat := 0x14000300000000
abbrev Obj.BELL_MASK : Nat := 0x14000400000000
abbrev Obj.BELL_LOST : Nat := 0x14000500000000
abbrev Obj.BELL_NEXT_SEQ : Nat := 0x14000600000000
abbrev Obj.BELL_CAN : Nat := 0x14000700000000
abbrev Obj.CAN_ENABLE : Nat := 0xB8000100000000
abbrev Obj.CAN_NOM_RATE : Nat := 0xB8000200000000
abbrev Obj.CAN_DATA_RATE : Nat := 0xB8000300000000
abbrev Obj.CAN_NOM_SP : Nat := 0xB8000400000000
abbrev Obj.CAN_DATA_SP : Nat := 0xB8000500000000
abbrev Obj.CAN_APPLY : Nat := 0xB8000600000000
abbrev Obj.CAN_STATE : Nat := 0xB8000700000000
abbrev Obj.CAN_AUTO_RECOVER : Nat := 0xB8000800000000
abbrev Obj.CAN_TDC_MEAS : Nat := 0xB8000900000000
abbrev Obj.NODE_ID_PREF : Nat := 0xB8010100000000
abbrev Obj.NODE_ID : Nat := 0xB8010200000000
abbrev Obj.CLAIM_STATE : Nat := 0xB8010300000000
abbrev Obj.HB_PERIOD : Nat := 0xB8010400000000
abbrev Obj.HB_EXPIRE : Nat := 0xB8010500000000
abbrev Obj.CLAIM_COUNT : Nat := 0xB8010600000000
abbrev Obj.KTP_TIMEOUT : Nat := 0xB8010700000000
abbrev Obj.BULK_BLOCK : Nat := 0xB8010800000000
abbrev Obj.TRACK_EN : Nat := 0xB8020100000000
abbrev Obj.FOCUS_EN : Nat := 0xB8020200000000
abbrev Obj.STATUS_PERIOD : Nat := 0xB8020300000000
abbrev Obj.CAN_CLASSIC : Nat := 0xB8030100000000
abbrev Obj.KTP_ABORTS : Nat := 0xB8030200000000
abbrev Obj.NODES_REFUSED : Nat := 0xB8030300000000
abbrev Obj.BUS_OFF_COUNT : Nat := 0xB8030400000000
abbrev Obj.QUEUES : Nat := 0xE0010000000000
abbrev Obj.CAN_ERR : Nat := 0xE0020000000000
abbrev Obj.SESSIONS : Nat := 0xE0030000000000
abbrev Obj.NODE_TABLE : Nat := 0xE0040000000000
abbrev Obj.FSPI_MODE : Nat := 0xB0000100000000
abbrev Obj.FSPI_SDR_MHZ : Nat := 0xB0000200000000
abbrev Obj.FSPI_DTR_MHZ : Nat := 0xB0000300000000
abbrev Obj.FSPI_STATE : Nat := 0xB0000400000000
abbrev Obj.FLASH_DENSITY : Nat := 0xB0000500000000
abbrev Obj.FSPI_RX_DLY : Nat := 0xB0000600000000
abbrev Obj.FSPI_POLL_US : Nat := 0xB0000700000000
abbrev Obj.FLASH_WR_STATE : Nat := 0xB0000800000000
abbrev Obj.FLASH_WR_FAIL_ADDR : Nat := 0xB0000900000000
abbrev Obj.FLASH_VERIFY : Nat := 0xB0000A00000000
abbrev Obj.FLASH_QUEUE : Nat := 0xB0000B00000000
abbrev Obj.FLASH_PAGES : Nat := 0xB0000C00000000
abbrev Obj.FLASH_TIMEOUTS : Nat := 0xB0000D00000000
abbrev Obj.FLASH_WINDOW : Nat := 0xB0010000000000
abbrev Obj.ERASE_ADDR : Nat := 0xB0020100000000
abbrev Obj.ERASE_SIZE : Nat := 0xB0020200000000
abbrev Obj.ERASE_GO : Nat := 0xB0020300000000
abbrev Obj.SFDP_COPY : Nat := 0xB0030000000000
abbrev Obj.SSPI_ENABLE : Nat := 0xB1000100000000
abbrev Obj.SSPI_UNDR_COUNT : Nat := 0xB1000200000000
abbrev Obj.SSPI_FRAME_ERR : Nat := 0xB1000300000000
abbrev Obj.SSPI_CRC_ERR : Nat := 0xB1000400000000
abbrev Obj.SSPI_TIMEOUT_MS : Nat := 0xB1000500000000
abbrev Obj.SSPI_LAST_STATUS : Nat := 0xB1000600000000
abbrev Obj.ACC_ENABLE : Nat := 0xB2000100000000
abbrev Obj.ACC_SPEED : Nat := 0xB2000200000000
abbrev Obj.ACC_OWN_ADDR : Nat := 0xB2000300000000
abbrev Obj.ACC_TARGET_EN : Nat := 0xB2000400000000
abbrev Obj.ACC_STUCK_CAUSE : Nat := 0xB2000500000000
abbrev Obj.ACC_ARB_LOST : Nat := 0xB2000600000000
abbrev Obj.ACC_STRETCH_MS : Nat := 0xB2000700000000
abbrev Obj.XFER_ADDR : Nat := 0xB2010100000000
abbrev Obj.XFER_WR_LEN : Nat := 0xB2010200000000
abbrev Obj.XFER_RD_LEN : Nat := 0xB2010300000000
abbrev Obj.XFER_WR_DATA : Nat := 0xB2010400000000
abbrev Obj.XFER_RD_DATA : Nat := 0xB2010500000000
abbrev Obj.XFER_GO : Nat := 0xB2010600000000
abbrev Obj.MBX_IN : Nat := 0xB2020100000000
abbrev Obj.MBX_OUT : Nat := 0xB2020200000000
abbrev Obj.MBX_WRITES : Nat := 0xB2020300000000
abbrev Obj.LENS_ADDR : Nat := 0xB2030100000000
abbrev Obj.LENS_POLL_MS : Nat := 0xB2030200000000
abbrev Obj.LENS_STATE : Nat := 0xB2030300000000
abbrev Obj.LENS_HEADER : Nat := 0xB2030400000000
abbrev Obj.LENS_READS : Nat := 0xB2030500000000
abbrev Obj.ACT_ENABLE : Nat := 0xA0010100000000
abbrev Obj.DEAD_NS : Nat := 0xA0010200000000
abbrev Obj.CHOP_LOCK : Nat := 0xA0010300000000
abbrev Obj.CHOP_KHZ : Nat := 0xA0010400000000
abbrev Obj.CHOP_ACTIVE_HZ : Nat := 0xA0010500000000
abbrev Obj.CHOP_LOCKED : Nat := 0xA0010600000000
abbrev Obj.TRIP_ACTIVE : Nat := 0xA0010700000000
abbrev Obj.TRIP_COUNT : Nat := 0xA0010800000000
abbrev Obj.TRIP_CLEAR_REFUSED : Nat := 0xA0010900000000
abbrev Obj.TRIP_DLT : Nat := 0xA0010A00000000
abbrev Obj.CLAP_POS_EN : Nat := 0xA0010B00000000
abbrev Obj.CLAP_STATE : Nat := 0xA0010C00000000
abbrev Obj.CLAP_CLOSED_DLT : Nat := 0xA0010D00000000
abbrev Obj.COIL_AMBIENT : Nat := 0xA0010E00000000
abbrev Obj.MALLET_MAX_MS : Nat := 0xA0010F00000000
abbrev Obj.ACT_WAIT_MS : Nat := 0xA0011000000000
abbrev Obj.VACT_LOW : Nat := 0xA0011100000000
abbrev Obj.CLAP_TABLE : Nat := 0xA0020000000000
abbrev Obj.MALLET_STORE (i : Nat) : Nat := ((0xA010 + i) * 256 + 0x01) * 4294967296
abbrev Obj.MALLET_ENTRIES (i : Nat) : Nat := ((0xA010 + i) * 256 + 0x02) * 4294967296
abbrev Obj.STORE_VALID (i : Nat) : Nat := ((0xA010 + i) * 256 + 0x03) * 4294967296
abbrev Obj.OVERLAP (i : Nat) : Nat := ((0xA010 + i) * 256 + 0x04) * 4294967296
abbrev Obj.BANK_STATE (i : Nat) : Nat := ((0xA010 + i) * 256 + 0x05) * 4294967296
abbrev Obj.RUN_INFO (i : Nat) : Nat := ((0xA010 + i) * 256 + 0x06) * 4294967296
abbrev Obj.QUEUE (i : Nat) : Nat := ((0xA010 + i) * 256 + 0x07) * 4294967296
abbrev Obj.LAST_ABORT (i : Nat) : Nat := ((0xA010 + i) * 256 + 0x08) * 4294967296
abbrev Obj.LAST_REFUSE (i : Nat) : Nat := ((0xA010 + i) * 256 + 0x09) * 4294967296
abbrev Obj.COIL_RES (i : Nat) : Nat := ((0xA020 + i) * 256 + 0x01) * 4294967296
abbrev Obj.C_TH (i : Nat) : Nat := ((0xA020 + i) * 256 + 0x02) * 4294967296
abbrev Obj.TAU_TH (i : Nat) : Nat := ((0xA020 + i) * 256 + 0x03) * 4294967296
abbrev Obj.T_LIMIT (i : Nat) : Nat := ((0xA020 + i) * 256 + 0x04) * 4294967296
abbrev Obj.ENERGY_HINT (i : Nat) : Nat := ((0xA020 + i) * 256 + 0x05) * 4294967296
abbrev Obj.COIL_TEMP (i : Nat) : Nat := ((0xA020 + i) * 256 + 0x06) * 4294967296
abbrev Obj.ENERGY_LAST (i : Nat) : Nat := ((0xA020 + i) * 256 + 0x07) * 4294967296
abbrev Obj.T_PEAK_LAST (i : Nat) : Nat := ((0xA020 + i) * 256 + 0x08) * 4294967296
abbrev Obj.MEAS_MA (i : Nat) : Nat := ((0xA020 + i) * 256 + 0x09) * 4294967296
abbrev Obj.COIL_COUNTERS (i : Nat) : Nat := ((0xA020 + i) * 256 + 0x0A) * 4294967296
abbrev Obj.ENS_ENABLE : Nat := 0xD0010100000000
abbrev Obj.ENS_MASTER_CAP : Nat := 0xD0010200000000
abbrev Obj.ENS_SLOT_PREF : Nat := 0xD0010300000000
abbrev Obj.ENS_TOL : Nat := 0xD0010400000000
abbrev Obj.DRUM_ASYM : Nat := 0xD0010500000000
abbrev Obj.DRUM_TERM : Nat := 0xD0010600000000
abbrev Obj.DISSENT_CYCLES : Nat := 0xD0010700000000
abbrev Obj.GONG_ACTION : Nat := 0xD0010800000000
abbrev Obj.GONG_PROFILE : Nat := 0xD0010900000000
abbrev Obj.ENS_STATE : Nat := 0xD0020100000000
abbrev Obj.ENS_SLOT : Nat := 0xD0020200000000
abbrev Obj.MASTER_UID : Nat := 0xD0020300000000
abbrev Obj.ENS_OFFSET : Nat := 0xD0020400000000
abbrev Obj.ENS_DELAY : Nat := 0xD0020500000000
abbrev Obj.DISSENT : Nat := 0xD0020600000000
abbrev Obj.SLOT_MAP : Nat := 0xD0020700000000
abbrev Obj.MEMBERS : Nat := 0xD0020800000000
abbrev Obj.OWN_DIGESTS : Nat := 0xD0020900000000
abbrev Obj.ENS_OBJ_LIST : Nat := 0xD0030000000000
abbrev Obj.ENS_SLOTS : Nat := 0xD0040000000000
abbrev Obj.SLOT_EDGE : Nat := 0xD0050100000000
abbrev Obj.DRUM_CRC_ERR : Nat := 0xD0050200000000
abbrev Obj.COLLISIONS : Nat := 0xD0050300000000
abbrev Obj.ELECTIONS : Nat := 0xD0050400000000
abbrev Obj.MUTE_COUNT : Nat := 0xD0050500000000
abbrev Obj.MIRROR_LATE : Nat := 0xD0050600000000
abbrev Obj.GONG_IN : Nat := 0xD0050700000000
abbrev Obj.GONG_LAST_DLT : Nat := 0xD0050800000000
abbrev Obj.GONG_LAST_CAUSE : Nat := 0xD0050900000000
abbrev Obj.STARTUP_STAGE : Nat := 0xC0010100000000
abbrev Obj.STAGE_DLT : Nat := 0xC0010200000000
abbrev Obj.POWER_MODE : Nat := 0xC0010300000000
abbrev Obj.WAKE_SRC_EN : Nat := 0xC0010400000000
abbrev Obj.WAKE_CAUSE : Nat := 0xC0010500000000
abbrev Obj.SLEEP_TICKS : Nat := 0xC0010600000000
abbrev Obj.AON_CLOCK : Nat := 0xC0010700000000
abbrev Obj.RESET_CAUSE : Nat := 0xC0010800000000
abbrev Obj.DOMAIN_STATE : Nat := 0xC0020000000000
abbrev Obj.RAIL_GOOD : Nat := 0xC0030000000000
abbrev Obj.TS_TEMP : Nat := 0xC0100100000000
abbrev Obj.TJMAX : Nat := 0xC0100200000000
abbrev Obj.TJMAX_SENSOR : Nat := 0xC0100300000000
abbrev Obj.TJMAX_PEAK : Nat := 0xC0100400000000
abbrev Obj.THROTTLE_C : Nat := 0xC0110100000000
abbrev Obj.THROTTLE_STEP_MS : Nat := 0xC0110200000000
abbrev Obj.THROTTLE_LEVEL : Nat := 0xC0110300000000
abbrev Obj.THROTTLE_SKIPS : Nat := 0xC0110400000000
abbrev Obj.THROTTLE_IDLE_ROLLS : Nat := 0xC0110500000000
abbrev Obj.SHUTDOWN_COUNT : Nat := 0xC0200100000000
abbrev Obj.EVENT_STORE : Nat := 0xC0200200000000
abbrev Obj.EVENT_NEWEST : Nat := 0xC0200300000000
abbrev Obj.CFG_STATE : Nat := 0xC0300100000000
abbrev Obj.CFG_SEQ : Nat := 0xC0300200000000
abbrev Obj.CFG_REFUSED : Nat := 0xC0300300000000
abbrev Obj.CALK_COUNT (i : Nat) : Nat := ((0x6100 + i) * 256 + 0x01) * 4294967296
abbrev Obj.CALK_LAST_DLT (i : Nat) : Nat := ((0x6100 + i) * 256 + 0x02) * 4294967296
abbrev Obj.CALK_LAST_RESULT (i : Nat) : Nat := ((0x6100 + i) * 256 + 0x03) * 4294967296

/-! ## The table -/

/-- Rows 0x1000 to 0x2031 of the object tables (R343). MASOL and LIVE_MASOL have 65,536 bytes, the space that R20 reserves for
the table, and read 0 past LENGTH: the spec gives neither BLOB a size (DESIGN CHOICE, log entry 4). -/
def objRows0 : List ObjRow :=
  [⟨0x1000, 1, 0x01, 1, .str, .ro, 16, 0, none, none, 4, false⟩,
   ⟨0x1000, 1, 0x02, 1, .u16, .ro, 2, 0, none, none, 4, false⟩,
   ⟨0x1000, 1, 0x03, 1, .u64, .ro, 8, 0, none, none, 4, false⟩,
   ⟨0x1001, 1, 0x00, 1, .u8, .rl, 1, 0, none, none, 4, false⟩,
   ⟨0x1002, 1, 0x00, 1, .u32, .ro, 4, 0, none, none, 4, false⟩,
   ⟨0x1003, 1, 0x00, 1, .u32, .rl, 4, 0, none, none, 4, false⟩,
   ⟨0x1100, 1, 0x00, 1, .blob, .ro, 65536, 0, none, none, 4, false⟩,
   ⟨0x1200, 1, 0x00, 1, .blob, .rl, 65536, 0, none, none, 4, false⟩,
   ⟨0x1300, 1, 0x01, 1, .blob, .ro, 17032, 0, none, none, 4, false⟩,
   ⟨0x1300, 1, 0x02, 1, .u32, .ro, 4, 0, none, none, 4, false⟩,
   ⟨0x1400, 1, 0x01, 1, .blob, .rl, 1024, 0, none, none, 4, false⟩,
   ⟨0x1400, 1, 0x02, 1, .u8, .rl, 1, 0, none, none, 4, false⟩,
   ⟨0x1400, 1, 0x03, 1, .u16, .rw, 2, 0, none, none, 4, false⟩,
   ⟨0x1400, 1, 0x04, 1, .u16, .rw, 2, 65535, none, none, 4, false⟩,
   ⟨0x1400, 1, 0x05, 1, .u32, .rwc, 4, 0, none, none, 4, true⟩,
   ⟨0x1400, 1, 0x06, 1, .u16, .rl, 2, 0, none, none, 4, false⟩,
   ⟨0x1400, 1, 0x07, 1, .bool, .rw, 1, 1, none, none, 4, false⟩,
   ⟨0x2001, 1, 0x00, 1, .u64, .rl, 8, 0, none, none, 4, false⟩,
   ⟨0x2010, 1, 0x00, 1, .blob, .ro, 64, 0, none, none, 4, false⟩,
   ⟨0x2011, 1, 0x00, 1, .u32, .ro, 4, 0, none, none, 4, false⟩,
   ⟨0x2020, 1, 0x01, 1, .i64, .rw, 8, 0, none, none, 4, false⟩,
   ⟨0x2020, 1, 0x02, 1, .u8, .rw, 1, 0, (some 0), (some 1), 4, false⟩,
   ⟨0x2020, 1, 0x03, 1, .bool, .rw, 1, 0, none, none, 4, false⟩,
   ⟨0x2020, 1, 0x04, 1, .u8, .rw, 1, 0, (some 0), (some 1), 4, false⟩,
   ⟨0x2020, 1, 0x05, 1, .u64, .rl, 8, 0, none, none, 4, false⟩,
   ⟨0x2020, 1, 0x06, 1, .u32, .rl, 4, 0, none, none, 4, false⟩,
   ⟨0x2020, 1, 0x07, 1, .u32, .rl, 4, 0, none, none, 4, false⟩,
   ⟨0x2030, 1, 0x01, 1, .u16, .rw, 2, 4656, none, none, 4, false⟩,
   ⟨0x2030, 1, 0x02, 1, .u8, .rl, 1, 0, none, none, 4, false⟩,
   ⟨0x2030, 1, 0x03, 1, .u8, .rl, 1, 0, none, none, 4, false⟩,
   ⟨0x2030, 1, 0x04, 1, .i32, .rl, 4, 0, none, none, 4, false⟩,
   ⟨0x2030, 1, 0x05, 1, .i32, .rl, 4, 0, none, none, 4, false⟩,
   ⟨0x2030, 1, 0x06, 1, .u32, .rw, 4, 100000, (some 0), (some 100000), 4, false⟩,
   ⟨0x2030, 1, 0x07, 1, .u16, .rw, 2, 500, (some 10), (some 5000), 4, false⟩,
   ⟨0x2030, 1, 0x08, 1, .u8, .rw, 1, 0, (some 0), (some 7), 4, false⟩,
   ⟨0x2031, 1, 0x01, 1, .u8, .rw, 1, 0, (some 0), (some 2), 4, false⟩,
   ⟨0x2031, 1, 0x02, 1, .u8, .rw, 1, 0, (some 0), (some 1), 4, false⟩,
   ⟨0x2031, 1, 0x03, 1, .u64, .rw, 8, 266666667, (some 266000000), (some 2670000000), 4, false⟩,
   ⟨0x2031, 1, 0x04, 1, .u64, .rw, 8, 0, none, none, 4, false⟩,
   ⟨0x2031, 1, 0x05, 1, .u64, .rl, 8, 0, none, none, 4, false⟩]

/-- Rows 0x2031 to 0x3031 of the object tables (R343). -/
def objRows1 : List ObjRow :=
  [⟨0x2031, 1, 0x06, 1, .u32, .rwc, 4, 0, none, none, 4, true⟩,
   ⟨0x2100, 1, 0x01, 1, .u32, .rw, 4, 0, none, none, 4, false⟩,
   ⟨0x2100, 1, 0x02, 1, .u8, .rw, 1, 5, none, none, 4, false⟩,
   ⟨0x2100, 1, 0x03, 1, .u16, .rw, 2, 0, none, none, 4, false⟩,
   ⟨0x2100, 1, 0x04, 1, .u32, .rw, 4, 0, none, none, 4, false⟩,
   ⟨0x2100, 1, 0x05, 1, .u8, .rw, 1, 0, (some 0), (some 1), 4, false⟩,
   ⟨0x2100, 1, 0x06, 1, .u64, .rl, 8, 0, none, none, 4, false⟩,
   ⟨0x2200, 1, 0x00, 1, .blob, .rw, 8192, 0, none, none, 4, false⟩,
   ⟨0x2210, 4, 0x00, 1, .blob, .rw, 32768, 0, none, none, 4, false⟩,
   ⟨0x2220, 1, 0x00, 1, .blob, .rw, 983040, 0, none, none, 4, false⟩,
   ⟨0x2300, 1, 0x01, 1, .u32, .rwc, 4, 0, none, none, 4, true⟩,
   ⟨0x2300, 1, 0x02, 1, .u32, .rwc, 4, 0, none, none, 4, true⟩,
   ⟨0x2301, 1, 0x01, 8, .u64, .rl, 8, 0, none, none, 4, false⟩,
   ⟨0x2301, 1, 0x10, 29, .u64, .rl, 8, 0, none, none, 4, false⟩,
   ⟨0x3001, 1, 0x00, 1, .u8, .rl, 1, 0, none, none, 4, false⟩,
   ⟨0x3002, 1, 0x01, 1, .u32, .rl, 4, 0, none, none, 4, false⟩,
   ⟨0x3002, 1, 0x02, 1, .u32, .rwc, 4, 0, none, none, 4, true⟩,
   ⟨0x3002, 1, 0x03, 1, .u8, .rl, 1, 0, none, none, 4, false⟩,
   ⟨0x3002, 1, 0x04, 1, .u64, .rl, 8, 0, none, none, 4, false⟩,
   ⟨0x3002, 1, 0x05, 1, .bool, .rw, 1, 1, none, none, 4, false⟩,
   ⟨0x3002, 1, 0x06, 1, .u8, .rl, 1, 0, none, none, 4, false⟩,
   ⟨0x3002, 1, 0x07, 1, .u32, .rl, 4, 0, none, none, 4, false⟩,
   ⟨0x3010, 4, 0x01, 1, .u16, .rws, 2, 0, (some 64), (some 4096), 0, false⟩,
   ⟨0x3010, 4, 0x02, 1, .blob, .rws, 512, 0, none, none, 0, false⟩,
   ⟨0x3010, 4, 0x03, 1, .u16, .rws, 2, 64, (some 16), (some 256), 0, false⟩,
   ⟨0x3010, 4, 0x04, 1, .u8, .rws, 1, 3, (some 1), (some 4), 0, false⟩,
   ⟨0x3010, 4, 0x05, 1, .u8, .rws, 1, 0, none, none, 0, false⟩,
   ⟨0x3010, 4, 0x06, 1, .u8, .rws, 1, 10, (some 8), (some 40), 0, false⟩,
   ⟨0x3010, 4, 0x07, 1, .u32, .rws, 4, 0, none, none, 0, false⟩,
   ⟨0x3010, 4, 0x08, 1, .u8, .rws, 1, 0, (some 0), (some 1), 0, false⟩,
   ⟨0x3020, 1, 0x01, 4, .u8, .rws, 1, 4, (some 0), (some 7), 0, false⟩,
   ⟨0x3020, 1, 0x05, 4, .u8, .rws, 1, 1, (some 0), (some 3), 0, false⟩,
   ⟨0x3030, 1, 0x01, 1, .u8, .rw, 1, 0, none, none, 4, false⟩,
   ⟨0x3030, 1, 0x10, 4, .u32, .rl, 4, 0, none, none, 4, false⟩,
   ⟨0x3030, 1, 0x14, 4, .u32, .rwc, 4, 0, none, none, 4, true⟩,
   ⟨0x3030, 1, 0x18, 4, .u32, .rwc, 4, 0, none, none, 4, true⟩,
   ⟨0x3031, 1, 0x01, 1, .u8, .rws, 1, 64, (some 1), (some 64), 0, false⟩,
   ⟨0x3031, 1, 0x02, 1, .blob, .rws, 128, 0, none, none, 0, false⟩,
   ⟨0x3031, 1, 0x03, 1, .u16, .rws, 2, 16, (some 1), (some 1024), 0, false⟩,
   ⟨0x3031, 1, 0x04, 1, .u16, .rws, 2, 64, (some 0), (some 1023), 0, false⟩]

/-- Rows 0x3031 to 0x4001 of the object tables (R343). MC_CAL_CH takes the channels that exist, 0 to 13 (R96): its table gives no
range, and other values are refused with RANGE (DESIGN CHOICE, log entry 48). -/
def objRows2 : List ObjRow :=
  [⟨0x3031, 1, 0x05, 1, .u8, .rws, 1, 1, (some 1), (some 8), 0, false⟩,
   ⟨0x3031, 1, 0x06, 1, .blob, .rws, 16, 0, none, none, 0, false⟩,
   ⟨0x3040, 1, 0x00, 1, .blob, .rl, 983040, 0, none, none, 4, false⟩,
   ⟨0x3050, 1, 0x01, 1, .bool, .rw, 1, 0, none, none, 4, false⟩,
   ⟨0x3050, 1, 0x02, 1, .u32, .rw, 4, 4096, (some 1), (some 491520), 4, false⟩,
   ⟨0x3050, 1, 0x03, 1, .u8, .rw, 1, 0, none, none, 4, false⟩,
   ⟨0x3050, 1, 0x04, 1, .u8, .rwc, 1, 0, none, none, 4, false⟩,
   ⟨0x3050, 1, 0x05, 1, .u32, .rl, 4, 0, none, none, 4, false⟩,
   ⟨0x3050, 1, 0x06, 1, .u8, .rl, 1, 0, none, none, 4, false⟩,
   ⟨0x3050, 1, 0x07, 1, .u64, .rl, 8, 0, none, none, 4, false⟩,
   ⟨0x3050, 1, 0x08, 1, .blob, .rl, 256, 0, none, none, 4, false⟩,
   ⟨0x3200, 1, 0x01, 1, .u16, .rl, 2, 0, none, none, 4, false⟩,
   ⟨0x3200, 1, 0x02, 1, .u8, .rw, 1, 3, (some 1), (some 4), 4, false⟩,
   ⟨0x3200, 1, 0x03, 1, .u32, .rw, 4, 122880, (some 16), (some 131072), 4, false⟩,
   ⟨0x3200, 1, 0x04, 1, .u8, .rw, 1, 0, (some 0), (some 1), 4, false⟩,
   ⟨0x3200, 1, 0x05, 1, .u8, .rw, 1, 1, (some 1), (some 255), 4, false⟩,
   ⟨0x3200, 1, 0x06, 1, .u8, .rl, 1, 0, none, none, 4, false⟩,
   ⟨0x3200, 1, 0x07, 1, .u8, .rw, 1, 0, (some 0), (some 1), 4, false⟩,
   ⟨0x3200, 1, 0x08, 1, .u8, .rw, 1, 0, (some 0), (some 1), 4, false⟩,
   ⟨0x3200, 1, 0x09, 1, .u32, .rwc, 4, 0, none, none, 4, true⟩,
   ⟨0x3200, 1, 0x0A, 1, .u32, .rwc, 4, 0, none, none, 4, true⟩,
   ⟨0x3201, 1, 0x01, 16, .u8, .rw, 1, 0, (some 0), (some 3), 4, false⟩,
   ⟨0x3202, 1, 0x01, 1, .blob, .rl, 4096, 0, none, none, 4, false⟩,
   ⟨0x3202, 1, 0x02, 1, .u16, .rl, 2, 0, none, none, 4, false⟩,
   ⟨0x3202, 1, 0x03, 1, .u16, .rw, 2, 0, (some 0), (some 511), 4, false⟩,
   ⟨0x3203, 1, 0x01, 16, .u32, .rl, 4, 0, none, none, 4, false⟩,
   ⟨0x3204, 1, 0x01, 16, .i32, .rw, 4, 0, none, none, 4, false⟩,
   ⟨0x3205, 1, 0x01, 16, .u32, .rw, 4, 4194304, none, none, 4, false⟩,
   ⟨0x3206, 1, 0x01, 1, .u8, .rw, 1, 0, (some 0), (some 13), 4, false⟩,
   ⟨0x3206, 1, 0x02, 1, .u8, .rw, 1, 0, (some 0), (some 2), 4, false⟩,
   ⟨0x3206, 1, 0x03, 1, .i32, .rw, 4, 7549747, none, none, 4, false⟩,
   ⟨0x3206, 1, 0x04, 1, .u16, .rw, 2, 16, (some 1), (some 1024), 4, false⟩,
   ⟨0x3207, 1, 0x01, 1, .u8, .rw, 1, 1, (some 1), (some 16), 4, false⟩,
   ⟨0x3207, 1, 0x02, 1, .blob, .rw, 16, 0, none, none, 4, false⟩,
   ⟨0x3207, 1, 0x03, 1, .u8, .rw, 1, 1, (some 1), (some 4), 4, false⟩,
   ⟨0x3207, 1, 0x04, 1, .blob, .rw, 4, 0, none, none, 4, false⟩,
   ⟨0x3207, 1, 0x05, 1, .u32, .rl, 4, 0, none, none, 4, false⟩,
   ⟨0x3207, 1, 0x06, 1, .u32, .rwc, 4, 0, none, none, 4, true⟩,
   ⟨0x3207, 1, 0x07, 1, .u32, .rwc, 4, 0, none, none, 4, true⟩,
   ⟨0x4001, 1, 0x01, 1, .u8, .rws, 1, 1, (some 1), (some 2), 1, false⟩]

/-- Rows 0x4001 to 0x5001 of the object tables (R343). -/
def objRows3 : List ObjRow :=
  [⟨0x4001, 1, 0x02, 1, .u8, .rw, 1, 2, (some 1), (some 16), 4, false⟩,
   ⟨0x4001, 1, 0x03, 1, .u16, .rw, 2, 250, (some 50), (some 4000), 4, false⟩,
   ⟨0x4001, 1, 0x04, 1, .u8, .ro, 1, 64, none, none, 4, false⟩,
   ⟨0x4002, 1, 0x01, 1, .blob, .rw, 32768, 0, none, none, 4, false⟩,
   ⟨0x4002, 1, 0x02, 1, .blob, .rw, 32768, 0, none, none, 4, false⟩,
   ⟨0x4002, 1, 0x03, 1, .u8, .rl, 1, 0, none, none, 4, false⟩,
   ⟨0x4002, 1, 0x04, 1, .u64, .rl, 8, 0, none, none, 4, false⟩,
   ⟨0x4002, 1, 0x05, 1, .u64, .rl, 8, 0, none, none, 4, false⟩,
   ⟨0x4002, 1, 0x06, 1, .u32, .rwc, 4, 0, none, none, 4, true⟩,
   ⟨0x4003, 1, 0x00, 1, .blob, .rw, 131072, 0, none, none, 4, false⟩,
   ⟨0x4010, 1, 0x00, 1, .blob, .rl, 4352, 0, none, none, 4, false⟩,
   ⟨0x4011, 1, 0x00, 1, .blob, .rl, 1024, 0, none, none, 4, false⟩,
   ⟨0x4020, 1, 0x01, 1, .u32, .rl, 4, 0, none, none, 4, false⟩,
   ⟨0x4020, 1, 0x02, 1, .u32, .rwc, 4, 0, none, none, 4, true⟩,
   ⟨0x4020, 1, 0x03, 1, .u32, .rl, 4, 0, none, none, 4, false⟩,
   ⟨0x4020, 1, 0x04, 1, .u32, .rwc, 4, 0, none, none, 4, true⟩,
   ⟨0x4020, 1, 0x05, 1, .u32, .rwc, 4, 0, none, none, 4, true⟩,
   ⟨0x4020, 1, 0x06, 1, .u32, .rwc, 4, 0, none, none, 4, true⟩,
   ⟨0x4020, 1, 0x07, 1, .u32, .rwc, 4, 0, none, none, 4, true⟩,
   ⟨0x4020, 1, 0x08, 1, .u32, .rwc, 4, 0, none, none, 4, true⟩,
   ⟨0x4020, 1, 0x09, 1, .u32, .rwc, 4, 0, none, none, 4, true⟩,
   ⟨0x4020, 1, 0x0A, 1, .blob, .rwc, 256, 0, none, none, 4, true⟩,
   ⟨0x4030, 1, 0x01, 4, .u16, .rws, 2, 200, (some 50), (some 400), 1, false⟩,
   ⟨0x4030, 1, 0x05, 4, .u16, .rl, 2, 200, none, none, 4, false⟩,
   ⟨0x4030, 1, 0x09, 1, .u8, .rl, 1, 0, none, none, 4, false⟩,
   ⟨0x4030, 1, 0x0A, 4, .u16, .rl, 2, 0, none, none, 4, false⟩,
   ⟨0x4040, 1, 0x01, 4, .u8, .rl, 1, 0, none, none, 4, false⟩,
   ⟨0x4040, 1, 0x05, 4, .u32, .rwc, 4, 0, none, none, 4, true⟩,
   ⟨0x4100, 1, 0x00, 1, .blob, .rl, 71303168, 0, none, none, 4, false⟩,
   ⟨0x4300, 1, 0x00, 1, .blob, .rl, 21632, 0, none, none, 4, false⟩,
   ⟨0x5000, 1, 0x01, 1, .u32, .ro, 4, 0, none, none, 4, false⟩,
   ⟨0x5000, 1, 0x02, 1, .u32, .ro, 4, 0, none, none, 4, false⟩,
   ⟨0x5000, 1, 0x03, 1, .u8, .rw, 1, 0, (some 0), (some 2), 4, false⟩,
   ⟨0x5001, 1, 0x01, 1, .u16, .rws, 2, 1023, none, none, 2, false⟩,
   ⟨0x5001, 1, 0x02, 1, .u16, .rws, 2, 49406, none, none, 2, false⟩,
   ⟨0x5001, 1, 0x03, 1, .u8, .rws, 1, 0, (some 0), (some 1), 2, false⟩,
   ⟨0x5001, 1, 0x04, 1, .u32, .rws, 4, 303150, none, none, 2, false⟩,
   ⟨0x5001, 1, 0x05, 1, .u8, .rws, 1, 0, (some 0), (some 1), 2, false⟩,
   ⟨0x5001, 1, 0x06, 1, .u16, .rws, 2, 8192, (some 1), (some 32768), 2, false⟩,
   ⟨0x5001, 1, 0x07, 1, .u16, .rws, 2, 256, none, none, 2, false⟩]

/-- Rows 0x5001 to 0x5440 of the object tables (R343). -/
def objRows4 : List ObjRow :=
  [⟨0x5001, 1, 0x08, 1, .u8, .rws, 1, 10, (some 0), (some 15), 2, false⟩,
   ⟨0x5001, 1, 0x09, 1, .u8, .rws, 1, 1, (some 0), (some 1), 2, false⟩,
   ⟨0x5001, 1, 0x0A, 1, .u32, .rws, 4, 2000, none, none, 2, false⟩,
   ⟨0x5001, 1, 0x0B, 1, .blob, .rw, 8192, 0, none, none, 4, false⟩,
   ⟨0x5001, 1, 0x0C, 1, .u8, .rw, 1, 1, (some 0), (some 1), 4, false⟩,
   ⟨0x5002, 1, 0x01, 1, .u8, .rws, 1, 0, (some 0), (some 7), 3, false⟩,
   ⟨0x5002, 1, 0x02, 1, .u16, .rws, 2, 20000, none, none, 3, false⟩,
   ⟨0x5002, 1, 0x03, 1, .u8, .rws, 1, 4, (some 0), (some 8), 3, false⟩,
   ⟨0x5002, 1, 0x04, 1, .u8, .rws, 1, 1, (some 0), (some 1), 3, false⟩,
   ⟨0x5002, 1, 0x05, 1, .u16, .rws, 2, 27315, none, none, 3, false⟩,
   ⟨0x5002, 1, 0x06, 1, .u16, .rws, 2, 37315, none, none, 3, false⟩,
   ⟨0x5002, 1, 0x07, 1, .u16, .rws, 2, 1024, none, none, 3, false⟩,
   ⟨0x5002, 1, 0x08, 1, .u16, .rws, 2, 4096, none, none, 3, false⟩,
   ⟨0x5003, 1, 0x01, 3, .i32, .rw, 4, 0, none, none, 4, false⟩,
   ⟨0x5003, 1, 0x04, 1, .u64, .rl, 8, 0, none, none, 4, false⟩,
   ⟨0x5003, 1, 0x05, 1, .u16, .rw, 2, 20, none, none, 4, false⟩,
   ⟨0x5003, 1, 0x06, 1, .u32, .rl, 4, 0, none, none, 4, false⟩,
   ⟨0x5003, 1, 0x07, 1, .blob, .rl, 256, 0, none, none, 4, false⟩,
   ⟨0x5100, 8, 0x01, 1, .u16, .rw, 2, 10000, (some 5010), (some 10000), 4, false⟩,
   ⟨0x5100, 8, 0x02, 1, .u16, .rw, 2, 10000, (some 5010), (some 10000), 4, false⟩,
   ⟨0x5100, 8, 0x03, 1, .u16, .rw, 2, 29315, none, none, 4, false⟩,
   ⟨0x5100, 8, 0x04, 1, .u16, .rw, 2, 29315, none, none, 4, false⟩,
   ⟨0x5100, 8, 0x05, 1, .u8, .rw, 1, 0, (some 0), (some 2), 4, false⟩,
   ⟨0x5100, 8, 0x06, 1, .u8, .rw, 1, 0, (some 0), (some 1), 4, false⟩,
   ⟨0x5100, 8, 0x07, 1, .blob, .rw, 18, 0, none, none, 4, false⟩,
   ⟨0x5100, 8, 0x08, 1, .blob, .rw, 6, 0, none, none, 4, false⟩,
   ⟨0x5100, 8, 0x09, 1, .blob, .rw, 6, 0, none, none, 4, false⟩,
   ⟨0x5100, 8, 0x0A, 1, .u16, .rl, 2, 16384, none, none, 4, false⟩,
   ⟨0x5100, 8, 0x0B, 1, .i16, .rl, 2, 0, none, none, 4, false⟩,
   ⟨0x5100, 8, 0x0F, 1, .bool, .rw, 1, 0, none, none, 4, false⟩,
   ⟨0x5300, 1, 0x01, 1, .blob, .rl, 2048, 0, none, none, 4, false⟩,
   ⟨0x5300, 1, 0x02, 1, .blob, .rl, 32, 0, none, none, 4, false⟩,
   ⟨0x5300, 1, 0x03, 1, .blob, .rl, 16384, 0, none, none, 4, false⟩,
   ⟨0x5300, 1, 0x04, 1, .u32, .rwc, 4, 0, none, none, 4, true⟩,
   ⟨0x5300, 1, 0x05, 1, .u32, .rwc, 4, 0, none, none, 4, true⟩,
   ⟨0x5400, 32, 0x01, 1, .u8, .rw, 1, 0, (some 0), (some 3), 4, false⟩,
   ⟨0x5400, 32, 0x02, 4, .u16, .rw, 2, 0, none, none, 4, false⟩,
   ⟨0x5400, 32, 0x06, 1, .u16, .rw, 2, 31315, none, none, 4, false⟩,
   ⟨0x5400, 32, 0x07, 1, .u8, .rw, 1, 8, (some 1), (some 255), 4, false⟩,
   ⟨0x5440, 1, 0x01, 1, .u16, .rw, 2, 33315, none, none, 4, false⟩]

/-- Rows 0x5480 to 0x6030 of the object tables (R343). -/
def objRows5 : List ObjRow :=
  [⟨0x5480, 32, 0x01, 1, .blob, .rl, 32, 0, none, none, 4, false⟩,
   ⟨0x5500, 16, 0x01, 4, .u16, .rw, 2, 0, none, none, 4, false⟩,
   ⟨0x5500, 16, 0x05, 1, .bool, .rw, 1, 0, none, none, 4, false⟩,
   ⟨0x5580, 16, 0x01, 1, .blob, .rl, 24, 0, none, none, 4, false⟩,
   ⟨0x5600, 1, 0x01, 1, .blob, .rl, 256, 0, none, none, 4, false⟩,
   ⟨0x5600, 1, 0x02, 1, .blob, .rl, 256, 0, none, none, 4, false⟩,
   ⟨0x5600, 1, 0x03, 1, .u64, .rl, 8, 0, none, none, 4, false⟩,
   ⟨0x5600, 1, 0x04, 1, .u64, .rl, 8, 0, none, none, 4, false⟩,
   ⟨0x5600, 1, 0x05, 1, .u32, .rl, 4, 0, none, none, 4, false⟩,
   ⟨0x5600, 1, 0x06, 1, .u32, .rl, 4, 0, none, none, 4, false⟩,
   ⟨0x5600, 1, 0x07, 1, .u64, .rl, 8, 0, none, none, 4, false⟩,
   ⟨0x6001, 1, 0x01, 1, .u8, .rl, 1, 0, none, none, 4, false⟩,
   ⟨0x6001, 1, 0x02, 1, .u16, .ro, 2, 0, none, none, 4, false⟩,
   ⟨0x6001, 1, 0x03, 1, .u64, .ro, 8, 0, none, none, 4, false⟩,
   ⟨0x6001, 1, 0x04, 1, .u32, .ro, 4, 0, none, none, 4, false⟩,
   ⟨0x6001, 1, 0x05, 1, .u64, .rl, 8, 0, none, none, 4, false⟩,
   ⟨0x6002, 1, 0x00, 1, .blob, .ro, 30720, 0, none, none, 4, false⟩,
   ⟨0x6003, 1, 0x00, 1, .blob, .ro, 8, 0, none, none, 4, false⟩,
   ⟨0x6010, 1, 0x01, 1, .u8, .rl, 1, 0, none, none, 4, false⟩,
   ⟨0x6010, 1, 0x02, 1, .u8, .rl, 1, 0, none, none, 4, false⟩,
   ⟨0x6010, 1, 0x03, 1, .u32, .rw, 4, 0, none, none, 4, false⟩,
   ⟨0x6010, 1, 0x04, 1, .u16, .rw, 2, 64, (some 1), (some 1024), 4, false⟩,
   ⟨0x6010, 1, 0x05, 1, .u16, .rw, 2, 100, none, none, 4, false⟩,
   ⟨0x6010, 1, 0x06, 1, .u32, .rl, 4, 0, none, none, 4, false⟩,
   ⟨0x6010, 1, 0x07, 1, .i32, .rl, 4, 0, none, none, 4, false⟩,
   ⟨0x6010, 1, 0x08, 1, .u32, .rl, 4, 0, none, none, 4, false⟩,
   ⟨0x6010, 1, 0x09, 1, .u16, .rl, 2, 0, none, none, 4, false⟩,
   ⟨0x6010, 1, 0x0A, 1, .u32, .rwc, 4, 0, none, none, 4, true⟩,
   ⟨0x6020, 1, 0x01, 1, .u8, .rw, 1, 0, none, none, 4, false⟩,
   ⟨0x6020, 1, 0x02, 1, .u8, .rw, 1, 1, none, none, 4, false⟩,
   ⟨0x6020, 1, 0x03, 1, .u8, .rw, 1, 0, none, none, 4, false⟩,
   ⟨0x6020, 1, 0x04, 1, .u8, .rw, 1, 8, (some 1), (some 255), 4, false⟩,
   ⟨0x6020, 1, 0x05, 1, .u16, .rw, 2, 100, (some 10), (some 2000), 4, false⟩,
   ⟨0x6020, 1, 0x06, 1, .u32, .rwc, 4, 0, none, none, 4, true⟩,
   ⟨0x6020, 1, 0x07, 1, .bool, .rw, 1, 1, none, none, 4, false⟩,
   ⟨0x6030, 1, 0x01, 1, .bool, .rws, 1, 0, none, none, 2, false⟩,
   ⟨0x6030, 1, 0x02, 1, .u8, .rw, 1, 8, (some 4), (some 12), 4, false⟩,
   ⟨0x6030, 1, 0x03, 1, .u16, .rw, 2, 256, (some 16), (some 4096), 4, false⟩,
   ⟨0x6030, 1, 0x04, 1, .u16, .rw, 2, 64, none, none, 4, false⟩,
   ⟨0x6030, 1, 0x05, 1, .u8, .rw, 1, 0, (some 0), (some 1), 4, false⟩]

/-- Rows 0x6030 to 0x7100 of the object tables (R343). -/
def objRows6 : List ObjRow :=
  [⟨0x6030, 1, 0x06, 1, .u16, .rw, 2, 4096, (some 1), (some 32767), 4, false⟩,
   ⟨0x6030, 1, 0x07, 1, .u16, .rl, 2, 0, none, none, 4, false⟩,
   ⟨0x6030, 1, 0x08, 1, .u8, .rl, 1, 0, none, none, 4, false⟩,
   ⟨0x6030, 1, 0x09, 1, .u32, .rwc, 4, 0, none, none, 4, true⟩,
   ⟨0x6040, 1, 0x01, 1, .u8, .rw, 1, 0, (some 0), (some 1), 4, false⟩,
   ⟨0x6040, 1, 0x02, 1, .u8, .rw, 1, 3, (some 2), (some 3), 4, false⟩,
   ⟨0x6040, 1, 0x03, 1, .u16, .rw, 2, 2000, none, none, 4, false⟩,
   ⟨0x6040, 1, 0x04, 1, .blob, .rl, 12, 0, none, none, 4, false⟩,
   ⟨0x6040, 1, 0x05, 1, .u8, .rl, 1, 0, none, none, 4, false⟩,
   ⟨0x6040, 1, 0x06, 1, .u32, .rwc, 4, 0, none, none, 4, true⟩,
   ⟨0x6100, 8, 0x01, 1, .u32, .rl, 4, 0, none, none, 4, false⟩,
   ⟨0x6100, 8, 0x02, 1, .u64, .rl, 8, 0, none, none, 4, false⟩,
   ⟨0x6100, 8, 0x03, 1, .u8, .rl, 1, 0, none, none, 4, false⟩,
   ⟨0x6200, 1, 0x01, 1, .u32, .rw, 4, 16777216, none, none, 4, false⟩,
   ⟨0x6200, 1, 0x02, 1, .u32, .rw, 4, 218103808, none, none, 4, false⟩,
   ⟨0x6200, 1, 0x03, 1, .u32, .rw, 4, 201326592, none, none, 4, false⟩,
   ⟨0x6200, 1, 0x04, 1, .u8, .rw, 1, 0, (some 0), (some 2), 4, false⟩,
   ⟨0x6200, 1, 0x05, 1, .u8, .rw, 1, 0, (some 0), (some 1), 4, false⟩,
   ⟨0x6200, 1, 0x06, 1, .blob, .rl, 8, 0, none, none, 4, false⟩,
   ⟨0x6200, 1, 0x07, 1, .u32, .rl, 4, 0, none, none, 4, false⟩,
   ⟨0x6200, 1, 0x08, 1, .bool, .rw, 1, 1, none, none, 4, false⟩,
   ⟨0x6200, 1, 0x09, 1, .u8, .rw, 1, 0, (some 0), (some 1), 4, false⟩,
   ⟨0x6200, 1, 0x0A, 1, .u8, .rl, 1, 255, none, none, 4, false⟩,
   ⟨0x6210, 1, 0x00, 1, .blob, .rw, 536870912, 0, none, none, 4, false⟩,
   ⟨0x6211, 1, 0x01, 1, .u8, .rw, 1, 0, none, none, 4, false⟩,
   ⟨0x6211, 1, 0x02, 1, .u32, .rw, 4, 0, none, none, 4, false⟩,
   ⟨0x6211, 1, 0x03, 1, .u32, .rw, 4, 0, none, none, 4, false⟩,
   ⟨0x6211, 1, 0x04, 1, .u8, .rw, 1, 0, (some 0), (some 1), 4, false⟩,
   ⟨0x6211, 1, 0x05, 1, .blob, .rw, 256, 0, none, none, 4, false⟩,
   ⟨0x7001, 1, 0x01, 1, .u64, .rl, 8, 0, none, none, 4, false⟩,
   ⟨0x7002, 1, 0x01, 1, .u8, .rw, 1, 0, (some 0), (some 15), 4, false⟩,
   ⟨0x7002, 1, 0x02, 1, .u8, .rw, 1, 0, (some 0), (some 1), 4, false⟩,
   ⟨0x7002, 1, 0x03, 1, .u32, .rw, 4, 0, none, none, 4, false⟩,
   ⟨0x7002, 1, 0x04, 1, .u8, .rw, 1, 0, (some 0), (some 1), 4, false⟩,
   ⟨0x7100, 16, 0x01, 1, .u8, .rw, 1, 0, none, none, 4, false⟩,
   ⟨0x7100, 16, 0x02, 1, .u8, .rw, 1, 8, none, none, 4, false⟩,
   ⟨0x7100, 16, 0x03, 1, .u8, .rw, 1, 2, none, none, 4, false⟩,
   ⟨0x7100, 16, 0x04, 1, .bool, .rw, 1, 0, none, none, 4, false⟩,
   ⟨0x7100, 16, 0x05, 1, .u16, .rw, 2, 0, none, none, 4, false⟩,
   ⟨0x7100, 16, 0x06, 1, .u16, .rw, 2, 0, none, none, 4, false⟩]

/-- Rows 0x7100 to 0x8010 of the object tables (R343). -/
def objRows7 : List ObjRow :=
  [⟨0x7100, 16, 0x07, 1, .u16, .rw, 2, 6144, none, none, 4, false⟩,
   ⟨0x7100, 16, 0x08, 1, .u16, .rw, 2, 5120, none, none, 4, false⟩,
   ⟨0x7100, 16, 0x09, 1, .bool, .rw, 1, 0, none, none, 4, false⟩,
   ⟨0x7100, 16, 0x0A, 1, .u16, .rw, 2, 1, none, none, 4, false⟩,
   ⟨0x7100, 16, 0x0B, 1, .u8, .rw, 1, 0, none, none, 4, false⟩,
   ⟨0x7100, 16, 0x0C, 1, .u8, .rw, 1, 1, none, none, 4, false⟩,
   ⟨0x7100, 16, 0x0D, 1, .u8, .rw, 1, 0, none, none, 4, false⟩,
   ⟨0x7100, 16, 0x0E, 1, .u32, .rw, 4, 0, none, none, 4, false⟩,
   ⟨0x7100, 16, 0x0F, 1, .u64, .rw, 8, 0, (some 0), (some 281474976710655), 4, false⟩,
   ⟨0x7100, 16, 0x10, 1, .u8, .rw, 1, 28, (some 12), (some 48), 4, false⟩,
   ⟨0x7100, 16, 0x11, 1, .u8, .rw, 1, 0, (some 0), (some 2), 4, false⟩,
   ⟨0x7100, 16, 0x12, 1, .u64, .rw, 8, 0, (some 0), (some 281474976710655), 4, false⟩,
   ⟨0x7100, 16, 0x13, 1, .u8, .rw, 1, 16, (some 12), (some 32), 4, false⟩,
   ⟨0x7100, 16, 0x14, 1, .u16, .rw, 2, 1000, (some 10), (some 60000), 4, false⟩,
   ⟨0x7200, 16, 0x01, 1, .u8, .rl, 1, 0, none, none, 4, false⟩,
   ⟨0x7200, 16, 0x02, 1, .u8, .rl, 1, 0, none, none, 4, false⟩,
   ⟨0x7200, 16, 0x03, 1, .u64, .rl, 8, 0, none, none, 4, false⟩,
   ⟨0x7200, 16, 0x04, 1, .u64, .rl, 8, 0, none, none, 4, false⟩,
   ⟨0x7200, 16, 0x05, 1, .u64, .rl, 8, 0, none, none, 4, false⟩,
   ⟨0x7200, 16, 0x06, 1, .u64, .rl, 8, 0, none, none, 4, false⟩,
   ⟨0x7200, 16, 0x07, 1, .u32, .rl, 4, 0, none, none, 4, false⟩,
   ⟨0x7200, 16, 0x08, 1, .u32, .rwc, 4, 0, none, none, 4, true⟩,
   ⟨0x7200, 16, 0x09, 1, .u32, .rwc, 4, 0, none, none, 4, true⟩,
   ⟨0x7200, 16, 0x0A, 1, .u32, .rwc, 4, 0, none, none, 4, true⟩,
   ⟨0x7200, 16, 0x0B, 1, .u32, .rwc, 4, 0, none, none, 4, true⟩,
   ⟨0x7200, 16, 0x0C, 1, .u32, .rwc, 4, 0, none, none, 4, true⟩,
   ⟨0x7200, 16, 0x0D, 1, .u32, .rwc, 4, 0, none, none, 4, true⟩,
   ⟨0x7200, 16, 0x0E, 1, .u8, .rl, 1, 0, none, none, 4, false⟩,
   ⟨0x7200, 16, 0x0F, 1, .u64, .rl, 8, 0, none, none, 4, false⟩,
   ⟨0x7200, 16, 0x10, 1, .u32, .rl, 4, 0, none, none, 4, false⟩,
   ⟨0x8001, 1, 0x01, 1, .u64, .ro, 8, 0, none, none, 4, false⟩,
   ⟨0x8001, 1, 0x02, 1, .u32, .rw, 4, 100, (some 10), (some 10000), 4, false⟩,
   ⟨0x8001, 1, 0x03, 1, .u16, .rw, 2, 10, (some 2), (some 1000), 4, false⟩,
   ⟨0x8001, 1, 0x04, 1, .u32, .rw, 4, 1000, (some 100), (some 1000000), 4, false⟩,
   ⟨0x8010, 8, 0x01, 1, .bool, .rw, 1, 1, none, none, 4, false⟩,
   ⟨0x8010, 8, 0x02, 1, .u8, .rw, 1, 0, (some 0), (some 2), 4, false⟩,
   ⟨0x8010, 8, 0x03, 1, .u8, .rw, 1, 1, (some 0), (some 1), 4, false⟩,
   ⟨0x8010, 8, 0x04, 1, .u8, .rw, 1, 3, (some 0), (some 7), 4, false⟩,
   ⟨0x8010, 8, 0x05, 1, .bool, .rw, 1, 0, none, none, 4, false⟩,
   ⟨0x8010, 8, 0x06, 1, .u16, .rw, 2, 50, (some 10), (some 1000), 4, false⟩]

/-- Rows 0x8010 to 0xa001 of the object tables (R343). -/
def objRows8 : List ObjRow :=
  [⟨0x8010, 8, 0x07, 1, .u8, .rw, 1, 0, (some 0), (some 2), 4, false⟩,
   ⟨0x8010, 8, 0x08, 1, .u8, .rw, 1, 3, none, none, 4, false⟩,
   ⟨0x8010, 8, 0x09, 1, .i32, .rw, 4, 0, none, none, 4, false⟩,
   ⟨0x8010, 8, 0x0A, 1, .u8, .rw, 1, 0, (some 0), (some 1), 4, false⟩,
   ⟨0x8100, 8, 0x01, 1, .u8, .rl, 1, 0, none, none, 4, false⟩,
   ⟨0x8100, 8, 0x02, 1, .u8, .rl, 1, 0, none, none, 4, false⟩,
   ⟨0x8100, 8, 0x03, 1, .u64, .rl, 8, 0, none, none, 4, false⟩,
   ⟨0x8100, 8, 0x04, 1, .u32, .rl, 4, 0xFC38FC00, none, none, 4, false⟩,
   ⟨0x8100, 8, 0x05, 1, .u32, .rl, 4, 0, none, none, 4, false⟩,
   ⟨0x8100, 8, 0x06, 1, .u8, .rl, 1, 0, none, none, 4, false⟩,
   ⟨0x8100, 8, 0x07, 1, .u64, .rl, 8, 0, none, none, 4, false⟩,
   ⟨0x8100, 8, 0x08, 1, .u8, .rl, 1, 0, none, none, 4, false⟩,
   ⟨0x8100, 8, 0x09, 1, .i32, .rl, 4, 0, none, none, 4, false⟩,
   ⟨0x8100, 8, 0x0A, 1, .blob, .rwc, 128, 0, none, none, 4, true⟩,
   ⟨0x8200, 1, 0x01, 1, .u8, .rw, 1, 0, (some 0), (some 7), 4, false⟩,
   ⟨0x8200, 1, 0x02, 1, .u8, .rw, 1, 7, none, none, 4, false⟩,
   ⟨0x8200, 1, 0x03, 1, .u8, .rw, 1, 24, (some 20), (some 36), 4, false⟩,
   ⟨0x8200, 1, 0x04, 1, .u8, .rw, 1, 0, (some 0), (some 1), 4, false⟩,
   ⟨0x8200, 1, 0x05, 1, .u8, .rl, 1, 0, none, none, 4, false⟩,
   ⟨0x8200, 1, 0x06, 1, .u16, .rl, 2, 0, none, none, 4, false⟩,
   ⟨0x8200, 1, 0x07, 1, .blob, .rl, 196608, 0, none, none, 4, false⟩,
   ⟨0x9001, 1, 0x01, 1, .u16, .rws, 2, 64, (some 8), (some 1024), 1, false⟩,
   ⟨0x9001, 1, 0x02, 1, .u16, .rl, 2, 64, none, none, 4, false⟩,
   ⟨0x9001, 1, 0x03, 1, .u64, .rl, 8, 0, none, none, 4, false⟩,
   ⟨0x9001, 1, 0x04, 1, .u64, .rl, 8, 0, none, none, 4, false⟩,
   ⟨0x9002, 1, 0x00, 1, .blob, .rw, 4736, 0, none, none, 4, false⟩,
   ⟨0x9003, 1, 0x00, 1, .blob, .rl, 4736, 0, none, none, 4, false⟩,
   ⟨0x9004, 1, 0x01, 1, .u8, .rw, 1, 0, (some 0), (some 1), 4, false⟩,
   ⟨0x9004, 1, 0x02, 1, .u16, .rl, 2, 0, none, none, 4, false⟩,
   ⟨0x9005, 1, 0x00, 1, .blob, .rl, 4736, 0, none, none, 4, false⟩,
   ⟨0x9006, 1, 0x00, 1, .blob, .rl, 296, 0, none, none, 4, false⟩,
   ⟨0x9007, 1, 0x00, 1, .blob, .rwc, 9472, 0, none, none, 4, true⟩,
   ⟨0x9008, 1, 0x00, 1, .blob, .rw, 128, 0, none, none, 4, false⟩,
   ⟨0x9009, 1, 0x01, 1, .u16, .rw, 2, 48, (some 1), (some 96), 4, false⟩,
   ⟨0x9009, 1, 0x02, 1, .blob, .rl, 8, 0, none, none, 4, false⟩,
   ⟨0x9010, 1, 0x01, 1, .blob, .rwc, 256, 0, none, none, 4, true⟩,
   ⟨0x9010, 1, 0x02, 1, .u32, .rl, 4, 0, none, none, 4, false⟩,
   ⟨0x9011, 1, 0x01, 1, .u32, .rwc, 4, 0, none, none, 4, true⟩,
   ⟨0x9011, 1, 0x02, 1, .u32, .rwc, 4, 0, none, none, 4, true⟩,
   ⟨0xA001, 1, 0x01, 1, .bool, .rw, 1, 1, none, none, 4, false⟩]

/-- Rows 0xa001 to 0xb000 of the object tables (R343). -/
def objRows9 : List ObjRow :=
  [⟨0xA001, 1, 0x02, 1, .u16, .rw, 2, 100, (some 20), (some 500), 4, false⟩,
   ⟨0xA001, 1, 0x03, 1, .bool, .rw, 1, 1, none, none, 4, false⟩,
   ⟨0xA001, 1, 0x04, 1, .u16, .rw, 2, 50, (some 20), (some 500), 4, false⟩,
   ⟨0xA001, 1, 0x05, 1, .u32, .rl, 4, 0, none, none, 4, false⟩,
   ⟨0xA001, 1, 0x06, 1, .u8, .rl, 1, 0, none, none, 4, false⟩,
   ⟨0xA001, 1, 0x07, 1, .u8, .rwc, 1, 0, none, none, 4, false⟩,
   ⟨0xA001, 1, 0x08, 1, .u32, .rl, 4, 0, none, none, 4, false⟩,
   ⟨0xA001, 1, 0x09, 1, .u32, .rwc, 4, 0, none, none, 4, true⟩,
   ⟨0xA001, 1, 0x0A, 1, .u64, .rl, 8, 0, none, none, 4, false⟩,
   ⟨0xA001, 1, 0x0B, 1, .u8, .rw, 1, 0, (some 0), (some 2), 4, false⟩,
   ⟨0xA001, 1, 0x0C, 1, .u8, .rl, 1, 0, none, none, 4, false⟩,
   ⟨0xA001, 1, 0x0D, 1, .u64, .rl, 8, 0, none, none, 4, false⟩,
   ⟨0xA001, 1, 0x0E, 1, .i16, .rw, 2, 60, (some (-40)), (some 150), 4, false⟩,
   ⟨0xA001, 1, 0x0F, 1, .u16, .rw, 2, 2000, (some 10), (some 60000), 4, false⟩,
   ⟨0xA001, 1, 0x10, 1, .u16, .rw, 2, 5, (some 1), (some 1000), 4, false⟩,
   ⟨0xA001, 1, 0x11, 1, .u16, .rw, 2, 12000, none, none, 4, false⟩,
   ⟨0xA002, 1, 0x00, 1, .blob, .rw, 32, 0, none, none, 4, false⟩,
   ⟨0xA010, 2, 0x01, 1, .blob, .rw, 1024, 0, none, none, 4, false⟩,
   ⟨0xA010, 2, 0x02, 1, .blob, .rw, 64, 0, none, none, 4, false⟩,
   ⟨0xA010, 2, 0x03, 1, .u8, .rl, 1, 0, none, none, 4, false⟩,
   ⟨0xA010, 2, 0x04, 1, .u8, .rw, 1, 0, (some 0), (some 1), 4, false⟩,
   ⟨0xA010, 2, 0x05, 1, .u8, .rl, 1, 0, none, none, 4, false⟩,
   ⟨0xA010, 2, 0x06, 1, .u32, .rl, 4, 0, none, none, 4, false⟩,
   ⟨0xA010, 2, 0x07, 1, .blob, .rl, 8, 0, none, none, 4, false⟩,
   ⟨0xA010, 2, 0x08, 1, .u8, .rl, 1, 0, none, none, 4, false⟩,
   ⟨0xA010, 2, 0x09, 1, .u8, .rl, 1, 0, none, none, 4, false⟩,
   ⟨0xA020, 8, 0x01, 1, .u32, .rw, 4, 6000, none, none, 4, false⟩,
   ⟨0xA020, 8, 0x02, 1, .u32, .rw, 4, 200, none, none, 4, false⟩,
   ⟨0xA020, 8, 0x03, 1, .u32, .rw, 4, 20000, none, none, 4, false⟩,
   ⟨0xA020, 8, 0x04, 1, .i16, .rw, 2, 130, none, none, 4, false⟩,
   ⟨0xA020, 8, 0x05, 1, .u32, .rw, 4, 50000, none, none, 4, false⟩,
   ⟨0xA020, 8, 0x06, 1, .i32, .rl, 4, 0, none, none, 4, false⟩,
   ⟨0xA020, 8, 0x07, 1, .u32, .rl, 4, 0, none, none, 4, false⟩,
   ⟨0xA020, 8, 0x08, 1, .u16, .rl, 2, 0, none, none, 4, false⟩,
   ⟨0xA020, 8, 0x09, 1, .u16, .rl, 2, 0, none, none, 4, false⟩,
   ⟨0xA020, 8, 0x0A, 1, .blob, .rwc, 56, 0, none, none, 4, true⟩,
   ⟨0xB000, 1, 0x01, 1, .u8, .rw, 1, 1, (some 0), (some 1), 4, false⟩,
   ⟨0xB000, 1, 0x02, 1, .u16, .rw, 2, 166, (some 10), (some 166), 4, false⟩,
   ⟨0xB000, 1, 0x03, 1, .u16, .rw, 2, 200, (some 10), (some 200), 4, false⟩,
   ⟨0xB000, 1, 0x04, 1, .u8, .rl, 1, 0, none, none, 4, false⟩]

/-- Rows 0xb000 to 0xb203 of the object tables (R343). -/
def objRows10 : List ObjRow :=
  [⟨0xB000, 1, 0x05, 1, .u64, .rl, 8, 0, none, none, 4, false⟩,
   ⟨0xB000, 1, 0x06, 1, .u8, .rl, 1, 0, none, none, 4, false⟩,
   ⟨0xB000, 1, 0x07, 1, .u16, .rw, 2, 10, (some 1), (some 1000), 4, false⟩,
   ⟨0xB000, 1, 0x08, 1, .u8, .rl, 1, 0, none, none, 4, false⟩,
   ⟨0xB000, 1, 0x09, 1, .u32, .rl, 4, 0, none, none, 4, false⟩,
   ⟨0xB000, 1, 0x0A, 1, .bool, .rw, 1, 1, none, none, 4, false⟩,
   ⟨0xB000, 1, 0x0B, 1, .u32, .rl, 4, 0, none, none, 4, false⟩,
   ⟨0xB000, 1, 0x0C, 1, .u32, .rl, 4, 0, none, none, 4, false⟩,
   ⟨0xB000, 1, 0x0D, 1, .u32, .rwc, 4, 0, none, none, 4, true⟩,
   ⟨0xB001, 1, 0x00, 1, .blob, .rw, 268435456, 0, none, none, 4, false⟩,
   ⟨0xB002, 1, 0x01, 1, .u32, .rw, 4, 0, none, none, 4, false⟩,
   ⟨0xB002, 1, 0x02, 1, .u8, .rw, 1, 0, (some 0), (some 1), 4, false⟩,
   ⟨0xB002, 1, 0x03, 1, .u8, .rw, 1, 0, (some 0), (some 1), 4, false⟩,
   ⟨0xB003, 1, 0x00, 1, .blob, .rl, 256, 0, none, none, 4, false⟩,
   ⟨0xB100, 1, 0x01, 1, .bool, .rw, 1, 1, none, none, 4, false⟩,
   ⟨0xB100, 1, 0x02, 1, .u32, .rwc, 4, 0, none, none, 4, true⟩,
   ⟨0xB100, 1, 0x03, 1, .u32, .rwc, 4, 0, none, none, 4, true⟩,
   ⟨0xB100, 1, 0x04, 1, .u32, .rwc, 4, 0, none, none, 4, true⟩,
   ⟨0xB100, 1, 0x05, 1, .u16, .rw, 2, 10, (some 1), (some 1000), 4, false⟩,
   ⟨0xB100, 1, 0x06, 1, .u32, .rl, 4, 0, none, none, 4, false⟩,
   ⟨0xB200, 1, 0x01, 1, .u8, .rw, 1, 1, (some 0), (some 1), 4, false⟩,
   ⟨0xB200, 1, 0x02, 1, .u8, .rw, 1, 1, (some 0), (some 2), 4, false⟩,
   ⟨0xB200, 1, 0x03, 1, .u8, .rw, 1, 58, (some 8), (some 119), 4, false⟩,
   ⟨0xB200, 1, 0x04, 1, .bool, .rw, 1, 1, none, none, 4, false⟩,
   ⟨0xB200, 1, 0x05, 1, .u8, .rl, 1, 0, none, none, 4, false⟩,
   ⟨0xB200, 1, 0x06, 1, .u32, .rwc, 4, 0, none, none, 4, true⟩,
   ⟨0xB200, 1, 0x07, 1, .u8, .rw, 1, 25, (some 1), (some 100), 4, false⟩,
   ⟨0xB201, 1, 0x01, 1, .u8, .rw, 1, 0, (some 8), (some 119), 4, false⟩,
   ⟨0xB201, 1, 0x02, 1, .u8, .rw, 1, 0, (some 0), (some 32), 4, false⟩,
   ⟨0xB201, 1, 0x03, 1, .u8, .rw, 1, 0, (some 0), (some 32), 4, false⟩,
   ⟨0xB201, 1, 0x04, 1, .blob, .rw, 32, 0, none, none, 4, false⟩,
   ⟨0xB201, 1, 0x05, 1, .blob, .rl, 32, 0, none, none, 4, false⟩,
   ⟨0xB201, 1, 0x06, 1, .u8, .rw, 1, 0, (some 0), (some 1), 4, false⟩,
   ⟨0xB202, 1, 0x01, 1, .blob, .rl, 64, 0, none, none, 4, false⟩,
   ⟨0xB202, 1, 0x02, 1, .blob, .rw, 64, 0, none, none, 4, false⟩,
   ⟨0xB202, 1, 0x03, 1, .u32, .rl, 4, 0, none, none, 4, false⟩,
   ⟨0xB203, 1, 0x01, 1, .u8, .rw, 1, 80, none, none, 4, false⟩,
   ⟨0xB203, 1, 0x02, 1, .u16, .rw, 2, 1000, none, none, 4, false⟩,
   ⟨0xB203, 1, 0x03, 1, .u8, .rl, 1, 0, none, none, 4, false⟩,
   ⟨0xB203, 1, 0x04, 1, .blob, .rl, 64, 0, none, none, 4, false⟩]

/-- Rows 0xb203 to 0xc011 of the object tables (R343). -/
def objRows11 : List ObjRow :=
  [⟨0xB203, 1, 0x05, 1, .u32, .rl, 4, 0, none, none, 4, false⟩,
   ⟨0xB800, 1, 0x01, 1, .bool, .rw, 1, 1, none, none, 4, false⟩,
   ⟨0xB800, 1, 0x02, 1, .u8, .rw, 1, 3, (some 0), (some 3), 4, false⟩,
   ⟨0xB800, 1, 0x03, 1, .u8, .rw, 1, 4, (some 0), (some 4), 4, false⟩,
   ⟨0xB800, 1, 0x04, 1, .u8, .rw, 1, 80, (some 60), (some 90), 4, false⟩,
   ⟨0xB800, 1, 0x05, 1, .u8, .rw, 1, 70, (some 60), (some 90), 4, false⟩,
   ⟨0xB800, 1, 0x06, 1, .u8, .rw, 1, 0, (some 0), (some 1), 4, false⟩,
   ⟨0xB800, 1, 0x07, 1, .u8, .rl, 1, 0, none, none, 4, false⟩,
   ⟨0xB800, 1, 0x08, 1, .bool, .rw, 1, 1, none, none, 4, false⟩,
   ⟨0xB800, 1, 0x09, 1, .u8, .rl, 1, 0, none, none, 4, false⟩,
   ⟨0xB801, 1, 0x01, 1, .u8, .rw, 1, 16, (some 1), (some 127), 4, false⟩,
   ⟨0xB801, 1, 0x02, 1, .u8, .rl, 1, 0, none, none, 4, false⟩,
   ⟨0xB801, 1, 0x03, 1, .u8, .rl, 1, 0, none, none, 4, false⟩,
   ⟨0xB801, 1, 0x04, 1, .u16, .rw, 2, 100, (some 10), (some 10000), 4, false⟩,
   ⟨0xB801, 1, 0x05, 1, .u16, .rw, 2, 1000, (some 30), (some 60000), 4, false⟩,
   ⟨0xB801, 1, 0x06, 1, .u32, .rl, 4, 0, none, none, 4, false⟩,
   ⟨0xB801, 1, 0x07, 1, .u16, .rw, 2, 100, (some 10), (some 10000), 4, false⟩,
   ⟨0xB801, 1, 0x08, 1, .u8, .rw, 1, 32, (some 1), (some 32), 4, false⟩,
   ⟨0xB802, 1, 0x01, 1, .bool, .rw, 1, 1, none, none, 4, false⟩,
   ⟨0xB802, 1, 0x02, 1, .bool, .rw, 1, 1, none, none, 4, false⟩,
   ⟨0xB802, 1, 0x03, 1, .u16, .rw, 2, 100, none, none, 4, false⟩,
   ⟨0xB803, 1, 0x01, 1, .u32, .rwc, 4, 0, none, none, 4, true⟩,
   ⟨0xB803, 1, 0x02, 1, .u32, .rwc, 4, 0, none, none, 4, true⟩,
   ⟨0xB803, 1, 0x03, 1, .u32, .rwc, 4, 0, none, none, 4, true⟩,
   ⟨0xB803, 1, 0x04, 1, .u32, .rwc, 4, 0, none, none, 4, true⟩,
   ⟨0xC001, 1, 0x01, 1, .u8, .rl, 1, 0, none, none, 4, false⟩,
   ⟨0xC001, 1, 0x02, 1, .blob, .rl, 48, 0, none, none, 4, false⟩,
   ⟨0xC001, 1, 0x03, 1, .u8, .rw, 1, 0, (some 0), (some 3), 4, false⟩,
   ⟨0xC001, 1, 0x04, 1, .u8, .rw, 1, 9, none, none, 4, false⟩,
   ⟨0xC001, 1, 0x05, 1, .u8, .rl, 1, 0, none, none, 4, false⟩,
   ⟨0xC001, 1, 0x06, 1, .u32, .rw, 4, 0, none, none, 4, false⟩,
   ⟨0xC001, 1, 0x07, 1, .u8, .rw, 1, 0, (some 0), (some 1), 4, false⟩,
   ⟨0xC001, 1, 0x08, 1, .u8, .rl, 1, 1, none, none, 4, false⟩,
   ⟨0xC002, 1, 0x00, 1, .blob, .rl, 30, 0, none, none, 4, false⟩,
   ⟨0xC003, 1, 0x00, 1, .u16, .rl, 2, 0, none, none, 4, false⟩,
   ⟨0xC010, 1, 0x01, 1, .blob, .rl, 80, 0, none, none, 4, false⟩,
   ⟨0xC010, 1, 0x02, 1, .i16, .rl, 2, 0, none, none, 4, false⟩,
   ⟨0xC010, 1, 0x03, 1, .u8, .rl, 1, 0, none, none, 4, false⟩,
   ⟨0xC010, 1, 0x04, 1, .i16, .rwc, 2, 0, none, none, 4, false⟩,
   ⟨0xC011, 1, 0x01, 1, .u16, .rw, 2, 1400, (some 850), (some 1500), 4, false⟩]

/-- Rows 0xc011 to 0xe001 of the object tables (R343). -/
def objRows12 : List ObjRow :=
  [⟨0xC011, 1, 0x02, 1, .u16, .rw, 2, 50, (some 1), (some 10000), 4, false⟩,
   ⟨0xC011, 1, 0x03, 1, .u8, .rl, 1, 0, none, none, 4, false⟩,
   ⟨0xC011, 1, 0x04, 1, .u32, .rwc, 4, 0, none, none, 4, true⟩,
   ⟨0xC011, 1, 0x05, 1, .u32, .rwc, 4, 0, none, none, 4, true⟩,
   ⟨0xC020, 1, 0x01, 1, .u32, .rl, 4, 0, none, none, 4, false⟩,
   ⟨0xC020, 1, 0x02, 1, .blob, .rl, 2048, 0, none, none, 4, false⟩,
   ⟨0xC020, 1, 0x03, 1, .u8, .rl, 1, 0, none, none, 4, false⟩,
   ⟨0xC030, 1, 0x01, 1, .u8, .rl, 1, 0, none, none, 4, false⟩,
   ⟨0xC030, 1, 0x02, 1, .u32, .rl, 4, 0, none, none, 4, false⟩,
   ⟨0xC030, 1, 0x03, 1, .u32, .rl, 4, 0, none, none, 4, false⟩,
   ⟨0xD001, 1, 0x01, 1, .bool, .rw, 1, 0, none, none, 4, false⟩,
   ⟨0xD001, 1, 0x02, 1, .bool, .rw, 1, 1, none, none, 4, false⟩,
   ⟨0xD001, 1, 0x03, 1, .u8, .rw, 1, 1, (some 1), (some 15), 4, false⟩,
   ⟨0xD001, 1, 0x04, 1, .u32, .rw, 4, 320, (some 64), (some 64000), 4, false⟩,
   ⟨0xD001, 1, 0x05, 1, .i32, .rw, 4, 0, none, none, 4, false⟩,
   ⟨0xD001, 1, 0x06, 1, .bool, .rw, 1, 0, none, none, 4, false⟩,
   ⟨0xD001, 1, 0x07, 1, .u8, .rw, 1, 3, (some 1), (some 255), 4, false⟩,
   ⟨0xD001, 1, 0x08, 1, .u8, .rw, 1, 0, (some 0), (some 1), 4, false⟩,
   ⟨0xD001, 1, 0x09, 1, .u8, .rw, 1, 0, none, none, 4, false⟩,
   ⟨0xD002, 1, 0x01, 1, .u8, .rl, 1, 0, none, none, 4, false⟩,
   ⟨0xD002, 1, 0x02, 1, .u8, .rl, 1, 255, none, none, 4, false⟩,
   ⟨0xD002, 1, 0x03, 1, .u64, .rl, 8, 0, none, none, 4, false⟩,
   ⟨0xD002, 1, 0x04, 1, .i32, .rl, 4, 0, none, none, 4, false⟩,
   ⟨0xD002, 1, 0x05, 1, .i32, .rl, 4, 0, none, none, 4, false⟩,
   ⟨0xD002, 1, 0x06, 1, .u8, .rl, 1, 0, none, none, 4, false⟩,
   ⟨0xD002, 1, 0x07, 1, .u16, .rl, 2, 0, none, none, 4, false⟩,
   ⟨0xD002, 1, 0x08, 1, .blob, .rl, 256, 0, none, none, 4, false⟩,
   ⟨0xD002, 1, 0x09, 1, .u64, .rl, 8, 0, none, none, 4, false⟩,
   ⟨0xD003, 1, 0x00, 1, .blob, .rw, 256, 0, none, none, 4, false⟩,
   ⟨0xD004, 1, 0x00, 1, .blob, .rw, 32, 0, none, none, 4, false⟩,
   ⟨0xD005, 1, 0x01, 1, .u32, .rwc, 4, 0, none, none, 4, true⟩,
   ⟨0xD005, 1, 0x02, 1, .u32, .rwc, 4, 0, none, none, 4, true⟩,
   ⟨0xD005, 1, 0x03, 1, .u32, .rwc, 4, 0, none, none, 4, true⟩,
   ⟨0xD005, 1, 0x04, 1, .u32, .rl, 4, 0, none, none, 4, false⟩,
   ⟨0xD005, 1, 0x05, 1, .u32, .rwc, 4, 0, none, none, 4, true⟩,
   ⟨0xD005, 1, 0x06, 1, .u32, .rwc, 4, 0, none, none, 4, true⟩,
   ⟨0xD005, 1, 0x07, 1, .u32, .rwc, 4, 0, none, none, 4, true⟩,
   ⟨0xD005, 1, 0x08, 1, .u64, .rl, 8, 0, none, none, 4, false⟩,
   ⟨0xD005, 1, 0x09, 1, .u16, .rl, 2, 0, none, none, 4, false⟩,
   ⟨0xE001, 1, 0x00, 1, .blob, .rl, 20, 0, none, none, 4, false⟩]

/-- Rows 0xe002 to 0xe004 of the object tables (R343). -/
def objRows13 : List ObjRow :=
  [⟨0xE002, 1, 0x00, 1, .u32, .rl, 4, 0, none, none, 4, false⟩,
   ⟨0xE003, 1, 0x00, 1, .blob, .rl, 1024, 0, none, none, 4, false⟩,
   ⟨0xE004, 1, 0x00, 1, .blob, .rl, 1024, 0, none, none, 4, false⟩]

/-- Every object of the part (R343), in ascending index order. -/
def objRows : List ObjRow :=
  objRows0 ++ objRows1 ++ objRows2 ++ objRows3 ++ objRows4 ++ objRows5 ++ objRows6 ++ objRows7 ++ objRows8 ++ objRows9 ++ objRows10 ++ objRows11 ++ objRows12 ++ objRows13
/-! ## Lookup -/

/-- The key of the object `index:sub` (R335). -/
def objKey (index sub : Nat) : Nat := (index * 256 + sub) * 2 ^ 32

/-- The row of an object, or `none` where there is no such object (R335, R357 NO_OBJECT). -/
def objRow? (index sub : Nat) : Option ObjRow :=
  objRows.find? fun r => r.index ≤ index && index < r.index + r.nIndex && r.sub ≤ sub && sub < r.sub + r.nSub

/-- The highest subindex in use of an index that holds objects at 0x01 and above (R335), 0 where there is none. -/
def topSub (index : Nat) : Nat :=
  ((objRows.filter fun r => r.index ≤ index && index < r.index + r.nIndex && 0 < r.sub).map
    fun r => r.sub + r.nSub - 1).foldl max 0

/-- Every object address of the part with its row, ascending (R344). Subindex 0x00 of a grouped index is a U8 of its
own (R335). -/
def objList : List (Nat × Nat × ObjRow) :=
  let one := objRows.flatMap fun r => (List.range r.nIndex).flatMap fun i => (List.range r.nSub).map fun j =>
    (r.index + i, r.sub + j, r)
  let tops := ((one.filter fun e => 0 < e.2.1).map (·.1)).dedup.map fun i =>
    (i, 0, (⟨i, 1, 0, 1, .u8, .ro, 1, topSub i, none, none, 4, false⟩ : ObjRow))
  (one ++ tops).mergeSort fun a b => a.1 * 256 + a.2.1 ≤ b.1 * 256 + b.2.1

/-- The type code of R336. -/
def ObjType.code : ObjType → Nat
  | .u8 => 1 | .u16 => 2 | .u32 => 3 | .u64 => 4 | .i16 => 5 | .i32 => 6 | .i64 => 7 | .bool => 8 | .str => 9
  | .blob => 10

/-- The access code of R337. -/
def Access.code : Access → Nat
  | .ro => 0 | .rw => 1 | .rws => 2 | .rwc => 3 | .rl => 4

/-- Two's complement types of R336. -/
def ObjType.signed : ObjType → Bool
  | .i16 | .i32 | .i64 => true
  | _ => false

/-- The value that the bytes of a scalar spell (R336). -/
def ObjType.ofBytes (t : ObjType) (bs : List Byte) : Int :=
  if t.signed then signedOf (8 * bs.length) (leVal bs) else (leVal bs : Int)

/-- The value a scalar of a row holds when `v` is put there: `v` modulo the width of its type (R336). -/
def ObjRow.wrap (r : ObjRow) (v : Int) : Int :=
  if r.ty.signed then signedOf (8 * r.size) (wrapNat (8 * r.size) v) else (wrapNat (8 * r.size) v : Int)

/-- The largest value of a scalar's type, at which a count saturates (R453). -/
def ObjRow.top (r : ObjRow) : Int := if r.ty.signed then 2 ^ (8 * r.size - 1) - 1 else 2 ^ (8 * r.size) - 1

/-- The OBJ_DIR entry of an object (R344). -/
def dirEntry (index sub : Nat) (r : ObjRow) : List Byte :=
  leBytes 4 (r.acc.code * 2 ^ 28 + r.ty.code * 2 ^ 24 + sub * 65536 + index) ++ leBytes 4 r.size

/-! ## Defaults (R338) -/

/-- R268: the default share of class `c` on instance `i` of the allocation tables, with BORROW in [15]. -/
def allocDefault (i c : Nat) : Nat :=
  let b := 0x8000
  let cell (eng cport seam egress flash dict act : Nat) : Nat :=
    if i < 64 then eng else if i < 128 then cport else if i < 136 then seam else if i < 144 then egress
    else if i = 144 then flash else if i = 145 then dict else act
  match c with
  | 0 => cell (b + 224) (b + 128) (b + 160) (b + 208) (b + 32) b b
  | 1 => cell (b + 16) 8 16 0 16 0 0
  | 2 => cell 0 (b + 32) 0 0 0 0 0
  | 3 => cell 0 (b + 64) 32 0 (b + 128) 0 0
  | 4 => cell 0 16 0 0 64 0 0
  | 5 => cell 0 0 (b + 32) 0 0 48 0
  | 6 => cell 0 0 0 (b + 16) 16 (b + 192) 0
  | 7 => cell 0 0 0 0 0 0 256
  | 8 => cell 0 0 0 16 0 0 0
  | _ => b

/-- R413: the default list of the objects under CONFIG_DIGEST, as index·256 + subindex. -/
def ensDefault : List Nat :=
  ((List.range 4).flatMap fun p => (List.range 8).map fun k => (0x3010 + p) * 256 + k + 1) ++
  ((List.range 8).map fun k => 0x302000 + k + 1) ++ [0x400101, 0x500101, 0x500102, 0x900101]

/-- The byte at `off` of a BLOB at its default (R338; the defaults of the object tables). -/
def blobDefault (index sub off : Nat) : Nat :=
  let oddByte (v : Nat) : Nat := if off % 2 = 1 then v else 0
  if 0x3010 ≤ index ∧ index ≤ 0x3013 then (if index = 0x3012 then (if off % 8 < 4 then 0x55 else 0) else 0xFF)
  else if index = 0x3031 then
    (if sub = 2 then (if off % 2 = 0 then off / 2 else 0) else (if off % 2 = 0 then 0x04 else 0x80))
  else if index = 0x3207 then (if sub = 4 then 4 else 0)
  else if index = 0x5001 then oddByte 0x40
  else if 0x5100 ≤ index ∧ index ≤ 0x5107 then
    (if sub = 7 then (if off % 8 = 1 then 0x10 else 0) else if sub = 9 then oddByte 0x40 else 0)
  else if index = 0x9002 ∨ index = 0x9003 then
    (let v := allocDefault (off / 32) (off % 32 / 2); if off % 2 = 0 then v % 256 else v / 256)
  else if index = 0x9008 then oddByte 1
  else if index = 0xA002 then [0x40, 0x80, 0x01, 0x81].getD off 0
  else if (index = 0xA010 ∨ index = 0xA011) ∧ sub = 2 then 0xFF
  else if index = 0xD003 then ((ensDefault.getD (off / 4) 0) >>> (8 * (off % 4))) % 256
  else if index = 0xD004 then 0xFF
  else 0

/-- The profile defaults of the table "Frame profiles": N, J_MASK and FRAME_LIMIT of profile `p`. -/
def profileDefault (p sub : Nat) : Option Nat :=
  match sub with
  | 1 => some (if p = 1 then 3136 else 736)
  | 5 => some (if p = 3 then 0xFF else 0)
  | 7 => some ([833333, 3333333, 208333, 833333].getD p 0)
  | _ => none

/-- WHAT AN UNLISTED KEY OF THE OBJECT STORE READS AS: the object's default (R338). VW_CLASS keeps 256 while it has not
been written, since its default depends on the view's source. -/
def objDefault (k : Nat) : Int :=
  let index := k / 2 ^ 40
  let sub := k / 2 ^ 32 % 256
  match objRow? index sub with
  | none => 0
  | some r =>
    if r.ty = .blob then (blobDefault index sub (k % 2 ^ 32) : Int)
    else if 0x3010 ≤ index ∧ index ≤ 0x3013 then ((profileDefault (index - 0x3010) sub).map Int.ofNat).getD r.dflt
    else if 0x7100 ≤ index ∧ index < 0x7110 ∧ sub = 0x0D then 256
    else r.dflt

end Sys2Proof.Machine
end

