-- ==== Sys2Proof/Machine/Ops.lean ====
section
/-! DEFINITION. The named operations over the stores, the byte memory, the objects, the bells, the gong line, the event
store and the live Masol, which every command uses. -/

namespace Sys2Proof.Machine

/-! ## Sparse stores in canonical form -/

/-- What key `k` reads as, `d` where it is not listed. -/
def Cells.get {α : Type} : List (Nat × α) → Nat → α → α
  | [], _, d => d
  | c :: r, k, d => if c.1 = k then c.2 else Cells.get r k d

/-- The list without key `k`. -/
def Cells.erase {α : Type} (l : List (Nat × α)) (k : Nat) : List (Nat × α) := l.filter fun c => c.1 ≠ k

/-- The list with `(k, v)` put in its place among rising keys. -/
def Cells.insert {α : Type} : List (Nat × α) → Nat → α → List (Nat × α)
  | [], k, v => [(k, v)]
  | c :: r, k, v => if k < c.1 then (k, v) :: c :: r else c :: Cells.insert r k v

/-- A write: the key is listed only when its value differs from what an unlisted key reads as. -/
def Cells.set {α : Type} [DecidableEq α] (l : List (Nat × α)) (k : Nat) (v d : α) : List (Nat × α) :=
  if v = d then Cells.erase l k else Cells.insert (Cells.erase l k) k v

/-- THE CANONICAL FORM: keys strictly rising, no entry equal to what an unlisted key reads as. -/
abbrev Cells.Wf {α : Type} (dflt : Nat → α) (l : List (Nat × α)) : Prop :=
  (l.map (·.1)).Pairwise (· < ·) ∧ ∀ c ∈ l, c.2 ≠ dflt c.1

/-! ## The byte memory: space · 2^40 + offset -/

/-- The spaces of the byte memory. -/
def lineBase (g : Nat) : Nat := 1 * 2 ^ 40 + g * 2 ^ 20
/-- The frame-state store of region `g` (R118). -/
def fstBase (g : Nat) : Nat := 2 * 2 ^ 40 + g * 2 ^ 22
/-- The histogram banks of region `g` (R118). -/
def histBase (g : Nat) : Nat := 3 * 2 ^ 40 + g * 2 ^ 16
/-- The scratch of physical engine `p` (R118). -/
def scratchBase (p : Nat) : Nat := 4 * 2 ^ 40 + p * 2 ^ 17
/-- The table area, one image for all 272 engines (R119). -/
def tableBase : Nat := 5 * 2 ^ 40
/-- Program slot `i` (R128). -/
def progBase (i : Nat) : Nat := 6 * 2 ^ 40 + i * 2 ^ 15
/-- The MC buffer (R103). -/
def mcBase : Nat := 8 * 2 ^ 40
/-- The flash device on FSPI (R364). -/
def flashBase : Nat := 9 * 2 ^ 40
/-- The event store (R437). -/
def nvmBase : Nat := 11 * 2 ^ 40
/-- J_RESULTS (R76). -/
def jBase : Nat := 12 * 2 ^ 40

/-- WHAT AN UNLISTED BYTE READS AS: 0xFF in the flash and in the event store, which are erased memories (R371, R437), and
0 elsewhere: stage 3 zeroes every region memory (R426) and the dictionary's memories default to 0 (log entry 6); the nodes of
both shading slots read 16,384, the flat grid (R204). -/
def memDefault (a : Nat) : Byte :=
  if a / 2 ^ 40 = 9 ∨ a / 2 ^ 40 = 11 then 0xFF
  else if a / 2 ^ 15 = 5 * 2 ^ 25 ∧ 0x4000 ≤ a % 2 ^ 15 ∧ a % 2 = 1 then 0x40
  else 0

/-- One byte of a memory. -/
def Mem.byte (m : Mem) (a : Nat) : Byte := Cells.get m a (memDefault a)

/-- Write bytes from an address upwards: what lies below and above stays, and of the new bytes those are listed that differ
from what an unlisted byte reads as. -/
def Mem.write (m : Mem) (a : Nat) (bs : List Byte) : Mem :=
  (m.filter fun c => c.1 < a) ++
  ((bs.zipIdx.map fun e => (a + e.2, e.1)).filter fun c => c.2 ≠ memDefault c.1) ++
  (m.filter fun c => a + bs.length ≤ c.1)

/-- `n` bytes from an address upwards. -/
def Mem.read (m : Mem) (a n : Nat) : List Byte := (List.range n).map fun i => Mem.byte m (a + i)

/-- Bytes `[lo, hi)` go back to what an unlisted byte reads as. -/
def Mem.clear (m : Mem) (lo hi : Nat) : Mem := m.filter fun c => c.1 < lo || hi ≤ c.1

/-- The canonical form of a byte memory. -/
abbrev Mem.Wf (m : Mem) : Prop := Cells.Wf memDefault m

/-- One byte of the state's memory. -/
def State.byte (s : State) (a : Nat) : Byte := Mem.byte s.mem a
/-- `n` bytes of the state's memory. -/
def State.bytes (s : State) (a n : Nat) : List Byte := Mem.read s.mem a n
/-- The little-endian number of `n` bytes (R11). -/
def State.le (s : State) (a n : Nat) : Nat := leVal (s.bytes a n)
/-- Store bytes; a written word has fresh check bits and is no longer uncorrectable (R138). -/
def State.poke (s : State) (a : Nat) (bs : List Byte) : State :=
  { s with
    mem := Mem.write s.mem a bs
    eccBad := s.eccBad.filter fun w => !(a / 4 ≤ w / 4 && w / 4 ≤ (a + bs.length - 1) / 4) }
/-- A range of the memory goes back to what an unlisted byte reads as; its words are written, so none stays uncorrectable. -/
def State.wipe (s : State) (lo hi : Nat) : State :=
  { s with mem := Mem.clear s.mem lo hi, eccBad := s.eccBad.filter fun w => w < lo || hi ≤ w }

/-! ## Objects (R335-R341) -/

/-- The value an object holds when `v` is put at key `k`: `v` modulo its type's width; a BLOB holds bytes (R336). -/
def objWrap (k : Nat) (v : Int) : Int :=
  match objRow? (k / 2 ^ 40) (k / 2 ^ 32 % 256) with
  | none => v
  | some r => if r.ty = .blob then (wrapNat 8 v : Int) else r.wrap v

/-- The value an object holds, or the byte of a BLOB at its offset (R338: the default where nothing else was put). -/
def State.get (s : State) (k : Nat) : Int := Cells.get s.obj k (objDefault k)

/-- The same as a natural number; negative values read 0. -/
def State.nat (s : State) (k : Nat) : Nat := (s.get k).toNat

/-- Put a value into an object. -/
def State.put (s : State) (k : Nat) (v : Int) : State :=
  { s with obj := Cells.set s.obj k (objWrap k v) (objDefault k) }

/-- Count `n` events: the count saturates at the largest value of its type (R453). -/
def State.bump (s : State) (k : Nat) (n : Nat := 1) : State :=
  match objRow? (k / 2 ^ 40) (k / 2 ^ 32 % 256) with
  | none => s
  | some r => s.put k (min r.top (s.get k + n))

/-- The `n`-byte little-endian number at offset `off` of a BLOB object (R11). -/
def State.getLe (s : State) (k off n : Nat) : Nat :=
  leVal ((List.range n).map fun i => BitVec.ofNat 8 (s.nat (k + off + i)))

/-- Put bytes into a BLOB object. -/
def State.putBytes : State → Nat → Nat → List Byte → State
  | s, _, _, [] => s
  | s, k, off, b :: bs => State.putBytes (s.put (k + off) b.toNat) k (off + 1) bs

/-- Bytes of a BLOB object. -/
def State.getBytes (s : State) (k off n : Nat) : List Byte :=
  (List.range n).map fun i => BitVec.ofNat 8 (s.nat (k + off + i))

/-- Put an `n`-byte little-endian number into a BLOB object. -/
def State.putLe (s : State) (k off n v : Nat) : State := s.putBytes k off (leBytes n v)

/-- Count in an `n`-byte element of a BLOB object, saturating (R453). -/
def State.bumpLe (s : State) (k off n : Nat) (c : Nat := 1) : State :=
  s.putLe k off n (min (2 ^ (8 * n) - 1) (s.getLe k off n + c))

/-- The value in force in region `g` of an object that comes into force per region (R219). -/
def State.getR (s : State) (g k : Nat) : Int := Cells.get s.shadow.region (g * 2 ^ 64 + k) (s.get k)

/-- The same as a natural number. -/
def State.natR (s : State) (g k : Nat) : Nat := (s.getR g k).toNat

/-! ## Time -/

/-- The count of Drumline time now (R38). -/
def State.now (s : State) : Dlt := s.clk.dlt

/-- Draw the next free value (log entry 7). -/
def State.draw (s : State) : BitVec 64 := Config.freeBits s.free

/-- One place of the sequence of free values has been used. -/
def State.drawn (s : State) (n : Nat := 1) : State := { s with free := s.free + n }

/-! ## Bells (R359, R360) -/

/-- RAISE A BELL (R359, R360): a record with the next SEQ and the DLT of now joins the queue; with 64 unacknowledged
records it is not queued, BELL_LOST counts it, and it still takes the next SEQ. -/
def State.bell (s : State) (code : Nat) (arg : Nat := 0) : State :=
  let seq := s.nat Obj.BELL_NEXT_SEQ
  let s1 := s.put Obj.BELL_NEXT_SEQ ((seq : Int) + 1)
  if s.dict.bells.length < 64 then
    { s1 with dict := { s1.dict with bells := s1.dict.bells ++ [⟨BitVec.ofNat 16 seq, BitVec.ofNat 16 code, BitVec.ofNat 32 arg, s.now, false⟩] } }
  else s1.bump Obj.BELL_LOST

/-- Several bells in order. -/
def State.bells (s : State) (codes : List (Nat × Nat)) : State := codes.foldl (fun t c => t.bell c.1 c.2) s

/-- BELL_N is driven low (R360): an unacknowledged record of an enabled group CODE[11:8]; low throughout a thermal
shutdown (R436). -/
def State.bellN (s : State) : Bool :=
  s.power.mode = .shutdown || s.dict.bells.any fun b => (s.nat Obj.BELL_MASK).testBit (bits b.code.toNat 11 8)

/-- Record a message that the part sends or drives outside (log entry 12). -/
def State.send (s : State) (m : Sent) : State := { s with dict := { s.dict with sent := s.dict.sent ++ [m] } }

/-! ## The gong line (R420) -/

/-- Pull GONG_N low for 10 µs, 2,000 beats; the cause, if one is given, goes into the next beacon (R420). -/
def State.pullGong (s : State) (cause : Option Nat) : State :=
  { s with
    lands := { s.lands with gongOwn := true, gongEnd := s.clk.beats + 2000 }
    ens := { s.ens with gongCause := match cause with
      | some c => some (BitVec.ofNat 16 c)
      | none => s.ens.gongCause } }

/-! ## The event store (R437, R438) -/

/-- Word `w` of event record slot `i`. -/
def State.nvmWord (s : State) (i w : Nat) : Nat := s.le (nvmBase + 32 * i + 4 * w) 4

/-- A record is valid when VALID reads 0x96C3 and its CRC over bytes 0 to 23 matches (R437). -/
def State.nvmValid (s : State) (i : Nat) : Bool :=
  s.nvmWord i 7 % 65536 = 0x96C3 && (crc32 (s.bytes (nvmBase + 32 * i) 24)).toNat = s.nvmWord i 6

/-- EVENT_NEWEST: the slot of the valid record with the largest SEQ, 255 for none. -/
def State.nvmNewest (s : State) : Nat :=
  (List.range 64).foldl (fun best i =>
    if s.nvmValid i && (best = 255 || s.nvmWord best 2 < s.nvmWord i 2) then i else best) 255

/-- SHUTDOWN_COUNT: the largest SHUTDOWNS of any valid record (R438). -/
def State.shutdowns (s : State) : Nat :=
  ((List.range 64).map fun i => if s.nvmValid i then s.nvmWord i 5 else 0).foldl max 0

/-- The slot of the next record: the one after the newest, slot 0 in an empty store. -/
def State.nvmNext (s : State) : Nat := if s.nvmNewest = 255 then 0 else (s.nvmNewest + 1) % 64

/-- Erase an event slot. -/
def State.nvmErase (s : State) (i : Nat) : State := s.wipe (nvmBase + 32 * i) (nvmBase + 32 * i + 32)

/-- WRITE AN EVENT RECORD (R437): bytes 0 to 27 first, VALID last, then the slot after it is erased. -/
def State.event (s : State) (cause sensor : Nat) (temp : Int) : State :=
  let i := s.nvmNext
  let seq := if s.nvmNewest = 255 then 0 else s.nvmWord s.nvmNewest 2 + 1
  let shut := s.shutdowns + (if cause = 1 then 1 else 0)
  let body := leBytes 8 s.now.toNat ++ leBytes 4 seq ++
    leBytes 4 (wrapNat 16 temp * 65536 + sensor % 256 * 256 + cause) ++
    leBytes 4 (s.nat Obj.FRAME_COUNT) ++ leBytes 4 shut
  ((s.poke (nvmBase + 32 * i) (body ++ leBytes 4 (crc32 body).toNat)).poke (nvmBase + 32 * i + 28)
    (leBytes 4 0xFFFF96C3)).nvmErase ((i + 1) % 64)

/-! ## The live Masol (R35, R36) -/

/-- The records of a factory table that passes the walk. Where the table fails the boot check the spec does not say what
LIVE_MASOL holds: it is then a table of the records found, none after a walk error, and record 0x0010 (DESIGN CHOICE, log
entry 4). -/
def Masol.records (t : List Word) : List (Nat × List Word) :=
  let len := (t.getD 2 0).toNat / 4
  (Masol.walk len (len - 4) ((t.take len).drop 4)).getD []

/-- The live image: the factory records with record 0x0004 following the run-time state, and record 0x0010 (R35). -/
def State.liveMasol (s : State) : List Word :=
  Masol.build (((Masol.records s.otp.masol).flatMap fun r =>
      Masol.record r.1 (if r.1 = 4 then Masol.engineRecord s.fab.phys.toList s.fab.state.toList else r.2)) ++
    Masol.record 0x10 [BitVec.ofNat 32 (s.nat Obj.LIVE_GEN), s.fab.changeDlt.truncate 32,
      (s.fab.changeDlt >>> 32).truncate 32])

/-- ONE CHANGE OF THE LIVE MASOL (R36): GEN increments and bell 0x0102 carries it; everything the control die records at
one beat makes one change. -/
def State.liveChange (s : State) : State :=
  if s.fab.changeBeat = some s.clk.beats then s
  else
    let gen := (s.nat Obj.LIVE_GEN + 1) % 2 ^ 32
    (({ s with fab := { s.fab with changeDlt := s.now, changeBeat := some s.clk.beats } }).put
      Obj.LIVE_GEN gen).bell 0x0102 gen

/-! ## Small helpers -/

/-- Apply `f` when `c` holds. -/
def State.when (s : State) (c : Bool) (f : State → State) : State := if c then f s else s

/-- Fold a state change over a list. -/
def State.each {α : Type} (s : State) (xs : List α) (f : State → α → State) : State := xs.foldl f s

/-- The quadrant of a region (R3, R4). -/
def quadOfRegion (g : Nat) : Nat := g / 32 * 2 + g % 8 / 4

/-- The region of CU `n` (R4). -/
def regionOfCu (n : Nat) : Nat := n / 192 / 20 * 8 + n % 192 / 24

/-- The quadrant of CU `n`. -/
def quadOfCu (n : Nat) : Nat := n / 192 / 80 * 2 + n % 192 / 96

/-- The region of cluster `c` (R4): 6 by 5 clusters a region. -/
def regionOfCluster (c : Nat) : Nat := c / 48 / 5 * 8 + c % 48 / 6

/-- The cluster of CU `n`. -/
def clusterOfCu (n : Nat) : Nat := n / 192 / 4 * 48 + n % 192 / 4

/-- The die of physical engine `p` (R5, R31): its region's quadrant, or its spare group's. -/
def dieOfEngine (p : Nat) : Nat := if p < 256 then quadOfRegion (p / 4) else (p - 256) / 4

/-- The regions of quadrant `q`, ascending. -/
def regionsOf (q : Nat) : List Nat := (List.range 64).filter fun g => quadOfRegion g = q

end Sys2Proof.Machine
end

