-- ==== Sys2Proof/Machine/Banks.lean ====
section
/-! DEFINITION. Coefficient banks (06_correction_pipeline.md R195, R196): the bytes of a bank and of its tail, and the
fields of a coefficient record. -/

namespace Sys2Proof.Machine

/-- The offset of a bank's tail (R195). -/
def tailOff : Nat := 0x780000
/-- The offset of J6F in the bank (R195). -/
def j6fOff : Nat := 0x780040

/-- The offset is a reserved byte of a tail: it reads zero and writes have no effect (R195). -/
def tailReserved (off : Nat) : Bool :=
  tailOff + 5 ≤ off && !(j6fOff ≤ off && off < j6fOff + 1920)

/-- The neutral record: SUB 0xFF, DEF 0, GN 16,384 and every other field 0 (R196). -/
def neutralRecord : Nat := 0xFF * 2 ^ 88 + 16384 * 2 ^ 20

/-- What an unlisted byte of a bank reads as (R195, R426). -/
def bankDefault (f : Fill) (off : Nat) : Byte :=
  match f with
  | .zero => 0
  | .neutral =>
    if off < tailOff then BitVec.ofNat 8 (neutralRecord >>> (8 * (off % 16)))
    else if off = tailOff + 4 then 1 else 0

/-- One byte of a bank. -/
def Bank.byte (b : Bank) (off : Nat) : Byte := Cells.get b.cells off (bankDefault b.fill off)

/-- Write one byte of a bank; of the word that holds VERIFIED only bit 0 exists. -/
def Bank.put (b : Bank) (off : Nat) (v : Byte) : Bank :=
  if tailReserved off then b
  else { b with cells := Cells.set b.cells off (if off = tailOff + 4 then v &&& 1 else v) (bankDefault b.fill off) }

/-- Write bytes from an offset upwards. -/
def Bank.write : Bank → Nat → List Byte → Bank
  | b, _, [] => b
  | b, off, x :: xs => Bank.write (b.put off x) (off + 1) xs

/-- The little-endian number of `n` bytes of a bank. -/
def Bank.le (b : Bank) (off n : Nat) : Nat := leVal ((List.range n).map fun i => b.byte (off + i))

/-- `n` bytes of a bank. -/
def Bank.read (b : Bank) (off n : Nat) : List Byte := (List.range n).map fun i => b.byte (off + i)

/-- GEN of a bank (R195). -/
def Bank.gen (b : Bank) : Nat := b.le tailOff 4

/-- VERIFIED of a bank (R195). -/
def Bank.verified (b : Bank) : Bool := b.byte (tailOff + 4) = 1

/-- J6F of the region's CU `k`, from 0 to 479, row by row (R195). -/
def Bank.j6f (b : Bank) (k : Nat) : Int := signedOf 32 (b.le (j6fOff + 4 * k) 4)

/-- The record of pixel `(x, y)` of the region (R195). -/
def Bank.record (b : Bank) (x y : Nat) : Nat := b.le (16 * (768 * y + x)) 16

/-! ## Fields of a record (R196) -/

/-- SUB. -/
def recSub (r : Nat) : Nat := bits r 95 88
/-- DEF. -/
def recDef (r : Nat) : Nat := bits r 87 84
/-- UOF. -/
def recUof (r : Nat) : Int := signedOf 16 (bits r 83 68)
/-- DG1. -/
def recDg1 (r : Nat) : Int := signedOf 10 (bits r 67 58)
/-- DO2. -/
def recDo2 (r : Nat) : Int := signedOf 10 (bits r 57 48)
/-- DO1. -/
def recDo1 (r : Nat) : Int := signedOf 12 (bits r 47 36)
/-- GN. -/
def recGn (r : Nat) : Nat := bits r 35 20
/-- OFS. -/
def recOfs (r : Nat) : Int := signedOf 20 (bits r 19 0)

/-! ## Banks of the state -/

/-- The bank of region `g`: the active one or the inactive one (R221). -/
def State.bankNo (s : State) (g : Nat) (inactive : Bool) : Nat :=
  2 * g + (if ((s.fab.regions.toList[g]?).map (·.active)).getD false != inactive then 1 else 0)

/-- A bank by its number, `2·region + (0 A, 1 B)`. -/
def State.bank (s : State) (i : Nat) : Bank := (s.banks.toList[i]?).getD {}

/-- The address under which the list of uncorrectable words holds a word of a bank. -/
def bankAddr (i off : Nat) : Nat := 7 * 2 ^ 40 + i * 2 ^ 23 + off

/-- Change a bank. -/
def State.setBank (s : State) (i : Nat) (b : Bank) : State := { s with banks := s.banks.setIfInBounds i b }

/-- Write bytes of a bank; a written word is no longer uncorrectable (R138). -/
def State.bankWrite (s : State) (i off : Nat) (bs : List Byte) : State :=
  let a := bankAddr i off
  { s.setBank i ((s.bank i).write off bs) with
    eccBad := s.eccBad.filter fun w => !(a / 4 ≤ w / 4 && w / 4 ≤ (a + bs.length - 1) / 4) }

/-- Put VERIFIED of a bank. -/
def State.setVerified (s : State) (i : Nat) (v : Bool) : State :=
  s.bankWrite i (tailOff + 4) [if v then 1 else 0]

/-- A bank record is unreadable when one of its four words is uncorrectable (R138). -/
def State.recordBad (s : State) (i x y : Nat) : Bool :=
  let a := bankAddr i (16 * (768 * y + x))
  s.eccBad.any fun w => a / 16 = w / 16

/-- The record as programs read it: zero except for DEF 0xF where it is unreadable (R138, R166). -/
def State.record (s : State) (i x y : Nat) : Nat :=
  if s.recordBad i x y then 0xF * 2 ^ 84 else (s.bank i).record x y

/-- BANK_READY follows the inactive banks, and the two GEN objects follow both (R221, R223). -/
def State.bankView (s : State) (g : Nat) : State :=
  let a := s.bank (s.bankNo g false)
  let i := s.bank (s.bankNo g true)
  ((s.putLe Obj.ACTIVE_GEN (4 * g) 4 a.gen).putLe Obj.INACTIVE_GEN (4 * g) 4 i.gen).put Obj.BANK_READY
    (putBit (s.nat Obj.BANK_READY) g i.verified)

end Sys2Proof.Machine
end

