-- ==== Sys2Proof/Machine/Operands.lean ====
section
/-! DEFINITION. The operands of strokes (02_drumline.md R44-R46, R50, R51, R53, R55, R457): which units a stroke targets,
which units a scheduler may target, on which dies a stroke acts, and its landing. -/

namespace Sys2Proof.Machine

/-! ## Target sets (R45, R46) -/

/-- The number of units of a level (R1, R45). -/
def unitCount (level : Nat) : Nat :=
  match level with
  | 1 => 30720 | 2 => 1920 | 3 => 64 | 4 => 6 | 5 => 1 | 6 => 16 | _ => 0

/-- Unit `n` matches MASK and INDEX (R45). -/
def targetMatch (mask index n : Nat) : Bool := n &&& mask == index &&& mask

/-- The scheduler may target unit `n` of `level` (R46). -/
def schedMay (sched : Sched) (off level n : Nat) : Bool :=
  match sched with
  | .package => true
  | .die q => match level with
    | 1 => quadOfCu n == q.val
    | 2 => quadOfRegion (regionOfCluster n) == q.val
    | 3 => quadOfRegion n == q.val
    | 4 => n == q.val
    | _ => false
  | .cluster => match level with
    | 1 => clusterOfCu n == off / 512
    | 2 => n == off / 512
    | _ => false

/-- The units a stroke of a scheduler acts on (R45, R46); `off` is the entry's byte offset, which names the cluster of a
cluster sequencer. -/
def targetSet (sched : Sched) (off level mask index : Nat) : List Nat :=
  (List.range (unitCount level)).filter fun n => targetMatch mask index n && schedMay sched off level n

end Sys2Proof.Machine

namespace Sys2Proof

open Machine

/-- The die on which unit `n` of a level lies: 0 to 3 for Q0 to Q3, 4 for S, 5 for C (R457); a CU or a cluster takes part
with the logic die of its quadrant. -/
def unitDie (level n : Nat) : Nat :=
  match level with
  | 1 => quadOfCu n
  | 2 => quadOfRegion (regionOfCluster n)
  | 3 => quadOfRegion n
  | 4 => n
  | _ => 5

/-- Unit `n` of the stroke's level is in its target set (R45), among those its scheduler may target (R46). -/
def Landing.targets (l : Landing) (n : Nat) : Bool :=
  n < unitCount l.level.toNat && targetMatch l.mask.toNat l.index.toNat n &&
  match l.only with
  | none => true
  | some sc => schedMay sc (32 * l.entry) l.level.toNat n

/-- A landing stroke acts on unit `n` of its level (R45, R46), on the dies on which it lands now (R40). -/
def Landing.hits (l : Landing) (n : Nat) : Bool := l.targets n && l.dies.getLsbD (unitDie l.level.toNat n)

/-- A landing stroke of level 3, 4 or 5 acts in region `g`. -/
def Landing.hitsRegion (l : Landing) (g : Nat) : Bool :=
  match l.level.toNat with
  | 3 => l.hits g
  | 4 => l.hits (quadOfRegion g)
  | 5 => l.targets 0 && l.dies.getLsbD (quadOfRegion g)
  | _ => false

/-- The regions a landing stroke acts in, ascending. -/
def Landing.regions (l : Landing) : List Nat := (List.range 64).filter l.hitsRegion

/-- A landing stroke acts on some unit of quadrant `q` (R80: INJECT is per quadrant). -/
def Landing.hitsQuad (l : Landing) (q : Nat) : Bool :=
  match l.level.toNat with
  | 1 => (List.range 30720).any fun n => quadOfCu n == q && l.hits n
  | 2 => (List.range 1920).any fun n => quadOfRegion (regionOfCluster n) == q && l.hits n
  | 3 => (List.range 64).any fun n => quadOfRegion n == q && l.hits n
  | 4 => l.hits q
  | 5 => l.targets 0 && l.dies.getLsbD q
  | _ => false

/-- A landing stroke acts on the sense die (R457), apart from its CUs, which take part with their quadrant. -/
def Landing.hitsS (l : Landing) : Bool :=
  match l.level.toNat with
  | 4 => l.hits 4
  | 5 => l.targets 0 && l.dies.getLsbD 4
  | _ => false

/-- A landing stroke acts on the control die (R457). -/
def Landing.hitsC (l : Landing) : Bool :=
  match l.level.toNat with
  | 4 => l.hits 5
  | 5 => l.hits 0
  | 6 => true
  | _ => false

/-- The package entry whose next occurrence is to follow this one, if there is one (R72, R101). -/
def Landing.repeating (l : Landing) : Option Nat :=
  if l.next.isSome && l.src = .packageSched then some l.entry else none

/-- Two strokes land on one unit, or one on a part of the other's (R51): a quadrant for CUs and clusters, which leave the
scan together (R79), else a region, the sense die or the control die. -/
def Landing.meets (l m : Landing) : Bool :=
  (l.hitsC && m.hitsC) || (l.hitsS && m.hitsS) ||
  (if l.level.toNat ≤ 2 || m.level.toNat ≤ 2 then (List.range 4).any fun q => l.hitsQuad q && m.hitsQuad q
   else (List.range 64).any fun g => l.hitsRegion g && m.hitsRegion g)

/-- The rank of R51 among strokes of equal codes. -/
def StrokeSrc.rank : StrokeSrc → Nat
  | .clusterSeq => 0 | .dieSched => 1 | .packageSched => 2 | .rimshot => 3 | .calibration => 4 | .gongAction => 5
  | .sunGuard => 6

end Sys2Proof

namespace Sys2Proof.Machine

/-- The action code's row of R50: levels, period permitted. -/
def actionRow (code : Nat) : Option (List Nat × Bool) :=
  (Masol.actions.find? fun a => a.1 == code).map fun a => (a.2.1, a.2.2.1)

/-- The stroke acts on a die other than C (R457): not the control die alone. -/
def actsOffC (code level mask index arg : Nat) : Bool :=
  if code = 0x02 then false
  else match level with
    | 1 | 2 | 3 => true
    | 4 => (List.range 5).any (targetMatch mask index) || (code = 0x10 && arg.testBit 0)
    | 5 => code == 0x11 || code == 0x12 || code == 0x40 || code == 0x41 || code == 0x10 || code == 0x20 || code == 0x22
    | _ => false

/-- The dies on which a stroke acts (R457), by the bits of `Landing.dies`. -/
def diesOf (code : Nat) (l : Landing) : BitVec 6 :=
  let quads : Nat := (((List.range 4).filter l.hitsQuad).map fun q => 2 ^ q).sum
  let arg := l.arg.toNat
  BitVec.ofNat 6 (
    if code = 0x02 then 32
    else match l.level.toNat with
      | 1 | 2 => quads ||| 16
      | 3 => quads ||| (if code = 0x10 && arg.testBit 0 then 16 else 0)
      | 4 => (((List.range 6).filter l.hits).map fun n => 2 ^ n).sum ||| (if code = 0x10 && arg.testBit 0 then 16 else 0)
      | 5 => if code = 0x11 || code = 0x12 || code = 0x40 || code = 0x41 then 47
        else if code = 0x10 || code = 0x20 || code = 0x22 then 63 else 32
      | _ => 32)

/-! ## Firing and landing (R51, R53, R55) -/

/-- The order in which strokes that land on one unit at one beat take effect (R51). -/
def Fired.key (f : Fired) : Nat := (f.action.toNat * 8 + f.l.src.rank) * 2 ^ 20 + f.l.entry

/-- A stroke fires: it will land in its destination domains (R53). A FRAME_START's firing makes the part running (R62). -/
def State.fire (s : State) (action : Nat) (l : Landing) (order : Nat := 2 ^ 63) : State :=
  { s with
    strokes := { s.strokes with inflight := s.strokes.inflight ++ [⟨BitVec.ofNat 16 action, l, s.clk.beats, order⟩] }
    clk := { s.clk with running := s.clk.running || action == 0x20 } }

/-- THE CLOCK DOMAINS IN WHICH A STROKE LANDS, by their numbers in R33 (R53, R55, R457), the one that carries out its effect
first. A stroke acts on a logic die in its engine domain, on the control die in the domain of its action, on the converters
in the modulator domain (DEDUCED, log entry 18). -/
def landingDomains (code : Nat) (l : Landing) : List Nat :=
  let engines : List Nat := ((List.range 4).filter fun q => l.hitsQuad q).map (· + 2)
  let control : List Nat := if l.hitsC then [22] else []
  match code with
  | 0x01 | 0x02 | 0x50 | 0x51 | 0x61 | 0x70 => [22]
  | 0x28 | 0x29 => [24]
  | 0x60 => [0]
  | 0x20 => [1] ++ engines ++ control
  | 0x22 => [1] ++ engines ++ control
  | 0x10 => control ++ engines ++ (if l.arg.toNat.testBit 0 || l.hitsS then [1] else [])
  | 0x11 | 0x12 | 0x30 | 0x40 | 0x41 => control ++ engines
  | _ => []

/-- Stroke `x` comes before `f` where both land on one unit (R51). Of strokes fired at one beat the order is that of their
LAUNCH among those that a step has passed over (R63), then that of their keys. A stroke fired at an earlier beat lands at
the same destination edge or an earlier one (R53), so it comes first when its key is the lower; with a higher key it may
land at an earlier edge or after `f` at the same one. -/
def Fired.before (x f : Fired) : Bool :=
  if x.beat = f.beat then x.order < f.order || (x.order == f.order && x.key < f.key)
  else x.beat < f.beat && x.key < f.key

/-- Two strokes land on one unit in one clock domain (R51, R53). -/
def Fired.meets (f x : Fired) : Bool :=
  ((landingDomains f.action.toNat f.l).any (landingDomains x.action.toNat x.l).contains) && f.l.meets x.l

/-- `f` may land now: no stroke under way comes before it on a unit of both, and none that has landed in this beat comes
after it there (R51, R63). -/
def Fired.first (f : Fired) (fs landed : List Fired) : Bool :=
  (fs.all fun x => !(x.before f && f.meets x)) && landed.all fun x => !(f.key < x.key && f.order ≤ x.order && f.meets x)

/-- Remove the first element that satisfies `p`. -/
def removeFirst {α : Type} (p : α → Bool) : List α → List α
  | [] => []
  | x :: xs => if p x then xs else x :: removeFirst p xs

/-- The least and the most beats, rounded up, from launch to a domain's destination edge (R53): 2 and 3 periods of its
clock, 200 over the frequency in MHz for an engine domain and 2 beats for the control domain; 0 in the modulator domain. -/
def State.edgeRange (s : State) (d : Nat) : Nat × Nat :=
  if d = 1 then (0, 0)
  else if 2 ≤ d && d ≤ 5 then
    let f := max 1 (s.nat (Obj.F_ENG_ACTIVE (d - 2)))
    ((400 + f - 1) / f, (600 + f - 1) / f)
  else (4, 6)

/-- THE LANDING TIMESTAMPS (R55): the first domain, whose edge carries out the effect now, takes the DLT of now. Each further
domain has its own edge, and takes the DLT of the first beat at or after it: `edges` says where in the range of R53 it
falls, since it has no fixed phase to the beat (log entry 18). -/
def State.stampLanding (s : State) (ds : List Nat) (edges : List Nat) (elapsed : Nat) : State :=
  match ds with
  | [] => s
  | d :: rest =>
    rest.zipIdx.foldl (fun (t : State) e =>
      let r := s.edgeRange e.1
      let o := min r.2 (max r.1 (edges.getD e.2 r.1))
      t.put (Obj.LANDING_DLT e.1) (Dlt.add s.now (320 * ((o : Int) - elapsed))).toNat) (s.put (Obj.LANDING_DLT d) s.now.toNat)

/-- THE LANDING OF A STROKE: the state in which the fired stroke `(code, l)` is no longer under way and its domain's
landing timestamp is kept (R55), or `none` when no such stroke is under way or another of its beat comes first (R51, R63). -/
def State.landing (s : State) (code : Nat) (l : Landing) : Option State :=
  let p : Fired → Bool := fun f => f.action.toNat == code && f.l == { l with edges := [] }
  match s.strokes.inflight.find? p with
  | none => none
  | some f =>
    if f.first s.strokes.inflight s.strokes.landed then
      let s1 := { s with strokes := { s.strokes with
        inflight := removeFirst p s.strokes.inflight
        landed := s.strokes.landed ++ [f] } }
      some (s1.stampLanding (landingDomains code l) l.edges (s.clk.beats - f.beat))
    else none

/-- What a landing command answers: the effect at the landing, or the state unchanged when no such stroke lands (log
entry 2). -/
def State.land (s : State) (code : Nat) (l : Landing) (f : State → State) : State :=
  match s.landing code l with
  | none => s
  | some t => f t

end Sys2Proof.Machine
end

