-- ==== Sys2Proof/Machine/Rolls.lean ====
section
/-! DEFINITION. Rolls, stick budgets and leases (08_rolls_budgets_drain.md R261-R277). Instances are numbered as in R264,
classes 0 to 15 as in R266. -/

namespace Sys2Proof.Machine

/-! ## The allocation table (R264, R269) -/

/-- The entry of class `c` on instance `i` of an allocation table object. -/
def State.alloc (s : State) (obj i c : Nat) : Nat := s.getLe obj (32 * i + 2 * c) 2

/-- SHARE of an entry (R264). -/
def shareOf (e : Nat) : Nat := e % 512

/-- BORROW in force: bit 15 of the active entry, and always 1 for AC0 (R264). -/
def State.borrow (s : State) (i c : Nat) : Bool := c = 0 || (s.alloc Obj.ALLOC_ACTIVE i c).testBit 15

/-- The sum of the shares of an instance in the staged table. -/
def State.stagedSum (s : State) (i : Nat) : Nat :=
  ((List.range 16).map fun c => shareOf (s.alloc Obj.ALLOC_STAGED i c)).sum

/-- The first instance at fault in the staged table with its cause: 3 for the sum, 4 for the AC0 floor (R269). -/
def State.allocFault (s : State) : Option (Nat × Nat) :=
  (List.range 148).findSome? fun i =>
    if 256 < s.stagedSum i then some (i, 3)
    else if i < 136 && shareOf (s.alloc Obj.ALLOC_STAGED i 0) < 128 then some (i, 4)
    else none

/-- The bytes of the staged table. -/
def State.stagedTable (s : State) : List Int := (List.range 4736).map fun k => s.get (Obj.ALLOC_STAGED + k)

/-- A write to ALLOC_APPLY (R269): 1 checks the whole staged table; an accepted one is taken as it is now. -/
def State.writeAllocApply (s : State) (v : Nat) : State :=
  if v ≠ 1 then s
  else match s.allocFault with
    | some (i, cause) => (s.put Obj.ALLOC_BAD i).put Obj.ALLOC_APPLY cause
    | none => { s with rolls := { s.rolls with applyDue := true, taken := s.stagedTable } }.put Obj.ALLOC_APPLY 1

/-- ALLOC_APPLY (R269). -/
def execAllocApply (v : Nat) (s : State) : Out := .next (s.writeAllocApply v)

/-! ## Capacities and sticks (R263, R265, R272) -/

/-- Charged units of one stick (R263). -/
def stickUnits (i : Nat) : Nat :=
  if i < 64 then 16 else if i < 128 then 128 else if i < 136 then 16 else if i < 144 then 25
  else if i = 144 then 64 else if i = 145 then 1 else 10

/-- Physical engine `p` is live: neither fenced at the factory nor at run time (R30, R135). -/
def State.engGood (s : State) (p : Nat) : Bool := p < 272 && (s.fab.state.toList.getD p 1) = 0

/-- The physical engine of logical number `n`, if it is mapped (R30, R136). -/
def State.physOf (s : State) (n : Nat) : Option Nat :=
  let p := s.fab.phys.toList.getD n 0x1FF
  if p < 272 then some p else none

/-- The logical number of physical engine `p` (R136). -/
def State.logicalOf (s : State) (p : Nat) : Option Nat :=
  (List.range 256).find? fun n => s.fab.phys.toList.getD n 0x1FF = p

/-- The live engines that are members of region `g`, by physical number (R107, R137). -/
def State.liveEngines (s : State) (g : Nat) : List Nat :=
  ((List.range 4).filterMap fun k => s.physOf (4 * g + k)).filter s.engGood

/-- The region of which physical engine `p` is a member (R107, R266). -/
def State.regionOfEngine (s : State) (p : Nat) : Option Nat := (s.logicalOf p).map (· / 4)

/-- F_ENG in force on die `q`, in MHz (R139). -/
def State.fEng (s : State) (q : Nat) : Nat := s.nat (Obj.F_ENG_ACTIVE q)

/-- The flash runs in the fallback of R365: 3-byte commands at 20 MHz. -/
def State.flashFallback (s : State) : Bool := s.nat Obj.FSPI_STATE = 3

/-- DTR reads are in use on FSPI (R366). -/
def State.flashDtr (s : State) : Bool :=
  s.nat Obj.FSPI_MODE = 1 && (s.ports.sfdp.bind (·.dtr)).isSome

/-- The read rate in force on FSPI, in Mbit/s of payload (R263, R365, R366). -/
def State.flashMbit (s : State) : Nat :=
  if s.flashFallback then 20 else if s.flashDtr then 2 * s.nat Obj.FSPI_DTR_MHZ else s.nat Obj.FSPI_SDR_MHZ

/-- Capacity of instance `i` for a roll of `t` µs (R263, R272), rounded down to whole sticks. -/
def State.capacity (s : State) (i t : Nat) : Nat :=
  if i < 64 then (s.liveEngines i).length * s.fEng (quadOfRegion i) * t * s.getLe Obj.ENG_CEIL (2 * i) 2 / (16 * 256)
  else if i < 128 then 8 * s.fEng (quadOfRegion (i - 64)) * t / 128
  else if i < 136 then 125 * t / 16
  else if i < 144 then
    if s.nat (Obj.LANE_STATE (i - 136)) ≠ 4 then 0
    else (if s.nat (Obj.RATE_ACTIVE (i - 136)) = 2 then 390625000 else 195312500) * t / (25 * 1000000)
  else if i = 144 then
    s.flashMbit * t / (8 * 64)
  else if i = 145 then 4 * t
  else s.nat Obj.ACT_PMAX * t / 10

/-- Roll `k` is an idle roll at throttle level `l` (R435). -/
def idleRoll (k l : Nat) : Bool := k * l / 16 < (k + 1) * l / 16

/-- The sticks of class `c` on instance `i` at a boundary: floor(SHARE × capacity / 256); none on ENG in an idle roll
(R265, R273). -/
def State.shareSticks (s : State) (i c cap : Nat) : Nat :=
  if i < 64 && s.rolls.idle then 0 else shareOf (s.alloc Obj.ALLOC_ACTIVE i c) * cap / 256

/-- Refill the counters of every instance (R265); the debt of an ACT bank is deducted from AC7's sticks (R267), and what was
charged towards its next stick is discarded. -/
def State.refill (s : State) : State :=
  let t := s.nat Obj.ROLL_ACTIVE_US
  let caps := (List.range 148).map fun i => (i, s.capacity i t)
  let debt (b : Nat) : Nat := s.getLe Obj.ACT_DEBT (4 * b) 4
  let own (i c cap : Nat) : Nat := s.shareSticks i c cap
  let eff (i c cap : Nat) : Nat := if 146 ≤ i && c = 7 then own i c cap - debt (i - 146) else own i c cap
  let sticks := caps.flatMap fun (ic : Nat × Nat) => ((List.range 16).map fun c =>
    (16 * ic.1 + c, (eff ic.1 c ic.2 : Int))).filter fun e => e.2 ≠ 0
  let pool := (caps.map fun (ic : Nat × Nat) => (ic.1,
    ((if ic.1 < 64 && s.rolls.idle then 0 else ic.2 - ((List.range 16).map fun c => own ic.1 c ic.2).sum : Nat) : Int))).filter
      fun e => e.2 ≠ 0
  let s1 : State := { s with act := { s.act with banks := s.act.banks.map fun (x : ActBank) => { x with owed := 0 } }, rolls := { s.rolls with
    debtIn := (debt 0, debt 1)
    sticks := sticks
    free := pool
    cap := (caps.map fun (ic : Nat × Nat) => (ic.1, (ic.2 : Int))).filter fun e => e.2 ≠ 0
    residue := []
    stalled := [] } }
  s1.each [0, 1] fun x b =>
    let cap := s.capacity (146 + b) t
    x.putLe Obj.ACT_DEBT (4 * b) 4 (debt b - own (146 + b) 7 cap)

/-- Sticks that class `c` still holds on instance `i`. -/
def State.sticksOf (s : State) (i c : Nat) : Nat := (Cells.get s.rolls.sticks (16 * i + c) 0).toNat
/-- The free pool of instance `i`. -/
def State.poolOf (s : State) (i : Nat) : Nat := (Cells.get s.rolls.free i 0).toNat

/-- CLASS `c` MAY START A CHARGE on instance `i` (R265, R267): it holds a stick, or it may borrow one from the pool. Before
the first roll nothing is budgeted (R261). -/
def State.maySpend (s : State) (i c : Nat) : Bool :=
  !s.rolls.running || 0 < s.sticksOf i c || (s.borrow i c && 0 < s.poolOf i)

/-- Charge `n` units of instance `i` to class `c` (R265): the units towards the next stick are kept, own sticks go first. -/
def State.spend (s : State) (i c n : Nat) : State :=
  if !s.rolls.running then s
  else
    let u := stickUnits i
    let total := (Cells.get s.rolls.residue (16 * i + c) 0).toNat + n
    let k := total / u
    let own := s.sticksOf i c
    let fromPool := if s.borrow i c then min (k - own) (s.poolOf i) else 0
    { s with rolls := { s.rolls with
      residue := Cells.set s.rolls.residue (16 * i + c) ((total % u : Nat) : Int) 0
      sticks := Cells.set s.rolls.sticks (16 * i + c) ((own - k : Nat) : Int) 0
      free := Cells.set s.rolls.free i ((s.poolOf i - fromPool : Nat) : Int) 0 } }

/-- Units of instance `i` that class `c` may still start one after the other (R265, R267): those of its own sticks and, where it
may borrow, of the free pool, less what is charged already towards the stick in use. -/
def State.unitsLeft (s : State) (i c : Nat) : Nat :=
  (s.sticksOf i c + (if s.borrow i c then s.poolOf i else 0)) * stickUnits i - (Cells.get s.rolls.residue (16 * i + c) 0).toNat

/-- Class `c` has work waiting on instance `i` with its sticks run out: the roll counts once in STALL_ROLLS, and an idle
roll does not count on ENG (R271, R273). -/
def State.stallRoll (s : State) (i c : Nat) : State :=
  let k := 16 * i + c
  if s.rolls.stalled.contains k || (i < 64 && s.rolls.idle) then s
  else { s with rolls := { s.rolls with stalled := k :: s.rolls.stalled } }.bumpLe Obj.STALL_ROLLS (4 * k) 4

/-- CHARGE AS MUCH AS THE STICKS ALLOW of `n` units that start one by one (R265), with what is left; a rest waits for the next
roll (R270, R271). -/
def State.spendSome (s : State) (i c n : Nat) : State × Nat :=
  if !s.rolls.running then (s, 0)
  else
    let k := min n (s.unitsLeft i c)
    let t := s.spend i c k
    if k = n then (t, 0) else (t.stallRoll i c, n - k)

/-- CHARGE `n` units that start one by one; what finds no stick is owed, and is charged first in the rolls that follow (R265,
R270). -/
def State.owe (s : State) (i c n : Nat) : State :=
  let (t, rest) := s.spendSome i c n
  let n' : Int := Cells.get t.rolls.owed (16 * i + c) 0 + (rest : Nat)
  if rest = 0 then t else { t with rolls := { t.rolls with owed := Cells.set t.rolls.owed (16 * i + c) n' 0 } }

/-- Units that class `c` owes on instance `i`. -/
def State.owing (s : State) (i c : Nat) : Nat := (Cells.get s.rolls.owed (16 * i + c) 0).toNat

/-- What is owed is charged as far as the new sticks go, in ascending class order on each instance (R267). -/
def State.payOwed (s : State) : State :=
  s.rolls.owed.foldl (fun (t : State) (e : Nat × Int) =>
    let (u, rest) := t.spendSome (e.1 / 16) (e.1 % 16) e.2.toNat
    { u with rolls := { u.rolls with owed := Cells.set u.rolls.owed e.1 ((rest : Nat) : Int) 0 } }) s

/-- CHARGE OR STALL (R265, R270): `f` on the state after the charge of `n` units, or the stalled state. A charge that
needs more sticks than are left runs into the following rolls. -/
def State.charge (s : State) (i c n : Nat) (f : State → State) : State :=
  if s.maySpend i c then f (s.owe i c n) else s.stallRoll i c

/-! ## Leases (R131, R274-R277) -/

/-- The lease record of resource `r`. -/
def State.lease (s : State) (r : Nat) : Lease := ((s.fab.leases.find? fun e => e.1 = r).map (·.2)).getD {}

/-- Put the lease record of resource `r`; a record equal to that of an unused resource is not listed. -/
def State.setLease (s : State) (r : Nat) (l : Lease) : State :=
  { s with fab := { s.fab with leases := Cells.set s.fab.leases r l {} } }

/-- Replace an engine. -/
def State.setEngine (s : State) (p : Nat) (e : Engine) : State :=
  { s with fab := { s.fab with engines := s.fab.engines.setIfInBounds p e } }

/-- Replace a region. -/
def State.setRegion (s : State) (g : Nat) (r : Region) : State :=
  { s with fab := { s.fab with regions := s.fab.regions.setIfInBounds g r } }

/-- An engine by its number. -/
def State.engine (s : State) (p : Nat) : Engine := (s.fab.engines.toList[p]?).getD {}
/-- A region by its number. -/
def State.region (s : State) (g : Nat) : Region := (s.fab.regions.toList[g]?).getD {}

/-- Change the runs in progress. -/
def State.mapRuns (s : State) (f : Run → Run) : State :=
  { s with fab := { s.fab with engines := s.fab.engines.map fun (e : Engine) => { e with run := e.run.map f } } }

/-- Change the runs that have ended and wait for their comparison. -/
def State.mapDone (s : State) (f : Run → Run) : State :=
  { s with fab := { s.fab with done := s.fab.done.map fun (d : DoneRun) => { d with run := f d.run } } }

/-- A remote write lands in the frame-state store of its region unless its link is down (R183). -/
def State.remoteWrite (s : State) (region off : Nat) (bytes : List Byte) (slot : Nat) : State :=
  if s.fab.seamDown.toList.getD (slot / 2) false then s else s.poke (fstBase region + off) bytes

/-- A REMOTE WRITE AT THE LINK TRANSMITTER (R183, R270): one block of SEAM, sent at once or kept in its class queue. -/
def State.sendSeam (s : State) (b : SeamBlock) : State :=
  if s.maySpend (128 + b.slot) b.cls && !s.rolls.seam.any fun q => q.slot = b.slot && q.cls = b.cls then
    (s.spend (128 + b.slot) b.cls 1).remoteWrite b.region b.off b.bytes b.slot
  else { s.stallRoll (128 + b.slot) b.cls with rolls := { (s.stallRoll (128 + b.slot) b.cls).rolls with seam := s.rolls.seam ++ [b] } }

/-- The blocks that wait go out as far as the new sticks let them, in ascending class order and each class in its own order
(R267, R270). -/
def State.drainSeam (s : State) : State :=
  let s0 : State := { s with rolls := { s.rolls with seam := [] } }
  ((List.range 16).flatMap fun c => s.rolls.seam.filter fun b => b.cls = c).foldl State.sendSeam s0

/-- Mark a histogram bank of a region invalid for a frame (R115). -/
def Region.badHist (r : Region) (frame : BitVec 32) (bank : Nat) : Region :=
  if r.histBad.contains (frame, bank) then r else { r with histBad := (frame, bank) :: r.histBad }

/-- A record of view `v` emitted in region `g`, or a segment of a resource's uncommitted writes (R275). -/
def Emit.isRecordOf (v : Nat) : Emit → Bool
  | .record w _ _ => w = v
  | _ => false
/-- A remote write over seam slot `l` (R275). -/
def Emit.isRemoteOn (l : Nat) : Emit → Bool
  | .remote _ _ _ k => k = l
  | _ => false

/-- THE ROLLBACK OF A RESOURCE (R275): a histogram bank becomes invalid for the frames of unended runs that updated it, the
write port's bank loses VERIFIED, and uncommitted records and remote writes are discarded. -/
def State.rollback (s : State) (r : Nat) : State :=
  if 1344 ≤ r then
    let cut (x : Run) : Run := { x with emits := x.emits.filter fun e => !e.isRemoteOn (r - 1344) }
    (s.mapRuns cut).mapDone cut
  else
    let g := r / 21
    let j := r % 21
    if j < 4 then
      (s.fab.engines.toList.filterMap (·.run)).foldl (fun t x =>
        if x.item.region = g && x.hists.contains j then t.setRegion g ((t.region g).badHist x.item.frame j) else t) s
    else if j = 4 then (s.setVerified (s.bankNo g true) false).bankView g
    else s.mapRuns fun x =>
      if x.item.region = g then { x with emits := x.emits.filter fun e => !e.isRecordOf (j - 5) } else x

/-- The holder's lease ends in a revocation (R275): it is fenced, runs a fault run, or the lease was marked by a revoked
claim or an abandoned run. -/
def State.leaseFaulty (s : State) (l : Lease) : Bool :=
  l.bad || (l.holder < 272 && (!s.engGood l.holder || ((s.engine l.holder).run.map fun (x : Run) => decide (x.fault ≠ 0)).getD false))

/-- A lease that has come to its end (R274, R275): revoked with a rollback and bell 0x0902, or simply released. -/
def State.endLease (s : State) (r : Nat) : State :=
  let l := s.lease r
  if s.leaseFaulty l then
    (((s.rollback r).setLease r { l with holder := 0xFFFF, rolling := true, revoked := l.revoked + 1, bad := false }).bump
      Obj.LEASE_REVOKED).bell 0x0902
  else (s.setLease r { l with holder := 0xFFFF }).bump Obj.LEASE_EXPIRED

/-- Expiries at a boundary (R262, R274); the part's own holders renew at every boundary and never expire (R276). -/
def State.expireLeases (s : State) : State :=
  let k := s.nat Obj.ROLL_COUNT
  s.fab.leases.foldl (fun (t : State) e =>
    let l := e.2
    if l.holder < 0x8000 && l.expiry ≤ k then t.endLease e.1
    else if 0x8000 ≤ l.holder && l.holder < 0xFFFF then t.setLease e.1 { l with grant := k }
    else t) s

/-- LEASE_GRANT (R274): once the resource is free and any rollback is complete, the first waiting request is granted,
and an engine that waited continues (R185). -/
def State.grantLease (s : State) (r : Nat) : State :=
  let l := s.lease r
  if l.holder ≠ 0xFFFF then s
  else match l.waiting with
    | [] => s.setLease r { l with rolling := false }
    | (h, n) :: rest =>
      let k := s.nat Obj.ROLL_COUNT
      let s1 := s.setLease r { l with holder := h, waiting := rest, expiry := k + n, grant := k, rolling := false, bad := false }
      if h < 272 then
        let e := s1.engine h
        s1.setEngine h { e with run := e.run.map fun (x : Run) => { x with leasing := none } }
      else s1

/-- The port leases of every region are asked for by one of the part's own holders and taken where they are free (R233, R253,
R276). -/
def State.holdPorts (s : State) (code : Nat) : State :=
  (List.range 64).foldl (fun (t : State) g =>
    let r := 21 * g + 4
    let l := t.lease r
    if l.holder = code || l.waiting.any fun w => w.1 = code then t
    else if l.holder = 0xFFFF && l.waiting.isEmpty && !l.rolling then
      t.setLease r { l with holder := code, grant := t.nat Obj.ROLL_COUNT, bad := false }
    else t.setLease r { l with waiting := l.waiting ++ [(code, 0)] }) s

/-- All of them are held. -/
def State.portsHeld (s : State) (code : Nat) : Bool := (List.range 64).all fun g => (s.lease (21 * g + 4)).holder = code

/-- They are given back. -/
def State.freePorts (s : State) (code : Nat) : State :=
  (List.range 64).foldl (fun (t : State) g =>
    let r := 21 * g + 4
    let l := t.lease r
    t.setLease r { l with
      holder := if l.holder = code then 0xFFFF else l.holder
      waiting := l.waiting.filter fun w => w.1 ≠ code }) s

/-- Every region's port owes nothing to class `c`: its accesses so far have all been made (R270). -/
def State.portsPaid (s : State) (c : Nat) : Bool := (List.range 64).all fun g => s.owing (64 + g) c = 0

/-- `n` accesses of class `c` at every region's port (R263, R266). -/
def State.owePorts (s : State) (c n : Nat) : State := (List.range 64).foldl (fun (t : State) g => t.owe (64 + g) c n) s

/-- LEASE_GRANT. -/
def execLeaseGrant (r : Fin 1352) (s : State) : Out := .next (s.grantLease r.val)

/-! ## The roll boundary (R261, R262) -/

/-- Change every WAITS in progress (R184), by the engine that waits. -/
def State.mapWaits (s : State) (f : Nat → Wait → Wait) : State :=
  { s with fab := { s.fab with engines := Vector.ofFn fun p =>
    let e := s.fab.engines[p]
    match e.run with
    | some x => match x.waiting with
      | some w => { e with run := some { x with waiting := some (f p.val w) } }
      | none => e
    | none => e } }

/-- A time in tenths of a beat as the count will read it or has read it, at 320 LSB a beat (R80). -/
def State.dltAt (s : State) (tenths : Nat) : Dlt := Dlt.add s.now (32 * ((tenths : Int) - 10 * s.clk.beats))

/-- THE WORK OF THE BOUNDARY of beat `beat`, in the order of R262: a new table comes into force (R269), counters refill and what
waited for sticks goes on, leases expire. -/
def State.boundaryWork (s : State) (beat : Nat) : State :=
  let land := s.dltAt (10 * beat)
  let s1 := { s with rolls := { s.rolls with
    running := true
    origin := beat
    idle := idleRoll (s.nat Obj.ROLL_COUNT) (s.nat Obj.THROTTLE_LEVEL) } }
  let s2 := if s1.rolls.applyDue then
      { s1.each (List.range 4736) (fun x k => x.put (Obj.ALLOC_ACTIVE + k) (s1.rolls.taken.getD k 0)) with
        rolls := { s1.rolls with applyDue := false, taken := [] } }.put Obj.ALLOC_APPLY 2
    else s1
  let s3 := if s2.rolls.idle then
      { s2.bump Obj.THROTTLE_IDLE_ROLLS with focal := { s2.focal with frames := s2.focal.frames.map fun (f : Frame) =>
        if (s2.fab.regions.any fun r => r.frames.any fun x => x.num = f.num && !x.endDone)
        then { f with throttled := true } else f } }
    else s2
  let s4 := s3.mapWaits fun _ w => if w.rbLand.isNone then { w with rbLand := some land } else w
  ((s4.put Obj.LAST_ROLL_DLT land.toNat).refill.payOwed.drainSeam).expireLeases

/-- The first boundary, at the trim-apply beat: ROLL_COUNT stays 0 (R261). -/
def State.firstBoundary (s : State) : State := s.boundaryWork s.clk.beats

/-- A later boundary, of beat `beat`: ROLL_COUNT increments (R261). -/
def State.boundary (s : State) (beat : Nat) : State :=
  (s.put Obj.ROLL_COUNT (s.get Obj.ROLL_COUNT + 1)).boundaryWork beat

/-- ROLL_BOUNDARY (R261, R262): every 200 × ROLL_US beats. A command that comes late makes the boundary of the beat on which it
was due, so that boundary k keeps its place. -/
def execRollBoundary (s : State) : Out :=
  let due := s.rolls.origin + 200 * s.nat Obj.ROLL_ACTIVE_US
  .next (if s.rolls.running && due ≤ s.clk.beats then s.boundary due else s)

/-- The counters are filled again from the debts that stood before the boundary of this beat (R262, R267). -/
def State.refillAgain (s : State) : State :=
  ((s.putLe Obj.ACT_DEBT 0 4 s.rolls.debtIn.1).putLe Obj.ACT_DEBT 4 4 s.rolls.debtIn.2).refill.payOwed.drainSeam

/-- A FRAME_START landing brings ROLL_US into force (R262): the current roll ends and the landing is the new first
boundary, one boundary when a regular one fell at the same beat. -/
def State.newRollUs (s : State) : State :=
  let us := s.get Obj.ROLL_US
  if us = s.get Obj.ROLL_ACTIVE_US then s
  else
    let s1 := s.put Obj.ROLL_ACTIVE_US us
    if s.rolls.running && s.rolls.origin = s.clk.beats then s1.refillAgain else s1.boundary s.clk.beats

end Sys2Proof.Machine
end

