-- ==== Sys2Proof/Machine/Fabric.lean ====
section
/-! DEFINITION. The engine fabric (04_engine_fabric.md): rows and the line store, program slots and the table area, ECC,
seam links, fencing and spares, engine clocks. -/

namespace Sys2Proof.Machine

/-! ## Frames and rows (R109, R110) -/

/-- The frame with a given FRAME_COUNT, if it is still referred to. -/
def State.frame? (s : State) (n : BitVec 32) : Option Frame := s.focal.frames.find? fun f => f.num = n

/-- The bank of region `g` that is active for a frame, or its inactive one: an item's runs see the bank that was active at the
start of its frame (R145, R221). -/
def State.bankFor (s : State) (g : Nat) (n : BitVec 32) (inactive : Bool) : Nat :=
  match s.frame? n with
  | some f => 2 * g + (if f.banks.getLsbD g != inactive then 1 else 0)
  | none => s.bankNo g inactive

/-- Change a frame. -/
def State.mapFrame (s : State) (n : BitVec 32) (f : Frame → Frame) : State :=
  { s with focal := { s.focal with frames := s.focal.frames.map fun (x : Frame) => if x.num = n then f x else x } }

/-- The scan mask enables position `n` of quadrant `q` (the table "Frame profiles"). -/
def Frame.posOn (f : Frame) (q n : Nat) : Bool := (f.mask.getD (128 * q + n / 8) 0).getLsbD (n % 8)

/-- The scan mask enables some position of tile row `t` in quadrant `q` (R109). -/
def Frame.rowOn (f : Frame) (q t : Nat) : Bool :=
  (List.range 4).any fun i => f.mask.getD (128 * q + 4 * t + i) 0 ≠ 0

/-- Image row `y` of region column `c` lies in an enabled tile row. -/
def Frame.imageRowOn (f : Frame) (c y : Nat) : Bool := f.rowOn (quadOfRegion (y / 640 * 8 + c)) (y % 32)

/-- The enabled image rows above row `y` of region column `c`, nearest first, and those below (R110). -/
def Frame.rowsAbove (f : Frame) (c y : Nat) : List Nat :=
  ((List.range (min y 128)).map fun i => y - 1 - i).filter (f.imageRowOn c)
/-- The enabled image rows below. -/
def Frame.rowsBelow (f : Frame) (c y : Nat) : List Nat :=
  ((List.range (min (5119 - y) 128)).map fun i => y + 1 + i).filter (f.imageRowOn c)

/-- ROW NEIGHBOUR `k` of row `y` of region `g` (R110), as a row of the region: negative above it, from 640 below it; `none`
outside the array. -/
def Frame.neighbour (f : Frame) (g y : Nat) (k : Int) : Option Int :=
  let top := 640 * (g / 8)
  if k = 0 then some y
  else ((if k < 0 then f.rowsAbove (g % 8) (top + y) else f.rowsBelow (g % 8) (top + y))[k.natAbs - 1]?).map
    fun r => (r : Int) - top

/-- The rows that the item of row `y` needs: itself and ρ neighbours on each side (R110). -/
def Frame.itemRows (f : Frame) (g y rho : Nat) : List Int :=
  ((List.range (2 * rho + 1)).map fun i => (i : Int) - rho).filterMap (f.neighbour g y)

/-- Row `y` of region `g` has an item in the frame (R109). -/
def Frame.hasItem (f : Frame) (g y : Nat) : Bool := y < 640 && f.rowOn (quadOfRegion g) (y % 32)

/-- The rows of region `g` that have items, ascending. -/
def Frame.items (f : Frame) (g : Nat) : List Nat := (List.range 640).filter (f.hasItem g)

/-- NBR_RADIUS in force for a frame. -/
def State.rho (s : State) (frame : BitVec 32) : Nat := ((s.frame? frame).map (·.rho)).getD (s.nat Obj.NBR_RADIUS)

/-! ## What a profile scans (R74, R82) -/

/-- The entries of the regular sequence (R82). -/
def State.seqEntries (s : State) : List Nat :=
  (List.range (s.nat Obj.SEQ_LEN)).map fun i => s.getLe Obj.SEQ_ENTRIES (2 * i) 2

/-- The slots of the regular sequence over all passes (R82). -/
def State.seqSlots (s : State) : List Slot :=
  (List.range (s.nat Obj.SEQ_PASSES)).flatMap fun m => s.seqEntries.map fun e =>
    if e.testBit 15 then { isJ := true, n := e % 8 } else { isJ := false, n := (e % 1024 + m * s.nat Obj.SEQ_STEP) % 1024 }

/-- The scan mask of profile `p` in force (R74), or the positions that the regular sequence visits (R82). -/
def State.frameMask (s : State) (p : Nat) : List Byte :=
  if s.nat (Obj.P_SCAN_MODE p) = 1 then
    let ns := (s.seqSlots.filter fun k => !k.isJ).map (·.n)
    (List.range 512).map fun i => BitVec.ofNat 8 ((((List.range 8).filter fun b =>
      ns.contains (8 * (i % 128) + b)).map fun b => 2 ^ b).sum)
  else s.getBytes (Obj.P_SCAN_MASK p) 0 512

/-! ## The line store (R120, R121) -/

/-- The row buffer that holds a row of a frame in region `g`. -/
def State.rowBuf (s : State) (g : Nat) (frame : BitVec 32) (row : Int) : Option Nat :=
  ((s.region g).bufs.find? fun b => b.frame = frame && b.row = row).map (·.buf)

/-- The address of the word of column `x` in a row buffer (R120). -/
def lineAddr (g buf : Nat) (x : Int) : Nat := lineBase g + 4096 * buf + 4 * (x + 2).toNat

/-- The array pixel that column `col` of row `row` of region `g` stands for: its region, row and column there. -/
def haloSource (g : Nat) (row col : Int) : Option (Nat × Nat × Nat) :=
  let x : Int := 768 * (g % 8 : Nat) + col
  let y : Int := 640 * (g / 8 : Nat) + row
  if 0 ≤ x ∧ x < 6144 ∧ 0 ≤ y ∧ y < 5120 then
    some (y.toNat / 640 * 8 + x.toNat / 768, y.toNat % 640, x.toNat % 768)
  else none

/-- A halo word of a frame that its own region has discarded: it lies outside the array, arrived or not (R280). -/
def State.haloGone (s : State) (g : Nat) (frame : BitVec 32) (row x : Int) : Bool :=
  match haloSource g row x, s.frame? frame with
  | some (h, _, _), some fr => h ≠ g && fr.discards.getLsbD h
  | _, _ => false

/-- The line-store word of a row and column of a frame: 0, not present, where there is none (R121, R280). -/
def State.lineWord (s : State) (g : Nat) (frame : BitVec 32) (row x : Int) : Nat :=
  if x < -2 || 769 < x || s.haloGone g frame row x then 0
  else match s.rowBuf g frame row with
    | none => 0
    | some b => if s.eccBad.contains (lineAddr g b x) then 0 else s.le (lineAddr g b x) 4

/-- PRESENT, TAG and VALUE of a line-store word (R120). -/
def linePresent (w : Nat) : Bool := w.testBit 24
/-- TAG. -/
def lineTag (w : Nat) : Nat := bits w 23 20
/-- VALUE, signed. -/
def lineValue (w : Nat) : Int := signedOf 20 w

/-- Buffers of a region that are free (R122). -/
def Region.freeBufs (r : Region) : Nat := 256 - r.bufs.length

/-- The lowest free buffer. -/
def Region.freeBuf (r : Region) : Option Nat := (List.range 256).find? fun i => !(r.bufs.any fun b => b.buf = i)

/-! ## Uncorrectable words (R138) -/

/-- The words of `upset` that are found now, among the words read: an odd entry `2·a + 1` is an uncorrectable word at `a`,
an even entry `2·a` a corrected single-bit error there (log entry 14). -/
def newUpsets (known reads upset : List Nat) : List Nat :=
  (upset.filter fun u => u % 2 = 1 && reads.contains (u / 2) && !known.contains (u / 2)).map (· / 2)

/-- Corrected errors among the words read are counted (R138). -/
def State.countCorrected (s : State) (reads upset : List Nat) : State :=
  match (upset.filter fun u => u % 2 = 0 && reads.contains (u / 2)).length with
  | 0 => s
  | n => s.bump Obj.ECC_CORR n

/-- Uncorrectable words of a region memory found at a read: ECC_UNCORR and bell 0x0412, once a word (R138). -/
def State.findUpsets (s : State) (reads upset : List Nat) : State :=
  (newUpsets s.eccBad reads upset).foldl (fun (t : State) a =>
    ({ t with eccBad := a :: t.eccBad }.bump Obj.ECC_UNCORR).bell 0x0412) (s.countCorrected reads upset)

/-- Words that are uncorrectable in the table area are copied from another engine (R138). -/
def State.repairWords (s : State) (reads upset : List Nat) : State :=
  match (newUpsets [] reads upset).length with
  | 0 => s.countCorrected reads upset
  | n => (s.countCorrected reads upset).bump Obj.ECC_REPAIR n

/-! ## Program slots (R128-R130) and the table area (R119) -/

/-- Word `pc` of program slot `i`. -/
def State.progWord (s : State) (i pc : Nat) : Nat := s.le (progBase i + 4 * pc) 4
/-- LENGTH of a slot's header. -/
def State.slotLen (s : State) (i : Nat) : Nat := s.progWord i 0 % 65536
/-- An entry of the slot's header: 1 ITEM_ENTRY, 2 FRAME_ENTRY, 3 END_ENTRY (R117, R128). -/
def State.slotEntry (s : State) (i k : Nat) : Nat := s.progWord i k % 8192

/-- A SLOT IS VALID (R128, R129): ISA_MAJOR 1, LENGTH 9 to 8,192, entries inside the program, DIGEST matching. -/
def State.slotCheck (s : State) (i : Nat) : Bool :=
  let len := s.slotLen i
  let inside (e : Nat) : Bool := 8 ≤ e && e < len
  s.progWord i 0 / 65536 = 1 && 9 ≤ len && len ≤ 8192 && inside (s.slotEntry i 1) &&
  (s.slotEntry i 2 = 0 || inside (s.slotEntry i 2)) && (s.slotEntry i 3 = 0 || inside (s.slotEntry i 3)) &&
  (crc32 (s.bytes (progBase i + 32) (4 * (len - 8)))).toNat = s.progWord i 4

/-- SLOT_VALID of slot `i`. -/
def State.slotValid (s : State) (i : Nat) : Bool := (s.nat Obj.SLOT_VALID).testBit i

/-- The slot that region `g` ran in a frame (R130). -/
def State.ranSlot (s : State) (g : Nat) (frame : BitVec 32) : Nat :=
  match s.frame? frame with
  | some f => if f.runSlots.getLsbD g then 1 else 0
  | none => (s.region g).slot

/-- A write to slot `i` is refused while the slot is in use (R129). -/
def State.slotBusy (s : State) (i : Nat) : Bool :=
  (List.range 64).any fun g =>
    let r := s.region g
    r.slot = i || r.swapProg = some i || r.frames.any fun x => !x.endDone && s.ranSlot g x.num = i

/-- A byte of a slot as it is stored: reserved header bits stay zero (R12, R128). -/
def headerByte (off : Nat) (b : Byte) : Byte :=
  if 4 ≤ off && off < 16 then (if off % 4 = 1 then b &&& 0x1F else if 2 ≤ off % 4 then 0 else b)
  else if 20 ≤ off && off < 32 then 0 else b

/-- A WRITE TO A PROGRAM SLOT (R129): to every engine, and the slot is checked again; refused while it is in use. -/
def State.writeProg (s : State) (i off : Nat) (bytes : List Byte) : State × Nat :=
  if 32768 < off + bytes.length then (s, 4)
  else if s.slotBusy i then (s.bump Obj.PROG_REFUSED, 5)
  else
    let s1 := s.poke (progBase i + off) ((List.range bytes.length).map fun k => headerByte (off + k) (bytes.getD k 0))
    let s2 := { s1 with pipe := { s1.pipe with romSlot := match s1.pipe.romSlot with
      | some 2 => some (1 - i)
      | some k => if k = i then none else some k
      | none => none } }
    (s2.put Obj.SLOT_VALID (putBit (s2.nat Obj.SLOT_VALID) i (s2.slotCheck i)), 0)

/-- PROG_SLOT_WRITE (R129). -/
def execProgSlotWrite (slot : Fin 2) (off : Nat) (bytes : List Byte) (s : State) : Out :=
  .next (s.writeProg slot.val off bytes).1

/-- A write of TABLE_AREA goes to all 272 table areas at once (R119). -/
def State.writeTable (s : State) (off : Nat) (bytes : List Byte) : State × Nat :=
  if 131072 < off + bytes.length then (s, 4) else (s.poke (tableBase + off) bytes, 0)

/-- TABLE_AREA_WRITE (R119). -/
def execTableAreaWrite (off : Nat) (bytes : List Byte) (s : State) : Out := .next (s.writeTable off bytes).1

/-! ## Seam links (R126, R127) -/

/-- The two dies of a seam link, in SEAM_STATE order. -/
def seamDies (l : Nat) : Nat × Nat := [(0, 1), (2, 3), (0, 2), (1, 3)].getD l (0, 0)

/-- The seam link that joins two dies directly. -/
def seamBetween (a b : Nat) : Option Nat := (List.range 4).find? fun l => seamDies l = (min a b, max a b)

/-- The seam links that a halo word from die `a` to die `b` crosses: first the seam between dies of the same region row,
then the seam between region rows (R126). -/
def seamPath (a b : Nat) : List Nat :=
  (if a % 2 = b % 2 then [] else [if a < 2 then 0 else 1]) ++ (if a / 2 = b / 2 then [] else [2 + b % 2])

/-- The transmit slots of that path: link and direction (R183). -/
def seamSlots (a b : Nat) : List Nat :=
  let mid := a / 2 * 2 + b % 2
  (if a % 2 = b % 2 then [] else [2 * (if a < 2 then 0 else 1) + (if a < mid then 0 else 1)]) ++
  (if a / 2 = b / 2 then [] else [2 * (2 + b % 2) + (if mid < b then 0 else 1)])

/-- Some seam link of the path is down (R127). -/
def State.pathDown (s : State) (a b : Nat) : Bool := (seamPath a b).any fun l => s.fab.seamDown.toList.getD l false

/-- A SEAM LINK GOES DOWN (R127): gong 0x0031 and bell 0x0417; words that would cross it read as outside the array. -/
def State.seamLinkDown (s : State) (l : Nat) : State :=
  let s1 := { s with fab := { s.fab with seamDown := s.fab.seamDown.setIfInBounds l true } }
  ((s1.put (Obj.SEAM_STATE l) 1).pullGong (some 0x31)).bell 0x0417

/-- SEAM_BLOCK_RECEIVE (R127): a block that fails its CRC is sent again, up to 16 failures. -/
def execSeamBlockReceive (link : Fin 4) (crcOk : Bool) (s : State) : Out :=
  .next (
    if s.fab.seamDown[link] then s
    else if crcOk then { s with fab := { s.fab with seamFails := s.fab.seamFails.set link 0 } }
    else
      let n := s.fab.seamFails[link] + 1
      let s1 := { s with fab := { s.fab with seamFails := s.fab.seamFails.set link n } }
      if n = 16 then s1.seamLinkDown link.val else s1.bump (Obj.SEAM_RETRIES link.val))

/-! ## Fencing and spares (R135-R137) -/

/-- A run that is abandoned commits nothing, and the histogram banks it updated are invalid for its frame (R115); leases
that it used are marked for a rollback, and its waiting lease request is withdrawn (R275). -/
def State.abandon (s : State) (p : Nat) : State :=
  match (s.engine p).run with
  | none => s
  | some x =>
    let r := x.hists.foldl (fun (r : Region) b => r.badHist x.item.frame b) (s.region x.item.region)
    let s1 := s.setRegion x.item.region { r with claimed := r.claimed.filter fun c => c.2 ≠ p }
    let s2 := s1.fab.leases.foldl (fun (t : State) e =>
      t.setLease e.1 { e.2 with
        bad := e.2.bad || (e.2.holder = p && x.used.contains e.1)
        waiting := e.2.waiting.filter fun w => w.1 ≠ p }) s1
    s2.setEngine p { s2.engine p with run := none }

/-- Put an item back at the head of its region's queue (R116, R135). -/
def State.requeue (s : State) (it : Item) : State :=
  s.setRegion it.region { s.region it.region with queue := it :: (s.region it.region).queue }

/-- The claim of a run is given back: an item or an END_ENTRY to the head of its queue, a check, third or repeated check run
to its list. -/
def State.giveBack (s : State) (x : Run) : State :=
  match x.first, x.kind with
  | some p0, k =>
    let s1 : State := { s with fab := { s.fab with reruns := s.fab.reruns ++ [(x.item, p0, k)] } }
    if k = .item then s1.requeue x.item else s1
  | none, .item | none, .endEntry => s.requeue x.item
  | none, .check => { s with fab := { s.fab with checks := s.fab.checks ++ [(x.item, x.primary)] } }
  | none, .third => { s with fab := { s.fab with thirds := s.fab.thirds ++ [(x.item, x.primary, x.other)] } }
  | none, _ => s

/-- FENCE AN ENGINE (R135, R36): it stops, its claim goes back, STATE becomes 0b10, bell 0x0411 is raised and the live
Masol changes; its logical number waits for the next frame start. -/
def State.fence (s : State) (p : Nat) : State :=
  if !s.engGood p then s
  else
    let s1 := match (s.engine p).run with
      | none => s
      | some x => (s.abandon p).giveBack x
    let s2 := { s1 with fab := { s1.fab with
      state := s1.fab.state.setIfInBounds p 2
      fences := match s1.logicalOf p with
        | some n => s1.fab.fences ++ [(n, s1.clk.beats)]
        | none => s1.fab.fences } }
    let s3 := s2.setEngine p { s2.engine p with entryDue := none }
    ((s3.bump Obj.FENCE_COUNT).bell 0x0411).liveChange

/-- The good spares of die `q` that carry no logical number, ascending (R31, R136). -/
def State.spares (s : State) (q : Nat) : List Nat :=
  ((List.range 4).map fun k => 256 + 4 * q + k).filter fun p => s.engGood p && (s.logicalOf p).isNone

/-- One logical number takes its spare, or reads 0x1FF (R136, R137): the spare starts with its scratch area and EVP zeroed
and has FRAME_ENTRY to run. -/
def State.takeSpare (s : State) (frame : BitVec 32) (n : Nat) : State :=
  match s.spares (quadOfRegion (n / 4)) with
  | [] => { s with fab := { s.fab with phys := s.fab.phys.setIfInBounds n 0x1FF } }
  | p :: _ =>
    let s1 := { s with fab := { s.fab with phys := s.fab.phys.setIfInBounds n p } }
    (s1.wipe (scratchBase p) (scratchBase p + 131072)).setEngine p { entryDue := some frame }

/-- A pair with no live engine (R137). -/
def State.pairDead (s : State) (g : Nat) : Bool :=
  (s.liveEngines g).isEmpty && (s.liveEngines (g ^^^ 1)).isEmpty

/-- The launch beat of the stroke whose landing takes effect now (R36, R53). -/
def State.launchBeat (s : State) : Nat := (s.strokes.landed.getLast?.map (·.beat)).getD s.clk.beats

/-- SPARES TAKE OVER (R36, R136, R137) at the first frame start whose launch beat falls after the fence's beat, in ascending order of
logical numbers; a pair without a live engine sends gong 0x0032 at the first frame start that finds it so. -/
def State.sparesTakeOver (s : State) (frame : BitVec 32) : State :=
  let due := (s.fab.fences.filter fun f => f.2 < s.launchBeat).map (·.1)
  let s3 := if due.isEmpty then s
    else
      let s1 : State := { s with fab := { s.fab with fences := s.fab.fences.filter fun f => s.launchBeat ≤ f.2 } }
      let s2 := ((List.range 256).filter due.contains).foldl (fun (t : State) n => t.takeSpare frame n) s1
      s2.liveChange
  if (List.range 64).any fun g => (!s.focal.started || due.any fun n => n / 4 = g) && s3.pairDead g then s3.pullGong (some 0x32)
  else s3

/-! ## Engine clocks (R139, R140) -/

/-- The minimum VDDE in mV for a frequency in MHz (R140). -/
def vddeMin (f : Nat) : Nat :=
  if f ≤ 100 then 550 else if f ≤ 200 then 620 else if f ≤ 250 then 670 else if f ≤ 300 then 720
  else if f ≤ 350 then 780 else 830

/-- A write of F_ENG_Qk (R139): the value is staged and the idle PLL of the die starts to lock on it. -/
def State.writeFEng (s : State) (q v : Nat) : State :=
  let s1 := { s with
    fab := { s.fab with
      pllIdle := s.fab.pllIdle.setIfInBounds q v
      pllReady := s.fab.pllReady.setIfInBounds q false }
    shadow := { s.shadow with staged := (s.shadow.staged.filter fun (e : Nat × Int) => e.1 ≠ Obj.F_ENG q) ++ [(Obj.F_ENG q, (v : Int))] } }
  s1.put Obj.F_ENG_READY (putBit (s1.nat Obj.F_ENG_READY) q false)

/-- F_ENG_WRITE (R139): 50 to 400 MHz in steps of 5; other values are refused (R340). -/
def execFEngWrite (q : Fin 4) (v : Nat) (s : State) : Out :=
  .next (if 50 ≤ v && v ≤ 400 && v % 5 = 0 then s.writeFEng q.val v else s)

/-- ENGINE_PLL_LOCK (R139): F_ENG_READY reads 1. -/
def execEnginePllLock (q : Fin 4) (s : State) : Out :=
  .next ({ s with fab := { s.fab with pllReady := s.fab.pllReady.set q true } }.put Obj.F_ENG_READY
    (putBit (s.nat Obj.F_ENG_READY) q.val true))

/-- Die `q` runs at `f` from now on, and the PLL that drove it becomes the idle one (R139, R140; log entry 21). -/
def State.runAt (s : State) (q f : Nat) : State :=
  { s with fab := { s.fab with
      engSwitch := s.fab.engSwitch.setIfInBounds q none
      pllIdle := s.fab.pllIdle.setIfInBounds q (s.nat (Obj.F_ENG_ACTIVE q)) } }.put (Obj.F_ENG_ACTIVE q) f

/-- At a FRAME_START landing a committed frequency comes into force on die `q` once its PLL has locked and VDDE allows it; the
frequency that the die runs at needs no switch (R139, R140). -/
def State.switchEngine (s : State) (q : Nat) : State :=
  match s.fab.engSwitch.toList.getD q none with
  | none => s
  | some (f, rung) =>
    if s.nat (Obj.F_ENG_ACTIVE q) = f then
      { s with fab := { s.fab with engSwitch := s.fab.engSwitch.setIfInBounds q none } }.put (Obj.F_ENG q) f
    else if !(s.fab.pllReady.toList.getD q false) || s.fab.pllIdle.toList.getD q 0 ≠ f then s
    else if s.nat (Obj.VDDE_MEAS q) < vddeMin f then
      if rung then s
      else State.bell { s with fab := { s.fab with engSwitch := s.fab.engSwitch.setIfInBounds q (some (f, true)) } } 0x0415
    else (s.runAt q f).put (Obj.F_ENG q) f

/-- The highest frequency that a voltage allows (R140); below the lowest minimum the table allows none, and the value is
free (log entry 7). -/
def State.vddeBest (s : State) (mv : Nat) : Nat × State :=
  match [400, 350, 300, 250, 200, 100].find? fun f => vddeMin f ≤ mv with
  | some f => (f, s)
  | none => (50 + 5 * (s.draw.toNat % 71), s.drawn)

/-- VDDE_MEASURE (R140): an undervoltage of more than 20 mV switches the die at once to what the voltage allows. -/
def execVddeMeasure (q : Fin 4) (mv : Nat) (s : State) : Out :=
  .next (
    let s1 := s.put (Obj.VDDE_MEAS q.val) mv
    if mv + 20 < vddeMin (s1.fEng q.val) then
      let b := s1.vddeBest mv
      (b.2.runAt q.val b.1).bell 0x0416
    else s1)

end Sys2Proof.Machine
end

