-- ==== Sys2Proof/Machine/Flags.lean ====
section
/-! DEFINITION. The flags of an engine, FL (05_engine_instructions.md R149, R160, R162), and the tag bits of R15. -/

namespace Sys2Proof.Machine

/-- Bits of FL (R149). -/
abbrev flZ : Nat := 0
abbrev flN : Nat := 1
abbrev flC : Nat := 2
abbrev flV : Nat := 3
abbrev flECC : Nat := 8
abbrev flTMO : Nat := 9
abbrev flLF : Nat := 10

/-- Tag bits (R15). -/
abbrev tagOVR : Nat := 1
abbrev tagSET : Nat := 2
abbrev tagSUB : Nat := 4
abbrev tagCHK : Nat := 8

/-- A flag of the engine. -/
def Engine.flag (e : Engine) (i : Nat) : Bool := e.fl.getLsbD i

/-- Put a flag of the engine. -/
def Engine.putFlag (e : Engine) (i : Nat) (b : Bool) : Engine :=
  { e with fl := BitVec.ofNat 32 (putBit e.fl.toNat i b) }

/-- Z and N from a 32-bit result (R149, R160). -/
def Engine.flagsZN (e : Engine) (r : Word) : Engine := (e.putFlag flZ (r = 0)).putFlag flN r.msb

/-- Flags of `a + b` (R160). -/
def Engine.flagsAdd (e : Engine) (a b : Word) : Engine :=
  let r := a + b
  ((e.flagsZN r).putFlag flC (2 ^ 32 ≤ a.toNat + b.toNat)).putFlag flV (a.toInt + b.toInt ≠ r.toInt)

/-- Flags of `a - b` (R149: C is 1 for no borrow; R160). -/
def Engine.flagsSub (e : Engine) (a b : Word) : Engine :=
  let r := a - b
  ((e.flagsZN r).putFlag flC (b.toNat ≤ a.toNat)).putFlag flV (a.toInt - b.toInt ≠ r.toInt)

/-- The mask that MSEL or MK names: M0 reads all ones (R147). -/
def Engine.mask (e : Engine) (k : Nat) : Word := if k = 0 then 0xFFFFFFFF else e.m.toList.getD k 0

/-- Write a mask; a write to M0 is ignored (R147). -/
def Engine.putMask (e : Engine) (k : Nat) (v : Word) : Engine :=
  if k = 0 then e else { e with m := e.m.setIfInBounds k v }

/-- The condition COND of SBR (R162); `none` for the illegal codes. -/
def Engine.cond (e : Engine) (c msel : Nat) : Option Bool :=
  let z := e.flag flZ
  let n := e.flag flN
  let v := e.flag flV
  match c with
  | 0 => some true
  | 1 => some z
  | 2 => some !z
  | 3 => some (n != v)
  | 4 => some (n == v)
  | 5 => some (!z && n == v)
  | 6 => some (z || n != v)
  | 7 => some !(e.flag flC)
  | 8 => some (e.flag flC)
  | 9 => some (e.mask msel ≠ 0)
  | 10 => some (e.mask msel = 0)
  | 11 => some (e.flag flECC)
  | 12 => some (e.flag flTMO)
  | 13 => some (e.flag flLF)
  | _ => none

end Sys2Proof.Machine
end

