-- ==== Sys2Proof/Machine/EngineCore.lean ====
section
/-! DEFINITION. How an engine issues an instruction and goes on (05_engine_instructions.md R142-R158, R163, R188, R190): the
fetch, the PFX word, the next PC, the loops, the faults, and lanes with their tags. -/

namespace Sys2Proof.Machine

/-! ## Runs -/

/-- A run whose effects are only compared (R133, R134). -/
def RunKind.comparing : RunKind → Bool
  | .check | .third => true
  | _ => false

/-- An item run of R142, of whatever cause. -/
def RunKind.isItem : RunKind → Bool
  | .frameEntry | .endEntry => false
  | _ => true

/-- The activity class of a run (R266). -/
def RunKind.cls (k : RunKind) : Nat := if k.isItem then 0 else 1

/-- The word that the engine's PC names in the slot its run executes. -/
def State.fetched (s : State) (e : Engine) (x : Run) : Nat := s.progWord x.slot e.pc

/-- The address is that of the second word of a prefixed pair. -/
def State.pairSecond (s : State) (slot pc : Nat) : Bool := 9 ≤ pc && s.progWord slot (pc - 1) / 2 ^ 26 = 0x3F

/-- An address from which execution may go on (R151). -/
def State.inProgram (s : State) (slot pc : Nat) : Bool := 8 ≤ pc && pc < s.slotLen slot

/-- THE ENGINE THAT ISSUES (R144): engine `p` has a run that waits for nothing, has not ended and has not faulted, and the
word at its PC is the opcode `op` with fields `f`. -/
def State.issues (s : State) (p op : Nat) (f : BitVec 26) : Option (Engine × Run) :=
  let e := s.engine p
  match e.run with
  | none => none
  | some x =>
    if x.waiting.isNone && x.leasing.isNone && x.flash.isNone && !x.ended && x.fault = 0 &&
        s.inProgram x.slot e.pc && s.fetched e x = op * 2 ^ 26 + f.toNat then some (e, x)
    else none

/-- A fault ends the run (R190): its code goes to W3 of the engine's entry, and ENGINE_FAULT handles it. -/
def State.faultRun (s : State) (p code : Nat) : State :=
  let e := s.engine p
  s.setEngine p { e with lastFault := code, run := e.run.map fun (x : Run) => { x with fault := code } }

/-- The next PC after the instruction at `pc` when no branch is taken (R163): the end test applies to the innermost loop at
its own call depth. -/
def Engine.advance (e : Engine) (pc : Nat) : Engine :=
  match e.loops with
  | l :: rest =>
    if pc = l.endp && e.calls.length = l.depth then
      if 1 < l.left then { e with pc := l.start, loops := { l with left := l.left - 1 } :: rest }
      else { e with pc := pc + 1, loops := rest }
    else { e with pc := pc + 1 }
  | [] => { e with pc := pc + 1 }

/-- Loops that a taken branch to `t` leaves end, from the innermost outwards (R163). -/
def leaveLoops (t : Nat) : List Loop → List Loop
  | [] => []
  | l :: rest => if l.start ≤ t && t ≤ l.endp then l :: rest else leaveLoops t rest

/-- What an instruction does to its engine: it goes on, branches or faults. -/
inductive Flow where
  | next
  | jump (t : Nat)
  | fault (code : Nat)
deriving DecidableEq, Repr

/-- The effect of an instruction: the state with the engine's registers changed, and where the engine goes. -/
abbrev Eff := State × Flow

/-- A fault without effect. -/
def Eff.fail (s : State) (code : Nat) : Eff := (s, .fault code)

/-- THE ENGINE GOES ON after the instruction at `pc` (R151, R155, R163): the PFX word is used up, ICOUNT counts the
instruction, a taken branch, call or return costs 2 cycles (R188), and a PC outside the program or a branch to the second word of a pair faults. -/
def State.retire (r : Eff) (p pc cycles : Nat) (counts : Bool) : State :=
  let s := r.1
  let e := s.engine p
  match r.2, e.run with
  | .fault c, _ => s.faultRun p c
  | _, none => s
  | .next, some x =>
    let e1 := if x.ended then e else e.advance pc
    let e2 := { e1 with
      icount := e1.icount + (if counts then 1 else 0)
      run := some (if counts then { x with pfx? := none } else x) }
    let s1 := (s.setEngine p e2).spend ((s.regionOfEngine p).getD 0) x.kind.cls cycles
    if x.ended || s.inProgram x.slot e2.pc then s1 else s1.faultRun p 0x03
  | .jump t, some x =>
    if s.inProgram x.slot t && !s.pairSecond x.slot t then
      (s.setEngine p { e with
        pc := t
        icount := e.icount + 1
        run := some { x with pfx? := none } }).spend ((s.regionOfEngine p).getD 0) x.kind.cls 2
    else s.faultRun p 0x03

/-- ISSUE OF AN INSTRUCTION (R144, R154, R155, R188, R270): nothing happens unless engine `p` issues this word; a class
without ENG sticks waits, but a prefixed pair is never split; a PFX word before a word that takes none, and an illegal
encoding, fault with 0x01. -/
def State.instr (s : State) (p op : Nat) (f : BitVec 26) (cycles : Nat) (takesPrefix legal : Bool)
    (body : Engine → Run → Eff) : State :=
  match s.issues p op f with
  | none => s
  | some (e, x) =>
    let g := (s.regionOfEngine p).getD 0
    if x.pfx?.isNone && !s.maySpend g x.kind.cls then s.stallRoll g x.kind.cls
    else if (x.pfx?.isSome && !takesPrefix) || !legal then s.faultRun p 0x01
    else State.retire (body e x) p e.pc cycles true

/-- An instruction that changes its engine's registers only. -/
def State.regInstr (s : State) (p op : Nat) (f : BitVec 26) (cycles : Nat) (takesPrefix legal : Bool)
    (body : Engine → Run → Except Nat Engine) : State :=
  s.instr p op f cycles takesPrefix legal fun e x =>
    match body e x with
    | .error c => Eff.fail s c
    | .ok e' => (s.setEngine p e', .next)

/-! ## Scalar registers and immediates (R153, R154) -/

/-- A scalar register. -/
def Engine.sr (e : Engine) (i : Nat) : Word := e.s.toList.getD i 0

/-- Put a scalar register. -/
def Engine.putS (e : Engine) (i : Nat) (v : Word) : Engine := { e with s := e.s.setIfInBounds i v }

/-- The immediate of SR: IMM17 signed, or {IMMHI[14:0], IMM17} (R154); `none` when upper bits of the PFX word are set. -/
def srImm (f : Nat) (pf : Option (BitVec 26)) : Option Word :=
  match pf with
  | none => some (BitVec.ofInt 32 (signedOf 17 f))
  | some h => if h.toNat < 2 ^ 15 then some (BitVec.ofNat 32 (h.toNat * 2 ^ 17 + f % 2 ^ 17)) else none

/-- The offset of MF in bytes: OFF signed, or {IMMHI[15:0], OFF}. -/
def mfOff (f : Nat) (pf : Option (BitVec 26)) : Option Word :=
  match pf with
  | none => some (BitVec.ofInt 32 (signedOf 16 f))
  | some h => if h.toNat < 2 ^ 16 then some (BitVec.ofNat 32 (h.toNat * 2 ^ 16 + f % 2 ^ 16)) else none

/-! ## Lanes (R147, R148, R156, R159) -/

/-- Lanes of a form and their width in bits: W = 0 is .H, W = 1 is .W (R156). -/
def laneCount (w : Bool) : Nat := if w then 16 else 32
/-- Lane width. -/
def laneBits (w : Bool) : Nat := if w then 32 else 16

/-- A vector register. -/
def Engine.vr (e : Engine) (i : Nat) : VReg := e.v.toList.getD i {}

/-- Put a vector register. -/
def Engine.putV (e : Engine) (i : Nat) (r : VReg) : Engine := { e with v := e.v.setIfInBounds i r }

/-- A lane as an unsigned number. -/
def VReg.laneU (r : VReg) (w : Bool) (j : Nat) : Nat := (r.lanes.toNat >>> (laneBits w * j)) % 2 ^ laneBits w
/-- A lane as a signed number (R156: lanes are signed unless a SUB bit says otherwise). -/
def VReg.lane (r : VReg) (w : Bool) (j : Nat) : Int := signedOf (laneBits w) (r.laneU w j)
/-- A lane's tag nibble. -/
def VReg.tag (r : VReg) (j : Nat) : Nat := (r.tags.toNat >>> (4 * j)) % 16

/-- Lanes put together, lane 0 lowest. -/
def packLanes (n width : Nat) (f : Nat → Int) : Nat :=
  ((List.range n).map fun j => wrapNat width (f j) <<< (width * j)).sum

/-- A RESULT IN A REGISTER (R148, R159): active lanes take value and tag, inactive ones keep theirs; a 32-bit result sets
T[16] to T[31] to zero. -/
def VReg.write (d : VReg) (w : Bool) (act : Nat → Bool) (val : Nat → Int) (tag : Nat → Nat) : VReg :=
  let n := laneCount w
  { lanes := BitVec.ofNat 512 (packLanes n (laneBits w) fun j => if act j then val j else (d.laneU w j : Int))
    tags := BitVec.ofNat 128 (packLanes n 4 fun j => if act j then (tag j : Int) else (d.tag j : Int)) }

/-- Lane `j` is active under mask `k` (R159). -/
def Engine.active (e : Engine) (k j : Nat) : Bool := (e.mask k).getLsbD j

/-- The fields of VR (R153). -/
structure VR where
  vd : Nat
  va : Nat
  b  : Nat
  bm : Nat
  w  : Bool
  msk : Nat
  tg : Nat
  sub : Nat
deriving DecidableEq, Repr

/-- The fields of a VR word. -/
def VR.of (f : BitVec 26) : VR :=
  let n := f.toNat
  ⟨bits n 25 21, bits n 20 16, bits n 15 11, bits n 10 9, bit n 8, bits n 7 5, bits n 4 3, bits n 2 0⟩

/-- a PFX word is accepted with BM = 0b10 only (R154). -/
def VR.takesPrefix (r : VR) : Bool := r.bm = 2

/-- The value of the immediate (R154, R156): B signed, or {IMMHI, B} sign-extended from bit 30. -/
def VR.imm (r : VR) (pf : Option (BitVec 26)) : Int :=
  match pf with
  | none => signedOf 5 r.b
  | some h => signedOf 31 (h.toNat * 32 + r.b)

/-- Lane `j` of the second operand, unsigned in the lane width (R156). -/
def Engine.bU (e : Engine) (r : VR) (pf : Option (BitVec 26)) (j : Nat) : Nat :=
  match r.bm with
  | 0 => (e.vr r.b).laneU r.w j
  | 1 => (e.sr (r.b % 16)).toNat % 2 ^ laneBits r.w
  | _ => wrapNat (laneBits r.w) (r.imm pf)

/-- Lane `j` of the second operand, signed. -/
def Engine.bS (e : Engine) (r : VR) (pf : Option (BitVec 26)) (j : Nat) : Int :=
  signedOf (laneBits r.w) (e.bU r pf j)

/-- The tag of lane `j` of the second operand; a broadcast or immediate brings none (R158). -/
def Engine.bTag (e : Engine) (r : VR) (j : Nat) : Nat := if r.bm = 0 then (e.vr r.b).tag j else 0

/-- The tag that TG gives lane `j` (R158). -/
def Engine.tgTag (e : Engine) (r : VR) (j : Nat) : Nat :=
  let ta := (e.vr r.va).tag j
  match r.tg with
  | 0 => ta ||| e.bTag r j
  | 1 => ta
  | 2 => e.bTag r j
  | _ => (e.vr r.vd).tag j

/-- A vector result under MK and TG in register Vd. -/
def Engine.vrResult (e : Engine) (r : VR) (val : Nat → Int) : Engine :=
  e.putV r.vd ((e.vr r.vd).write r.w (e.active r.msk) val (e.tgTag r))

/-- Saturation to a lane, signed or unsigned (R157). -/
def satLane (w u : Bool) (x : Int) : Int :=
  if u then clampInt x 0 (2 ^ laneBits w - 1) else clampInt x (-(2 ^ (laneBits w - 1))) (2 ^ (laneBits w - 1) - 1)

/-- `x` rounded down by `s` bits (R157). -/
def roundDown (x : Int) (s : Nat) : Int := if s = 0 then x else (x + 2 ^ (s - 1)).fdiv (2 ^ s)

/-! ## The signature (R133) -/

/-- What a run's signature covers grows by a chunk: a kind, the place and the bytes (log entry 16). -/
def Run.sign (x : Run) (kind : Nat) (place : Nat) (bytes : List Byte) : Run :=
  { x with sig := (leBytes 1 kind ++ leBytes 4 place ++ bytes).reverse ++ x.sig }

/-- The signature of a run: the CRC-32 of R22 in program order. -/
def Run.signature (x : Run) : Word := crc32 x.sig.reverse

/-! ## Leases that a run needs (R131, R185) -/

/-- The resource number of a lease KIND and IDX in region `g` (R277). -/
def leaseNumber (kind idx g : Nat) : Nat :=
  match kind with
  | 0 => 21 * g + idx
  | 1 => 21 * g + 4
  | 2 => 21 * g + 5 + idx
  | _ => 1344 + idx

/-- Engine `p` holds resource `r`. -/
def State.holds (s : State) (p r : Nat) : Bool := (s.lease r).holder = p

/-- The run used a leased resource (R275). -/
def Run.use (x : Run) (r : Nat) : Run := if x.used.contains r then x else { x with used := r :: x.used }

/-- Change engine `p`'s run. -/
def State.mapRun (s : State) (p : Nat) (f : Run → Run) : State :=
  let e := s.engine p
  s.setEngine p { e with run := e.run.map f }

end Sys2Proof.Machine
end

