-- ==== Sys2Proof/Machine/Flash.lean ====
section
/-! DEFINITION. The flash port's command queue (12_serial_ports_accessory_bus.md R364-R371): what the flash was found to be, the
commands it is sent, and the order of writes, erases and reads. -/

namespace Sys2Proof.Machine

/-- The density in force (R365). -/
def State.flashSize (s : State) : Nat := (s.ports.sfdp.map (·.density)).getD 0

/-- The flash can be written: it has been discovered and its page size is 256 bytes (R365). -/
def State.flashWritable (s : State) : Bool := (s.ports.sfdp.map (·.pageSize)) = some 256

/-- The flash takes 4-byte addresses, by the commands of R365 or in 4-byte mode; in the fallback it does not. -/
def State.fourByte (s : State) : Bool := !s.flashFallback

/-- The largest time of an operation (R365): its typical time times its multiplier. -/
def maxUs (t : Nat × Nat) : Nat := t.1 * t.2

/-- The erase type of a size, where the flash has it (R365). -/
def eraseType (d : Sfdp) (size : Nat) : Option (Nat × Nat) := if size = 4096 then d.erase4 else d.erase64

/-- The time after which a program or an erase is given up, µs (R369, R371). -/
def State.flashLimit (s : State) : FlashOp → Nat
  | .program _ _ => 2 * ((s.ports.sfdp.map fun d => maxUs d.prog).getD 2500)
  | .erase _ size => 2 * (((s.ports.sfdp.bind fun d => eraseType d size).map maxUs).getD 1000000)
  | _ => 0

/-- The read command (R365, R366): 03h in the fallback, else 0Dh or 0Eh at double rate and 0Bh or 0Ch at single rate, the
second of each where the flash has the 4-byte commands. -/
def State.readCmd (s : State) : Nat :=
  if s.flashFallback then 0x03
  else
    let long := (s.ports.sfdp.map (·.fourByte)).getD false
    match s.flashDtr, long with
    | true, false => 0x0D
    | true, true => 0x0E
    | false, false => 0x0B
    | false, true => 0x0C

/-- A write cut at every 256-byte boundary of flash address (R368). -/
def flashSegments : Nat → Nat → List Byte → List FlashOp
  | 0, _, _ => []
  | fuel + 1, a, bs =>
    if bs.isEmpty then []
    else
      let k := 256 - a % 256
      .program a (bs.take k) :: flashSegments fuel (a + k) (bs.drop k)

/-- Nothing is queued and nothing is in progress. -/
def State.flashIdle (s : State) : Bool := s.ports.flashNow.isNone && s.ports.flashRest.isEmpty && s.ports.flashQ.isEmpty

/-- The engine's LDL that waits for the flash window: its class, address and bytes. -/
def State.flashLoad (s : State) (p : Nat) : Option (Nat × Nat × Nat) :=
  (s.engine p).run.bind fun x => x.flash.map fun f => (x.kind.cls, f.1, if f.2.1 then 64 else 4)

/-- A queued command is still wanted: a read whose engine has been stopped, or whose lane has gone down, is not sent. -/
def State.flashWanted (s : State) : FlashOp → Bool
  | .engine p => (s.flashLoad p).isSome
  | .read t _ => t < 10
  | _ => true

/-- Class and units of a command's charge on FLASH (R263, R270). -/
def State.flashCost (s : State) : FlashOp → Nat × Nat
  | .program _ bs => (6, bs.length)
  | .erase _ _ => (6, 0)
  | .read _ r => (6, r.length)
  | .engine p => ((s.flashLoad p).map fun l => (l.1, l.2.2)).getD (0, 0)

/-- What goes out on FSPI for a command (R366, R368, R371): write-enable 06h before a program or an erase. -/
def State.flashSends (s : State) : FlashOp → List Sent
  | .program a bs => [.fspi 0x06 0 [], .fspi (if s.fourByte then 0x12 else 0x02) a bs]
  | .erase a size => [.fspi 0x06 0 [], .fspi (if s.flashFallback then 0x20 else if size = 4096 then 0x21 else 0xDC) a []]
  | .read _ r => [.fspi s.readCmd r.offset []]
  | .engine p => [.fspi s.readCmd (((s.flashLoad p).map fun l => l.2.1).getD 0) []]

/-- A command starts once its budget is charged (R270); `t` is the state without it in the queue. -/
def State.flashGo (s : State) (op : FlashOp) (t : State → State) : State :=
  s.charge 144 (s.flashCost op).1 (s.flashCost op).2 fun u =>
    let u1 := t u
    let u2 := { u1 with ports := { u1.ports with flashNow := some op, flashAt := u1.clk.beats, pollAt := u1.clk.beats } }
    let u3 := match op with
      | .program _ _ => u2.put Obj.FLASH_WR_STATE 1
      | _ => u2
    (s.flashSends op).foldl (fun (v : State) m => v.send m) u3

/-- THE NEXT COMMAND TO THE FLASH (R368, R370): the next segment of the write in progress, or the next command of the queue, in
the order in which they were served; it charges the FLASH budget of its class before it starts. -/
def State.flashStart (s0 : State) : State :=
  if s0.ports.flashNow.isSome then s0
  else
    let s : State := { s0 with ports := { s0.ports with flashQ := s0.ports.flashQ.dropWhile fun op => !s0.flashWanted op } }
    match s.ports.flashRest, s.ports.flashQ with
    | op :: rest, _ => s.flashGo op fun t => { t with ports := { t.ports with flashRest := rest } }
    | [], .program a bs :: q =>
      match flashSegments (bs.length + 1) a bs with
      | [] => { s with ports := { s.ports with flashQ := q } }
      | op :: rest => s.flashGo op fun t => { t with ports := { t.ports with flashQ := q, flashRest := rest } }
    | [], op :: q => s.flashGo op fun t => { t with ports := { t.ports with flashQ := q } }
    | [], [] => s

/-- A command joins the queue of the flash (R370). -/
def State.flashAsk (s : State) (op : FlashOp) : State :=
  State.flashStart { s with ports := { s.ports with flashQ := s.ports.flashQ ++ [op] } }

/-- A dictionary read of the flash window waits (R346, R370). -/
def State.flashReading (s : State) : Bool :=
  (s.ports.flashQ ++ s.ports.flashNow.toList).any fun op => match op with
    | .read t _ => t < 10
    | _ => false

end Sys2Proof.Machine
end

