-- ==== Sys2Proof/Machine/EngineMem.lean ====
section
/-! DEFINITION. Loads and stores of the engines (05_engine_instructions.md R165-R169; 04_engine_fabric.md R118, R138). -/

namespace Sys2Proof.Machine

/-! ## Windows (R118) -/

/-- The windows of R118. -/
inductive Window where
  | table | scratch | line | active | inactive | fstate | hist | regs | flash
deriving DecidableEq, Repr

/-- The window that `n` bytes at address `a` lie in, with the offset inside it. -/
def windowOf (a n : Nat) : Option (Window × Nat) :=
  if a + n ≤ 0x20000 then some (.table, a)
  else if 0x20000 ≤ a ∧ a + n ≤ 0x40000 then some (.scratch, a - 0x20000)
  else if 0x1000000 ≤ a ∧ a + n ≤ 0x1100000 then some (.line, a - 0x1000000)
  else if 0x2000000 ≤ a ∧ a + n ≤ 0x2800000 then some (.active, a - 0x2000000)
  else if 0x3000000 ≤ a ∧ a + n ≤ 0x3800000 then some (.inactive, a - 0x3000000)
  else if 0x4000000 ≤ a ∧ a + n ≤ 0x4400000 then some (.fstate, a - 0x4000000)
  else if 0x5000000 ≤ a ∧ a + n ≤ 0x5010000 then some (.hist, a - 0x5000000)
  else if 0x6000000 ≤ a ∧ a + n ≤ 0x6001000 then some (.regs, a - 0x6000000)
  else if 0x10000000 ≤ a ∧ a + n ≤ 0x20000000 then some (.flash, a - 0x10000000)
  else none

/-- The fields of MF (R153). -/
structure MF where
  dest : Nat
  sa   : Nat
  v    : Bool
deriving DecidableEq, Repr

/-- The fields of an MF word. -/
def MF.of (f : BitVec 26) : MF :=
  let n := f.toNat
  ⟨if bit n 16 then bits n 25 21 else bits n 24 21, bits n 20 17, bit n 16⟩

/-- The reserved bit of MF: [25] is zero when V = 0 (R153). -/
def MF.legal (f : BitVec 26) : Bool := bit f.toNat 16 || !bit f.toNat 25

/-- Bytes moved (R167, R168). -/
def MF.size (m : MF) : Nat := if m.v then 64 else 4

/-- THE ADDRESS of a load or store, Sa + OFF, checked: inside a window (0x10), a window the instruction may reach (0x11),
aligned to the size moved (0x12). -/
def Engine.address (e : Engine) (x : Run) (f : BitVec 26) (may : Window → Bool) : Except Nat (Window × Nat) :=
  let m := MF.of f
  match mfOff f.toNat x.pfx? with
  | none => .error 0x01
  | some off =>
    match windowOf (e.sr m.sa + off).toNat m.size with
    | none => .error 0x10
    | some (w, o) => if !may w then .error 0x11 else if o % m.size ≠ 0 then .error 0x12 else .ok (w, o)

/-- A loaded value goes into its register; a vector load clears the destination's tags (R167). -/
def Engine.loaded (e : Engine) (m : MF) (bs : List Byte) : Engine :=
  if m.v then e.putV m.dest { lanes := BitVec.ofNat 512 (leVal bs), tags := 0 }
  else e.putS m.dest (BitVec.ofNat 32 (leVal bs))

/-- The bytes that a store moves. -/
def Engine.stored (e : Engine) (m : MF) : List Byte :=
  if m.v then leBytes 64 (e.vr m.dest).lanes.toNat else leBytes 4 (e.sr m.dest).toNat

/-- The word addresses of `n` bytes at `a`. -/
def wordsOf (a n : Nat) : List Nat := (List.range (n / 4)).map fun i => a + 4 * i

/-! ## Frame-state store (R167) -/

/-- Bytes of the item write buffer over those of the store (R115, R167); an uncorrectable word of the store reads as zero. -/
def State.fstBytes (s : State) (x : Run) (off n : Nat) : List Byte :=
  (List.range n).map fun i =>
    let o := off + i
    let a := fstBase x.item.region + o
    match x.writes.find? fun c => c.1 = o with
    | some c => c.2
    | none => if s.eccBad.contains (a - a % 4) then 0 else s.byte a

/-- LDST (R167): an uncorrectable word sets FL.ECC. -/
def execLdst (p : Fin 272) (f : BitVec 26) (upset : List Nat) (s : State) : Out :=
  .next (s.instr p.val 0x12 f 1 true (MF.legal f) fun e x =>
    let m := MF.of f
    match e.address x f (· = .fstate) with
    | .error c => Eff.fail s c
    | .ok (_, off) =>
      let reads := (wordsOf (fstBase x.item.region + off) m.size).filter fun a =>
        !(x.writes.any fun c => c.1 / 4 = (a - fstBase x.item.region) / 4)
      let s1 := s.findUpsets reads upset
      let e1 := if reads.any s1.eccBad.contains then e.putFlag flECC true else e
      (s1.setEngine p.val (e1.loaded m (s1.fstBytes x off m.size)), .next))

/-- Put bytes into the item write buffer. -/
def writeBuffer : Mem → Nat → List Byte → Mem
  | m, _, [] => m
  | m, a, b :: bs => writeBuffer (Cells.insert (Cells.erase m a) a b) (a + 1) bs

/-- STST (R167): item runs write the item write buffer of 384 blocks of 64 bytes, entry runs the store. -/
def execStst (p : Fin 272) (f : BitVec 26) (s : State) : Out :=
  .next (s.instr p.val 0x13 f 1 true (MF.legal f) fun e x =>
    let m := MF.of f
    match e.address x f (· = .fstate) with
    | .error c => Eff.fail s c
    | .ok (_, off) =>
      let bs := e.stored m
      if !x.kind.isItem then (s.poke (fstBase x.item.region + off) bs, .next)
      else
        let blocks := if x.blocks.contains (off / 64) then x.blocks else (off / 64) :: x.blocks
        if 384 < blocks.length then Eff.fail s 0x30
        else (s.mapRun p.val fun y => { y with
          writes := writeBuffer y.writes off bs
          blocks := blocks }.sign 1 off bs, .next))

/-! ## Local memory and the other windows (R168) -/

/-- Where a word of a window lies in the byte memory. -/
def State.windowBase (p g : Nat) : Window → Nat
  | .table => tableBase
  | .scratch => scratchBase p
  | .hist => histBase g
  | _ => flashBase

/-- A word of the region registers window (R118): row map, live engine count, bank and slot in use. The two runs of an item see
the same (R145): the rows that the item needs, and the others as they were at the start of its frame. -/
def State.regionWord (s : State) (x : Run) (off : Nat) : Word :=
  let g := x.item.region
  let r := s.region g
  match s.frame? x.item.frame with
  | some fr =>
    if x.kind.isItem then
      Config.regionWord ((fr.itemRows g x.item.row fr.rho).filterMap fun y => (s.rowBuf g fr.num y).map fun b => (y, b))
        (fr.live.getD g 0) (fr.banks.getLsbD g) (x.slot = 1) off
    else Config.regionWord (r.bufs.map fun b => (b.row, b.buf)) (s.liveEngines g).length r.active (r.slot = 1) off
  | none => Config.regionWord (r.bufs.map fun b => (b.row, b.buf)) (s.liveEngines g).length r.active (r.slot = 1) off

/-- LDL (R168): table area, scratch area, histogram banks, region registers and the flash window, where the engine stalls
until the data arrives; an
uncorrectable scratch word is a fault run, one in the table area is repaired, one in a histogram bank makes the bank
invalid for the frame and its value is free (R138). -/
def execLdl (p : Fin 272) (f : BitVec 26) (upset : List Nat) (s : State) : Out :=
  .next (s.instr p.val 0x14 f 1 true (MF.legal f) fun e x =>
    let m := MF.of f
    let g := x.item.region
    match e.address x f fun w => w = .table || w = .scratch || w = .hist || w = .regs || w = .flash with
    | .error c => Eff.fail s c
    | .ok (w, off) =>
      let a := State.windowBase p.val g w + off
      let reads := wordsOf a m.size
      match w with
      | .flash => ((s.mapRun p.val fun y => { y with flash := some (off, m.v, m.dest) }).flashAsk (.engine p.val), .next)
      | .regs =>
        let ws := (List.range (m.size / 4)).map fun i => (s.regionWord x (off + 4 * i)).toNat
        (s.setEngine p.val (e.loaded m (ws.flatMap (leBytes 4))), .next)
      | .scratch =>
        if reads.any (fun r => s.eccBad.contains r) || !(newUpsets s.eccBad reads upset).isEmpty then
          Eff.fail { s with eccBad := newUpsets s.eccBad reads upset ++ s.eccBad } 0x40
        else ((s.countCorrected reads upset).setEngine p.val (e.loaded m (s.bytes a m.size)), .next)
      | .hist =>
        let s1 := s.findUpsets reads upset
        let bad := reads.filter s1.eccBad.contains
        let s2 := if bad.isEmpty then s1
          else (s1.setRegion g ((s1.region g).badHist x.item.frame (off / 16384))).drawn bad.length
        let word (r : Nat) : List Byte :=
          match bad.findIdx? (· = r) with
          | some i => leBytes 4 ((Config.freeBits (s1.free + i)).toNat % 2 ^ 32)
          | none => s1.bytes r 4
        (s2.setEngine p.val (e.loaded m (reads.flatMap word)), .next)
      | _ => ((s.repairWords reads upset).setEngine p.val (e.loaded m (s.bytes a m.size)), .next))

/-- Bytes of the flash window as a read sees them (R370); beyond the density nothing is stated, and the bytes are
free (log entry 7). -/
def State.flashBytes (s : State) (off n : Nat) : List Byte :=
  (List.range n).map fun i =>
    if off + i < s.flashSize then s.byte (flashBase + off + i) else (Config.freeBits (s.free + i)).truncate 8

/-- FLASH_READ_COMPLETE for an engine (R118, R168): the data of the flash window arrives and the engine goes on. -/
def State.flashData (s : State) (p : Nat) : State :=
  let e := s.engine p
  match e.run with
  | none => s
  | some x =>
    match x.flash with
    | none => s
    | some (off, v, d) =>
      let m : MF := ⟨d, 0, v⟩
      (s.drawn m.size).setEngine p (({ e with run := some { x with flash := none } } : Engine).loaded m (s.flashBytes off m.size))

/-- STL waits at the bank port of its region: it would write the inactive bank and its class holds no CPORT stick (R270). -/
def State.stlPort (s : State) (p : Nat) (f : BitVec 26) : Option (Nat × Nat) :=
  match s.issues p 0x15 f with
  | some (e, x) =>
    let i := 64 + x.item.region
    match e.address x f fun w => w = .inactive && !x.kind.isItem with
    | .ok _ => if s.holds p (leaseNumber 1 0 x.item.region) && !s.maySpend i x.kind.cls then some (i, x.kind.cls) else none
    | .error _ => none
  | none => none

/-- STL (R168): the scratch area; in entry runs also the inactive bank under the coefficient write port lease, where a
write clears VERIFIED (R221). -/
def execStl (p : Fin 272) (f : BitVec 26) (s : State) : Out :=
  .next (match s.stlPort p.val f with
  | some (i, c) => s.stallRoll i c
  | none => s.instr p.val 0x15 f 1 true (MF.legal f) fun e x =>
    let m := MF.of f
    let g := x.item.region
    match e.address x f fun w => w = .scratch || (w = .inactive && !x.kind.isItem) with
    | .error c => Eff.fail s c
    | .ok (.scratch, off) => (s.poke (scratchBase p.val + off) (e.stored m), .next)
    | .ok (_, off) =>
      if !s.holds p.val (leaseNumber 1 0 g) then Eff.fail s 0x13
      else
        let i := s.bankNo g true
        let s1 := ((s.bankWrite i off (e.stored m)).setVerified i false).bankView g
        ((s1.mapRun p.val fun y => y.use (leaseNumber 1 0 g)).owe (64 + g) x.kind.cls ((m.size + 31) / 32), .next))

/-! ## Pixels (R165) -/

/-- The fields of PX (R153). -/
structure PX where
  vd : Nat
  sc : Nat
  dy : Int
  dx : Int
  w  : Bool
  pm : Nat
  msk : Nat
  sh : Nat
deriving DecidableEq, Repr

/-- The fields of a PX word. -/
def PX.of (f : BitVec 26) : PX :=
  let n := f.toNat
  ⟨bits n 25 21, bits n 20 17, signedOf 3 (bits n 16 14), signedOf 3 (bits n 13 11), bit n 10, bits n 9 7, bits n 6 4,
   bits n 3 1⟩

/-- Codes -4, -3 and +3 are illegal, SH is 0 in .W, and bit 0 is reserved (R165). -/
def PX.legal (f : BitVec 26) : Bool :=
  let q := PX.of f
  let ok (d : Int) : Bool := -2 ≤ d && d ≤ 2
  ok q.dy && ok q.dx && (!q.w || q.sh = 0) && !bit f.toNat 0

/-- The value that a lane takes from a present word: sign-extended in .W; rounded down by SH bits and saturated in .H. -/
def PX.value (q : PX) (v : Int) : Int := if q.w then v else satLane false false (roundDown v q.sh)

/-- LDPX (R165). -/
def execLdpx (p : Fin 272) (f : BitVec 26) (upset : List Nat) (s : State) : Out :=
  .next (s.instr p.val 0x10 f 1 false (PX.legal f) fun e x =>
    let q := PX.of f
    let g := x.item.region
    if !x.kind.isItem then Eff.fail s 0x02
    else if (s.rho x.item.frame) < q.dy.natAbs then Eff.fail s 0x14
    else
      let n := laneCount q.w
      let row := (s.frame? x.item.frame).bind fun fr => fr.neighbour g x.item.row q.dy
      let col (j : Nat) : Int := (e.sr q.sc).toInt + q.dx + j
      let reads := match row with
        | none => []
        | some r => (List.range n).filterMap fun j =>
            if -2 ≤ col j ∧ col j ≤ 769 then (s.rowBuf g x.item.frame r).map fun b => lineAddr g b (col j) else none
      let s1 := s.findUpsets reads upset
      let word (j : Nat) : Nat := match row with
        | none => 0
        | some r => s1.lineWord g x.item.frame r (col j)
      let here (j : Nat) : Bool := linePresent (word j)
      let act := e.active q.msk
      let d := (e.vr q.vd).write q.w act (fun j => if here j then q.value (lineValue (word j)) else 0)
        (fun j => if here j then lineTag (word j) else 0)
      let present := packLanes n 1 fun j => if act j && here j then 1 else 0
      (s1.setEngine p.val ((e.putV q.vd d).putMask q.pm (BitVec.ofNat 32 present)), .next))

/-! ## Coefficients (R166) -/

/-- A field of a record as LDCF loads it, from a table of FLD: the value and whether the .H form is allowed. -/
def ldcfField (fld : Nat) : Option (Bool × (Nat → Int)) :=
  match fld with
  | 0 => some (false, recOfs)
  | 1 => some (true, fun r => recGn r)
  | 2 => some (true, recDo1)
  | 3 => some (true, recDo2)
  | 4 => some (true, recDg1)
  | 5 => some (true, recUof)
  | 6 => some (true, fun r => recDef r)
  | 7 => some (true, fun r => recSub r)
  | 8 => some (true, fun r => bits r 111 96)
  | 9 => some (true, fun r => bits r 127 112)
  | 10 => some (false, fun r => bits r 127 96)
  | 11 => some (false, fun r => bits r 31 0)
  | 12 => some (false, fun r => bits r 63 32)
  | 13 => some (false, fun r => bits r 95 64)
  | 14 => some (false, fun r => bits r 127 96)
  | _ => none

/-- The form is one that the table of R166 allows, and reserved bits are zero. -/
def ldcfLegal (f : BitVec 26) : Bool :=
  let n := f.toNat
  !bit n 11 && bits n 9 7 = 0 && bits n 3 0 = 0 &&
  match ldcfField (bits n 15 12) with
  | none => false
  | some (h, _) => h || bit n 10

/-- The record that a lane of LDCF reads: outside columns 0 to 767 it is zero but for DEF 0xF (R166). -/
def State.ldcfRecord (s : State) (i y : Nat) (x : Int) : Nat :=
  if 0 ≤ x ∧ x ≤ 767 then s.record i x.toNat y else 0xF * 2 ^ 84

/-- LDCF (R166): one vector read of the bank, charged to CPORT (R263). -/
def execLdcf (p : Fin 272) (f : BitVec 26) (upset : List Nat) (s : State) : Out :=
  .next (
    let n := f.toNat
    let w := bit n 10
    match s.issues p.val 0x11 f with
    | some (_, x) =>
      if x.kind.isItem && !s.maySpend (64 + x.item.region) 0 then s.stallRoll (64 + x.item.region) 0
      else s.instr p.val 0x11 f 1 false (ldcfLegal f) fun e x =>
        let g := x.item.region
        if !x.kind.isItem then Eff.fail s 0x02
        else
          let i := s.bankFor g x.item.frame (bit n 16)
          let col (j : Nat) : Int := (e.sr (bits n 20 17)).toInt + j
          let reads := (List.range (laneCount w)).flatMap fun j =>
            if 0 ≤ col j ∧ col j ≤ 767 then wordsOf (bankAddr i (16 * (768 * x.item.row + (col j).toNat))) 16 else []
          let s1 := s.findUpsets reads upset
          let get := ((ldcfField (bits n 15 12)).map (·.2)).getD fun _ => 0
          let d := (e.vr (bits n 25 21)).write w (e.active (bits n 6 4))
            (fun j => get (s1.ldcfRecord i x.item.row (col j))) (fun _ => 0)
          ((s1.spend (64 + g) 0 1).setEngine p.val (e.putV (bits n 25 21) d), .next)
    | none => s)

end Sys2Proof.Machine
end

