-- ==== Sys2Proof/Machine/EngineVector.lean ====
section
/-! DEFINITION. Vector instructions of the engines (05_engine_instructions.md R156-R159, R170-R180). -/

namespace Sys2Proof.Machine

/-- A VR instruction that changes its engine's registers only. BM = 0b11 is illegal (R156). -/
def State.vrInstr (s : State) (p op : Nat) (f : BitVec 26) (cycles : Nat) (legal : VR → Bool)
    (body : Engine → Run → VR → Except Nat Engine) : State :=
  let r := VR.of f
  s.regInstr p op f cycles r.takesPrefix (r.bm ≠ 3 && legal r) fun e x => body e x r

/-! ## Arithmetic (R170) -/

/-- VADD and VSUB: `g` is the exact result; SUB[0] saturates, SUB[1] reads and saturates unsigned, else it wraps. -/
def State.addSub (s : State) (p op : Nat) (f : BitVec 26) (g : Int → Int → Int) : State :=
  s.vrInstr p op f 1 (fun r => r.sub < 4) fun e x r =>
    let sat := r.sub % 2 = 1
    let u := sat && r.sub / 2 = 1
    let a (j : Nat) : Int := if u then ((e.vr r.va).laneU r.w j : Int) else (e.vr r.va).lane r.w j
    let b (j : Nat) : Int := if u then (e.bU r x.pfx? j : Int) else e.bS r x.pfx? j
    .ok (e.vrResult r fun j => if sat then satLane r.w u (g (a j) (b j)) else g (a j) (b j))

/-- VADD (R170). -/
def execVadd (p : Fin 272) (f : BitVec 26) (s : State) : Out := .next (s.addSub p.val 0x20 f fun a b => a + b)

/-- VSUB (R170). -/
def execVsub (p : Fin 272) (f : BitVec 26) (s : State) : Out := .next (s.addSub p.val 0x21 f fun a b => a - b)

/-- The second factor of VMUL and VMAC: the low 16 bits of b's lane, signed unless SUB[2] (R170). -/
def Engine.factor (e : Engine) (x : Run) (r : VR) (j : Nat) : Int :=
  let b := e.bU r x.pfx? j % 65536
  if r.sub / 4 = 1 then (b : Int) else signedOf 16 b

/-- The shift codes of VMUL (R170). -/
def vmulShift (c : Nat) : Nat := [0, 8, 14, 15].getD c 0

/-- VMUL (R170): the product rounded down by the shift and saturated to the lane. -/
def execVmul (p : Fin 272) (f : BitVec 26) (s : State) : Out :=
  .next (s.vrInstr p.val 0x22 f 1 (fun _ => true) fun e x r =>
    .ok (e.vrResult r fun j =>
      satLane r.w false (roundDown ((e.vr r.va).lane r.w j * e.factor x r j) (vmulShift (r.sub % 4)))))

/-- A lane of an accumulator. -/
def AReg.lane (a : AReg) (j : Nat) : Int := signedOf 48 (a.lanes.toNat >>> (48 * j))
/-- The tag nibble of an accumulator's lane. -/
def AReg.tag (a : AReg) (j : Nat) : Nat := (a.tags.toNat >>> (4 * j)) % 16

/-- An accumulator of an engine. -/
def Engine.acc (e : Engine) (n : Nat) : AReg := e.a.toList.getD n {}

/-- The tags that VMAC brings to lane `j` under TG: nothing new with 0b11 (R158, R170). -/
def Engine.macTag (e : Engine) (r : VR) (j : Nat) : Nat :=
  match r.tg with
  | 0 => (e.vr r.va).tag j ||| e.bTag r j
  | 1 => (e.vr r.va).tag j
  | 2 => e.bTag r j
  | _ => 0

/-- VMAC (R170): A[n] plus or minus the products in the active lanes, saturating at ±(2^47 - 1); SUB[0] clears the whole accumulator and its tags first. -/
def execVmac (p : Fin 272) (f : BitVec 26) (s : State) : Out :=
  .next (s.vrInstr p.val 0x23 f 1 (fun r => r.vd < 4) fun e x r =>
    let a : AReg := if r.sub % 2 = 1 then {} else e.acc r.vd
    let act (j : Nat) : Bool := j < laneCount r.w && e.active r.msk j
    let prod (j : Nat) : Int := (e.vr r.va).lane r.w j * e.factor x r j
    let sum (j : Nat) : Int := if r.sub / 2 % 2 = 1 then a.lane j - prod j else a.lane j + prod j
    let a' : AReg := {
      lanes := BitVec.ofNat 1536 (packLanes 32 48 fun j =>
        if act j then clampInt (sum j) (-(2 ^ 47 - 1)) (2 ^ 47 - 1) else a.lane j)
      tags := BitVec.ofNat 128 (packLanes 32 4 fun j =>
        if act j then ((a.tag j ||| e.macTag r j : Nat) : Int) else (a.tag j : Int)) }
    .ok { e with a := e.a.setIfInBounds r.vd a' })

/-- VSHR of one value (R170): right by a positive shift, logical or arithmetic, rounding when asked; left with saturation by
a negative one. `u` is the lane read unsigned. -/
def shiftLane (w logical rnd : Bool) (v : Int) (u : Nat) (sh : Int) : Int :=
  let n := clampInt sh (-31) 47
  if n < 0 then satLane w false (v * 2 ^ n.natAbs)
  else
    let x : Int := if logical then (u : Int) else v
    if rnd then roundDown x n.toNat else x.fdiv (2 ^ n.toNat)

/-- VSHR (R170): from a register, or with SUB[0] from accumulator Va[1:0], saturating to the lane and taking the
accumulator's tags. -/
def execVshr (p : Fin 272) (f : BitVec 26) (s : State) : Out :=
  .next (s.vrInstr p.val 0x24 f 1 (fun r => r.sub % 2 = 0 || (r.sub / 4 = 0 && r.va < 4)) fun e x r =>
    let logical := r.sub / 4 = 1
    let rnd := r.sub / 2 % 2 = 1
    let sh (j : Nat) : Int := e.bS r x.pfx? j
    if r.sub % 2 = 1 then
      let a := e.acc r.va
      .ok (e.putV r.vd ((e.vr r.vd).write r.w (e.active r.msk)
        (fun j => satLane r.w false (shiftLane r.w false rnd (a.lane j) 0 (sh j))) a.tag))
    else
      .ok (e.vrResult r fun j =>
        shiftLane r.w logical rnd ((e.vr r.va).lane r.w j) ((e.vr r.va).laneU r.w j) (sh j)))

/-- VMIN and VMAX: SUB[0] compares unsigned. -/
def State.minMax (s : State) (p op : Nat) (f : BitVec 26) (takeA : Int → Int → Bool) : State :=
  s.vrInstr p op f 1 (fun _ => true) fun e x r =>
    .ok (e.vrResult r fun j =>
      let a := (e.vr r.va).laneU r.w j
      let b := e.bU r x.pfx? j
      let first := if r.sub % 2 = 1 then takeA a b else takeA (signedOf (laneBits r.w) a) (signedOf (laneBits r.w) b)
      ((if first then a else b : Nat) : Int))

/-- VMIN (R170). -/
def execVmin (p : Fin 272) (f : BitVec 26) (s : State) : Out := .next (s.minMax p.val 0x26 f fun a b => a ≤ b)

/-- VMAX (R170). -/
def execVmax (p : Fin 272) (f : BitVec 26) (s : State) : Out := .next (s.minMax p.val 0x27 f fun a b => b ≤ a)

/-- VABS (R170): |a| or |a - b|, saturating to the largest positive lane value. -/
def execVabs (p : Fin 272) (f : BitVec 26) (s : State) : Out :=
  .next (s.vrInstr p.val 0x28 f 1 (fun r => r.sub < 2) fun e x r =>
    .ok (e.vrResult r fun j =>
      let a := (e.vr r.va).lane r.w j
      satLane r.w false ((if r.sub = 1 then a - e.bS r x.pfx? j else a).natAbs : Int)))

/-! ## Saturation, comparison, selection (R171, R172) -/

/-- The value that `n` bits, signed or unsigned, allow (R171). -/
def clampBits (u : Bool) (n : Nat) (v : Int) : Int :=
  if u then clampInt v 0 (2 ^ n - 1) else clampInt v (-(2 ^ (n - 1))) (2 ^ (n - 1) - 1)

/-- The number of bits of VSAT's saturate mode, B + 1; with a PFX word the prefixed value + 1. -/
def VR.satBits (r : VR) (pf : Option (BitVec 26)) : Int :=
  match pf with
  | none => r.b + 1
  | some _ => r.imm pf + 1

/-- VSAT (R171): saturate, narrow, widen low, widen high. -/
def execVsat (p : Fin 272) (f : BitVec 26) (s : State) : Out :=
  .next (s.vrInstr p.val 0x25 f 1
    (fun r => match r.sub / 2 with
      | 0 => r.bm = 2
      | 1 => r.w && r.bm = 0
      | _ => r.w) fun e x r =>
    let u := r.sub % 2 = 1
    let va := e.vr r.va
    let act := e.active r.msk
    match r.sub / 2 with
    | 0 =>
      let n := r.satBits x.pfx?
      if n < 1 || (laneBits r.w : Int) < n then .error 0x01
      else .ok (e.vrResult r fun j => clampBits u n.toNat (va.lane r.w j))
    | 1 =>
      let vb := e.vr r.b
      let src (j : Nat) : VReg := if j < 16 then va else vb
      .ok (e.putV r.vd ((e.vr r.vd).write false act
        (fun j => satLane false u ((src j).lane true (j % 16))) (fun j => (src j).tag (j % 16))))
    | m =>
      let base := if m = 2 then 0 else 16
      .ok (e.putV r.vd ((e.vr r.vd).write true act
        (fun j => if u then (va.laneU false (base + j) : Int) else va.lane false (base + j)) (fun j => va.tag (base + j)))))

/-- The condition codes of VCMP (R172). -/
def vcmpHolds (c : Nat) (as bs : Int) (au bu : Nat) : Bool :=
  match c with
  | 0 => as = bs | 1 => as ≠ bs | 2 => as < bs | 3 => as ≤ bs | 4 => bs < as | 5 => bs ≤ as | 6 => au < bu | _ => bu ≤ au

/-- VCMP (R172): writes mask Vd[2:0]; Vd[4:3] is reserved. -/
def execVcmp (p : Fin 272) (f : BitVec 26) (s : State) : Out :=
  .next (s.vrInstr p.val 0x29 f 1 (fun r => r.vd < 8) fun e x r =>
    .ok (e.putMask r.vd (BitVec.ofNat 32 (packLanes (laneCount r.w) 1 fun j =>
      if e.active r.msk j && vcmpHolds r.sub ((e.vr r.va).lane r.w j) (e.bS r x.pfx? j) ((e.vr r.va).laneU r.w j)
        (e.bU r x.pfx? j) then 1 else 0))))

/-- VSEL (R172): MK selects; each lane takes the tag of its source; not predicated (R159). -/
def execVsel (p : Fin 272) (f : BitVec 26) (s : State) : Out :=
  .next (s.vrInstr p.val 0x2A f 1 (fun _ => true) fun e x r =>
    .ok (e.putV r.vd ((e.vr r.vd).write r.w (fun _ => true)
      (fun j => if e.active r.msk j then (e.vr r.va).lane r.w j else e.bS r x.pfx? j)
      (fun j => if e.active r.msk j then (e.vr r.va).tag j else e.bTag r j))))

/-! ## Tables and tags (R173, R174) -/

/-- A table of `n` bytes at an address: it lies wholly in the table or the scratch area and starts 64-byte aligned (R173,
R175); its base in the byte memory, or the fault. -/
def State.tableAt (p a n : Nat) : Except Nat Nat :=
  match windowOf a n with
  | some (.table, o) => if a % 64 = 0 then .ok (tableBase + o) else .error 0x12
  | some (.scratch, o) => if a % 64 = 0 then .ok (scratchBase p + o) else .error 0x12
  | some _ => .error 0x11
  | none => if (windowOf a 1).isSome then .error 0x11 else .error 0x10

/-- A table entry, signed in the lane width. -/
def State.tableEntry (s : State) (base : Nat) (w : Bool) (i : Nat) : Int :=
  let n := laneBits w / 8
  signedOf (laneBits w) (s.le (base + n * i) n)

/-- The value that VLUT gives for the low 16 bits of a lane (R173). -/
def State.vlutValue (s : State) (base : Nat) (w : Bool) (sub idx : Nat) : Int :=
  let interp := sub % 2 = 1
  let k : Int := if sub / 2 % 2 = 1 then signedOf 16 idx + (if interp then 32768 else 2048) else idx
  if interp then
    let i := k.toNat / 16
    let t := s.tableEntry base w i
    if 4095 ≤ i then s.tableEntry base w 4095
    else t + roundDiv ((s.tableEntry base w (i + 1) - t) * (k % 16)) 16
  else s.tableEntry base w (clampInt k 0 4095).toNat

/-- The bytes of the table that one look-up touches. -/
def vlutSpan (w : Bool) (sub idx : Nat) : Nat × Nat :=
  let n := laneBits w / 8
  let k : Int := if sub / 2 % 2 = 1 then signedOf 16 idx + (if sub % 2 = 1 then 32768 else 2048) else idx
  if sub % 2 = 1 then (n * min 4095 (k.toNat / 16), 2 * n) else (n * (clampInt k 0 4095).toNat, n)

/-- Words of local data memory are read (R138): an uncorrectable scratch word is a fault run, one in the table area is
copied from another engine, and a corrected error is counted. -/
def State.readLocal (s : State) (reads upset : List Nat) (body : State → Eff) : Eff :=
  let new := newUpsets s.eccBad reads upset
  let scratch (a : Nat) : Bool := a / 2 ^ 40 = 4
  if (reads.any fun a => scratch a && s.eccBad.contains a) || new.any scratch then
    Eff.fail { s with eccBad := new.filter scratch ++ s.eccBad } 0x40
  else body (s.repairWords reads upset)

/-- VLUT (R173); an uncorrectable scratch word is a fault run (R138). -/
def execVlut (h : EngineHit) (f : BitVec 26) (s : State) : Out :=
  let p := h.p
  let r := VR.of f
  .next (s.instr p.val 0x2C f (if r.sub % 2 = 1 then 4 else 2) r.takesPrefix (r.bm = 1 && r.sub < 4) fun e _ =>
    match State.tableAt p.val (e.sr (r.b % 16)).toNat (4096 * (laneBits r.w / 8)) with
    | .error c => Eff.fail s c
    | .ok base =>
      let idx (j : Nat) : Nat := (e.vr r.va).laneU r.w j % 65536
      let reads := ((List.range (laneCount r.w)).filter fun (j : Nat) => e.active r.msk j).flatMap fun j =>
        let sp := vlutSpan r.w r.sub (idx j)
        (List.range ((sp.1 + sp.2 + 3) / 4 - sp.1 / 4)).map fun i => base + 4 * (sp.1 / 4 + i)
      s.readLocal reads h.upset fun t =>
        (t.setEngine p.val (e.vrResult r fun j => t.vlutValue base r.w r.sub (idx j)), .next))

/-- VTAG (R174). -/
def execVtag (p : Fin 272) (f : BitVec 26) (s : State) : Out :=
  .next (s.vrInstr p.val 0x2D f 1
    (fun r => r.sub < 7 && (r.bm ≠ 0 || r.sub = 4 || r.sub = 5) && (2 ≤ r.sub || r.vd < 8)) fun e x r =>
    let n := laneCount r.w
    let set := e.bU r x.pfx? 0 % 16
    let va := e.vr r.va
    let vd := e.vr r.vd
    let act := e.active r.msk
    let mask (g : Nat → Bool) : Engine :=
      e.putMask r.vd (BitVec.ofNat 32 (packLanes n 1 fun j => if act j && g j then 1 else 0))
    let put (val : Nat → Int) (tag : Nat → Nat) : Engine := e.putV r.vd (vd.write r.w act val tag)
    .ok (match r.sub with
      | 0 => mask fun j => va.tag j &&& set ≠ 0
      | 1 => mask fun j => va.tag j &&& set = 0
      | 2 => put (va.lane r.w) fun j => va.tag j ||| set
      | 3 => put (va.lane r.w) fun j => va.tag j &&& (15 - set)
      | 4 => put (vd.lane r.w) va.tag
      | 5 => put (fun j => (va.tag j : Int)) fun _ => 0
      | _ => put (vd.lane r.w) fun j => va.laneU r.w j % 16))

/-! ## Neighbourhoods (R175-R177) -/

/-- The 3 × 3 neighbours of bits 0 to 7 (R175). -/
def nbr3 : List (Int × Int) := [(-1, -1), (0, -1), (1, -1), (-1, 0), (1, 0), (-1, 1), (0, 1), (1, 1)]

/-- The 24 neighbours of the 5 × 5 square in raster order, without the centre (R175). -/
def nbr5 : List (Int × Int) :=
  ((List.range 25).filter (· ≠ 12)).map fun i => ((i % 5 : Nat) - 2, (i / 5 : Nat) - 2)

/-- The neighbours that a pattern selects. -/
def nbrSelected (all : List (Int × Int)) (pattern : Nat) : List (Int × Int) :=
  (all.zipIdx.filter fun e => pattern.testBit e.2).map (·.1)

/-- A NEIGHBOUR'S VALUE AND TAG if it is usable (R176): present, without OVR and, unless RAW, with a readable record of the
item's region with DEF 0, whose correction gives the value. -/
def State.nbrValue (s : State) (x : Run) (fr : Frame) (raw : Bool) (col : Int) (d : Int × Int) : Option (Int × Nat) :=
  let g := x.item.region
  match fr.neighbour g x.item.row d.2 with
  | none => none
  | some row =>
    let c := col + d.1
    let w := s.lineWord g x.item.frame row c
    if !linePresent w || (lineTag w).testBit 0 then none
    else if raw then some (lineValue w, lineTag w)
    else if 0 ≤ c ∧ c ≤ 767 ∧ 0 ≤ row ∧ row ≤ 639 then
      let r := s.record (s.bankFor g x.item.frame false) c.toNat row.toNat
      if recDef r ≠ 0 then none
      else some (roundDown ((lineValue w - recOfs r - recUof r) * recGn r) 14, lineTag w)
    else none

/-- THE SUBSTITUTE of a pixel (R177): the mean of the usable values, rounded half away from zero, with tag SUB and SET if
any of them carried SET. -/
def State.substitute (s : State) (x : Run) (fr : Frame) (raw : Bool) (col : Int) (sel : List (Int × Int)) :
    Option (Int × Nat) :=
  match sel.filterMap (s.nbrValue x fr raw col) with
  | [] => none
  | us => some (roundAway ((us.map (·.1)).sum) us.length,
      tagSUB ||| (if us.any fun u => u.2.testBit 1 then tagSET else 0))

/-- The words that a neighbourhood reads: those of the line store and, unless RAW, the records of the usable neighbours. -/
def State.nbrReads (s : State) (x : Run) (fr : Frame) (raw : Bool) (col : Int) (sel : List (Int × Int)) : List Nat :=
  let g := x.item.region
  sel.flatMap fun d =>
    match fr.neighbour g x.item.row d.2 with
    | none => []
    | some row =>
      let c := col + d.1
      (if -2 ≤ c ∧ c ≤ 769 then ((s.rowBuf g fr.num row).map fun b => lineAddr g b c).toList else []) ++
      (if !raw && 0 ≤ c && c ≤ 767 && 0 ≤ row && row ≤ 639 then
        (List.range 4).map fun i => bankAddr (s.bankFor g fr.num false) (16 * (768 * row.toNat + c.toNat) + 4 * i) else [])

/-- VNBR (R175-R177). -/
def execVnbr (h : EngineHit) (f : BitVec 26) (s : State) : Out :=
  let p := h.p
  let n := f.toNat
  let sz := bit n 11
  let half := if bit n 10 then 16 else 0
  .next (s.instr p.val 0x2E f (if sz then 16 else 6) false (bits n 9 8 = 0) fun e x =>
    if !x.kind.isItem then Eff.fail s 0x02
    else if sz && (s.rho x.item.frame) < 2 then Eff.fail s 0x14
    else
      let tab := if sz then State.tableAt p.val (e.sr (bits n 4 1)).toNat 1024 else .ok 0
      match tab, s.frame? x.item.frame with
      | .error c, _ => Eff.fail s c
      | _, none => (s, .next)
      | .ok base, some fr =>
        let vp := e.vr (bits n 20 16)
        let pat (j : Nat) : Nat := vp.laneU false (half + j) % 256
        let sel (t : State) (j : Nat) : List (Int × Int) :=
          if sz then (if pat j = 0 then [] else nbrSelected nbr5 (t.le (base + 4 * pat j) 4 % 2 ^ 24))
          else nbrSelected nbr3 (pat j)
        let lanes := (List.range 16).filter fun j => e.active (bits n 7 5) (half + j)
        let col (j : Nat) : Int := (e.sr (bits n 15 12)).toInt + half + j
        let words := if sz then (lanes.filter fun j => pat j ≠ 0).map fun j => base + 4 * pat j else []
        s.readLocal words h.upset fun t =>
          let t1 := t.findUpsets (lanes.flatMap fun j => t.nbrReads x fr (bit n 0) (col j) (sel t j)) h.upset
          let res := (List.range 16).map fun j =>
            if lanes.contains j then t1.substitute x fr (bit n 0) (col j) (sel t1 j) else none
          let got (j : Nat) : Option (Int × Nat) := (res[j]?).join
          let d := e.vr (bits n 25 21)
          (t1.setEngine p.val (e.putV (bits n 25 21) (d.write true (fun j => (got j).isSome)
            (fun j => ((got j).map (·.1)).getD 0) (fun j => ((got j).map (·.2)).getD 0))), .next))

/-! ## Statistics (R178-R180) -/

/-- A lane takes part in statistics: active, with neither OVR nor CHK (R178-R180). -/
def Engine.counts (e : Engine) (r : VR) (j : Nat) : Bool :=
  e.active r.msk j && (e.vr r.va).tag j &&& (tagOVR ||| tagCHK) = 0

/-- Add a weight to a bin of a histogram bank, saturating (R178). -/
def State.addBin (s : State) (a weight : Nat) : State :=
  s.poke a (leBytes 4 (min 0xFFFFFFFF (s.le a 4 + weight)))

/-- VHIST (R178). -/
def execVhist (p : Fin 272) (f : BitVec 26) (upset : List Nat) (s : State) : Out :=
  let r := VR.of f
  .next (s.instr p.val 0x30 f 2 r.takesPrefix (r.bm ≠ 3 && r.vd < 4 && r.sub = 0 && !r.w) fun e x =>
    let g := x.item.region
    let res := leaseNumber 0 r.vd g
    let w2 : Int := match x.pfx? with
      | none => r.b
      | some _ => r.imm x.pfx?
    if r.bm = 2 && !(1 ≤ w2 && w2 ≤ 31) then Eff.fail s 0x01
    else if !x.kind.comparing && !s.holds p.val res then Eff.fail s 0x13
    else
      let weight (j : Nat) : Nat := match r.bm with
        | 0 => (e.vr r.b).laneU false j
        | 1 => (e.sr (r.b % 16)).toNat % 65536
        | _ => w2.toNat
      let adds := ((List.range 32).filter (e.counts r)).map fun j => (min ((e.vr r.va).laneU false j) 4095, weight j)
      let addr (b : Nat) : Nat := histBase g + 16384 * r.vd + 4 * b
      let sign (y : Run) : Run := adds.foldl (fun z b => z.sign 3 (65536 * r.vd + b.1) (leBytes 2 b.2)) y
      if x.kind.comparing then (s.mapRun p.val sign, .next)
      else
        let reads := adds.map fun b => addr b.1
        let s1 := s.findUpsets reads upset
        let s2 := if reads.any s1.eccBad.contains then
          s1.setRegion g ((s1.region g).badHist x.item.frame r.vd) else s1
        let s3 := adds.foldl (fun (t : State) b => t.addBin (addr b.1) b.2) s2
        (s3.mapRun p.val fun y => (sign { y with hists := if y.hists.contains r.vd then y.hists else r.vd :: y.hists }).use res,
          .next))

/-- VSTAT (R179). Registers that the start of the run has cleared take the signedness and the width of their first VSTAT. -/
def execVstat (p : Fin 272) (f : BitVec 26) (s : State) : Out :=
  .next (s.vrInstr p.val 0x31 f 1 (fun r => r.bm = 0 && r.b = 0) fun e _ r =>
    let u := r.sub / 2 % 2 = 1
    let lw := laneBits r.w
    let e0 : Engine := if r.sub % 2 = 1 || e.stNew then { e with
        stSum := 0, stSq := 0, stCnt := 0, stNew := false
        stMin := if u then 2 ^ lw - 1 else 2 ^ (lw - 1) - 1
        stMax := if u then 0 else -(2 ^ (lw - 1)) } else e
    let vals : List Int := ((List.range (laneCount r.w)).filter (e.counts r)).map fun j =>
      if u then ((e.vr r.va).laneU r.w j : Int) else (e.vr r.va).lane r.w j
    .ok { e0 with
      stSum := signedOf 64 (wrapNat 64 (e0.stSum + vals.sum))
      stSq := min (2 ^ 64 - 1) (e0.stSq + (vals.map fun v => v.natAbs * v.natAbs).sum)
      stMin := vals.foldl min e0.stMin
      stMax := vals.foldl max e0.stMax
      stCnt := e0.stCnt + BitVec.ofNat 32 vals.length })

/-- One lane's contribution to a target's moments (R180). -/
def Moment.add (m : Moment) (col weight : Nat) : Moment where
  n := (m.n + 1) % 2 ^ 32
  sw := min 0xFFFFFFFF (m.sw + weight)
  swx := (m.swx + weight * col) % 2 ^ 64
  peak := if m.peak.toNat % 65536 < weight then BitVec.ofNat 32 (col * 65536 + weight) else m.peak

/-- VMOM (R180): .H only, and the columns need BM = 0b01. -/
def execVmom (p : Fin 272) (f : BitVec 26) (s : State) : Out :=
  .next (s.vrInstr p.val 0x32 f 2 (fun r => !r.w && r.bm = 1) fun e _ r =>
    let base := (e.sr (r.b % 16)).toInt
    let m := (List.range 32).foldl (fun (m : Moment) (j : Nat) =>
      let c := base + j
      if e.counts r j && 0 ≤ c && c ≤ 767 then m.add c.toNat ((e.vr r.va).laneU false j) else m)
      (e.mom.toList.getD r.vd {})
    .ok { e with mom := e.mom.setIfInBounds r.vd m })

end Sys2Proof.Machine
end

