-- ==== Sys2Proof/Machine/Blocks.lean ====
section
/-! DEFINITION. What a lane carries on the line (10_kettle_lanes.md R306, R307, R317): blocks of 257 bits and their scrambler,
control blocks with their CRC-16, and the RS(544,514) code over GF(2^10) with its mapping to PAM4 levels. The field and
generator polynomials and the symbol order are those of IEEE 802.3, which the spec cites (log entry 44, PRESUMED). -/

namespace Sys2Proof.Machine

/-! ## Blocks (R306, R317) -/

/-- A block (R306): H, and the 32 payload bytes. -/
structure Block where
  ctrl  : Bool
  bytes : List Byte
deriving DecidableEq, Repr

/-- The payload of a control block (R317): TYPE, its fields, zeros, and the CRC-16 of bytes 0 to 29. -/
def ctrlBytes (ty : Nat) (fields : List Byte) : List Byte :=
  let b := (BitVec.ofNat 8 ty :: fields ++ List.replicate 29 0).take 30
  b ++ leBytes 2 (crc16 b).toNat

/-- What the receiver makes of a block (R309, R310, R317): a FILLER, a control block whose CRC-16 fails, one of a TYPE that is
not in the table, or any other block, whose content its own command carries. -/
inductive RxBlock where
  | filler | badCrc | unknownType | other
deriving DecidableEq, Repr

/-- The TYPEs of R317. -/
def blockTypes : List Nat :=
  [0x00, 0x01, 0x02, 0x03, 0x04, 0x10, 0x11, 0x20, 0x21, 0x30, 0x40, 0x41, 0x42, 0x50, 0x51, 0x60]

/-- The kind of a block received (R317). -/
def Block.kind (b : Block) : RxBlock :=
  if !b.ctrl then .other
  else if leVal (b.bytes.drop 30) ≠ (crc16 (b.bytes.take 30)).toNat then .badCrc
  else
    match (b.bytes.headD 0).toNat with
    | 0 => .filler
    | ty => if blockTypes.contains ty then .other else .unknownType

/-- The transport header of a dictionary request or response (R361): 25 bytes, LENGTH `len`. -/
def transportHeader (r : DictReq) (status ty len : Nat) : List Byte :=
  leBytes 1 r.cmd ++ leBytes 2 r.tag ++ leBytes 2 r.index ++ leBytes 1 r.sub ++ leBytes 1 status ++ leBytes 1 ty ++ [0] ++
  leBytes 4 r.offset ++ leBytes 4 len ++ List.replicate 8 0

/-! ## The scrambler x^58 + x^39 + 1 (R306)

Its state is the last 58 scrambled payload bits, the oldest in bit 0. -/

/-- Scramble the low `k` bits of `d`, the first in bit 0: the scrambled bits and the state after them. -/
def scrambleBits : Nat → Nat → Nat → Nat × Nat
  | 0, _, st => (0, st)
  | k + 1, d, st =>
    let b := (d ^^^ st ^^^ (st >>> 19)) % 2
    let r := scrambleBits k (d / 2) (st / 2 + b * 2 ^ 57)
    (b + 2 * r.1, r.2)

/-- Descramble `k` bits: every bit against the scrambled bits 39 and 58 places before it. -/
def descramble (k s st : Nat) : Nat × Nat :=
  let w := st + s * 2 ^ 58
  (((w >>> 58) ^^^ (w >>> 19) ^^^ w) % 2 ^ k, (w >>> k) % 2 ^ 58)

/-- The 257 bits of a block as sent, H first in bit 0, and the scrambler's state after it. -/
def Block.toLine (b : Block) (st : Nat) : Nat × Nat :=
  let r := scrambleBits 256 (leVal b.bytes) st
  ((if b.ctrl then 1 else 0) + 2 * r.1, r.2)

/-- The blocks of a message of 5,140 bits, the first bit in bit 0, and the descrambler's state after them (R306, R307). -/
def blocksOf : Nat → Nat → Nat → List Block × Nat
  | 0, _, st => ([], st)
  | k + 1, w, st =>
    let d := descramble 256 (w / 2 % 2 ^ 256) st
    let r := blocksOf k (w >>> 257) d.2
    (⟨w % 2 = 1, leBytes 32 d.1⟩ :: r.1, r.2)

/-! ## GF(2^10) (R307) -/

/-- `a` times the primitive element α, a root of x^10 + x^3 + 1. -/
def gfDouble (a : Nat) : Nat := if a.testBit 9 then (2 * a) ^^^ 0x409 else 2 * a

/-- `a` times the low `k` bits of `b`. -/
def gfMulBits : Nat → Nat → Nat → Nat
  | 0, _, _ => 0
  | k + 1, a, b => (if b % 2 = 1 then a else 0) ^^^ gfMulBits k (gfDouble a) (b / 2)

/-- The product of two elements. -/
def gfMul (a b : Nat) : Nat := if a = 0 || b = 0 then 0 else gfMulBits 10 a b

/-- The inverse of an element that is not 0: its power 1,022. -/
def gfInv (a : Nat) : Nat :=
  ((List.range 9).foldl (fun (p : Nat × Nat) _ => (gfMul p.1 p.1, gfMul (gfMul p.1 p.1) p.2)) (a, 1)).2

/-- The powers α^0, α^1, … of α. -/
def gfPowers : Nat → Nat → List Nat
  | 0, _ => []
  | k + 1, a => a :: gfPowers k (gfDouble a)

/-- A polynomial at a point; coefficients from the highest degree down. -/
def polyAt (p : List Nat) (x : Nat) : Nat := p.foldl (fun acc c => gfMul acc x ^^^ c) 0

/-- `p` plus `c·q`; coefficients from the lowest degree up. -/
def polyAddMul (c : Nat) : List Nat → List Nat → List Nat
  | p, [] => p
  | [], q => q.map (gfMul c)
  | a :: p, b :: q => (a ^^^ gfMul c b) :: polyAddMul c p q

/-! ## RS(544,514) (R307)

A codeword is 544 symbols, the first sent first; it is the coefficient of the highest degree. -/

/-- The generator polynomial, the product of x − α^j for j from 0 to 29, from the lowest degree up. -/
def rsGenerator : List Nat := (gfPowers 30 1).foldl (fun g a => polyAddMul a (0 :: g) g) [1]

/-- The 30 parity symbols of a message, the highest degree first. -/
def rsParity (msg : List Nat) : List Nat :=
  let g := rsGenerator.reverse.drop 1
  msg.foldl (fun p m =>
    let f := m ^^^ p.headD 0
    (p.drop 1 ++ [0]).zipWith (fun a b => a ^^^ gfMul f b) g) (List.replicate 30 0)

/-- The 30 syndromes of a word received. -/
def rsSyndromes (ws : List Nat) : List Nat := (gfPowers 30 1).map (polyAt ws)

/-- The error locator's search (Berlekamp and Massey): the syndromes to come, those taken with the newest first, the locator,
its length, the locator before its last change times x^m, and the discrepancy at that change. -/
def rsLocator : List Nat → List Nat → List Nat → Nat → List Nat → Nat → List Nat × Nat
  | [], _, c, l, _, _ => (c, l)
  | s :: rest, seen, c, l, b, bd =>
    let taken := s :: seen
    let d := ((c.take (l + 1)).zip taken).foldl (fun acc p => acc ^^^ gfMul p.1 p.2) 0
    if d = 0 then rsLocator rest taken c l (0 :: b) bd
    else
      let c' := polyAddMul (gfMul d (gfInv bd)) c b
      if 2 * l ≤ seen.length then rsLocator rest taken c' (seen.length + 1 - l) (0 :: c) d
      else rsLocator rest taken c' l (0 :: b) bd

/-- The low `k` coefficients of the product of two polynomials, from the lowest degree up. -/
def polyMulLow (k : Nat) (p q : List Nat) : List Nat :=
  (List.range k).map fun i =>
    (List.range (i + 1)).foldl (fun acc j => acc ^^^ gfMul (p.getD j 0) (q.getD (i - j) 0)) 0

/-- The word with its errors corrected, where the locator `c` has a root for each (Chien, Forney): `ws` with the degree of the
first symbol, the inverses of the location of each, the locator, the evaluator and the locator's derivative. -/
def rsCorrect (c om dc : List Nat) (ws : List (Nat × Nat × Nat)) : List (Nat × Bool) :=
  ws.map fun w =>
    let x := w.2.2
    if polyAt c x = 0 then (w.1 ^^^ gfMul w.2.1 (gfMul (polyAt om x) (gfInv (polyAt dc x))), true) else (w.1, false)

/-- DECODE a word of 544 symbols (R307): `none` where it is uncorrectable, else the number of symbols corrected, at most 15,
and the 514 message symbols. -/
def rsDecode (ws : List Nat) : Option (Nat × List Nat) :=
  if ws.length ≠ 544 || ws.any (fun w => 1024 ≤ w) then none
  else
    let syn := rsSyndromes ws
    if syn.all (· = 0) then some (0, ws.take 514)
    else
      let r := rsLocator syn [] [1] 0 [0, 1] 1
      if 15 < r.2 then none
      else
        let c := r.1.take (r.2 + 1)
        let om := polyMulLow r.2 syn c
        let dc := c.zipIdx.map fun a => if a.2 % 2 = 1 then a.1 else 0
        let locs := (gfPowers 544 1).reverse
        let invs := (gfPowers 1023 1).drop 480 ++ [1]
        let out := rsCorrect c.reverse om.reverse (dc.drop 1).reverse (ws.zip (locs.zip invs))
        let fixed := out.map (·.1)
        if (out.countP (·.2)) = r.2 && (rsSyndromes fixed).all (· = 0) then some (r.2, fixed.take 514) else none

/-- The symbols of `k` tens of bits, the first bit of each in its bit 0. -/
def symbolsOf : Nat → Nat → List Nat
  | 0, _ => []
  | k + 1, w => w % 1024 :: symbolsOf k (w / 1024)

/-- The bits of symbols, the first in bit 0. -/
def symbolBits : List Nat → Nat
  | [] => 0
  | w :: r => w + 1024 * symbolBits r

/-- THE CODEWORD OF 20 BLOCKS (R306, R307): the blocks scrambled in order, 514 message symbols and 30 parity symbols; and the
scrambler's state after it. -/
def encodeCodeword (bs : List Block) (st : Nat) : List Nat × Nat :=
  let r := bs.foldr (fun b (k : Nat → Nat × Nat) st =>
    let x := b.toLine st
    let y := k x.2
    (x.1 + 2 ^ 257 * y.1, y.2)) (fun st => (0, st)) st
  let msg := symbolsOf 514 r.1
  (msg ++ rsParity msg, r.2)

/-- The PAM4 level of two bits, the first more significant, Gray-mapped (R307). -/
def pam4 (first second : Bool) : Int :=
  match first, second with
  | false, false => -3
  | false, true => -1
  | true, true => 1
  | true, false => 3

/-- The 2,720 levels of a codeword on the line (R307). -/
def codewordLevels (ws : List Nat) : List Int :=
  let w := symbolBits ws
  (List.range 2720).map fun i => pam4 (w.testBit (2 * i)) (w.testBit (2 * i + 1))

/-- The codewords that carry blocks, twenty to each (R307). -/
def codewordsOf : Nat → List Block → Nat → List (List Nat)
  | 0, _, _ => []
  | k + 1, bs, st =>
    let filler : Block := ⟨true, ctrlBytes 0 []⟩
    let r := encodeCodeword ((bs ++ List.replicate 20 filler).take 20) st
    r.1 :: codewordsOf k (bs.drop 20) r.2

end Sys2Proof.Machine
end

