-- ==== Sys2Proof/Machine/Views.lean ====
section
/-! DEFINITION. Views, rings, credits, records and record views (09_views_dma.md R281-R302), and the packets that carry
them on a lane (10_kettle_lanes.md R318, R320). -/

namespace Sys2Proof.Machine

/-! ## Packets of a lane (R318-R320) -/

/-- A lane by its number. -/
def State.laneRec (s : State) (n : Nat) : Lane := (s.lanes.toList[n]?).getD {}

/-- Change a lane. -/
def State.mapLane (s : State) (n : Nat) (f : Lane → Lane) : State := { s with lanes := s.lanes.setIfInBounds n (f (s.laneRec n)) }

/-- The lane is UP (R316). -/
def State.laneUp (s : State) (n : Nat) : Bool := s.nat (Obj.LANE_STATE n) = 4

/-- The FILLER block (R309, R317). -/
def fillerBlock : Block := ⟨true, ctrlBytes 0x00 []⟩

/-- A block on its way out, with no FILLER due. -/
def State.emitBlock (s : State) (n : Nat) (b : Block) : State := s.send (.lane n b.ctrl b.bytes)

/-- SEND A FILLER (R309). -/
def State.sendFiller (s : State) (n : Nat) : State :=
  (s.mapLane n fun l => { l with sinceFiller := 0 }).emitBlock n fillerBlock

/-- SEND A BLOCK (R309): a FILLER goes before it when 2,047 blocks have gone out since the last one. -/
def State.putBlock (s : State) (n : Nat) (b : Block) : State :=
  let s1 := if 2047 ≤ (s.laneRec n).sinceFiller then s.sendFiller n else s
  (s1.mapLane n fun l => { l with sinceFiller := l.sinceFiller + 1 }).emitBlock n b

/-- SEND A CONTROL BLOCK (R317): TYPE and the fields from byte 1. -/
def State.sendCtrl (s : State) (n ty : Nat) (fields : List Byte) : State := s.putBlock n ⟨true, ctrlBytes ty fields⟩

/-- The payload of a packet's PKT_HDR (R317, R318). -/
def packetHeader (pk : TxPacket) : List Byte :=
  ctrlBytes 0x10 (leBytes 2 (pk.seq + 4096 * pk.kind) ++ leBytes 2 (pk.data.length - 1) ++
    if pk.kind = 0 then leBytes 6 pk.addr else pk.header)

/-- Data blocks of 32 bytes, the last one filled up with zeros (R318). -/
def dataBlocks : Nat → List Byte → List Block
  | 0, _ => []
  | k + 1, bs => ⟨false, (bs ++ List.replicate 32 0).take 32⟩ :: dataBlocks k (bs.drop 32)

/-- THE BLOCKS OF A PACKET (R317, R318): PKT_HDR, the data, PKT_END with the CRC-32 of bytes 0 to 29 of the header and the
payload. -/
def packetBlocks (pk : TxPacket) : List Block :=
  let h := packetHeader pk
  (⟨true, h⟩ :: dataBlocks ((pk.data.length + 31) / 32) pk.data) ++
    [⟨true, ctrlBytes 0x11 (leBytes 2 pk.seq ++ leBytes 4 (crc32 (h.take 30 ++ pk.data)).toNat)⟩]

/-- Packets put on the line in order. -/
def State.putPackets (s : State) (n : Nat) (ps : List TxPacket) : State :=
  ps.foldl (fun (t : State) p => (packetBlocks p).foldl (fun (u : State) b => u.putBlock n b) t) s

/-- How many of the unacknowledged packets fit in the 2,048 blocks and 2,047 numbers of the replay buffer (R320). -/
def sentCount : List TxPacket → Nat → Nat → Nat
  | [], _, k => k
  | p :: r, room, k => if p.blocks ≤ room && k < 2047 then sentCount r (room - p.blocks) (k + 1) else k

/-- The packets of the window: sent and not yet acknowledged (R320). -/
def Lane.window (l : Lane) : List TxPacket := l.unacked.take (sentCount l.unacked 2048 0)

/-- Packets that now fit in the replay buffer go out (R320). -/
def State.flushLane (s : State) (n : Nat) : State :=
  let w := (s.laneRec n).window
  (s.putPackets n (w.drop (s.laneRec n).sentN)).mapLane n fun l => { l with sentN := w.length }

/-- SEND A PACKET (R318, R320): it takes the next SEQ and is kept until it is acknowledged; one that does not fit in the
replay buffer waits in order. -/
def State.tx (s : State) (n : Nat) (pk : TxPacket) : State :=
  (s.mapLane n fun l => { l with
    txSeq := (l.txSeq + 1) % 4096
    ackAt := if l.unacked.isEmpty then s.clk.beats else l.ackAt
    unacked := l.unacked ++ [{ pk with seq := l.txSeq }] }).flushLane n

/-- Pieces of bytes at a partner address that cross no 4 KiB boundary (R318). -/
def cut4k : Nat → Nat → List Byte → List (Nat × List Byte)
  | 0, _, _ => []
  | fuel + 1, a, bs =>
    if bs.isEmpty then []
    else
      let k := 4096 - a % 4096
      (a, bs.take k) :: cut4k fuel (a + k) (bs.drop k)

/-- Blocks of a WRITE: header, data, end (R318). -/
def writeBlocks (bs : List Byte) : Nat := (bs.length + 31) / 32 + 2

/-- WRITE bytes at a partner address on lane `n`, as packets (R318). -/
def State.writeOut (s : State) (n addr : Nat) (bs : List Byte) (view : Option Nat) (frame : BitVec 32) (line : Nat) : State :=
  (cut4k (bs.length / 4096 + 2) addr bs).foldl (fun (t : State) c =>
    t.tx n { seq := 0, kind := 0, blocks := writeBlocks c.2, view := view, frame := frame, line := line, addr := c.1, data := c.2 }) s

/-! ## Definition of a view (R281, R282, R286, R289, R290) -/

/-- A view by its number. -/
def State.view (s : State) (v : Nat) : View := (s.views.toList[v]?).getD {}

/-- Change a view. -/
def State.mapView (s : State) (v : Nat) (f : View → View) : State := { s with views := s.views.setIfInBounds v (f (s.view v)) }

/-- VW_CLASS with its default: 8 for source 2, else 0, while it has not been written (256, which no write of a U8 leaves). -/
def State.viewClass (s : State) (v : Nat) : Nat :=
  let c := s.nat (Obj.VW_CLASS v)
  if c = 256 then (if s.nat (Obj.VW_SOURCE v) = 2 then 8 else 0) else c

/-- Page size in bytes. -/
def State.pageSize (s : State) (v : Nat) : Nat := [4096, 65536, 2097152].getD (s.nat (Obj.VW_PAGE v)) 4096
/-- Data ring size in bytes. -/
def State.ringSize (s : State) (v : Nat) : Nat := 2 ^ s.nat (Obj.VW_DATA_SIZE v)
/-- Completion ring size in bytes. -/
def State.recRing (s : State) (v : Nat) : Nat := 2 ^ s.nat (Obj.VW_REC_SIZE v)

/-- The rows and columns of a tile that a compact view keeps (R286): `none` unless the mask is the same in all quadrants and
enables exactly a set of tile rows by a set of tile columns. -/
def compactSets (mask : List Byte) : Option (List Nat × List Nat) :=
  let on (n : Nat) : Bool := (mask.getD (n / 8) 0).getLsbD (n % 8)
  let rows := (List.range 32).filter fun r => (List.range 32).any fun c => on (32 * r + c)
  let cols := (List.range 32).filter fun c => (List.range 32).any fun r => on (32 * r + c)
  let same := (List.range 128).all fun i => (List.range 4).all fun q => mask.getD (128 * q + i) 0 = mask.getD i 0
  if same && rows.all (fun r => cols.all fun c => on (32 * r + c)) then some (rows, cols) else none

/-- The image rows of a view's lines under a mask, in window order; `none` for a frame that a compact view drops. -/
def State.viewRows (s : State) (v : Nat) (mask : List Byte) : Option (List Nat) :=
  let all := (List.range (s.nat (Obj.VW_H v))).map (· + s.nat (Obj.VW_Y0 v))
  if s.nat (Obj.VW_COMPACT v) = 0 then some all
  else (compactSets mask).map fun rc => all.filter fun y => rc.1.contains (y % 32)

/-- The image columns of a view's lines under a mask. -/
def State.viewCols (s : State) (v : Nat) (mask : List Byte) : Option (List Nat) :=
  let all := (List.range (s.nat (Obj.VW_W v))).map (· + s.nat (Obj.VW_X0 v))
  if s.nat (Obj.VW_COMPACT v) = 0 then some all
  else (compactSets mask).map fun rc => all.filter fun x => rc.2.contains (x % 32)

/-- Bytes of a line of `w` pixels (R289). -/
def lineSize (format w : Nat) : Nat :=
  match format with
  | 1 => 3 * w | 2 => 2 * w | 3 => 4 * ((w + 2) / 3) | 4 => 4 * w | _ => w

/-- Up to a multiple of 64. -/
def up64 (n : Nat) : Nat := (n + 63) / 64 * 64

/-- The view carries a tag plane. -/
def State.tagPlane (s : State) (v : Nat) : Bool := s.nat (Obj.VW_TAGPLANE v) = 1

/-- STRIDE of a line of `w` pixels (R290). -/
def State.stride (s : State) (v w : Nat) : Nat := up64 (lineSize (s.nat (Obj.VW_FORMAT v)) w)
/-- TSTRIDE: W/2 rounded up to a multiple of 64, also from the half of an odd W. -/
def tstride (w : Nat) : Nat := up64 ((w + 1) / 2)

/-- FRAME_PAGES of an area of `h` lines of `w` pixels (R290). -/
def State.framePages (s : State) (v h w : Nat) : Nat :=
  let bytes := h * s.stride v w + (if s.tagPlane v then h * tstride w else 0)
  (bytes + s.pageSize v - 1) / s.pageSize v

/-- The lanes of the set, ascending. -/
def State.viewSet (s : State) (v : Nat) : List Nat := setBits 8 (s.nat (Obj.VW_LANES v))

/-- THE CHECK OF A DEFINITION (R282): the number of the first fault, 0 for none. -/
def State.viewFault (s : State) (v : Nat) : Nat :=
  let src := s.nat (Obj.VW_SOURCE v)
  let fmt := s.nat (Obj.VW_FORMAT v)
  let x0 := s.nat (Obj.VW_X0 v)
  let w := s.nat (Obj.VW_W v)
  let y0 := s.nat (Obj.VW_Y0 v)
  let h := s.nat (Obj.VW_H v)
  let set := s.viewSet v
  let cls := s.viewClass v
  let div := s.nat (Obj.VW_DIV v)
  let uid (n : Nat) : Nat := s.nat (Obj.PARTNER_UID n)
  let fits (p : Nat) : Bool :=
    match s.viewRows v (s.frameMask p), s.viewCols v (s.frameMask p) with
    | some r, some c => s.framePages v r.length c.length * s.pageSize v ≤ s.ringSize v
    | _, _ => true
  if 2 < src || 63 < s.nat (Obj.VW_SITE v) || 5 < fmt || 7 < s.nat (Obj.VW_CONTEXT v) || div = 0 || 256 < div then 1
  else if (src = 0) = (fmt = 0) then 2
  else if s.tagPlane v && fmt ≠ 2 then 3
  else if w = 0 || h = 0 || 6144 < x0 + w || 5120 < y0 + h || x0 % 32 ≠ 0 || w % 32 ≠ 0 then 4
  else if set.isEmpty || (s.otp.isL4 && set.any fun n => 4 ≤ n) then 5
  else if set.any (fun n => !s.laneUp n) || set.any (fun n => uid n ≠ uid (set.headD 0)) then 6
  else if !(cls = 0 || (8 ≤ cls && cls ≤ 15)) then 7
  else if s.nat (Obj.VW_DATA_BASE v) % s.ringSize v ≠ 0 || s.nat (Obj.VW_REC_BASE v) % s.recRing v ≠ 0 ||
      s.ringSize v < s.pageSize v then 8
  else if src = 0 && !((List.range 4).all fits) then 9
  else 0

/-- The lanes of the set that are live for the view: up, and announcing the view's partner (R291, R300). -/
def State.viewLive (s : State) (v : Nat) : List Nat :=
  (s.viewSet v).filter fun n => s.laneUp n && s.nat (Obj.PARTNER_UID n) = s.nat (Obj.VW_PARTNER_UID v)

/-! ## Lines (R287-R290) -/

/-- The key of a committed pixel in `State.pix`. -/
def pixKey (frame : BitVec 32) (site y x : Nat) : Nat := ((frame.toNat * 64 + site) * 5120 + y) * 6144 + x

/-- A pixel that no committed run emitted: a zero sample with tag 0xF (R287). -/
def fillPix : Int := 15 * 2 ^ 32

/-- The pixel of a frame at a site: its 32-bit lane and its tag, or the fill value. -/
def State.pixel (s : State) (frame : BitVec 32) (site y x : Nat) : Int := Cells.get s.pix (pixKey frame site y x) fillPix

/-- The lane bits of a pixel. -/
def pixLane (p : Int) : Nat := (p % 2 ^ 32).toNat
/-- The tag of a pixel. -/
def pixTag (p : Int) : Nat := (p / 2 ^ 32).toNat % 16

/-- V10 luma: three pixels a word (R289). -/
def packLuma : List Int → List Byte
  | a :: b :: c :: r => leBytes 4 (pixLane a % 1024 + pixLane b % 1024 * 1024 + pixLane c % 1024 * 1048576) ++ packLuma r
  | [a, b] => leBytes 4 (pixLane a % 1024 + pixLane b % 1024 * 1024)
  | [a] => leBytes 4 (pixLane a % 1024)
  | [] => []

/-- The bytes of a line (R289). -/
def packLine (format : Nat) (ps : List Int) : List Byte :=
  match format with
  | 1 => ps.flatMap fun p => leBytes 3 (pixTag p * 2 ^ 20 + pixLane p % 2 ^ 20)
  | 2 => ps.flatMap fun p => leBytes 2 (pixLane p)
  | 3 => packLuma ps
  | 4 => ps.flatMap fun p => leBytes 4 (pixLane p % 2 ^ 30)
  | _ => ps.flatMap fun p => leBytes 1 (pixLane p)

/-- The tag plane of a line: two pixels a byte (R289). -/
def packTags : List Int → List Byte
  | a :: b :: r => BitVec.ofNat 8 (pixTag a + 16 * pixTag b) :: packTags r
  | [a] => [BitVec.ofNat 8 (pixTag a)]
  | [] => []

/-- A region has done its part of image row `y` for a frame (R288): it has committed the item of the row, has none, or has
discarded the frame. -/
def State.rowDone (s : State) (f : Frame) (g y : Nat) : Bool :=
  let row := y - 640 * (g / 8)
  !f.hasItem g row || f.discards.getLsbD g ||
  (s.region g).frames.any fun x => x.num = f.num && x.ended.contains row

/-- Line complete (R288): every region that it crosses has done its part. -/
def State.lineDone (s : State) (f : Frame) (y : Nat) (cols : List Nat) : Bool :=
  (List.range 8).all fun c => !(cols.any fun x => x / 768 = c) || s.rowDone f (y / 640 * 8 + c) y

/-- The pieces of a frame's area that line `i` occupies: offset and bytes (R290). -/
def State.linePieces (s : State) (v : Nat) (f : Frame) (rows cols : List Nat) (i : Nat) : List (Nat × List Byte) :=
  let ps := cols.map fun x => s.pixel f.num (s.nat (Obj.VW_SITE v)) (rows.getD i 0) x
  let w := cols.length
  (i * s.stride v w, packLine (s.nat (Obj.VW_FORMAT v)) ps) ::
    (if s.tagPlane v then [(rows.length * s.stride v w + i * tstride w, packTags ps)] else [])

/-- Every page that the pieces touch lies below CREDIT_LIMIT (R293). -/
def State.credited (s : State) (v first : Nat) (pieces : List (Nat × List Byte)) : Bool :=
  pieces.all fun p => first + (p.1 + p.2.length - 1) / s.pageSize v < s.nat (Obj.CREDIT_LIMIT v)

/-- Write bytes at an offset of a frame's area, which may wrap from the end of the ring to its start (R290). -/
def State.writeArea (s : State) (v n first off : Nat) (bs : List Byte) (frame : BitVec 32) (line : Nat) : State :=
  let ring := s.ringSize v
  let at' := (first * s.pageSize v + off) % ring
  let base := s.nat (Obj.VW_DATA_BASE v)
  let k := ring - at'
  (s.writeOut n (base + at') (bs.take k) (some v) frame line).writeOut n base (bs.drop k) (some v) frame line

/-- Bytes of a line's segment of `n` pixels, with their tags where there is a tag plane (R289). -/
def State.segBytes (s : State) (v n : Nat) : Nat :=
  lineSize (s.nat (Obj.VW_FORMAT v)) n + if s.tagPlane v then (n + 1) / 2 else 0

/-- The SEAM slots that the segments of a line cross on their way to the lane's die, with their 64-byte blocks (R291). -/
def State.seamLoad (s : State) (v y : Nat) (cols : List Nat) (die : Nat) : List (Nat × Nat) :=
  (List.range 8).flatMap fun c =>
    let n := (cols.filter fun x => x / 768 = c).length
    let from' := quadOfRegion (y / 640 * 8 + c)
    if n = 0 then [] else (seamPath from' die).map fun l =>
      let d := seamDies l
      (128 + 2 * l + (if (from' = d.1 || (from' ≠ d.2 && from' < die)) then 0 else 1), (s.segBytes v n + 63) / 64)

/-- Something of the view waits for credit or EGRESS sticks (R296). -/
def View.waits (w : View) : Bool := w.recWaits || w.frames.any fun x => !x.waiting.isEmpty

/-- A line or record waits: the stall timer starts unless it runs (R296). -/
def View.stall (w : View) (now : Dlt) : View := { w with stallFrom := some (w.stallFrom.getD now) }

/-- What waited has become able to move: the timer restarts from zero, and stops where nothing waits any more (R296). -/
def View.restall (w : View) (now : Dlt) : View := { w with stallFrom := if w.waits then some now else none }

/-- The timer stops where nothing waits any more. -/
def View.settle (w : View) : View := if w.waits then w else { w with stallFrom := none }

/-- The oldest frame of view `v` that line `i` can belong to: it is still to be written there. -/
def View.lineFrame (w : View) (i : Nat) : Option VFrame :=
  w.frames.find? fun x => x.valid.isNone && i < x.lines && !x.written.contains i

/-- Replace a frame of a view. -/
def View.setFrame (w : View) (x : VFrame) : View :=
  { w with frames := w.frames.map fun (y : VFrame) => if y.num = x.num && y.first = x.first then x else y }

/-- LINE_PAGE_WRITE (R288, R291, R293): a complete line whose pages are all credited goes out on its lane, charged to the
view's class; a complete line without credit or EGRESS sticks waits and the stall timer runs (R296). A view that drops still
writes the lines of the frames before the one that it has truncated (R298). -/
def execLinePageWrite (v : Fin 16) (line : Nat) (s : State) : Out :=
  .next (
    let w := s.view v.val
    match w.lineFrame line with
    | none => s
    | some x =>
      match s.frame? x.num with
      | none => s
      | some f =>
        let rows := (s.viewRows v.val f.mask).getD []
        let cols := (s.viewCols v.val f.mask).getD []
        let n := x.stripe.getD (line % max 1 x.stripe.length) 8
        let y := rows.getD line 0
        if !(s.nat (Obj.VW_STATE v.val) = 2 || s.nat (Obj.VW_STATE v.val) = 3) || s.nat (Obj.VW_SOURCE v.val) ≠ 0 || !s.laneUp n || !s.lineDone f y cols then s
        else
          let pieces := s.linePieces v.val f rows cols line
          let cls := s.viewClass v.val
          let seam := s.seamLoad v.val y cols (n / 2)
          let blocks := (pieces.map fun p => (p.2.length + 31) / 32).sum
          let had := x.waiting.contains line
          let hold (t : State) : State := t.mapView v.val fun u =>
            ((u.setFrame { x with waiting := if had then x.waiting else line :: x.waiting }).stall t.now)
          if !s.credited v.val x.first pieces then hold s
          else if !s.maySpend (136 + n) cls then hold (s.stallRoll (136 + n) cls)
          else match seam.find? fun e => !s.maySpend e.1 cls with
          | some e => s.stallRoll e.1 cls
          | none =>
            let s1 := seam.foldl (fun (t : State) e => t.owe e.1 cls e.2) (s.owe (136 + n) cls blocks)
            let s2 := pieces.foldl (fun (t : State) p => t.writeArea v.val n x.first p.1 p.2 x.num line) s1
            s2.mapView v.val fun u =>
              let u1 := u.setFrame { x with
                written := line :: x.written
                unacked := line :: x.unacked
                waiting := x.waiting.filter (· ≠ line) }
              if had then u1.restall s.now else u1)

/-! ## Records (R294, R295) -/

/-- The flag field of a frame's record (R16, R294). -/
def Frame.flags (f : Frame) (truncated : Bool) : Nat :=
  let b (i : Nat) (x : Bool) : Nat := if x then 2 ^ i else 0
  b 0 f.shutter + b 1 f.throttled + b 2 f.unsynced + b 3 f.mixedGen + b 4 f.filterChg + b 5 f.timeStep + b 6 truncated +
    b 7 f.dissent + b 8 f.quality

/-- The counts of a delivered frame over its valid lines: pixels with OVR, with SET, lines with CHK, lines with fill. -/
def State.frameCounts (s : State) (v : Nat) (f : Frame) (rows cols : List Nat) : Nat × Nat × Nat × Nat :=
  let site := s.nat (Obj.VW_SITE v)
  let lines := rows.map fun y => cols.map fun x => s.pixel f.num site y x
  let tagged (b : Nat) (p : Int) : Bool := p ≠ fillPix && (pixTag p).testBit b
  ((lines.map fun l => (l.filter (tagged 0)).length).sum, (lines.map fun l => (l.filter (tagged 1)).length).sum,
   (lines.filter fun l => l.any (tagged 3)).length, (lines.filter fun l => l.any (· = fillPix)).length)

/-- The 16 words of a record (R294). -/
def recordWords (w0 frame lines drops : Nat) (start fin : Dlt) (first pages ovr set chk fill : Nat)
    (genMap discards : BitVec 64) : List Word :=
  let lo (n : Nat) : Word := BitVec.ofNat 32 n
  [lo w0, lo frame, lo (min lines 0xFFFF * 65536 + min drops 0xFFFF), lo start.toNat, lo (start.toNat / 2 ^ 32),
   lo fin.toNat, lo (fin.toNat / 2 ^ 32), lo first, lo (pages % 65536 * 65536 + first / 2 ^ 32 % 65536), lo ovr, lo set,
   lo (chk % 65536 * 65536 + fill % 65536), lo genMap.toNat, lo (genMap.toNat / 2 ^ 32), lo discards.toNat,
   lo (discards.toNat / 2 ^ 32)]

/-- The record of a frame of a pixel view (R294). -/
def State.frameRecord (s : State) (v : Nat) (x : VFrame) (f : Frame) : List Word :=
  let n := x.valid.getD x.lines
  let c := s.frameCounts v f (((s.viewRows v f.mask).getD []).take n) ((s.viewCols v f.mask).getD [])
  recordWords (f.flags x.valid.isSome * 65536 + v * 4096 + s.nat (Obj.VW_FORMAT v) * 256 + s.nat (Obj.VW_CONTEXT v) * 32 +
      (if s.tagPlane v then 16 else 0) + f.profile * 4)
    f.num.toNat n x.drops f.landing x.endDlt x.first x.pages c.1 c.2.1 c.2.2.1 c.2.2.2 f.genMap f.discards

/-- The record of a page of a record view (R302): W9 holds the entry count. -/
def pageRecord (v : Nat) (x : VFrame) : List Word :=
  recordWords (v * 4096) 0 x.lines 0 x.t0 x.endDlt x.first 1 x.lines 0 0 0 0 0

/-- A view closes (R283). A record view's closed pages still receive their records (R302). -/
def State.closeView (s : State) (v : Nat) : State :=
  (s.mapView v fun w => { w with
    closing := false, stallFrom := none, recWaits := false, drops := 0
    frames := if s.nat (Obj.VW_SOURCE v) = 0 then [] else w.frames }).put (Obj.VW_STATE v) 0

/-- A closing view whose current frame is done closes (R283). -/
def State.closeIfDone (s : State) (v : Nat) : State :=
  if (s.view v).closing && (s.view v).frames.isEmpty then s.closeView v else s

/-- The oldest frame is complete for its record: every line written, or truncated, and everything acknowledged (R295). -/
def VFrame.ready (x : VFrame) : Bool :=
  x.unacked.isEmpty && (x.valid.isSome || x.written.length = x.lines)

/-- FRAME_RECORD_WRITE (R291, R295): the record of the oldest frame or page goes out on the lowest live lane, under
completion credit; without credit it waits (R296). -/
def execFrameRecordWrite (v : Fin 16) (s : State) : Out :=
  .next (
    let pixels := s.nat (Obj.VW_SOURCE v.val) = 0
    match (s.view v.val).frames, s.viewLive v.val with
    | x :: rest, n :: _ =>
      let words := if pixels then (s.frame? x.num).map (s.frameRecord v.val x) else some (pageRecord v.val x)
      match words with
      | none => s
      | some ws =>
        if !(if pixels then x.ready else x.unacked.isEmpty) then s
        else
          let idx := s.nat (Obj.REC_INDEX v.val)
          let cls := s.viewClass v.val
          let hold (t : State) : State := if pixels then t.mapView v.val fun w => { w with recWaits := true }.stall t.now else t
          if s.nat (Obj.REC_CREDIT v.val) ≤ idx then hold s
          else if !s.maySpend (136 + n) cls then hold (s.stallRoll (136 + n) cls)
          else
            let addr := s.nat (Obj.VW_REC_BASE v.val) + 64 * idx % s.recRing v.val
            let s1 := (s.owe (136 + n) cls 2).writeOut n addr (wordsBytes ws) none x.num 0
            let s2 := s1.put (Obj.REC_INDEX v.val) (idx + 1)
            let s3 := if pixels then s2.bump (Obj.VW_FRAMES v.val) else s2
            (s3.mapView v.val fun w =>
              let u : View := { w with frames := rest, recWaits := false }
              if w.recWaits then u.restall s.now else u).closeIfDone v.val
    | _, _ => s)

/-! ## Credit (R292, R293) -/

/-- OLDEST_OPEN (R292). -/
def State.oldestOpen (s : State) (v : Nat) : Nat :=
  ((s.view v).frames.head?.map (·.first)).getD (s.nat (Obj.NEXT_PAGE v))

/-- The entries of a page of a record view (R302). -/
def State.pageEntries (s : State) (v : Nat) : Nat := s.pageSize v / (if s.nat (Obj.VW_SOURCE v) = 1 then 80 else 8)

/-- The line number under which a page of a record view travels: no frame has a line of this number. -/
def pageLine : Nat := 2 ^ 20

/-- The open page of a record view is full (R302). -/
def State.pageFull (s : State) (v : Nat) : Bool := s.pageEntries v ≤ (s.view v).pageN

/-- CLOSE THE PAGE of a record view (R302): it goes out on the lowest live lane, its unused bytes zero, and its record is to
come. Without a live lane, credit or EGRESS sticks it waits (R270, R292). -/
def State.closePage (s : State) (v : Nat) : State :=
  let w := s.view v
  let p := s.nat (Obj.NEXT_PAGE v)
  match s.viewLive v with
  | [] => s
  | n :: _ =>
    if w.pageN = 0 || s.nat (Obj.CREDIT_LIMIT v) ≤ p then s
    else if !s.maySpend (136 + n) (s.viewClass v) then s.stallRoll (136 + n) (s.viewClass v)
    else
      let bytes := w.page ++ List.replicate (s.pageSize v - w.page.length) 0
      let s1 := (s.owe (136 + n) (s.viewClass v) ((bytes.length + 31) / 32)).writeArea v n p 0 bytes 0 pageLine
      (s1.put (Obj.NEXT_PAGE v) (p + 1)).mapView v fun u => { u with
        page := [], pageN := 0
        frames := u.frames ++ [{ num := 0, first := p, pages := 1, lines := w.pageN, stripe := [n], written := [0],
                                 unacked := [0], t0 := w.pageT0, endDlt := w.pageT1 }] }

/-- AN ENTRY OF TIME `t0` ARRIVES AT A RECORD VIEW (R302): into the open page, or into the view's buffer of 16 KiB until a page is
credited; beyond that it is discarded and counted in REC_LOST. A page that is full closes. -/
def State.addEntry (s : State) (v : Nat) (t0 : Dlt) (entry : List Byte) : State :=
  let w := s.view v
  let opens := s.nat (Obj.VW_STATE v) = 2 && s.nat (Obj.NEXT_PAGE v) < s.nat (Obj.CREDIT_LIMIT v)
  if w.buffered.isEmpty && (if w.pageN ≠ 0 then !s.pageFull v else opens) then
    let s1 := s.mapView v fun u => { u with
      page := u.page ++ entry, pageN := u.pageN + 1
      pageT0 := if u.pageN = 0 then t0 else u.pageT0
      pageT1 := t0 }
    if s1.pageFull v then s1.closePage v else s1
  else if (w.buffered.map (·.2.length)).sum + entry.length ≤ 16384 then
    s.mapView v fun u => { u with buffered := u.buffered ++ [(t0, entry)] }
  else s.bump (Obj.REC_LOST v)

/-- A full page that waited closes, and entries that waited for a credited page move into one. -/
def State.drainEntries (s : State) (v : Nat) : State :=
  if s.nat (Obj.VW_STATE v) = 2 then
    let s1 := if (s.view v).pageN ≠ 0 && s.pageFull v then s.closePage v else s
    (s.view v).buffered.foldl (fun (t : State) e => t.addEntry v e.1 e.2) (s1.mapView v fun u => { u with buffered := [] })
  else s

/-- A RECORD OF AN EMIT with KIND 1 arrives at view `v` (R182, R302). -/
def State.emitRecord (s : State) (v region : Nat) (entry : Bool) (frame : BitVec 32) (bytes : List Byte) (ty : BitVec 16) : State :=
  if s.nat (Obj.VW_SOURCE v) = 1 && 2 ≤ s.nat (Obj.VW_STATE v) then
    s.addEntry v s.now (bytes ++ leBytes 2 ty.toNat ++ leBytes 1 region ++ leBytes 1 (if entry then 1 else 0) ++
      leBytes 4 frame.toNat ++ leBytes 8 s.now.toNat)
  else s.bump (Obj.REC_LOST v)

/-- Line `i` of a frame of the view no longer waits for credit (R293). -/
def State.lineCredited (s : State) (v : Nat) (x : VFrame) (i : Nat) : Bool :=
  match s.frame? x.num with
  | none => false
  | some f => s.credited v x.first (s.linePieces v f ((s.viewRows v f.mask).getD []) ((s.viewCols v f.mask).getD []) i)

/-- Lines and records that a grant makes able to move, which `old` did not credit yet, no longer wait, and the timer restarts; those
that wait for EGRESS sticks go on waiting (R296). -/
def State.release (s old : State) (v : Nat) : State :=
  let w := s.view v
  let frames := w.frames.map fun (x : VFrame) =>
    { x with waiting := x.waiting.filter fun i => !(s.lineCredited v x i && !old.lineCredited v x i) }
  let able (t : State) : Bool := decide (t.nat (Obj.REC_INDEX v) < t.nat (Obj.REC_CREDIT v))
  let rec' := w.recWaits && !(able s && !able old)
  if frames = w.frames && rec' = w.recWaits then s
  else s.mapView v fun u => ({ u with frames := frames, recWaits := rec' } : View).restall s.now

/-- A GRANT OF CREDIT (R292): the limit rises by the count, clamped to the ring; the second part tells a clamped grant. -/
def State.grant (s : State) (v ring count : Nat) : State × Bool :=
  if ring = 0 then
    let want := s.nat (Obj.CREDIT_LIMIT v) + count
    let most := s.oldestOpen v + s.ringSize v / s.pageSize v
    let s1 := s.put (Obj.CREDIT_LIMIT v) (min want most : Nat)
    let s2 := if most < want then s1.bump (Obj.CREDIT_OVER v) else s1
    ((s2.release s v).drainEntries v, most < want)
  else
    let want := s.nat (Obj.REC_CREDIT v) + count
    let most := s.nat (Obj.REC_INDEX v) + s.recRing v / 64
    let s1 := s.put (Obj.REC_CREDIT v) (min want most : Nat)
    let s2 := if most < want then s1.bump (Obj.CREDIT_OVER v) else s1
    (s2.release s v, most < want)

/-- A write of 1 to CREDIT_GO grants what the credit objects name (R292). -/
def State.writeCreditGo (s : State) (x : Nat) : State :=
  if x ≠ 1 then s
  else
    let r := s.grant (s.nat Obj.CREDIT_VIEW % 16) (s.nat Obj.CREDIT_RING) (s.nat Obj.CREDIT_COUNT)
    r.1.put Obj.CREDIT_GO (if r.2 then 2 else 1)

/-- CREDIT_GO (R292). -/
def execCreditGo (v : Nat) (s : State) : Out := .next (s.writeCreditGo v)

/-- A write of a ring definition object sets the ring's indexes and credits to 0 (R293). -/
def State.resetRings (s : State) (v : Nat) : State :=
  (((s.put (Obj.NEXT_PAGE v) 0).put (Obj.CREDIT_LIMIT v) 0).put (Obj.REC_INDEX v) 0).put (Obj.REC_CREDIT v) 0

/-- RECORD_PAGE_FLUSH (R302): a page closes VW_FLUSH_US after its first entry, and one that is full closes once it can; entries
that waited for the next page follow. -/
def execRecordPageFlush (v : Fin 16) (s : State) : Out :=
  .next (
    let w := s.view v.val
    if w.pageN ≠ 0 && (s.pageFull v.val || s.nat (Obj.VW_FLUSH_US v.val) * 64000 ≤ (s.now - w.pageT0).toNat) then
      (s.closePage v.val).drainEntries v.val
    else s)

/-! ## Opening, closing, taking frames (R283-R285, R297-R301) -/

/-- VIEW_OPEN (R282, R283): the definition is checked; an accepted view opens at the next FRAME_START landing. -/
def execViewOpen (l : Landing) (s : State) : Out :=
  .next (s.land 0x40 l fun t =>
    let v := l.arg.toNat % 16
    if t.nat (Obj.VW_STATE v) ≠ 0 then t
    else
      let fault := t.viewFault v
      let t1 := t.put (Obj.VW_ERROR v) fault
      if fault ≠ 0 then t1.bell 0x0791
      else (t1.put (Obj.VW_STATE v) 1).put (Obj.VW_PARTNER_UID v) (t1.nat (Obj.PARTNER_UID ((t1.viewSet v).headD 0))))

/-- View `v` is told to close (R283): after its current frame, or at once where it has none, drops or waits. -/
def State.closeAsked (s : State) (v : Nat) : State :=
  let st := s.nat (Obj.VW_STATE v)
  if st = 0 then s
  else if st = 2 && !(s.view v).frames.isEmpty && s.nat (Obj.VW_SOURCE v) = 0 then s.mapView v fun w => { w with closing := true }
  else s.closeView v

/-- VIEW_CLOSE (R283). -/
def execViewClose (l : Landing) (s : State) : Out := .next (s.land 0x41 l fun t => t.closeAsked (l.arg.toNat % 16))

/-- A frame that a view takes and drops whole (R298). -/
def State.dropFrame (s : State) (v : Nat) : State :=
  (s.bump (Obj.VW_DROPPED v)).mapView v fun w => { w with drops := w.drops + 1 }

/-- A view takes a frame (R284, R286, R290, R298, R301). -/
def State.takeFrame (s : State) (v : Nat) (f : Frame) : State :=
  match s.viewRows v f.mask, s.viewCols v f.mask with
  | some rows, some cols =>
    let pages := s.framePages v rows.length cols.length
    let next := s.nat (Obj.NEXT_PAGE v)
    let st := s.nat (Obj.VW_STATE v)
    if st = 4 || (st = 3 && s.nat (Obj.CREDIT_LIMIT v) < next + pages) then s.dropFrame v
    else
      let w := s.view v
      let live := s.viewLive v
      ((((s.put (Obj.VW_STATE v) 2).put (Obj.NEXT_PAGE v) (next + pages : Nat)).put (Obj.LANES_LIVE v) live.length)).mapView v
        fun u => { u with
          drops := 0
          frames := u.frames ++ [{ num := f.num, first := next, pages := pages, lines := rows.length, stripe := live,
                                   drops := w.drops }] }
  | _, _ => (s.dropFrame v).bump (Obj.MASK_DROPS v)

/-- The views at a FRAME_START landing that launches frame `f` (R283-R285): opening views open, open pixel views take the
frames of their divider, and ACTIVE_SITES follows. -/
def State.viewsAtStart (s : State) (f : Frame) : State :=
  let one (t : State) (v : Nat) : State :=
    let t1 := if t.nat (Obj.VW_STATE v) = 1 then
        (t.put (Obj.VW_STATE v) (if (t.viewLive v).isEmpty then 4 else 2)).mapView v fun w => { w with openFrame := f.num, closing := false }
      else t
    let w := t1.view v
    if t1.nat (Obj.VW_STATE v) < 2 || t1.nat (Obj.VW_SOURCE v) ≠ 0 || w.closing then t1
    else if (f.num - w.openFrame).toNat % max 1 (t1.nat (Obj.VW_DIV v)) = 0 then t1.takeFrame v f else t1
  let s1 := (List.range 16).foldl one s
  let sites := (List.range 16).filter fun v => 2 ≤ s1.nat (Obj.VW_STATE v) && s1.nat (Obj.VW_SOURCE v) = 0 && !(s1.view v).closing
  s1.put Obj.ACTIVE_SITES (((List.range 64).filter fun k => sites.any fun v => s1.nat (Obj.VW_SITE v) = k).map fun k => (2 : Int) ^ k).sum

/-- The stall limit of a view in LSB (R296). -/
def State.stallLimit (s : State) (v : Nat) (x : VFrame) : Nat :=
  if s.nat (Obj.VW_STALL_LIMIT v) = 0 then ((s.frame? x.num).map (·.tFrame)).getD 0
  else s.nat (Obj.VW_STALL_LIMIT v) * 64000

/-- Lines of the unbroken part written (R297). -/
def VFrame.prefixLines (x : VFrame) : Nat := ((List.range (x.lines + 1)).find? fun i => !x.written.contains i).getD x.lines

/-- Frames that leave without a record: the drops counted before them go to the next record (R294). -/
def View.without (w : View) (gone : VFrame) (rest : List VFrame) : View :=
  match rest with
  | [] => { w with frames := [], drops := w.drops + gone.drops }
  | y :: ys => { w with frames := { y with drops := y.drops + gone.drops } :: ys }

/-- The limit of a record view while a low-power mode is entered, in LSB (R430): 0 counts as the frame time of the last frame. -/
def State.recordLimit (s : State) (v : Nat) : Nat :=
  if s.nat (Obj.VW_STALL_LIMIT v) = 0 then (s.focal.frames.getLast?.map (·.tFrame)).getD 0
  else s.nat (Obj.VW_STALL_LIMIT v) * 64000

/-- A record that has waited for the stall limit is lost (R295). -/
def State.loseRecord (s : State) (v : Nat) : State :=
  match (s.view v).frames with
  | x :: rest =>
    if (s.view v).recWaits && x.ready then
      (s.bump (Obj.REC_LOST v)).mapView v fun u => { u.without x rest with recWaits := false }.settle
    else s
  | [] => s

/-- The oldest frame with a waiting line is truncated, every later one is dropped whole, and the view drops (R297, R298). -/
def State.truncate (s : State) (v : Nat) : State :=
  let w := s.view v
  match w.frames.find? fun y => !y.waiting.isEmpty with
  | none => s
  | some y =>
    let limit := s.nat (Obj.CREDIT_LIMIT v)
    let before := w.frames.takeWhile fun z => z ≠ y
    let later := (w.frames.length - before.length) - 1
    let cut : VFrame := { y with valid := some y.prefixLines, pages := limit - y.first, waiting := [] }
    (((((s.mapFrame y.num fun f => { f with truncated := true }).bump (Obj.VW_TRUNC v)).bump (Obj.VW_DROPPED v) later).put (Obj.NEXT_PAGE v) limit).put
      (Obj.VW_STATE v) 3).mapView v fun u => { u with
        frames := before ++ [cut]
        drops := u.drops + later + ((w.frames.drop (before.length + 1)).map (·.drops)).sum
        stallFrom := none }

/-- What a record view has not yet recorded is discarded when a low-power mode is entered: its closed pages, its open page and
the entries that wait, each counted in REC_LOST (R302, R430). -/
def State.discardRecords (s : State) (v : Nat) : State :=
  let w := s.view v
  (s.bump (Obj.REC_LOST v) (w.frames.length + (if w.pageN = 0 then 0 else 1) + w.buffered.length)).mapView v fun u =>
    { u with frames := [], page := [], pageN := 0, buffered := [], stallFrom := none }

/-- VIEW_STALL_TIMEOUT (R295-R298): at the stall limit a record that waits is lost, and the oldest frame with a waiting line is
truncated. The timer of a record view runs only while a low-power mode is entered (R302, R430). -/
def execViewStallTimeout (v : Fin 16) (s : State) : Out :=
  .next (
    let w := s.view v.val
    let pixels := s.nat (Obj.VW_SOURCE v.val) = 0
    match w.stallFrom with
    | none => s
    | some t0 =>
      let limit := match w.frames with
        | x :: _ => if pixels then s.stallLimit v.val x else s.recordLimit v.val
        | [] => s.recordLimit v.val
      if (s.now - t0).toNat < limit || (pixels && w.frames.isEmpty) then s
      else if pixels then ((s.loseRecord v.val).truncate v.val).closeIfDone v.val
      else s.discardRecords v.val)

/-- A LANE IS DECLARED DOWN for the views (R299, R301): pages in flight on it are abandoned, frames with a line on it that
is not yet acknowledged are dropped whole, and a view without a live lane waits. Pages of a view that has closed meanwhile are
abandoned too. -/
def State.viewsLaneDown (s : State) (n : Nat) : State :=
  (List.range 16).foldl (fun (t : State) v =>
    let inFlight := (s.laneRec n).unacked.filter fun p => p.view = some v
    let isOpen := 2 ≤ t.nat (Obj.VW_STATE v)
    if (!isOpen && inFlight.isEmpty && (t.view v).frames.isEmpty) || !(t.viewSet v).contains n then t
    else
      let pages := (inFlight.map fun p => p.addr / t.pageSize v).dedup.length
      let hit (x : VFrame) : Bool := (List.range x.lines).any fun i =>
        x.stripe.getD (i % max 1 x.stripe.length) 8 = n && (x.unacked.contains i || (x.valid.isNone && !x.written.contains i))
      let hitPage (x : VFrame) : Bool := x.stripe.contains n && !x.unacked.isEmpty
      let pixels := t.nat (Obj.VW_SOURCE v) = 0
      let lost := (t.view v).frames.filter fun x => if pixels then hit x else hitPage x
      let t1 := t.bump (Obj.VW_ABANDONED v) pages
      let t2 := if pixels then t1.bump (Obj.VW_DROPPED v) lost.length else t1
      let t3 := t2.mapView v fun w => ({ w with
        frames := w.frames.filter fun x => !lost.contains x
        recWaits := w.recWaits && (w.frames.head?.map fun x => !lost.contains x).getD false
        drops := if pixels then w.drops + lost.length + (lost.map (·.drops)).sum else w.drops } : View).settle
      let live := (t3.viewSet v).filter fun m => m ≠ n && (t3.viewLive v).contains m
      (if isOpen && live.isEmpty then t3.put (Obj.VW_STATE v) 4 else t3).closeIfDone v) s

/-- A lane comes up for the views (R301): a waiting view whose partner returns voids its credit and drops until it is
credited again; a record view opens again. -/
def State.viewsLaneUp (s : State) (n : Nat) : State :=
  (List.range 16).foldl (fun (t : State) v =>
    if t.nat (Obj.VW_STATE v) = 4 && (t.viewLive v).contains n then
      ((t.put (Obj.CREDIT_LIMIT v) (t.get (Obj.NEXT_PAGE v))).put (Obj.REC_CREDIT v) (t.get (Obj.REC_INDEX v))).put
        (Obj.VW_STATE v) (if t.nat (Obj.VW_SOURCE v) = 0 then 3 else 2)
    else t) s

/-- Acknowledged packets of a lane complete their lines (R295): a line none of whose packets is still unacknowledged. -/
def State.linesAcked (s : State) (n : Nat) (acked : List TxPacket) : State :=
  acked.foldl (fun (t : State) p =>
    match p.view with
    | none => t
    | some v =>
      if (t.laneRec n).unacked.any fun q => q.view = some v && q.frame = p.frame && q.line = p.line && p.line ≠ pageLine then t
      else if p.line = pageLine && (t.laneRec n).unacked.any (fun q => q.view = some v && q.addr / t.pageSize v = p.addr / t.pageSize v)
        then t
      else t.mapView v fun w => { w with frames := w.frames.map fun (x : VFrame) =>
        if p.line = pageLine then
          (if (x.first * t.pageSize v) % t.ringSize v = (p.addr - t.nat (Obj.VW_DATA_BASE v)) / t.pageSize v * t.pageSize v
           then { x with unacked := [] } else x)
        else if x.num = p.frame then { x with unacked := x.unacked.filter (· ≠ p.line), endDlt := t.now } else x }) s

end Sys2Proof.Machine
end

