-- ==== Sys2Proof/Machine/EngineSync.lean ====
section
/-! DEFINITION. Output and synchronisation of the engines (05_engine_instructions.md R181-R187). -/

namespace Sys2Proof.Machine

/-- The fields of EM (R153). -/
structure EM where
  vs   : Nat
  sc   : Nat
  kind : Nat
  dest : Nat
  w    : Bool
  msk  : Nat
deriving DecidableEq, Repr

/-- The fields of an EM word. -/
def EM.of (f : BitVec 26) : EM :=
  let n := f.toNat
  ⟨bits n 25 21, bits n 20 17, bits n 16 15, bits n 14 9, bit n 8, bits n 7 5⟩

/-- EMIT of one KIND: a word of another KIND is another command's. -/
def State.emit (s : State) (p : Nat) (f : BitVec 26) (kind : Nat) (legal : EM → Bool) (body : Engine → Run → EM → Eff) : State :=
  let q := EM.of f
  if q.kind = kind then s.instr p 0x38 f 1 false (bits f.toNat 4 0 = 0 && legal q) fun e x => body e x q else s

/-- The tag chunk of a pixel as the signature covers it. -/
def pxBytes (lane : Word) (tag : Nat) : List Byte := leBytes 4 lane.toNat ++ leBytes 1 tag

/-- EMIT KIND 0 (R181): active lanes give pixels of the item row at site SITE; columns outside 0 to 767 are dropped. -/
def execEmitLine (p : Fin 272) (f : BitVec 26) (s : State) : Out :=
  .next (s.emit p.val f 0 (fun _ => true) fun e x q =>
    if !x.kind.isItem then Eff.fail s 0x02
    else
      let v := e.vr q.vs
      let base := (e.sr q.sc).toInt
      let px := ((List.range (laneCount q.w)).filter fun (j : Nat) => e.active q.msk j && 0 ≤ base + (j : Int) && base + (j : Int) ≤ 767).map fun (j : Nat) =>
        ((base + j).toNat, BitVec.ofInt 32 (v.lane q.w j), v.tag j)
      (s.mapRun p.val fun y => px.foldl (fun (z : Run) c =>
        { z with emits := .px q.dest c.1 c.2.1 (BitVec.ofNat 4 c.2.2) (!q.w) :: z.emits }.sign 0 (q.dest * 1024 + c.1)
          (pxBytes c.2.1 c.2.2)) y, .next))

/-- EMIT KIND 1 (R182): one record of 64 bytes to view VIEW, under the emit slot's lease; in entry runs it commits at
issue. -/
def execEmitRecord (p : Fin 272) (f : BitVec 26) (s : State) : Out :=
  .next (s.emit p.val f 1 (fun q => !q.w && q.dest % 4 = 0) fun e x q =>
    let view := q.dest / 4
    let g := x.item.region
    let r := leaseNumber 2 view g
    let bytes := leBytes 64 (e.vr q.vs).lanes.toNat
    let ty := BitVec.ofNat 16 (e.sr q.sc).toNat
    if !x.kind.comparing && !s.holds p.val r then Eff.fail s 0x13
    else if x.kind.isItem then
      (s.mapRun p.val fun y => ({ y with emits := .record view bytes ty :: y.emits }.sign 4 view
        (bytes ++ leBytes 2 ty.toNat)).use r, .next)
    else ((s.mapRun p.val fun y => y.use r).emitRecord view g true x.item.frame bytes ty, .next))

/-- EMIT KIND 2 (R183): 64 bytes into the frame-state store of a region on a die joined by one seam link, under the lease of
the transmit slot of that link and direction; one block of SEAM (R263). -/
def execEmitRemote (p : Fin 272) (f : BitVec 26) (s : State) : Out :=
  .next (s.emit p.val f 2 (fun q => q.dest = 0) fun e x q =>
    let sc := (e.sr q.sc).toNat
    let region := bits sc 29 24
    let off := bits sc 21 0
    let own := dieOfEngine p.val
    let far := quadOfRegion region
    match seamBetween own far with
    | none => Eff.fail s 0x11
    | some l =>
      let slot := 2 * l + (if own < far then 0 else 1)
      let r := leaseNumber 3 slot 0
      let bytes := leBytes 64 (e.vr q.vs).lanes.toNat
      if off % 64 ≠ 0 then Eff.fail s 0x12
      else if !x.kind.comparing && !s.holds p.val r then Eff.fail s 0x13
      else if x.kind.isItem then
        (s.mapRun p.val fun y => ({ y with emits := .remote region off bytes slot :: y.emits }.sign 5 (sc % 2 ^ 30) bytes).use r,
          .next)
      else ((s.mapRun p.val fun y => y.use r).sendSeam ⟨slot, x.kind.cls, region, off, bytes⟩, .next))

/-! ## WAITS (R184) -/

/-- A WAITS completes: Sd, EVP, WREASON, the landing timestamp and TMO (R184). -/
def Engine.waited (e : Engine) (w : Wait) (cause : Nat) (land : Dlt) : Engine :=
  let hit := if cause = 0 then e.evp &&& w.mask else 0
  let e1 := { e.putS w.sd hit with
    wreason := BitVec.ofNat 32 cause
    land := land
    evp := if w.clear then e.evp &&& ~~~hit else e.evp
    evLand := if w.clear then e.evLand.filter fun b => !hit.getLsbD b.1 else e.evLand }
  if cause = 3 then e1.putFlag flTMO true else e1

/-- The landing timestamp of the stroke that left event `n` pending. -/
def Engine.landOf (e : Engine) (n : Nat) : Dlt := ((e.evLand.find? fun b => b.1 = n).map (·.2)).getD 0

/-- The landing timestamp of the pending events that end a WAITS as it issues: the latest among those waited for (log entry
23). -/
def Engine.eventLand (e : Engine) (mask : Word) : Dlt :=
  (e.evLand.filter fun b => mask.getLsbD b.1 && e.evp.getLsbD b.1).foldl (fun (d : Dlt) b => if Dlt.reached b.2 d then b.2 else d)
    (((e.evLand.find? fun b => mask.getLsbD b.1 && e.evp.getLsbD b.1).map (·.2)).getD 0)

/-- WAITS (R184): illegal in item runs; it completes at once on a pending event, else the engine waits. -/
def execWaits (p : Fin 272) (f : BitVec 26) (s : State) : Out :=
  let n := f.toNat
  .next (s.instr p.val 0x39 f 2 false (bits n 10 0 = 0) fun e x =>
    if x.kind.isItem then Eff.fail s 0x02
    else
      let w : Wait := ⟨e.sr (bits n 21 18), bit n 13, bit n 12, bit n 11, (e.sr (bits n 17 14)).toNat, bits n 25 22, s.clk.beats, none, none⟩
      if e.evp &&& w.mask ≠ 0 then (s.setEngine p.val (e.waited w 0 (e.eventLand w.mask)), .next)
      else (s.setEngine p.val { e with run := some { x with waiting := some w } }, .next))

/-- The cause may release the wait now (R184): event `n` is pending and waited for; a FRAME_START or a roll boundary has landed since the
wait began; the timeout in engine cycles has passed. -/
def State.waitOver (s : State) (p : Nat) (e : Engine) (x : Run) (w : Wait) (cause n : Nat) : Bool :=
  match cause with
  | 0 => (e.evp &&& w.mask).getLsbD n
  | 1 => (w.fs || x.kind = .frameEntry) && w.fsLand.isSome
  | 2 => w.rb && w.rbLand.isSome
  | _ => w.limit ≠ 0 && w.limit * 200 ≤ (s.clk.beats - w.beat) * s.fEng (dieOfEngine p)

/-- What LAND receives (R184): the landing timestamp of the releasing stroke or boundary, or the DLT at expiry. -/
def State.waitLand (s : State) (e : Engine) (w : Wait) (cause n : Nat) : Dlt :=
  match cause with
  | 0 => e.landOf n
  | 1 => w.fsLand.getD s.now
  | 2 => w.rbLand.getD s.now
  | _ => s.now

/-- WAITS_RELEASE (R184): for cause 0 the stroke that releases is that of event `event`. -/
def execWaitsRelease (p : Fin 272) (cause : Fin 4) (event : Fin 32) (s : State) : Out :=
  .next (
    let e := s.engine p.val
    match e.run with
    | none => s
    | some x =>
      match x.waiting with
      | none => s
      | some w =>
        if s.waitOver p.val e x w cause.val event.val then
          s.setEngine p.val { e.waited w cause.val (s.waitLand e w cause.val event.val) with
            run := some { x with waiting := none } }
        else s)

/-- ENG_EVENT (R184): bit n = ARG[4:0] of EVP is set in the engines of the targeted regions or dies, with the landing timestamp
of their die's engine domain (R55). -/
def execEngEvent (l : Landing) (s : State) : Out :=
  .next (s.land 0x30 l fun t =>
    let bitN := l.arg.toNat % 32
    let hit (p : Nat) : Bool :=
      if l.level = 4 then l.hits (dieOfEngine p)
      else match t.regionOfEngine p with
        | some g => l.hitsRegion g
        | none => false
    (List.range 272).foldl (fun (u : State) p =>
      if hit p then
        let e := u.engine p
        u.setEngine p { e with
          evp := e.evp ||| BitVec.ofNat 32 (2 ^ bitN)
          evLand := (bitN, BitVec.ofNat 64 (u.nat (Obj.LANDING_DLT (2 + dieOfEngine p)))) :: e.evLand.filter (fun b => b.1 ≠ bitN) }
      else u) t)

/-! ## LEASE and FREE (R185, R186) -/

/-- The resource that KIND and IDX name for engine `p` in region `g`; `none` for an illegal index (R185). -/
def leaseTarget (p g kind idx : Nat) : Option Nat :=
  let own := dieOfEngine p
  let d := seamDies (idx / 2)
  match kind with
  | 0 => if idx < 4 then some (leaseNumber 0 idx g) else none
  | 1 => if idx = 0 then some (leaseNumber 1 0 g) else none
  | 2 => some (leaseNumber 2 idx g)
  | _ => if idx < 8 ∧ own = (if idx % 2 = 0 then d.1 else d.2) then some (leaseNumber 3 idx g) else none

/-- The region whose resources a run leases: its item's, or the engine's own in entry runs (R185). -/
def State.leaseRegion (s : State) (p : Nat) (x : Run) : Nat :=
  if x.kind.isItem then x.item.region else (s.regionOfEngine p).getD x.item.region

/-- LEASE (R185): a held lease is renewed, a free resource is taken, else the request waits; a check run takes nothing
(R145). -/
def execLease (p : Fin 272) (f : BitVec 26) (s : State) : Out :=
  let n := f.toNat
  let expiry := bits n 7 0
  .next (s.instr p.val 0x3A f 2 false (bits n 19 16 = 0 && expiry ≠ 0) fun _ x =>
    match leaseTarget p.val (s.leaseRegion p.val x) (bits n 25 24) (bits n 23 20) with
    | none => Eff.fail s 0x01
    | some r =>
      let l := s.lease r
      let k := s.nat Obj.ROLL_COUNT
      if x.kind.comparing then (s, .next)
      else if l.holder = p.val then (s.setLease r { l with expiry := k + expiry, grant := k }, .next)
      else if l.holder = 0xFFFF && !l.rolling && l.waiting.isEmpty then
        (s.setLease r { l with holder := p.val, expiry := k + expiry, grant := k, bad := false }, .next)
      else
        ((s.setLease r { l with waiting := l.waiting ++ [(p.val, expiry)] }).mapRun p.val fun y =>
          { y with leasing := some (r, expiry, if x.kind.isItem then 0 else bits n 15 8, k) }, .next))

/-- LEASE_WAIT_GIVE_UP (R185): after WAIT rolls an entry run's request gives up, sets FL.LF and holds nothing. -/
def execLeaseWaitGiveUp (p : Fin 272) (s : State) : Out :=
  .next (
    let e := s.engine p.val
    match e.run with
    | none => s
    | some x =>
      match x.leasing with
      | none => s
      | some (r, _, wait, k) =>
        if wait = 0 || s.nat Obj.ROLL_COUNT < k + wait then s
        else
          let l := s.lease r
          (s.setLease r { l with waiting := l.waiting.filter fun q => q.1 ≠ p.val }).setEngine p.val
            ({ e with run := some { x with leasing := none } }.putFlag flLF true))

/-- FREE (R186): the resource is released; FREE of one that is not held sets FL.LF. -/
def execFree (p : Fin 272) (f : BitVec 26) (s : State) : Out :=
  let n := f.toNat
  .next (s.instr p.val 0x3B f 1 false (bits n 19 0 = 0) fun e x =>
    match leaseTarget p.val (s.leaseRegion p.val x) (bits n 25 24) (bits n 23 20) with
    | none => Eff.fail s 0x01
    | some r =>
      if x.kind.comparing then (s, .next)
      else if s.holds p.val r then (s.setLease r { s.lease r with holder := 0xFFFF, bad := false }, .next)
      else (s.setEngine p.val (e.putFlag flLF true), .next))

/-- BELL of an engine (R187): 0x0800 plus the code, at commit in item runs, at issue in entry runs. -/
def execEngineBell (p : Fin 272) (f : BitVec 26) (s : State) : Out :=
  let n := f.toNat
  .next (s.instr p.val 0x3C f 1 false (bits n 24 21 = 0 && bits n 16 8 = 0) fun e x =>
    let code := if bit n 25 then bits n 7 0 else (e.sr (bits n 20 17)).toNat % 256
    if x.kind.isItem then (s.mapRun p.val fun y => { y with bells := (0x0800 + code) :: y.bells }, .next)
    else (s.bell (0x0800 + code), .next))

end Sys2Proof.Machine
end

