-- ==== Sys2Proof/Machine/Std.lean ====
section
/-! DEFINITION. The standard correction program (06_correction_pipeline.md R192-R217): what an item run of the ROM program
computes, stage by stage, from the line store, the coefficient bank and the pages of its frame, with the accumulation of
calibration runs and the scene estimates (07_calibration.md R234, R243). -/

namespace Sys2Proof.Machine

/-! ## Pages (R193, R194) -/

/-- The parameter page of a frame, if it has been written. -/
def State.page? (s : State) (f : BitVec 32) : Option Page := s.pipe.pages.find? fun p => p.frame = f

/-- A parameter of region `g` in a page. -/
def Page.get (p : Page) (g k : Nat) : Int := Cells.get p.region (g * 2 ^ 64 + k) (Cells.get p.obj k (objDefault k))
/-- The same as a natural number. -/
def Page.nat (p : Page) (g k : Nat) : Nat := (p.get g k).toNat
/-- A little-endian number of `n` bytes of a BLOB in a page. -/
def Page.le (p : Page) (g k off n : Nat) : Nat :=
  leVal ((List.range n).map fun i => BitVec.ofNat 8 (p.nat g (k + off + i)))

/-- Stage `i`, from 1 to 10, is enabled in region `g` (R192). -/
def Page.stage (p : Page) (g i : Nat) : Bool := (p.nat g Obj.STAGE_ENABLE).testBit (i - 1)

/-- The temperature page of frame `f` in region `g` (R193). -/
def tempPage (g : Nat) (f : BitVec 32) : Nat := fstBase g + 0x300000 + 8192 * (f.toNat % 2)

/-- Bytes of the frame-state store as an item of the program reads them: an uncorrectable word reads as zero (R138). -/
def State.fle (s : State) (a n : Nat) : Nat := if s.eccBad.contains (a - a % 4) then 0 else s.le a n

/-- A signed word of the frame-state store. -/
def State.i32 (s : State) (a : Nat) : Int := signedOf 32 (s.fle a 4)

/-- `s` read as one of the 20-bit values v1 to v7 (R192). -/
def sat20 (x : Int) : Int := clampInt x (-524288) 524287

/-! ## Stages 1 to 4 (R197-R200) -/

/-- REFC of the CU of pixel `(x, y)`, 0 with REF_MODE 0 (R197). -/
def State.refcOf (s : State) (p : Page) (g x y : Nat) : Int :=
  if p.nat g Obj.REF_MODE = 0 then 0 else s.i32 (tempPage g p.frame + 0xC00 + 4 * (24 * (y / 32) + x / 32))

/-- T_cu of a CU given by its region column and row, from −1 to 24 and −1 to 20; a CU outside the array takes the value of
the one opposite it across the pixel (R199). -/
def State.tCu (s : State) (g : Nat) (f : BitVec 32) (c r : Int) : Int :=
  let c' := clampInt (24 * (g % 8 : Nat) + c) 0 191 - 24 * (g % 8 : Nat)
  let r' := clampInt (20 * (g / 8 : Nat) + r) 0 159 - 20 * (g / 8 : Nat)
  let a := tempPage g f
  let k := ((r'.fdiv 4 + 1) * 8 + (c'.fdiv 4 + 1)).toNat
  4 * ((s.fle (a + 0x40 + 4 * k) 4 : Int) + 173150) +
    (s.i32 (a + 0x240 + 4 * ((r' + 1) * 26 + c' + 1).toNat) - s.i32 (a + 0x140 + 4 * k))

/-- The bilinear form of R199 for four corner values and the weights `rx` and `ry` of 64. -/
def bilinear64 (t00 t10 t01 t11 rx ry : Int) : Int :=
  roundDiv (t00 * (64 - rx) * (64 - ry) + t10 * rx * (64 - ry) + t01 * (64 - rx) * ry + t11 * rx * ry) 4096

/-- T_pix in units of 0.25 mK (R199). -/
def State.tPix (s : State) (g : Nat) (f : BitVec 32) (x y : Nat) : Int :=
  let ex : Int := 2 * (x : Int) - 30
  let ey : Int := 2 * (y : Int) - 30
  let c := ex.fdiv 64
  let r := ey.fdiv 64
  bilinear64 (s.tCu g f c r) (s.tCu g f (c + 1) r) (s.tCu g f c (r + 1)) (s.tCu g f (c + 1) (r + 1)) (ex - 64 * c) (ey - 64 * r)

/-- ΔT in units of 1/256 K (R199). -/
def deltaT (tPix tRef : Int) : Int := clampInt (roundDiv ((tPix - 4 * tRef) * 64) 1000) (-32767) 32767

/-- D of R200. -/
def driftOffset (rcd : Nat) (dT : Int) : Int := roundDiv (recDo1 rcd * dT) 64 + roundDiv (recDo2 rcd * dT * dT) (2 ^ 20)

/-- The drift gain applied to a value (R200, R202). -/
def driftGain (rcd : Nat) (dT v : Int) : Int := roundDiv (v * (2 ^ 24 + recDg1 rcd * dT)) (2 ^ 24)

/-! ## Stage 6 (R203) -/

/-- A node of a shading grid. -/
def State.gridNode (s : State) (slot i j : Nat) : Int := s.le (tableBase + 0x4000 + 8192 * slot + 2 * (64 * j + i)) 2

/-- S at array pixel `(x, y)` (R203). -/
def State.shading (s : State) (slot x y : Nat) : Int :=
  let ex := 2 * x - 94
  let i := min (ex / 192) 62
  let rx := min (ex - 192 * i) 192
  let ey := 2 * y - 78
  let j := min (ey / 160) 62
  let ry := min (ey - 160 * j) 160
  roundDiv (s.gridNode slot i j * (192 - rx : Nat) * (160 - ry : Nat) + s.gridNode slot (i + 1) j * rx * (160 - ry : Nat) +
    s.gridNode slot i (j + 1) * (192 - rx : Nat) * ry + s.gridNode slot (i + 1) (j + 1) * rx * ry) 30720

/-! ## Stage 7 (R205) -/

/-- α of R205, rounded down, for a distance `d256` of `256·d`. -/
def filterAlpha (alpha lo shift d256 : Nat) : Nat :=
  alpha + (32768 - alpha) * min (d256 - 256 * lo) (256 * 2 ^ shift) / (256 * 2 ^ shift)

/-- s′ of R205. -/
def filterState (st x : Int) (alpha : Nat) : Int := st + roundDiv (alpha * (256 * x - st)) 32768

/-! ## Tables (R208, R216) -/

/-- Interpolation in a table of 4,096 entries of 16 bits by an index of 16 bits (R173). -/
def State.interp (s : State) (base : Nat) (uns : Bool) (k : Nat) : Int :=
  let e (i : Nat) : Int := if uns then s.le (base + 2 * i) 2 else signedOf 16 (s.le (base + 2 * i) 2)
  if 4095 ≤ k / 16 then e 4095 else e (k / 16) + roundDiv ((e (k / 16 + 1) - e (k / 16)) * (k % 16 : Nat)) 16

/-- RAD_S2L at a signed index (R208). -/
def State.radS2L (s : State) (i : Int) : Int := s.interp (tableBase + 0xC000) false (i + 32768).toNat
/-- RAD_L2T at a signed index (R208). -/
def State.radL2T (s : State) (i : Int) : Int := s.interp (tableBase + 0xE000) true (i + 32768).toNat

/-- `sat16`. -/
def sat16 (x : Int) : Int := clampInt x (-32768) 32767
/-- Clamp to 16 bits unsigned. -/
def satU16 (x : Int) : Nat := (clampInt x 0 65535).toNat

/-- C16 of a value through the chain of R208 for A and B in force. -/
def State.c16Of (s : State) (v7 a b : Int) : Nat :=
  let l := s.radS2L (sat16 (roundDiv v7 16))
  satU16 (s.radL2T (sat16 (roundDiv ((l - b) * a) (2 ^ 14))))

/-! ## A pixel (R192-R207) -/

/-- A present pixel after stage 7: the values of the table in R192, its tags before and after stage 5, the new filter
state, and whether its class is substituted. -/
structure StdPix where
  tag0 : Nat
  tag  : Nat
  v    : Int
  v3   : Int
  v4   : Int
  v5   : Int
  v6   : Int
  v7   : Int
  st   : Option Int
  bad  : Bool
  counted : Bool
  est  : Option Int
deriving DecidableEq, Repr

/-- The estimate of scene refinement of a pixel after a moving frame (R243), `none` for a pixel that is not eligible: the
neighbours above, left, right and below in the pixel's own CU. -/
def State.sceneEstimate (s : State) (run : Run) (fr : Frame) (p : Page) (x : Nat) : Option Int :=
  let g := run.item.region
  let y := run.item.row
  let rcd := s.record (s.bankFor g run.item.frame false) x y
  let w := s.lineWord g run.item.frame y x
  let near := ([(0, -1), (-1, 0), (1, 0), (0, 1)] : List (Int × Int)).filter fun d =>
    ((x : Int) + d.1).fdiv 32 = (x / 32 : Nat) && (match fr.neighbour g y d.2 with
      | some r => decide (r.fdiv 32 = (y / 32 : Nat))
      | none => false)
  let us := near.filterMap (s.nbrValue run fr false x)
  if (lineTag w).testBit 0 || (p.nat g Obj.DEF_MASK).testBit (recDef rcd) || us.length < 2 then none
  else
    let u := roundDown ((lineValue w - recOfs rcd - recUof rcd) * recGn rcd) 14
    let r := u - roundAway ((us.map (·.1)).sum) us.length
    let e := signedOf 16 (s.fle (fstBase g + 0x1E0000 + 2 * (768 * y + x)) 2)
    some (clampInt (e + roundDown (8 * r - e) (p.nat g Obj.SCENE_SHIFT)) (-32768) 32767)

/-- A calibration run counts the frame: the items accumulate (R234). Kind 6 marks a frame between or after counted ones in
which stage 7 is only off. -/
def Frame.counted (fr : Frame) : Bool := fr.calKind ≠ 0 && fr.calKind ≠ 6

/-- v1 of a line-store value of pixel `(x, y)` (R192, R197). -/
def State.stdV1 (s : State) (p : Page) (g x y : Nat) (v : Int) : Int := if p.stage g 1 then sat20 (v - s.refcOf p g x y) else v

/-- v3 of a pixel with record `rcd` from its v1 (R192, R197). -/
def Page.stdV3 (p : Page) (g rcd : Nat) (v1 : Int) : Int :=
  let v2 := if p.stage g 2 then sat20 (v1 - recOfs rcd - recUof rcd) else v1
  if p.stage g 3 then sat20 (roundDiv (v2 * recGn rcd) (2 ^ 14)) else v2

/-- THE STAGES 1 TO 7 for column `x` of the run's row, `none` for a pixel that is not present. -/
def State.stdPixel (s : State) (run : Run) (fr : Frame) (p : Page) (x : Nat) : Option StdPix :=
  let g := run.item.region
  let y := run.item.row
  let w := s.lineWord g run.item.frame y x
  if !linePresent w then none
  else
    let rcd := s.record (s.bankFor g run.item.frame false) x y
    let refc := s.refcOf p g x y
    let dT := deltaT (s.tPix g p.frame x y) (p.get g Obj.T_REF)
    let d := driftOffset rcd dT
    let v := lineValue w
    let v1 := s.stdV1 p g x y v
    let v3 := p.stdV3 g rcd v1
    let v4 := if p.stage g 4 then sat20 (driftGain rcd dT (v3 - d)) else v3
    let bad := (p.nat g Obj.DEF_MASK).testBit (recDef rcd)
    let tag0 := lineTag w
    let sel := if p.nat g Obj.SUB_SIZE = 0 then nbrSelected nbr3 (recSub rcd)
      else if recSub rcd = 0 then [] else nbrSelected nbr5 (Config.subTable (recSub rcd)).toNat
    let (v5, tag) := if p.stage g 5 && bad then
        match s.substitute run fr false x sel with
        | some (c, t) => (sat20 (driftGain rcd dT (c - roundDiv (refc * recGn rcd) (2 ^ 14) - d)), t)
        | none => (v4, tag0 ||| tagSET)
      else (v4, tag0)
    let ax := 768 * (g % 8) + x
    let ay := 640 * (g / 8) + y
    let v6 := if p.stage g 6 then sat20 (roundDiv (v5 * s.shading (p.nat g Obj.SHADE_SLOT) ax ay) (2 ^ 14)) else v5
    let st := s.i32 (fstBase g + 4 * (768 * y + x))
    let restart := tag &&& (tagSET ||| tagOVR) ≠ 0 || p.reset.getLsbD g || p.gimbal.getLsbD g
    let alpha := if restart then 32768
      else filterAlpha (p.nat g Obj.TF_ALPHA) (p.nat g Obj.TF_GATE_LO) (p.nat g Obj.TF_GATE_SHIFT) (256 * v6 - st).natAbs
    let st' := if restart then 256 * v6 else filterState st v6 alpha
    let on := p.stage g 7 && fr.calKind = 0
    let counted := fr.counted && !tag0.testBit 0
    let quantity := match fr.calKind with
      | 3 => v4
      | 4 => roundDiv ((v1 - recOfs rcd) * recGn rcd) (2 ^ 14)
      | _ => v1
    let sum := (if fr.calFirst then 0 else st) + (if counted then quantity else 0)
    some { tag0 := tag0, tag := tag, v := v, v3 := v3, v4 := v4, v5 := v5, v6 := v6
           v7 := if on then sat20 (roundDiv st' 256) else v6
           st := if fr.counted then some sum else if on then some st' else none
           bad := bad
           counted := counted
           est := if p.scene.getLsbD g && fr.calKind = 0 then s.sceneEstimate run fr p x else none }

/-! ## Stages 8 and 10 (R208, R216) -/

/-- C16 of a pixel for context `c` (R208). With stage 8 off v7 passes through unchanged (R192). Free values stand where the
manual gives none: an overloaded pixel of value 0, and a v7 outside the 16 bits of the lane with stage 8 off (log entry 10). -/
def State.stdC16 (s : State) (p : Page) (g y c x : Nat) (q : StdPix) : Nat :=
  if !p.stage g 8 then (if 0 ≤ q.v7 ∧ q.v7 ≤ 65535 then q.v7.toNat else (Config.narrowLane q.v7).toNat)
  else if q.tag.testBit 0 then (if 0 < q.v7 then 0xFFFF else if q.v7 < 0 then 0 else (Config.ovrZero p.frame g y x c).toNat)
  else s.c16Of q.v7 (p.get g (Obj.RAD_A c)) (p.get g (Obj.RAD_B c))

/-- R, G and B of a palette (R216). -/
def State.palette (s : State) (pal y16 : Nat) : List Int :=
  if pal = 0 then [y16, y16, y16]
  else (List.range 3).map fun i => s.interp (tableBase + 0x10000 + 24576 * (pal - 1) + 8192 * i) true y16

/-- The matrix, offset and gain of R216 for channel `i`. -/
def Page.channel (p : Page) (g c : Nat) (rgb : List Int) (i : Nat) : Int :=
  let m (j : Nat) : Int := signedOf 16 (p.le g (Obj.MATRIX c) (2 * (3 * i + j)) 2)
  let sum := ((List.range 3).map fun j => m j * rgb.getD j 0).sum
  let c' := clampInt (roundDiv sum 4096 + signedOf 16 (p.le g (Obj.OFFSETS c) (2 * i) 2)) 0 65535
  clampInt (roundDiv (c' * p.le g (Obj.BALANCE c) (2 * i) 2) (2 ^ 14)) 0 65535

/-- K of R216 in Q0.15. -/
def lumaK (prim : Nat) : List Int := if prim = 0 then [6966, 23436, 2366] else [8608, 22217, 1943]

/-- The display channels C″ and Y16′ of a pixel of temperature `c16` (R216); with stage 10 off each of them is C16. -/
def State.stdDisplay (s : State) (p : Page) (g c c16 : Nat) : List Int × Int :=
  if !p.stage g 10 then ([c16, c16, c16], c16)
  else
    let idx := satU16 ((((c16 : Int) - p.get g Obj.HIST_BASE) * 16).fdiv (2 ^ p.nat g Obj.HIST_SHIFT))
    let y16 := satU16 (s.interp (tableBase + 8192 * (p.frame.toNat % 2)) true idx)
    let rgb := (List.range 3).map (p.channel g c (s.palette (p.nat g (Obj.PALETTE c)) y16))
    (rgb, roundDiv (((List.range 3).map fun i => (lumaK (p.nat g (Obj.PRIMARIES c))).getD i 0 * rgb.getD i 0).sum) 32768)

/-- RGB30 (R216). -/
def rgb30 (rgb : List Int) : Nat :=
  let q (i : Nat) : Nat := (clampInt (roundDiv (rgb.getD i 0) 64) 0 1023).toNat
  q 0 * 2 ^ 20 + q 1 * 2 ^ 10 + q 2

/-! ## Stage 9 (R209-R212) -/

/-- Array pixel `(x, y)` lies in a window. -/
def Win.has (w : Win) (x y : Nat) : Bool := w.x ≤ x && x < w.x + w.w && w.y ≤ y && y < w.y + w.h

/-- The window has pixels in region `g`'s columns on image row `y`. -/
def Win.onRow (w : Win) (g y : Nat) : Bool :=
  w.y ≤ y && y < w.y + w.h && w.x < 768 * (g % 8 + 1) && 768 * (g % 8) < w.x + w.w

/-- The row record of R209. -/
def rowRecord (f : BitVec 32) (vals : List Nat) (acq : Option (Nat × Nat)) (trk foc ovr : Nat) : List Word :=
  let o (n : Nat) : Word := BitVec.ofNat 32 n
  let mx := vals.foldl max 0
  let mn := match vals with
    | [] => 0
    | v :: r => r.foldl min v
  [f, o vals.length, o vals.sum, o (vals.sum / 2 ^ 32), o (mx * 65536 + mn),
   o (match acq with | some (c, v) => c * 65536 + v | none => 0xFFFF0000), o trk, o foc, o ovr] ++ List.replicate 7 0

/-- The moments of a target over a row: region columns and C16 of its counting pixels (R211), in the layout of R180. -/
def trackPartial (thresh : Nat) (px : List (Nat × Nat)) : Moment :=
  (px.filter fun e => thresh ≤ e.2).foldl (fun (m : Moment) e => m.add e.1 (e.2 - thresh)) {}

/-- A target's partial, 32 bytes. -/
def Moment.bytes (m : Moment) : List Byte :=
  leBytes 4 m.n ++ leBytes 4 m.sw ++ leBytes 8 m.swx ++ leBytes 4 m.peak.toNat ++ List.replicate 12 0

/-- v3 of the pixel beside the row's last one, in the region to the right: its line-store word is the halo word of column 768,
its record and REFC are its own region's; `none` where it may not enter a pair (R212). -/
def State.edgeV3 (s : State) (run : Run) (p : Page) : Option Int :=
  let g := run.item.region
  let y := run.item.row
  let w := s.lineWord g run.item.frame y 768
  if g % 8 = 7 || !linePresent w || lineTag w &&& (tagOVR ||| tagSET) ≠ 0 then none
  else
    let rcd := s.record (s.bankFor (g + 1) run.item.frame false) 0 y
    if (p.nat (g + 1) Obj.DEF_MASK).testBit (recDef rcd) then none
    else some (p.stdV3 (g + 1) rcd (s.stdV1 p (g + 1) 0 y (lineValue w)))

/-- A focus window's partial over a row (R212), 16 bytes: the sum of squares, P and the overload mark. A pair belongs to the row
of its left pixel; `edge` is v3 of the pixel right of the region (log entry 10). -/
def focusPartial (w : Win) (g y : Nat) (px : Nat → Option StdPix) (edge : Option Int) : List Byte :=
  let base := 768 * (g % 8)
  let usable (x : Nat) : Option Int :=
    if !w.has (base + x) y then none
    else if x = 768 then edge
    else (px x).bind fun q => if q.bad || q.tag0 &&& (tagOVR ||| tagSET) ≠ 0 then none else some q.v3
  let ds := (List.range 768).filterMap fun x =>
    match usable x, usable (x + 1) with
    | some a, some b => some ((b - a).natAbs * (b - a).natAbs)
    | _, _ => none
  let ovr := (List.range 768).any fun x => w.has (base + x) y && ((px x).map fun q => q.tag0.testBit 0).getD false
  leBytes 8 ds.sum ++ leBytes 4 ds.length ++ leBytes 4 (if ovr then 1 else 0)

/-! ## The item run (R192, R209, R217) -/

/-- The contexts that the program evaluates (R194). -/
def Page.contexts (p : Page) (g : Nat) : List Nat :=
  (List.range 8).filter fun c => p.nat g Obj.STAT_CTX = c || [8, 16, 24, 32].any fun k => p.sites.getLsbD (k + c)

/-- Put bytes into the write buffer and under the signature. -/
def Run.store (x : Run) (off : Nat) (bs : List Byte) : Run :=
  { x with writes := writeBuffer x.writes off bs }.sign 1 off bs

/-- Emit pixels of a site: column, lane and tag. -/
def Run.emitPx (x : Run) (site : Nat) (half : Bool) (px : List (Nat × Int × Nat)) : Run :=
  px.foldl (fun (z : Run) e =>
    { z with emits := .px site e.1 (BitVec.ofInt 32 e.2.1) (BitVec.ofNat 4 e.2.2) half :: z.emits }.sign 0 (site * 1024 + e.1)
      (leBytes 4 (wrapNat 32 e.2.1) ++ leBytes 1 e.2.2)) x

/-- WHAT AN ITEM RUN OF THE STANDARD PROGRAM LEAVES in its write and emit buffers, and the histogram bins it counts. -/
def State.stdRun (s : State) (run : Run) (fr : Frame) (p : Page) : Run × List Nat :=
  let g := run.item.region
  let y := run.item.row
  let ay := 640 * (g / 8) + y
  let base := 768 * (g % 8)
  let cols := List.range 768
  let px := cols.map (s.stdPixel run fr p)
  let at' (x : Nat) : Option StdPix := (px[x]?).join
  let present := cols.filterMap fun x => (at' x).map fun q => (x, q)
  let clear := if fr.calFirst then (cols.filter fun x => (at' x).isNone).foldl (fun (z : Run) x =>
      z.store (4 * (768 * y + x)) (leBytes 4 0)) run else run
  let r0 := present.foldl (fun (z : Run) e => match e.2.st with
    | some v => z.store (4 * (768 * y + e.1)) (leBytes 4 (wrapNat 32 v))
    | none => z) clear
  let count (x : Nat) : Nat := if fr.calFirst then 0 else s.fle (fstBase g + 0x1E0000 + 2 * (768 * y + x)) 2
  let r1 := if fr.counted then
      cols.foldl (fun (z : Run) x => z.store (0x1E0000 + 2 * (768 * y + x))
        (leBytes 2 (count x + (if ((at' x).map (·.counted)).getD false then 1 else 0)))) r0
    else present.foldl (fun (z : Run) e => match e.2.est with
      | some v => z.store (0x1E0000 + 2 * (768 * y + e.1)) (leBytes 2 (wrapNat 16 v))
      | none => z) r0
  let ctx := p.nat g Obj.STAT_CTX
  let c16 (c : Nat) : List (Nat × StdPix × Nat) := present.map fun e => (e.1, e.2, s.stdC16 p g y c e.1 e.2)
  let stat := c16 ctx
  let good := (stat.filter fun e => !e.2.1.tag.testBit 0).map fun e => (e.1, e.2.2)
  let targets := p.targets.filter fun t => t.2.onRow g ay
  let focus := p.focus.filter fun t => t.2.onRow g ay
  let outside := good.filter fun e => !(p.targets.any fun t => t.2.has (base + e.1) ay)
  let hot := outside.foldl (fun (b : Option (Nat × Nat)) e => match b with
    | none => some e
    | some o => if o.2 < e.2 then some e else some o) none
  let bins := good.map fun e =>
    (clampInt (((e.2 : Int) - p.get g Obj.HIST_BASE).fdiv (2 ^ p.nat g Obj.HIST_SHIFT)) 0 4095).toNat
  let r2 := if !p.stage g 9 then r1
    else
      let a := targets.foldl (fun (z : Run) t =>
        z.store (0x320000 + 32 * (640 * t.1 + y)) (trackPartial (p.nat g (Obj.TRK_THRESH t.1))
          (good.filter fun e => t.2.has (base + e.1) ay)).bytes) r1
      let b := focus.foldl (fun (z : Run) t => z.store (0x3C0000 + 16 * (640 * t.1 + y)) (focusPartial t.2 g ay at' (s.edgeV3 run p))) a
      b.store (0x310000 + 64 * y) (wordsBytes (rowRecord run.item.frame (good.map (·.2)) hot
        ((targets.map fun t => 2 ^ t.1).sum) ((focus.map fun t => 2 ^ t.1).sum) (stat.length - good.length)))
  let site (k : Nat) : Bool := p.sites.getLsbD k
  let plain (z : Run) (k : Nat) (f : StdPix → Int × Nat) : Run :=
    if site k then z.emitPx k false (present.map fun e => (e.1, (f e.2).1, (f e.2).2)) else z
  let r3 := plain (plain (plain (plain (plain (plain r2 0 fun q => (q.v, q.tag0)) 1 fun q => (q.v3, q.tag0)) 2
    fun q => (q.v4, q.tag0)) 3 fun q => (q.v5, q.tag)) 4 fun q => (q.v6, q.tag)) 5 fun q => (q.v7, q.tag)
  let r4 := (p.contexts g).foldl (fun (z : Run) c =>
    let cs := c16 c
    let z1 := if site (8 + c) then z.emitPx (8 + c) true (cs.map fun e => (e.1, (e.2.2 : Int), e.2.1.tag)) else z
    let disp := if site (16 + c) || site (24 + c) || site (32 + c) then cs.map fun e => (e, s.stdDisplay p g c e.2.2) else []
    let z2 := if site (16 + c) then z1.emitPx (16 + c) false (disp.map fun e => (e.1.1, (rgb30 e.2.1 : Int), e.1.2.1.tag)) else z1
    let z3 := if site (24 + c) then
        z2.emitPx (24 + c) true (disp.map fun e => (e.1.1, clampInt (roundDiv e.2.2 64) 0 1023, e.1.2.1.tag)) else z2
    if site (32 + c) then
      z3.emitPx (32 + c) true (disp.map fun e => (e.1.1, clampInt (roundDiv e.2.2 256) 0 255, e.1.2.1.tag)) else z3) r3
  let bank := run.item.frame.toNat % 2
  if p.stage g 9 then
    ({ bins.foldl (fun (z : Run) b => z.sign 3 (65536 * bank + b) (leBytes 2 1)) r4 with
       hists := if r4.hists.contains bank then r4.hists else bank :: r4.hists, ended := true }, bins)
  else ({ r4 with ended := true }, [])

/-- THE ISSUE CYCLES of an item (R224, R234, R245): the parts of the table that its parameters let run, 288 for each evaluated
context, 144, 48 and 1,010 for its Y10, Y8 and RGB30, 24 for each emit site, 330 for refinement (log entry 10). -/
def Page.itemCycles (p : Page) (g : Nat) (counted : Bool) : Nat :=
  let on (i n : Nat) : Nat := if p.stage g i then n else 0
  let cs := p.contexts g
  let sites (k n : Nat) : Nat := n * (cs.filter fun c => p.sites.getLsbD (k + c)).length
  120 + 72 + 168 + on 1 96 + on 2 96 + on 3 96 + on 4 480 + on 5 224 + on 6 192 + (if p.stage g 7 || counted then 384 else 0) + on 8 (288 * cs.length) + on 9 202 +
  on 10 (sites 24 144 + sites 32 48 + sites 16 1010) + 24 * ((List.range 40).filter p.sites.getLsbD).length +
  (if p.scene.getLsbD g then 330 else 0)

/-- THE WORDS THAT THE ITEM READS (R193, R195): line-store rows and records of the rows that it needs, its row of the filter
state and of the working area, its temperature page, and the table area. -/
def State.stdReads (s : State) (run : Run) (fr : Frame) (a : Nat) : Bool :=
  let g := run.item.region
  let y := run.item.row
  let rows := fr.itemRows g y fr.rho
  let bank := s.bankFor g fr.num false
  let within (base n : Nat) : Bool := base ≤ a && a < base + n
  rows.any (fun r => match s.rowBuf g fr.num r with
    | some b => within (lineBase g + 4096 * b) 3088
    | none => false) ||
  rows.any (fun r => 0 ≤ r && r < 640 && within (bankAddr bank (16 * 768 * r.toNat)) (16 * 768)) ||
  within (fstBase g + 4 * 768 * y) 3072 || within (fstBase g + 0x1E0000 + 2 * 768 * y) 1536 || within (tempPage g fr.num) 7552 ||
  within tableBase 0x20000

/-- Upsets that an item of the program meets among the words that it reads (R138): those of the table area are repaired. -/
def State.stdUpsets (s : State) (run : Run) (upset : List Nat) : State :=
  match s.frame? run.item.frame with
  | none => s
  | some fr =>
    let reads := (upset.map (· / 2)).filter (s.stdReads run fr)
    let table (a : Nat) : Bool := tableBase ≤ a && a < tableBase + 0x20000
    (s.findUpsets (reads.filter fun a => !table a) upset).repairWords (reads.filter table) upset

/-- The item's bins of the histogram bank of its frame are counted (R209); an uncorrectable word makes the bank invalid for the
frame (R138). -/
def State.stdBins (s : State) (g : Nat) (f : BitVec 32) (bins upset : List Nat) : State :=
  let addr (b : Nat) : Nat := histBase g + 16384 * (f.toNat % 2) + 4 * b
  let reads := bins.map addr
  let s1 := s.findUpsets reads upset
  let s2 := if reads.any s1.eccBad.contains then s1.setRegion g ((s1.region g).badHist f (f.toNat % 2)) else s1
  bins.foldl (fun (t : State) b => t.addBin (addr b) 1) s2

/-- THE ITEM RUN OF THE ROM PROGRAM ends on engine `p` (R191, R192, R209): its stores, emits and signature stand in the run,
and unless it only compares, its histogram updates have gone to bank FRAME_COUNT mod 2. Nothing happens while the pages of its
frame have not been written (R194). -/
def State.stdItem (s : State) (p : Nat) (x : Run) (upset : List Nat) : State :=
  match s.frame? x.item.frame, s.page? x.item.frame with
  | some fr, some pg =>
    let r := s.stdRun x fr pg
    if x.kind.comparing then s.mapRun p fun _ => r.1
    else (s.stdBins x.item.region fr.num (r.2) upset).mapRun p fun _ => r.1
  | _, _ => s

end Sys2Proof.Machine
end

