-- ==== Sys2Proof/Machine/Pipe.lean ====
section
/-! DEFINITION. What the part does around the correction program (06_correction_pipeline.md): commits, swaps and contexts
(R218-R222), the ROM image (R191), the shading slots (R204), the gimbal (R207), the pages written at the gate (R194, R198),
the collectors, tracking and focus results (R210-R213) and the tone curve (R215). -/

namespace Sys2Proof.Machine

/-! ## COMMIT_SHADOW (R218, R219) -/

/-- The regions that a COMMIT_SHADOW targets (R219). -/
def commitRegions (l : Landing) : List Nat :=
  if l.level = 5 then (if l.hits 0 then List.range 64 else [])
  else if l.level = 4 && l.hits 4 then List.range 64
  else if l.level = 4 || l.level = 3 then l.regions else []

/-- A set of regions as a mask. -/
def regionMask (gs : List Nat) : BitVec 64 := BitVec.ofNat 64 ((gs.map fun g => 2 ^ g).sum)

/-- The quadrant of BIAS_SEL_Qk, RANGE_SEL_Qk and F_ENG_Qk, `none` for an object of another kind. -/
def quadObject (k : Nat) : Option Nat :=
  let i := k / 2 ^ 40
  let sub := k / 2 ^ 32 % 256
  if i = 0x3020 ∧ 1 ≤ sub ∧ sub ≤ 8 then some ((sub - 1) % 4)
  else if i = 0x4030 ∧ 1 ≤ sub ∧ sub ≤ 4 then some (sub - 1) else none

/-- The shadow group of the object of a key (R69, R139, R218). -/
def shadowGroup (k : Nat) : Nat := ((objRow? (k / 2 ^ 40) (k / 2 ^ 32 % 256)).map (·.group)).getD 4

/-- The scope in which a staged value is captured by a stroke, or `none` when the stroke does not cover it (R219). -/
def captureScope (l : Landing) (k : Nat) : Option Scope :=
  let gs := commitRegions l
  match shadowGroup k with
  | 0 | 1 =>
    match quadObject k with
    | some q => if gs.any fun g => quadOfRegion g = q then some (.quad q) else none
    | none => if l.level = 5 && !gs.isEmpty then some .package else none
  | _ => if gs.isEmpty then none else some (.regions (regionMask gs))

/-- The values that a stroke captures, with the groups of its argument (R219). -/
def State.captures (s : State) (l : Landing) : List Capture :=
  s.shadow.staged.filterMap fun (e : Nat × Int) =>
    if shadowGroup e.1 < 4 && l.arg.toNat.testBit (shadowGroup e.1) then (captureScope l e.1).map fun sc => ⟨e.1, e.2, sc⟩
    else none

/-- The value that a key will have in region `g` once a list of captures is in force. -/
def afterCaptures (cs : List Capture) (g k : Nat) (now : Int) : Int :=
  cs.foldl (fun v c => if c.key ≠ k then v else match c.scope with
    | .regions m => if m.getLsbD g then c.val else v
    | _ => c.val) now

/-- SUB_SIZE 1 needs NBR_RADIUS 2 (R202): the commit is refused otherwise. -/
def State.commitOk (s : State) (cs : List Capture) : Bool :=
  let all := s.shadow.captured ++ cs
  afterCaptures all 0 Obj.NBR_RADIUS (s.get Obj.NBR_RADIUS) = 2 ||
  (List.range 64).all fun g => afterCaptures all g Obj.SUB_SIZE (s.getR g Obj.SUB_SIZE) ≠ 1

/-- The package's parameter serial increments and each targeted region records it (R218). -/
def State.newSerial (s : State) (gs : List Nat) : State :=
  let n := (s.nat Obj.PARAM_SERIAL + 1) % 2 ^ 32
  gs.foldl (fun (t : State) g =>
    (t.setRegion g { t.region g with serial := BitVec.ofNat 32 n }).putLe Obj.REGION_SERIALS (4 * g) 4 n)
    (s.put Obj.PARAM_SERIAL n)

/-- COMMIT_SHADOW (R219): the staged values are taken now and come into force at the next FRAME_START landing. -/
def execCommitShadow (l : Landing) (s : State) : Out :=
  .next (s.land 0x10 l fun t =>
    let cs := t.captures l
    if !t.commitOk cs then t
    else
      let t1 := { t with shadow := { t.shadow with
        captured := t.shadow.captured ++ cs
        converterCommits := t.shadow.converterCommits + (if l.arg.getLsbD 0 then 1 else 0) } }
      if l.arg.getLsbD 2 || l.arg.getLsbD 3 then t1.newSerial (commitRegions l) else t1)

/-- A captured value comes into force (R219). A captured frequency waits for its PLL and its voltage (R139, R140). -/
def State.inForce (s : State) (c : Capture) : State :=
  match c.scope with
  | .regions m => { s with shadow := { s.shadow with region := (List.range 64).foldl (fun (r : Store) g =>
      if m.getLsbD g then Cells.set r (g * 2 ^ 64 + c.key) c.val (s.get c.key) else r) s.shadow.region } }
  | .quad q =>
    if shadowGroup c.key = 1 then
      { s with fab := { s.fab with engSwitch := s.fab.engSwitch.setIfInBounds q (some (c.val.toNat, false)) } }
    else s.put c.key c.val
  | .package => s.put c.key c.val

/-- Everything captured comes into force at a FRAME_START landing, in the order of the commits (R219). -/
def State.applyCaptures (s : State) : State :=
  { s.shadow.captured.foldl State.inForce s with shadow :=
      { (s.shadow.captured.foldl State.inForce s).shadow with captured := [] } }

/-! ## SWAP_BANK and SWAP_PROG (R130, R221) -/

/-- The regions with a property, as a mask. -/
def State.regionsWith (s : State) (p : Region → Bool) : Nat :=
  (((List.range 64).filter fun g => p (s.region g)).map fun g => 2 ^ g).sum

/-- The two SWAP_PENDING objects follow the regions. -/
def State.swapView (s : State) : State :=
  (s.put Obj.BANK_SWAP_PENDING (s.regionsWith (·.swapBank.isSome))).put Obj.PROG_SWAP_PENDING (s.regionsWith (·.swapProg.isSome))

/-- SWAP_BANK (R221): a region whose active GEN is the one named drops its pending swap; every other takes this one. -/
def execSwapBank (l : Landing) (s : State) : Out :=
  .next (s.land 0x11 l fun t =>
    let t1 := l.regions.foldl (fun (u : State) g =>
      let r := u.region g
      u.setRegion g { r with swapBank := if (u.bank (u.bankNo g false)).gen = l.arg.toNat then none else some l.arg }) t
    ({ t1 with shadow := { t1.shadow with newestGen := l.arg } }.put Obj.EXPECT_GEN l.arg.toNat).swapView)

/-- SWAP_PROG (R130): a region that already runs the slot drops its pending swap; every other takes this one. -/
def execSwapProg (l : Landing) (s : State) : Out :=
  .next (s.land 0x12 l fun t =>
    let slot := l.arg.toNat % 2
    let t1 := l.regions.foldl (fun (u : State) g =>
      let r := u.region g
      u.setRegion g { r with swapProg := if r.slot = slot then none else some slot }) t
    { t1 with shadow := { t1.shadow with newestSlot := slot } }.swapView)

/-- The swaps of region `g` at a FRAME_START landing (R130, R221); the second part tells that one took place. -/
def State.swapRegion (s : State) (g : Nat) : State × Bool :=
  let r := s.region g
  let inactive := s.bank (s.bankNo g true)
  let bank := match r.swapBank with
    | some n => inactive.verified && inactive.gen = n.toNat
    | none => false
  let prog := match r.swapProg with
    | some i => s.slotValid i
    | none => false
  let r1 := if bank then { r with active := !r.active, swapBank := none } else r
  let r2 := if prog then { r1 with slot := r1.swapProg.getD r1.slot, swapProg := none } else r1
  let s1 := s.setRegion g r2
  (if bank then (s1.bankView g).bump Obj.SWAP_COUNT else s1, bank || prog)

/-- All swaps at a FRAME_START landing, with the mask of the regions that swapped. -/
def State.swapAll (s : State) : State × BitVec 64 :=
  let r := (List.range 64).foldl (fun (a : State × List Nat) g =>
    let x := a.1.swapRegion g
    (x.1, if x.2 then g :: a.2 else a.2)) (s, [])
  (r.1.swapView, regionMask r.2)

/-- The state of a region for a frame (R222): its active GEN, its slot, its parameter serial. -/
def State.regionState (s : State) (g : Nat) : Nat × Nat × Nat :=
  let r := s.region g
  ((s.bank (s.bankNo g false)).gen, r.slot, r.serial.toNat)

/-- GEN_MAP (R222). -/
def State.genMap (s : State) : BitVec 64 :=
  let newest := (s.shadow.newestGen.toNat, s.shadow.newestSlot, s.nat Obj.PARAM_SERIAL)
  regionMask ((List.range 64).filter fun g => s.regionState g ≠ newest)

/-- MIXED_GEN (R222): two regions' states differ. -/
def State.mixedGen (s : State) : Bool := (List.range 64).any fun g => s.regionState g ≠ s.regionState 0

/-! ## Contexts (R208, R220) -/

/-- F(T) (R208): a radiance whose interpolated RAD_L2T entry is T; free among several, and free where there is none (log
entry 7). -/
def State.radianceOf (s : State) (t : Nat) : Int :=
  let cands := ((List.range 65536).map fun i => (i : Int) - 32768).filter fun l => s.radL2T l = t
  match cands with
  | [] => signedOf 16 s.draw.toNat
  | _ => cands.getD (s.draw.toNat % cands.length) 0

/-- A_c and B_c of a context as it is applied (R208). -/
def State.radiometry (s : State) (c : Nat) : State :=
  let e : Int := s.get (Obj.EMISSIVITY c)
  let t : Int := s.get (Obj.TAU c)
  let f1 := s.radianceOf (s.nat (Obj.T_REFL c))
  let s1 := s.drawn
  let f2 := s1.radianceOf (s.nat (Obj.T_ATM c))
  (s1.drawn.put (Obj.RAD_A c) (roundDivS (2 ^ 14 * 10 ^ 8) (e * t))).put (Obj.RAD_B c)
    (roundDiv ((10000 - e) * t * f1 + (10000 - t) * 10000 * f2) (10 ^ 8))

/-- The context of a staged key. -/
def ctxOf (k : Nat) : Nat := k / 2 ^ 40 - 0x5100

/-- The views that select context `c` and are open. -/
def State.viewsOf (s : State) (c : Nat) : List Nat :=
  (List.range 16).filter fun v => 2 ≤ s.nat (Obj.VW_STATE v) && s.nat (Obj.VW_SOURCE v) = 0 && s.nat (Obj.VW_CONTEXT v) = c

/-- Staged context writes at a FRAME_START landing that launches frame `f` (R220): a context whose open views all begin a frame
here takes its writes together, unless it is held. -/
def State.applyContexts (s : State) (f : BitVec 32) : State :=
  (List.range 8).foldl (fun (t : State) c =>
    let mine := t.shadow.ctx.filter fun (e : Nat × Int) => ctxOf e.1 = c
    let due := (t.viewsOf c).all fun v => (f - (t.view v).openFrame).toNat % max 1 (t.nat (Obj.VW_DIV v)) = 0
    if mine.isEmpty || t.nat (Obj.HOLD c) = 1 || !due then t
    else
      let t1 := mine.foldl (fun (u : State) e => u.put e.1 e.2) t
      State.radiometry { t1 with shadow := { t1.shadow with
        ctx := t1.shadow.ctx.filter fun (e : Nat × Int) => ctxOf e.1 ≠ c } } c) s

/-! ## The ROM image (R191) -/

/-- LENGTH of the ROM program. -/
def romLen : Nat := 9 + (Config.romWord 0).toNat % 8184

/-- The words of the ROM program from address 8. -/
def romBody : List Word := (List.range (romLen - 8)).map fun i => Config.romWord (i + 8)

/-- The ROM image of a slot (R128, R191): a header that names an ITEM_ENTRY only, and the program. -/
def romImage : List Word :=
  [BitVec.ofNat 32 (65536 + romLen), BitVec.ofNat 32 (8 + (Config.romWord 1).toNat % (romLen - 8)), 0, 0,
   crc32 (wordsBytes romBody), 0, 0, 0] ++ romBody ++ List.replicate (8192 - romLen) 0

/-- Copy the ROM image into slot `i` (R191). -/
def State.copyRom (s : State) (i : Nat) : State :=
  let s1 := s.poke (progBase i) (wordsBytes romImage)
  { s1.put Obj.SLOT_VALID (putBit (s1.nat Obj.SLOT_VALID) i true) with pipe := { s1.pipe with romSlot :=
      match s1.pipe.romSlot with
      | none => some i
      | some k => if k = i then some i else some 2 } }

/-- A write to STD_RELOAD (R191): refused as a slot write would be. -/
def State.writeStdReload (s : State) (v : Nat) : State :=
  if v ≠ 1 ∧ v ≠ 2 then s
  else if s.slotBusy (v - 1) then (s.bump Obj.PROG_REFUSED).put Obj.STD_RELOAD 2
  else (s.copyRom (v - 1)).put Obj.STD_RELOAD 1

/-- STD_RELOAD (R191). -/
def execStdReload (v : Nat) (s : State) : Out := .next (s.writeStdReload v)

/-- The run executes the ROM program. -/
def State.runsRom (s : State) (x : Run) : Bool :=
  x.kind.isItem && (s.pipe.romSlot = some x.slot || s.pipe.romSlot = some 2)

/-! ## Shading slots (R204) -/

/-- Region `g`'s frame `f` still has an unended item. -/
def State.frameOpen (s : State) (f : BitVec 32) : Bool := s.fab.regions.any fun r => r.frames.any fun x => x.num = f && !x.endDone

/-- A slot is in force in some region. -/
def State.slotInForce (s : State) (slot : Nat) : Bool := (List.range 64).any fun g => s.natR g Obj.SHADE_SLOT = slot

/-- A slot is used by a frame that has an unended item. -/
def State.slotInUse (s : State) (slot : Nat) : Bool :=
  s.pipe.pages.any fun p => s.frameOpen p.frame && (List.range 64).any fun g => p.nat g Obj.SHADE_SLOT = slot

/-- A WRITE OF SHADE_GRID into SHADE_WRITE_SLOT (R204). -/
def State.writeShade (s : State) (off : Nat) (bytes : List Byte) : State × Nat :=
  let slot := s.nat Obj.SHADE_WRITE_SLOT
  if 8192 < off + bytes.length then (s, 4)
  else if s.slotInForce slot || s.slotInUse slot then (s, 5)
  else (s.poke (tableBase + 0x4000 + 8192 * slot + off) bytes, 0)

/-- SHADE_GRID_WRITE (R204). -/
def execShadeGridWrite (bytes : List Byte) (s : State) : Out := .next (s.writeShade 0 bytes).1

/-- A lens grid that waits goes into a slot that is in force in no region, with bell 0x0601 (R204). -/
def State.placeGrid (s : State) : State :=
  match s.pipe.gridWait, [0, 1].find? fun k => !s.slotInForce k && !s.slotInUse k with
  | some grid, some slot =>
    State.bell ({ s with pipe := { s.pipe with gridWait := none } }.poke (tableBase + 0x4000 + 8192 * slot) grid) 0x0601
  | _, _ => s

/-! ## Gimbal (R207) -/

/-- GIMBAL_RATE_WRITE (R207): the rates written, and the arrival DLT of the write. -/
def State.writeGimbal (s : State) (rates : List (Option Int)) (stamp : Dlt) : State :=
  (((rates.zipIdx).foldl (fun (t : State) e => match e.1 with
    | some v => t.put (Obj.GIMBAL_RATE e.2) v
    | none => t) s)).put Obj.GIMBAL_DLT stamp.toNat

/-- GIMBAL_RATE_WRITE. -/
def execGimbalRateWrite (yaw pitch roll : Option Int) (stamp : Dlt) (s : State) : Out :=
  .next (s.writeGimbal [yaw, pitch, roll] stamp)

/-- The gimbal gate bit of region `g` now (R207). -/
def State.gimbalGate (s : State) (g : Nat) : Bool :=
  (s.now - BitVec.ofNat 64 (s.nat Obj.GIMBAL_DLT)).toNat ≤ s.nat Obj.GIMBAL_MAX_AGE * 64000000 &&
  [0, 1, 2].any fun i => s.natR g Obj.OMEGA_MAX < (s.get (Obj.GIMBAL_RATE i)).natAbs

/-! ## Pages at the gate (R194, R198, R206, R211) -/

/-- The word of J channel `j` of CU `n` (R76). -/
def State.jWord (s : State) (n j : Nat) : Nat := s.le (jBase + 32 * n + 4 * j) 4

/-- A J result is valid: converted since reset, without OVR and SET (R194). -/
def State.jValid (s : State) (n j : Nat) : Bool :=
  Cells.get s.focal.jSeen (8 * n + j) 0 = 1 && bits (s.jWord n j) 23 20 &&& (tagOVR ||| tagSET) = 0

/-- The value of a J result. -/
def State.jValue (s : State) (n j : Nat) : Int := signedOf 20 (s.jWord n j)

/-- REFC of every CU at a gate (R198): J6 − J6F clamped, or unchanged without a valid J6 result. -/
def State.updateRefc (s : State) : State :=
  let next := (List.range 30720).foldl (fun (r : Store) n =>
    if s.jValid n 6 then
      let g := regionOfCu n
      let k := n / 192 % 20 * 24 + n % 192 % 24
      Cells.set r n (clampInt (s.jValue n 6 - (s.bank (s.bankNo g false)).j6f k) (-4096) 4096) 0
    else r) s.focal.refc
  { s with focal := { s.focal with refc := next } }

/-- The J4 results that are valid now, by CU (R194). -/
def State.j4Now (s : State) : List (Nat × Int) := ((List.range 30720).filter fun n => s.jValid n 4).map fun n => (n, s.jValue n 4)

/-- The J4 value of CU `n` at the page's gate, if it was valid. -/
def Page.j4Of (p : Page) (n : Nat) : Option Int := (p.j4.find? fun e => e.1 = n).map (·.2)

/-- J4M of a cluster (R194). -/
def Page.j4Mean (p : Page) (cx cy : Nat) : Int :=
  let cus := (List.range 16).map fun i => (4 * cy + i / 4) * 192 + 4 * cx + i % 4
  let vs := cus.filterMap p.j4Of
  if vs.isEmpty then 0 else roundDiv vs.sum vs.length

/-- The 7,552 bytes of a region's temperature page for a frame (R194), from what the part found at the frame's gate. -/
def Page.tempBytes (p : Page) (g : Nat) : List Byte :=
  let bx : Int := 6 * (g % 8 : Nat)
  let by' : Int := 5 * (g / 8 : Nat)
  let cluster (i : Nat) : Option (Nat × Nat) :=
    let x := bx + (i % 8 : Nat) - 1
    let y := by' + (i / 8 : Nat) - 1
    if 0 ≤ x ∧ x < 48 ∧ 0 ≤ y ∧ y < 40 then some (x.toNat, y.toNat) else none
  let clt (i : Nat) : Nat := match cluster i with
    | some (x, y) => (Cells.get p.clt (48 * y + x) 0).toNat
    | none => 0
  let j4m (i : Nat) : Int := match cluster i with
    | some (x, y) => p.j4Mean x y
    | none => 0
  let j4 (i : Nat) : Int :=
    let x := 4 * bx + (i % 26 : Nat) - 1
    let y := 4 * by' + (i / 26 : Nat) - 1
    if 0 ≤ x ∧ x < 192 ∧ 0 ≤ y ∧ y < 160 then
      (p.j4Of (192 * y + x).toNat).getD (p.j4Mean (x.toNat / 4) (y.toNat / 4))
    else 0
  let refc (k : Nat) : Int := Cells.get p.refc ((20 * (g / 8) + k / 24) * 192 + 24 * (g % 8) + k % 24) 0
  leBytes 4 p.frame.toNat ++ leBytes 4 1 ++ List.replicate 56 0 ++
  ((List.range 56).flatMap fun i => leBytes 4 (clt i)) ++ List.replicate 32 0 ++
  ((List.range 56).flatMap fun i => leBytes 4 (wrapNat 32 (j4m i))) ++ List.replicate 32 0 ++
  ((List.range 572).flatMap fun i => leBytes 4 (wrapNat 32 (j4 i))) ++ List.replicate (0xC00 - 0x240 - 4 * 572) 0 ++
  ((List.range 480).flatMap fun k => leBytes 4 (wrapNat 32 (refc k)))

/-- The windows of the targets for the next frame (R211): mode 1 as set, modes 2 and 3 as they last moved. -/
def State.targetWins (s : State) : List (Nat × Win) :=
  (List.range 32).filterMap fun t =>
    let set : Win := ⟨s.nat (Obj.TRK_WIN t 0), s.nat (Obj.TRK_WIN t 1), s.nat (Obj.TRK_WIN t 2), s.nat (Obj.TRK_WIN t 3)⟩
    let r := s.pipe.targets.toList.getD t {}
    let w := match s.nat (Obj.TRK_MODE t) with
      | 1 => some set
      | 2 => some (r.win.getD set)
      | 3 => if r.state = 2 then r.win else none
      | _ => none
    match w with
    | some w => if w.w = 0 || w.h = 0 then none else some (t, w)
    | none => none

/-- The enabled focus windows (R212). -/
def State.focusWins (s : State) : List (Nat × Win) :=
  (List.range 16).filterMap fun i =>
    let w : Win := ⟨s.nat (Obj.FOCUS_WIN i 0), s.nat (Obj.FOCUS_WIN i 1), s.nat (Obj.FOCUS_WIN i 2), s.nat (Obj.FOCUS_WIN i 3)⟩
    if s.nat (Obj.FOCUS_WIN_EN i) = 1 && w.w ≠ 0 && w.h ≠ 0 then some (i, w) else none

/-- The object indexes that a parameter page holds (R194). -/
def pageIndex (i : Nat) : Bool :=
  (0x5001 ≤ i && i ≤ 0x5002) || (0x5100 ≤ i && i ≤ 0x5107) || (0x5400 ≤ i && i ≤ 0x5440) || (0x5500 ≤ i && i ≤ 0x550F) || i = 0x6030

/-- The parameter page of frame `f` as the gate finds it (R194). -/
def State.newPage (s : State) (f : Frame) : Page where
  frame := f.num
  obj := s.obj.filter fun (e : Nat × Int) => pageIndex (e.1 / 2 ^ 40)
  region := s.shadow.region
  targets := s.targetWins
  focus := s.focusWins
  gimbal := regionMask ((List.range 64).filter s.gimbalGate)
  reset := match s.frame? (f.num - 1) with
    | some p => if p.shutter then BitVec.allOnes 64 else f.reset
    | none => f.reset
  sites := BitVec.ofNat 64 (s.nat Obj.ACTIVE_SITES)
  clt := s.focal.clt
  j4 := s.j4Now
  refc := s.focal.refc

/-- A region may be gated for frame `f` (R194, R209, R235): frame f − 2 has no unended item here, its histogram bank has been
read, and no ready offset update is still to be written here. -/
def State.mayGate (s : State) (g : Nat) (f : BitVec 32) : Bool :=
  !((s.region g).frames.any fun x => x.num = f - 2 && !x.endDone) && !((s.cal.update.getD []).contains g)

/-- THE GATE OF REGION `g` for frame `f` (R194, R209): both pages are written and histogram bank f mod 2 is cleared. The
layout of the parameter page is not given: its bytes are free (log entry 7). -/
def State.gateRegion (s : State) (g : Nat) (f : BitVec 32) : State :=
  let p := f.toNat % 2
  let s1 := s.poke (fstBase g + 0x300000 + 8192 * p) (((s.page? f).map (·.tempBytes g)).getD [])
  let s2 := (s1.poke (fstBase g + 0x304000 + 4096 * p) ((List.range 4096).map fun i =>
    (Config.freeBits (s1.free + i)).truncate 8)).drawn 4096
  let s3 := s2.wipe (histBase g + 16384 * p) (histBase g + 16384 * (p + 1))
  let s4 := s3.setRegion g { s3.region g with
    histBad := (s3.region g).histBad.filter fun e => e.1 ≠ f - 2 }
  s4.mapFrame f fun x => { x with gated := x.gated ||| BitVec.ofNat 64 (2 ^ g) }

/-- Regions whose gate was held are gated as soon as they may be (R194). -/
def State.gateHeld (s : State) (f : Frame) : State :=
  if !f.gateDone then s
  else (List.range 64).foldl (fun (t : State) g =>
    if !f.gated.getLsbD g && t.mayGate g f.num then t.gateRegion g f.num else t) s

/-! ## Regions and their frames -/

/-- The record of a frame in a region. -/
def Region.rframe (r : Region) (f : BitVec 32) : Option RFrame := r.frames.find? fun x => x.num = f

/-- Change the record of a frame in region `g`. -/
def State.mapRFrame (s : State) (g : Nat) (f : BitVec 32) (h : RFrame → RFrame) : State :=
  let r := s.region g
  s.setRegion g { r with frames := r.frames.map fun (x : RFrame) => if x.num = f then h x else x }

/-- Every item of the frame has ended in region `g` (R110, R117). -/
def State.itemsEnded (s : State) (f : Frame) (g : Nat) : Bool :=
  match (s.region g).rframe f.num with
  | some x => (f.items g).all x.ended.contains
  | none => false

/-- Region `g` has done with the frame: every item ended, or the frame was discarded there (R279). -/
def State.regionDone (s : State) (f : Frame) (g : Nat) : Bool := f.discards.getLsbD g || s.itemsEnded f g

/-! ## The collectors (R209, R210) -/

/-- The statistics of region `g` for a frame's parity. -/
def State.stats (s : State) (g : Nat) (f : BitVec 32) : Stats :=
  let x := s.pipe.sums.toList.getD (2 * g + f.toNat % 2) {}
  if x.frame = f then x else { frame := f }

/-- Put the statistics of region `g`. -/
def State.putStats (s : State) (g : Nat) (x : Stats) : State :=
  { s with pipe := { s.pipe with sums := s.pipe.sums.setIfInBounds (2 * g + x.frame.toNat % 2) x } }

/-- The sums of target `t` for a frame. -/
def State.trackSum (s : State) (t : Nat) (f : BitVec 32) : TrackSum :=
  let x := s.pipe.track.toList.getD (2 * t + f.toNat % 2) {}
  if x.frame = f then x else { frame := f }
/-- Put the sums of target `t`. -/
def State.putTrack (s : State) (t : Nat) (x : TrackSum) : State :=
  { s with pipe := { s.pipe with track := s.pipe.track.setIfInBounds (2 * t + x.frame.toNat % 2) x } }

/-- The sums of focus window `w` for a frame. -/
def State.focusSum (s : State) (w : Nat) (f : BitVec 32) : FocusSum :=
  let x := s.pipe.focus.toList.getD (2 * w + f.toNat % 2) {}
  if x.frame = f then x else { frame := f }
/-- Put the sums of focus window `w`. -/
def State.putFocus (s : State) (w : Nat) (x : FocusSum) : State :=
  { s with pipe := { s.pipe with focus := s.pipe.focus.setIfInBounds (2 * w + x.frame.toNat % 2) x } }

/-- The region's row partial of target `t` joins its sums (R211): region columns become array columns, the row is added. -/
def State.addTrack (s : State) (g row t : Nat) (f : BitVec 32) : State :=
  let a := fstBase g + 0x320000 + 32 * (640 * t + row)
  let x := s.trackSum t f
  let sw := s.le (a + 4) 4
  s.putTrack t { x with
    n := x.n + s.le a 4
    sw := x.sw + sw
    swx := x.swx + s.le (a + 8) 8 + 768 * (g % 8) * sw
    swy := x.swy + (640 * (g / 8) + row) * sw
    peak := max x.peak (s.le (a + 16) 4 % 65536) }

/-- The region's row partial of focus window `w` joins its sums (R212). -/
def State.addFocus (s : State) (g row w : Nat) (f : BitVec 32) : State :=
  let a := fstBase g + 0x3C0000 + 16 * (640 * w + row)
  let x := s.focusSum w f
  s.putFocus w { x with
    sum := x.sum + s.le a 8
    pairs := x.pairs + s.le (a + 8) 4
    ovr := x.ovr || s.le (a + 12) 4 % 2 = 1 }

/-- THE COLLECTOR READS THE ROW RECORD of an item that commits (R210): a record of another frame is ignored. -/
def State.collect (s : State) (g row : Nat) (f : BitVec 32) : State :=
  let a := fstBase g + 0x310000 + 64 * row
  let w (i : Nat) : Nat := s.le (a + 4 * i) 4
  if w 0 ≠ f.toNat then s
  else
    let x := s.stats g f
    let s1 := s.putStats g { x with
      count := x.count + w 1
      sum := x.sum + w 2 + w 3 * 2 ^ 32
      max := if w 1 = 0 then x.max else max x.max (w 4 / 65536)
      min := if w 1 = 0 then x.min else min x.min (w 4 % 65536)
      ovr := x.ovr + w 8 }
    let s2 := if w 5 / 65536 ≠ 0xFFFF then
        { s1 with pipe := { s1.pipe with acq :=
          s1.pipe.acq ++ [(f, w 5 % 65536, 768 * (g % 8) + w 5 / 65536, 640 * (g / 8) + row)] } }
      else s1
    let s3 := (setBits 32 (w 6)).foldl (fun (t : State) k => t.addTrack g row k f) s2
    (setBits 16 (w 7)).foldl (fun (t : State) k => t.addFocus g row k f) s3

/-- The 32 bytes of statistics that REGION_STATS and PKG_STATS hold. -/
def Stats.bytes (x : Stats) : List Byte :=
  leBytes 4 x.frame.toNat ++ leBytes 4 x.count ++ leBytes 8 x.sum ++
  leBytes 4 (x.max * 65536 + (if x.count = 0 then 0 else x.min)) ++ leBytes 4 x.ovr ++
  leBytes 4 (if x.valid then 1 else 0) ++ leBytes 4 0

/-- The histogram bank of region `g` is valid for a frame (R115, R134, R138). -/
def State.histValid (s : State) (g : Nat) (f : BitVec 32) : Bool :=
  !((s.region g).histBad.contains (f, f.toNat % 2))

/-- A REGION'S STATISTICS ARE FORMED once its last item of the frame has committed (R210); the collector reads the bank. -/
def State.formStats (s : State) (g : Nat) (f : BitVec 32) : State :=
  let p := f.toNat % 2
  let x := { s.stats g f with valid := s.histValid g f }
  let s1 := (s.putStats g x).putBytes Obj.REGION_STATS (32 * g) x.bytes
  let base := (64 * p + g) * 4096
  let read := ((List.range 4096).map fun b => (base + b, (s.le (histBase g + 16384 * p + 4 * b) 4 : Int))).filter fun e => e.2 ≠ 0
  let below := s1.pipe.hists.filter fun (e : Nat × Int) => e.1 < base
  let above := s1.pipe.hists.filter fun (e : Nat × Int) => base + 4096 ≤ e.1
  let s2 := { s1 with pipe := { s1.pipe with hists := below ++ read ++ above } }
  s2.setRegion g { s2.region g with histRead := f :: (s2.region g).histRead.filter fun h => h ≠ f - 2 }

/-! ## Tracking and focus results (R211-R213) -/

/-- Every row that a window covers has committed in every region of the frame (R211). -/
def State.winDone (s : State) (f : Frame) (w : Win) : Bool :=
  (List.range 64).all fun g => (List.range 640).all fun row =>
    !(w.onRow g (640 * (g / 8) + row)) || !f.hasItem g row ||
    (match (s.region g).rframe f.num with
     | some x => x.ended.contains row
     | none => false)

/-- A conversion slot in LSB (R70): one modulator cycle is DIV half-nanoseconds. -/
def Frame.slotLsb (f : Frame) : Nat := (f.n + f.g) * f.div * 32

/-- The length of a slot in tenths of a beat, the cycles of the 2,000 MHz oscillator (R39, R70). -/
def Frame.slotTenths (f : Frame) : Nat := (f.n + f.g) * f.div

/-- TIME of a result at array pixel `(x, y)` (R211). -/
def Frame.timeAt (f : Frame) (x y : Nat) : Dlt :=
  let q := quadOfRegion (min 7 (y / 640) * 8 + min 7 (x / 768))
  let n := y % 32 * 32 + x % 32
  let k := ((List.range n).filter (f.posOn q)).length
  f.landing + BitVec.ofNat 64 ((k + 1) * f.slotLsb)

/-- A window of the size of `w` centred on a pixel and clamped inside the array (R211). -/
def Win.centre (w : Win) (x y : Nat) : Win :=
  { w with x := min (x - w.w / 2) (6144 - w.w), y := min (y - w.h / 2) (5120 - w.h) }

/-- A result that becomes final is to be sent on CAN FD: its broadcast is enabled and the part is operational (R351, R358). -/
def State.broadcasts (s : State) (k : Nat) : Bool := s.nat k = 1 && s.nat Obj.CLAIM_STATE = 2

/-- The tracking entry of target `t` (R213), from its last result. -/
def State.trackEntry (s : State) (t : Nat) : List Byte :=
  let k := Obj.TRK_RESULT t
  leBytes 1 t ++ leBytes 1 (s.getLe k 25 1) ++ s.getBytes k 8 4 ++ leBytes 2 (s.getLe k 16 4) ++ s.getBytes k 12 4 ++
    leBytes 4 (s.getLe k 2 4)

/-- The focus entry of window `w` (R213), from its last result. -/
def State.focusEntry (s : State) (w : Nat) : List Byte :=
  let k := Obj.FOCUS_RESULT w
  leBytes 1 w ++ leBytes 1 (s.getLe k 20 1) ++ List.replicate 6 0 ++ s.getBytes k 8 4 ++ leBytes 4 (s.getLe k 2 4)

/-- THE RESULT OF TARGET `t` for a frame (R211). With no weight the manual states no centroid: it is free (log entry 7). -/
def State.finishTarget (s : State) (f : Frame) (p : Page) (t : Nat) (w : Win) : State :=
  let x := s.trackSum t f.num
  let cx := if x.sw = 0 then s.draw.toNat % 65536 else (roundDiv (8 * x.swx) x.sw + 4).toNat
  let cy := if x.sw = 0 then s.draw.toNat / 65536 % 65536 else (roundDiv (8 * x.swy) x.sw + 4).toNat
  let r := s.pipe.targets.toList.getD t {}
  let mode := s.nat (Obj.TRK_MODE t)
  let misses := if x.n = 0 then r.misses + 1 else 0
  let lost := s.nat (Obj.LOST_FRAMES t) ≤ misses
  let state := if mode = 0 then 0 else if x.n ≠ 0 then 2 else if lost then 3 else if r.state = 0 then 2 else r.state
  let win := if mode = 3 && state = 3 then none
    else if (mode = 2 || mode = 3) && x.n ≠ 0 then some (w.centre (cx / 8) (cy / 8))
    else r.win
  let time := f.timeAt (cx / 8) (cy / 8)
  let bytes := leBytes 8 time.toNat ++ leBytes 4 (cy % 65536 * 65536 + cx % 65536) ++ leBytes 4 x.n ++
    leBytes 4 (p.nat 0 (Obj.TRK_THRESH t) + x.peak) ++ leBytes 4 f.num.toNat ++ leBytes 4 (state * 256 + t) ++ leBytes 4 0
  let s1 := ((s.putTrack t { x with fin := true }).putBytes (Obj.TRK_RESULT t) 0 bytes).drawn
  { s1 with pipe := { s1.pipe with
    targets := s1.pipe.targets.setIfInBounds t { r with state := state, misses := misses, win := win }
    trackDue := if s.broadcasts Obj.TRACK_EN then s1.pipe.trackDue ++ [(t, s1.trackEntry t)] else s1.pipe.trackDue } }

/-- THE RESULT OF FOCUS WINDOW `i` for a frame (R212). -/
def State.finishFocus (s : State) (f : Frame) (i : Nat) (w : Win) : State :=
  let x := s.focusSum i f.num
  let m := if x.pairs = 0 then 0 else min 0xFFFFFFFF (roundDiv (256 * x.sum) x.pairs).toNat
  let time := f.timeAt (w.x + w.w / 2) (w.y + w.h / 2)
  let bytes := leBytes 8 time.toNat ++ leBytes 4 m ++ leBytes 4 x.pairs ++ leBytes 4 f.num.toNat ++
    leBytes 4 ((if x.pairs = 0 then 1 else 0) + (if x.ovr then 2 else 0))
  let s1 := (s.putFocus i { x with fin := true }).putBytes (Obj.FOCUS_RESULT i) 0 bytes
  { s1 with pipe := { s1.pipe with
    focusDue := if s.broadcasts Obj.FOCUS_EN then s1.pipe.focusDue ++ [(i, s1.focusEntry i)] else s1.pipe.focusDue } }

/-- Every window whose rows have all committed gives its result, once (R211, R212). -/
def State.finishWindows (s : State) (f : Frame) (p : Page) : State :=
  let s1 := p.targets.foldl (fun (t : State) e =>
    if !(t.trackSum e.1 f.num).fin && t.winDone f e.2 then t.finishTarget f p e.1 e.2 else t) s
  p.focus.foldl (fun (t : State) e =>
    if !(t.focusSum e.1 f.num).fin && t.winDone f e.2 then t.finishFocus f e.1 e.2 else t) s1

/-- AUTO TARGETS ACQUIRE (R211): those that search take the hottest pixels outside every window, in ascending order. -/
def State.acquire (s : State) (f : BitVec 32) : State :=
  let cands := (s.pipe.acq.filter fun c => c.1 = f && s.nat Obj.ACQ_THRESH ≤ c.2.1).map (·.2)
  let r := (List.range 32).foldl (fun (a : State × List (Nat × Nat × Nat)) t =>
    let x := a.1.pipe.targets.toList.getD t {}
    if a.1.nat (Obj.TRK_MODE t) ≠ 3 || x.state = 2 then a
    else
      let hot := a.2.foldl (fun (b : Option (Nat × Nat × Nat)) c => match b with
        | none => some c
        | some o => if o.1 < c.1 then some c else some o) none
      match hot with
      | none =>
        ({ a.1 with pipe := { a.1.pipe with targets := a.1.pipe.targets.setIfInBounds t { x with state := 1 } } }, a.2)
      | some c =>
        let w : Win := Win.centre ⟨0, 0, a.1.nat (Obj.TRK_WIN t 2), a.1.nat (Obj.TRK_WIN t 3)⟩ c.2.1 c.2.2
        ({ a.1 with pipe := { a.1.pipe with
            targets := a.1.pipe.targets.setIfInBounds t { x with state := 2, misses := 0, win := some w } } },
          a.2.filter fun o => !w.has o.2.1 o.2.2)) (s, cands)
  { r.1 with pipe := { r.1.pipe with acq := r.1.pipe.acq.filter fun c => c.1 ≠ f } }

/-! ## The merge and the tone curve (R210, R215) -/

/-- The tone curve of TONE_MODE 1 from a merged histogram, or `none` to keep the previous one (R215). -/
def plateauCurve (h : List Nat) (plateau linMix : Nat) : Option (List Nat) :=
  if h.sum = 0 then none
  else
    let clip := max 1 (h.sum * plateau / (4096 * 256))
    let c := (h.foldl (fun (a : List Nat × Nat) x => let n := a.2 + min x clip; (n :: a.1, n)) ([], 0))
    let cs := c.1.reverse
    let last := c.2
    some (cs.zipIdx.map fun (e : Nat × Nat) =>
      satU16 (roundRat (65535 * ((linMix : Rat) * e.2 / 4095 + (32768 - (linMix : Rat)) * e.1 / last) / 32768)))

/-- The ramp of TONE_MODE 0 (R215): bin `b` stands for C16 = HIST_BASE + b·2^HIST_SHIFT. At TONE_LO = TONE_HI the value there is
free. -/
def rampCurve (base shift lo hi fv : Nat) : List Nat :=
  (List.range 4096).map fun b =>
    let c : Int := base + b * 2 ^ shift
    if hi = lo then (if c < lo then 0 else if (lo : Int) < c then 65535 else fv)
    else satU16 (roundDivS (65535 * (c - lo)) ((hi : Int) - lo))

/-- Build the curve from the histogram of frame `f` and write it into buffer f mod 2 (R215). -/
def State.buildTone (s : State) (f : BitVec 32) (h : List Nat) : State :=
  let curve := if s.natR 0 Obj.TONE_MODE = 1 then plateauCurve h (s.natR 0 Obj.PLATEAU) (s.natR 0 Obj.LIN_MIX)
    else some (rampCurve (s.natR 0 Obj.HIST_BASE) (s.natR 0 Obj.HIST_SHIFT) (s.natR 0 Obj.TONE_LO) (s.natR 0 Obj.TONE_HI)
      (s.draw.toNat % 65536))
  match curve with
  | none => s
  | some t => (s.poke (tableBase + 8192 * (f.toNat % 2)) (t.flatMap fun v => leBytes 2 v)).drawn

/-- Frame `f` follows frame `m`: FRAME_COUNT wraps (R453), so the shorter way round counts. -/
def frameAfter (f m : BitVec 32) : Bool := f ≠ m && (f - m).toNat < 2 ^ 31

/-- The oldest frame that every region has done with and that has not been merged. -/
def State.mergeable (s : State) : Option Frame :=
  (s.focal.frames.reverse.filter fun f => match s.pipe.merged with
    | none => true
    | some m => frameAfter f.num m).head?.filter fun f => (List.range 64).all (s.regionDone f)

/-- THE MERGE (R210, R215): the statistics of the package, the merged histogram, the tone curve of frame f + 2 unless its gate
has passed, and the acquisition of auto targets. What crosses the seams is charged to AC5 (R266). -/
def State.mergeFrame (s : State) (f : Frame) : State :=
  let gs := (List.range 64).filter fun g => !f.discards.getLsbD g
  let ok := gs.filter fun g => (s.stats g f.num).valid
  let p := f.num.toNat % 2
  let h := (List.range 4096).map fun b =>
    min 0xFFFFFFFF ((ok.map fun g => (Cells.get s.pipe.hists ((64 * p + g) * 4096 + b) 0).toNat).sum)
  let xs := gs.map fun g => s.stats g f.num
  let pkg : Stats := { frame := f.num, count := (xs.map (·.count)).sum, sum := (xs.map (·.sum)).sum
                       max := (xs.map (·.max)).foldl max 0, min := (xs.map (·.min)).foldl min 0xFFFF
                       ovr := (xs.map (·.ovr)).sum, valid := ok.length = 64 }
  let s1 := ((s.putBytes Obj.PKG_STATS 0 pkg.bytes).putBytes Obj.PKG_HIST 0 (h.flatMap fun v => leBytes 4 v)).bump
    Obj.HIST_INVALID (64 - ok.length)
  let s2 : State := { s1 with pipe := { s1.pipe with merged := some f.num } }
  let late := ((s2.frame? (f.num + 2)).map (·.gateDone)).getD false
  let s3 := if late = true then s2 else s2.buildTone f.num h
  let s4 := (List.range 8).foldl (fun (t : State) k => t.owe (128 + k) 5 (Config.statBlocks k)) s3
  s4.acquire f.num

/-- HISTOGRAM_MERGE (R210). -/
def execHistogramMerge (s : State) : Out :=
  .next (match s.mergeable with
    | some f => s.mergeFrame f
    | none => s)

/-- At the gate of frame `f` the merge of f − 2 has not completed: TONE_STALE (R215). -/
def State.toneStale (s : State) (f : BitVec 32) : State :=
  let late := (s.frame? (f - 2)).isSome && (match s.pipe.merged with
    | none => true
    | some m => frameAfter (f - 2) m)
  if late then s.bump Obj.TONE_STALE else s

end Sys2Proof.Machine
end

