-- ==== Sys2Proof/Machine/Items.lean ====
section
/-! DEFINITION. Work items (04_engine_fabric.md R109-R117, R125-R127, R132-R138; 08_rolls_budgets_drain.md R279, R280): release,
claims, commits, checks, faults, entry runs, halos and discards. -/

namespace Sys2Proof.Machine

/-! ## Row buffers (R120, R122) and discards (R279) -/

/-- An item of region `g` for a frame that has not ended and is on its way: queued, claimed, to be repeated, or waiting for
its comparison. -/
def State.itemPending (s : State) (g : Nat) (f : BitVec 32) (row : Nat) : Bool :=
  let r := s.region g
  let it : Item := { region := g, row := row, frame := f }
  r.queue.contains it || (r.claimed.any fun c => c.1 = it) || (s.fab.reruns.any fun c => c.1 = it && c.2.2 = .item) ||
  (s.fab.done.any fun d => d.item = it && d.kind = .item)

/-- The items of a frame in region `g` that are still to end. -/
def State.openItems (s : State) (fr : Frame) (g : Nat) : List Nat :=
  match (s.region g).rframe fr.num with
  | none => []
  | some x => (fr.items g).filter fun y => !x.ended.contains y && (!x.discarded || s.itemPending g fr.num y)

/-- Rows of a region whose third run, which only compares, is still to end: its inputs stay (R134, R145). -/
def State.thirdRows (s : State) (g : Nat) (f : BitVec 32) : List Nat :=
  let mine (it : Item) : Bool := it.region = g && it.frame = f
  ((s.fab.thirds.filter fun c => mine c.1).map fun c => c.1.row) ++
  ((s.fab.reruns.filter fun c => mine c.1 && c.2.2 = .third).map fun c => c.1.row) ++
  (s.fab.engines.toList.filterMap fun e => e.run.bind fun (x : Run) =>
    if x.kind = .third && mine x.item then some x.item.row else none)

/-- Row buffers that no unended item of their frame needs are free (R122), those of a third run apart. -/
def State.freeRows (s : State) (fr : Frame) (g : Nat) : State :=
  let needed := (s.openItems fr g ++ s.thirdRows g fr.num).flatMap fun y => fr.itemRows g y fr.rho
  let r := s.region g
  s.setRegion g { r with bufs := r.bufs.filter fun b => b.frame ≠ fr.num || needed.contains b.row }

/-- The frame is over in region `g` (R117): END_ENTRY has run or is absent. -/
def State.finishFrame (s : State) (fr : Frame) (g : Nat) : State :=
  let s1 := s.mapRFrame g fr.num fun x => { x with endDone := true }
  let s2 := match s1.frame? (fr.num + 2) with
    | some n => s1.gateHeld n
    | none => s1
  s2.placeGrid

/-- The last row of a region has left the engines (R124): the time is kept, and lateness is counted. -/
def State.lastRow (s : State) (fr : Frame) (g : Nat) : State :=
  let s1 := s.setRegion g { s.region g with lastItem := s.now }
  match fr.slotsEnd with
  | some t =>
    if s.nat Obj.SEAM_LIMIT * 64000 < (s.now - t).toNat then
      (s1.bumpLe Obj.SEAM_LATE (4 * g) 4).bell 0x0418
    else s1
  | none => s1

/-- AFTER AN ITEM HAS ENDED OR BEEN DROPPED: buffers are freed, and when none is left the statistics are formed (R210) and the
frame ends in the region unless its slot names an END_ENTRY, which joins the end of the region's queue (R114, R117). -/
def State.afterItem (s : State) (fr : Frame) (g : Nat) : State :=
  let s1 := s.freeRows fr g
  match (s1.region g).rframe fr.num with
  | none => s1
  | some x =>
    if x.endDone || !(s1.openItems fr g).isEmpty then s1
    else
      let s2 := if x.discarded then s1 else (s1.formStats g fr.num).lastRow fr g
      let last : Item := { region := g, row := 0x3FF, frame := fr.num, endEntry := true }
      let r := s2.region g
      if s2.slotEntry (s2.ranSlot g fr.num) 3 = 0 then s2.finishFrame fr g
      else if r.queue.contains last || r.claimed.any fun c => c.1 = last then s2
      else s2.setRegion g { r with queue := r.queue ++ [last] }

/-- A REGION DISCARDS A FRAME at its line-store entrance (R279, R280): its items that no engine has claimed leave the queue. -/
def State.discardFrame (s : State) (fr : Frame) (g : Nat) : State :=
  match (s.region g).rframe fr.num with
  | none => s
  | some x =>
    if x.discarded then s
    else
      let s1 := s.mapRFrame g fr.num fun y => { y with discarded := true }
      let s2 := s1.setRegion g { s1.region g with queue := (s1.region g).queue.filter fun i => i.frame ≠ fr.num || i.endEntry }
      let s2 : State := { s2 with fab := { s2.fab with
        reruns := s2.fab.reruns.filter fun c => !(c.1.region = g && c.1.frame = fr.num && c.2.2 = .item) } }
      let s3 := s2.mapFrame fr.num fun y => { y with discards := y.discards ||| BitVec.ofNat 64 (2 ^ g) }
      (((s3.bumpLe Obj.LS_DISCARD (4 * g) 4).put Obj.LS_DISCARD_FRAME fr.num.toNat).bell 0x0901).afterItem fr g

/-- A row buffer for a row of a frame: the one that holds it, or the lowest free one, which then reads zero. -/
def State.takeBuf (s : State) (g : Nat) (f : BitVec 32) (row : Int) : Option (Nat × State) :=
  match s.rowBuf g f row with
  | some b => some (b, s)
  | none => ((s.region g).freeBuf).map fun b =>
    let s1 := s.wipe (lineBase g + 4096 * b) (lineBase g + 4096 * (b + 1))
    (b, s1.setRegion g { s1.region g with bufs := (s1.region g).bufs ++ [⟨b, f, row⟩] })

/-- A WORD ARRIVES AT THE LINE STORE (R120, R279): stored, or the frame is discarded when no buffer is free; refused in a
region that has discarded the frame. -/
def State.storeWord (s : State) (fr : Frame) (g : Nat) (row col : Int) (word : Nat) : State :=
  match (s.region g).rframe fr.num with
  | none => s
  | some x =>
    if x.discarded then s
    else match s.takeBuf g fr.num row with
      | some (b, t) => t.poke (lineAddr g b col) (leBytes 4 word)
      | none => s.discardFrame fr g

/-! ## Halos (R125-R127, R280) -/

/-- The row of region `g` is complete in its line store: the scan has passed every enabled position of its tile row (R110). -/
def State.rowHeld (s : State) (fr : Frame) (g y : Nat) : Bool :=
  let current := (s.focal.frames.head?.map (·.num)) = some fr.num
  !current || !((s.focal.scans.toList.getD (quadOfRegion g) {}).todo.any fun k => !k.isJ && k.n / 32 = y % 32)

/-- A halo word will come (R121, R127, R280): its source lies in another region of the array, is enabled, and neither a link that is
down nor a discard stands between. -/
def State.haloComes (s : State) (fr : Frame) (g : Nat) (row col : Int) : Bool :=
  match haloSource g row col with
  | none => false
  | some (h, r, c) =>
    h ≠ g && fr.posOn (quadOfRegion h) (r % 32 * 32 + c % 32) && !s.pathDown (quadOfRegion h) (quadOfRegion g) &&
    !fr.discards.getLsbD h

/-- The halo columns of a row: all of a halo row, the edge columns of a row of the region (R125). -/
def haloCols (rho : Nat) (row : Int) : List Int :=
  let edge : List Int := ((List.range rho).map fun i => -(rho : Int) + i) ++ ((List.range rho).map fun i => 768 + (i : Int))
  if 0 ≤ row ∧ row < 640 then edge else edge ++ (List.range 768).map fun i => (i : Int)

/-- The sums of a calibration run's last counted frame have not been read yet, and this frame comes after it: its items would
write over them (R234, R247; log entry 21). -/
def State.sumsStand (s : State) (fr : Frame) : Bool :=
  match s.cal.run with
  | some r => r.step = 5 && frameAfter fr.num r.last
  | none => false

/-- ITEM OF ROW `y` MAY BE RELEASED (R110): its rows are held and every halo word that they need has arrived. -/
def State.releasable (s : State) (fr : Frame) (g y : Nat) : Bool :=
  match (s.region g).rframe fr.num with
  | none => false
  | some x =>
    fr.hasItem g y && fr.gated.getLsbD g && !x.discarded && !x.released.contains y && !s.sumsStand fr &&
    (fr.itemRows g y fr.rho).all fun r =>
      (!(0 ≤ r && r < 640) || s.rowHeld fr g r.toNat) &&
      (haloCols fr.rho r).all fun c => !s.haloComes fr g r c || x.halos.contains (r, c)

/-- ITEM_RELEASE (R110, R113): the item joins the end of its region's queue, for the oldest frame in which it may. -/
def execItemRelease (g : Fin 64) (row : Nat) (s : State) : Out :=
  .next (match s.focal.frames.reverse.find? fun fr => s.releasable fr g.val row with
    | none => s
    | some fr =>
      let s1 := s.mapRFrame g.val fr.num fun x => { x with released := row :: x.released }
      s1.setRegion g.val { s1.region g.val with
        queue := (s1.region g.val).queue ++ [{ region := g.val, row := row, frame := fr.num }] })

/-- The 64-byte blocks that words for region `g` cost on the seams, by transmit slot (R125, R263): those of one die travel
together, 16 words a block (log entry 28). -/
def haloBlocks (g : Nat) (row : Int) (words : List (Int × Word)) : List (Nat × Nat) :=
  (List.range 4).flatMap fun q =>
    let n := (words.filter fun w => match haloSource g row w.1 with
      | some (h, _, _) => decide (quadOfRegion h = q)
      | none => false).length
    if n = 0 then [] else (seamSlots q (quadOfRegion g)).map fun k => (k, (n + 15) / 16)

/-- HALO_ARRIVAL (R125, R126): while the class of the frame path holds no stick of a seam it waits there (R270). Else words of a neighbour region whose source row is readable arrive intact in the halo columns and
rows, for the oldest frame that still lacks one of them. A word that is not the source's does not arrive. -/
def execHaloArrival (g : Fin 64) (row : Int) (words : List (Int × Word)) (s : State) : Out :=
  let fit (fr : Frame) : List (Int × Word) :=
    match (s.region g.val).rframe fr.num with
    | none => []
    | some x => words.filter fun w =>
      (haloCols fr.rho row).contains w.1 && !x.halos.contains (row, w.1) && s.haloComes fr g.val row w.1 &&
      match haloSource g.val row w.1 with
      | none => false
      | some (h, r, c) => s.rowHeld fr h r && s.lineWord h fr.num r c = w.2.toNat
  .next (match s.focal.frames.reverse.find? fun fr => !(fit fr).isEmpty with
    | none => s
    | some fr =>
      let blocks := haloBlocks g.val row (fit fr)
      match blocks.find? fun e => !s.maySpend (128 + e.1) 0 with
      | some e => s.stallRoll (128 + e.1) 0
      | none => (fit fr).foldl (fun (t : State) w =>
          (t.storeWord fr g.val row w.1 w.2.toNat).mapRFrame g.val fr.num fun x => { x with halos := (row, w.1) :: x.halos })
          (blocks.foldl (fun (t : State) e => t.owe (128 + e.1) 0 e.2) s))

/-! ## Starting a run (R112, R114, R143) -/

/-- The tile row of a quadrant that is scanned last: the last enabled one, or that of the position which the regular sequence
converts last (R71, R82). -/
def Frame.lastTileRow (f : Frame) (q : Nat) : Nat :=
  match f.lastPos with
  | some n => n / 32
  | none => (((List.range 32).filter (f.rowOn q)).getLast?).getD 0

/-- The item belongs to the frame-end set (R111): one of its rows lies in the last tile row to be scanned. -/
def Frame.frameEnd (f : Frame) (g y : Nat) : Bool :=
  (f.itemRows g y f.rho).any fun r =>
    let row := (640 * (g / 8 : Nat) + r).toNat
    row % 32 = f.lastTileRow (quadOfRegion (row / 640 * 8 + g % 8))

/-- S0 at the start of a run (R112, R143). -/
def startS0 (check frameEnd : Bool) (g row : Nat) (f : BitVec 32) : Word :=
  BitVec.ofNat 32 ((if check then 2 ^ 31 else 0) + (if frameEnd then 2 ^ 30 else 0) + g * 2 ^ 24 + row * 2 ^ 14 +
    f.toNat % 128 * 2 ^ 7)

/-- START A RUN on engine `p` (R143): fresh registers, EVP kept, PC at the entry `k` of the slot's header. The statistics
registers are cleared: STMIN and STMAX read the largest and the smallest 32-bit value until a VSTAT (log entry 16). -/
def State.startRun (s : State) (p k : Nat) (x : Run) (s0 : Word) : State :=
  let e := s.engine p
  s.setEngine p { evp := e.evp, evLand := e.evLand, entryDue := e.entryDue, lastFault := e.lastFault
                  pc := s.slotEntry x.slot k
                  stMin := 2 ^ 31 - 1, stMax := -(2 ^ 31), stNew := true
                  s := ((Vector.replicate 16 0).set 0 s0).set 1 x.item.frame
                  run := some x }

/-- Engine `p` is live, a member of a region, and idle (R114). -/
def State.idleMember (s : State) (p : Nat) : Option Nat :=
  if s.engGood p && (s.engine p).run.isNone then s.regionOfEngine p else none

/-- FRAME_ENTRY of engine `p` is still to run (R117). -/
def State.entryWaits (s : State) (p g : Nat) : Bool :=
  match (s.engine p).entryDue with
  | some f => s.slotEntry (s.ranSlot g f) 2 ≠ 0
  | none => false

/-- FRAME_ENTRY_RUN (R117): a live engine that runs nothing starts FRAME_ENTRY of the new frame. -/
def execFrameEntryRun (p : Fin 272) (s : State) : Out :=
  .next (match s.idleMember p.val, (s.engine p.val).entryDue with
    | some g, some f =>
      let s1 := s.setEngine p.val { s.engine p.val with entryDue := none }
      let slot := s.ranSlot g f
      if s.slotEntry slot 2 = 0 then s1
      else s1.startRun p.val 2 { kind := .frameEntry, item := { region := g, row := 0x3FE, frame := f }, slot := slot,
                                 grant := s.nat Obj.ROLL_COUNT } (startS0 false false g 0x3FE f)
    | _, _ => s)

/-- The item is run a second time in its frame (R132). -/
def checkedItem (it : Item) : Bool :=
  ((20 * (it.row % 32) + it.row / 32 : Nat) - (it.frame.toNat : Int) - (it.region : Int)) % 64 = 0

/-- Start an item run of a kind for an item on engine `p` (R112, R114). -/
def State.startItem (s : State) (p : Nat) (it : Item) (kind : RunKind) (first : Option Nat) (primary other : Nat) : State :=
  let fe := ((s.frame? it.frame).map fun f => f.frameEnd it.region it.row).getD false
  s.startRun p 1 { kind := kind, item := it, slot := s.ranSlot it.region it.frame, grant := s.nat Obj.ROLL_COUNT
                   first := first, primary := primary, other := other } (startS0 kind.comparing fe it.region it.row it.frame)

/-- The primary run of an item starts: its claim is recorded, and its check run, if it has one, waits for another engine
(R113, R133). -/
def State.startPrimary (s : State) (p : Nat) (it : Item) (first : Option Nat) : State :=
  let r := s.region it.region
  let s1 := s.setRegion it.region { r with claimed := r.claimed ++ [(it, p)] }
  let has := (s.fab.done.any fun d => d.item = it && d.kind = .check) ||
    (s.fab.engines.any fun e => (e.run.map fun (x : Run) => x.item = it && x.kind = .check).getD false) ||
    (s.fab.reruns.any fun c => c.1 = it && c.2.2 = .check)
  let others := s.fab.checks.filter fun c => c.1 ≠ it
  let s2 := if checkedItem it && !has then { s1 with fab := { s1.fab with checks := others ++ [(it, p)] } } else s1
  s2.startItem p it .item first 272 272

/-- Engine `p` has a finished run of the item that waits for its comparison. -/
def State.ranItem (s : State) (p : Nat) (it : Item) : Bool := s.fab.done.any fun d => d.item = it && d.engine = p

/-- What an idle engine finds to claim (R114). -/
inductive Claim where
  | third (it : Item) (primary check : Nat)
  | again (it : Item) (faulted : Nat) (kind : RunKind)
  | check (it : Item) (primary : Nat)
  | head (g : Nat) (it : Item)
deriving DecidableEq, Repr

/-- The engine whose fault an item's next run repeats, if it has faulted once (R116, R138). -/
def State.faultOf (s : State) (it : Item) : Option Nat :=
  (s.fab.reruns.find? fun c => c.1 = it && c.2.2 = .item).map (·.2.1)

/-- The head of region `g`'s queue, where engine `p` may run it: another engine than one that has run it or has faulted on
it (R113, R114, R138). -/
def State.headFor (s : State) (p g : Nat) : Option Claim :=
  match (s.region g).queue with
  | [] => none
  | it :: _ => if s.ranItem p it || s.faultOf it = some p then none else some (.head g it)

/-- An item that faulted heads its queue, and the pair has no live engine that may run it again: any live engine of the die
takes it, after its own pair's items (R138). -/
def State.strayFor (s : State) (p die : Nat) : Option Claim :=
  ((List.range 64).filter fun g => quadOfRegion g = die).findSome? fun g =>
    match (s.region g).queue with
    | [] => none
    | it :: _ => match s.faultOf it with
      | none => none
      | some p0 =>
        if p0 ≠ p && !s.ranItem p it && (s.liveEngines g ++ s.liveEngines (g ^^^ 1)).all fun e => e = p0 || s.ranItem e it then
          some (.head g it) else none

/-- WHAT ENGINE `p` OF REGION `g` CLAIMS NEXT (R114, R133, R134, R138): a third run, a repeated check or a check run of its
die that it may run, the head of its region's queue, the head of its partner's. -/
def State.nextClaim (s : State) (p g : Nat) : Option Claim :=
  let die := dieOfEngine p
  let here (it : Item) : Bool := quadOfRegion it.region = die && !s.ranItem p it
  match s.fab.thirds.find? fun c => here c.1 && c.2.1 ≠ p && c.2.2 ≠ p with
  | some c => some (.third c.1 c.2.1 c.2.2)
  | none => match s.fab.reruns.find? fun c => here c.1 && c.2.1 ≠ p && c.2.2 ≠ .item with
    | some c => some (.again c.1 c.2.1 c.2.2)
    | none => match s.fab.checks.find? fun c => here c.1 && c.2 ≠ p with
      | some c => some (.check c.1 c.2)
      | none => ((s.headFor p g).orElse fun _ => s.headFor p (g ^^^ 1)).orElse fun _ => s.strayFor p die

/-- ITEM_CLAIM (R114, R133, R134, R138): an idle live engine whose next claim is an item or a check takes it. -/
def execItemClaim (p : Fin 272) (s : State) : Out :=
  .next (match s.idleMember p.val with
    | none => s
    | some g =>
      if s.entryWaits p.val g then s
      else match s.nextClaim p.val g with
      | some (.third it a b) =>
        State.startItem { s with fab := { s.fab with thirds := s.fab.thirds.filter (· ≠ (it, a, b)) } } p.val it .third none a b
      | some (.again it p0 k) =>
        State.startItem { s with fab := { s.fab with reruns := s.fab.reruns.filter (· ≠ (it, p0, k)) } } p.val it k (some p0) 272 272
      | some (.check it a) =>
        State.startItem { s with fab := { s.fab with checks := s.fab.checks.filter (· ≠ (it, a)) } } p.val it .check none a 272
      | some (.head h it) =>
        if it.endEntry then s
        else
          let s1 := s.setRegion h { s.region h with queue := (s.region h).queue.tail }
          let s2 : State := { s1 with fab := { s1.fab with reruns := s1.fab.reruns.filter fun c => !(c.1 = it && c.2.2 = .item) } }
          s2.startPrimary p.val it (s.faultOf it)
      | none => s)

/-- END_ENTRY_RUN (R114, R117): an idle live engine whose next claim is an END_ENTRY, at the head of its region's or its
partner's queue, runs it. -/
def execEndEntryRun (p : Fin 272) (s : State) : Out :=
  .next (match s.idleMember p.val with
    | none => s
    | some g =>
      if s.entryWaits p.val g then s
      else match s.nextClaim p.val g with
      | some (.head h it) =>
        if !it.endEntry then s
        else
          let r := s.region h
          let s1 := s.setRegion h { r with queue := r.queue.tail, claimed := r.claimed ++ [(it, p.val)] }
          s1.startRun p.val 3 { kind := .endEntry, item := it, slot := s.ranSlot h it.frame, grant := s.nat Obj.ROLL_COUNT }
            (startS0 false false h 0x3FF it.frame)
      | _ => s)

/-! ## Commits (R115, R133, R134) -/

/-- One emitted segment or record takes effect (R115, R134, R181-R183); with `chk` only lines do, tagged CHK. -/
def State.commitEmit (s : State) (x : Run) (chk : Bool) (e : Emit) : State :=
  let g := x.item.region
  match e with
  | .px site col lane tag _ =>
    let t := tag.toNat ||| (if chk then tagCHK else 0)
    let key := pixKey x.item.frame site (640 * (g / 8) + x.item.row) (768 * (g % 8) + col)
    { s with pix := Cells.set s.pix key ((t * 2 ^ 32 + lane.toNat : Nat) : Int) fillPix }
  | .record v bytes ty => if chk then s else s.emitRecord v g false x.item.frame bytes ty
  | .remote r off bytes slot => if chk then s else s.sendSeam ⟨slot, x.kind.cls, r, off, bytes⟩

/-- The item has ended (R115): it leaves the region's unended items. -/
def State.endItem (s : State) (fr : Frame) (it : Item) : State :=
  let s1 := (s.mapRFrame it.region it.frame fun x => { x with ended := it.row :: x.ended }).afterItem fr it.region
  match s1.page? it.frame with
  | some pg => s1.finishWindows fr pg
  | none => s1

/-- THE STORES, EMITS AND BELLS OF A RUN COMMIT TOGETHER (R115, R187, R210) and the collector reads the row record. -/
def State.commitItem (s : State) (fr : Frame) (x : Run) : State :=
  let g := x.item.region
  let s1 := x.writes.foldl (fun (t : State) c => t.poke (fstBase g + c.1) [c.2]) s
  let s2 := x.emits.reverse.foldl (fun (t : State) e => t.commitEmit x false e) s1
  let s3 := x.bells.reverse.foldl (fun (t : State) c => t.bell c) s2
  (s3.collect g x.item.row x.item.frame).endItem fr x.item

/-- The lines of a run are delivered tagged CHK, its stores are discarded and its histogram banks are invalid (R134, R138). -/
def State.commitChk (s : State) (fr : Frame) (x : Run) : State :=
  let s1 := x.emits.reverse.foldl (fun (t : State) e => t.commitEmit x true e) s
  let r := x.hists.foldl (fun (r : Region) b => r.badHist x.item.frame b) (s1.region x.item.region)
  (s1.setRegion x.item.region r).endItem fr x.item

/-- Engine `p` becomes idle and its claim is closed. -/
def State.idle (s : State) (p : Nat) (x : Run) : State :=
  let s1 := s.setEngine p { s.engine p with run := none }
  s1.setRegion x.item.region { s1.region x.item.region with
    claimed := (s1.region x.item.region).claimed.filter fun c => !(c.1 = x.item && c.2 = p) }

/-- A run that has ended: entry runs are over, an item without a check commits, the others wait for their comparison. A
repeated run that ends normally fences the engine that faulted, with bell 0x0413 (R138). -/
def State.endRun (s : State) (p : Nat) (x : Run) : State :=
  let s1 := s.idle p x
  match s1.frame? x.item.frame with
  | none => s1
  | some fr =>
    let s2 := match x.first with
      | some p0 => (s1.fence p0).bell 0x0413
      | none => s1
    let keep (t : State) : State := { t with fab := { t.fab with done := t.fab.done ++ [⟨p, x.item, x.kind, x.signature, x⟩] } }
    match x.kind with
    | .frameEntry => s1
    | .endEntry => s1.finishFrame fr x.item.region
    | .item => if checkedItem x.item then keep s2 else s2.commitItem fr x
    | _ => keep s2

/-- What is still to be charged of the ROM program's item (R224, R245, R263): its issue cycles, up to 90 cycles of stalls or 100
with refinement, and its vector reads. -/
def State.itemCost (s : State) (x : Run) : Nat × Nat :=
  let counted := ((s.frame? x.item.frame).map (·.counted)).getD false
  x.owed.getD (match s.page? x.item.frame with
    | some pg => (pg.itemCycles x.item.region counted + s.draw.toNat % (if pg.scene.getLsbD x.item.region then 101 else 91),
        Config.itemReads)
    | none => (0, Config.itemReads))

/-- The ROM program's item is charged as far as the sticks go (R224, R265); the second part tells that all has been. -/
def State.chargeItem (s : State) (p : Nat) (x : Run) : State × Bool :=
  let cost := s.itemCost x
  let s0 := if x.owed.isNone then s.drawn else s
  let (s1, a) := s0.spendSome ((s.regionOfEngine p).getD 0) x.kind.cls cost.1
  let (s2, b) := s1.spendSome (64 + x.item.region) x.kind.cls cost.2
  (s2.mapRun p fun y => { y with owed := some (a, b) }, a + b = 0)

/-- THE LEASE OF THE HISTOGRAM BANK for the VHIST sequence (R209): held, taken at once, or asked for; `none` while the run waits
for it. A comparing run and a program without stage 9 take none. -/
def State.itemLease (s : State) (p : Nat) (x : Run) (stage9 : Bool) : State × Bool :=
  let r := leaseNumber 0 (x.item.frame.toNat % 2) x.item.region
  let l := s.lease r
  let k := s.nat Obj.ROLL_COUNT
  if x.kind.comparing || !stage9 || l.holder = p then (s, true)
  else if l.holder = 0xFFFF && !l.rolling && l.waiting.isEmpty then
    (s.setLease r { l with holder := p, expiry := k + 1, grant := k, bad := false }, true)
  else ((s.setLease r { l with waiting := l.waiting ++ [(p, 1)] }).mapRun p fun y => { y with leasing := some (r, 1, 0, k) }, false)

/-- The lease of the VHIST sequence is freed straight after it (R209). -/
def State.itemUnlease (s : State) (p : Nat) (x : Run) : State :=
  let r := leaseNumber 0 (x.item.frame.toNat % 2) x.item.region
  if (s.lease r).holder = p then s.setLease r { s.lease r with holder := 0xFFFF, bad := false } else s

/-- A RUN OF THE ROM PROGRAM goes on (R191, R209, R224): it is charged, takes the lease, and ends with its results. -/
def State.stdCommit (s : State) (p : Nat) (x : Run) (upset : List Nat) : State :=
  let (s1, paid) := s.chargeItem p x
  if !paid then s1
  else
    let (s2, held) := s1.itemLease p x (((s.page? x.item.frame).map fun pg => pg.stage x.item.region 9).getD false)
    if !held then s2
    else
      let s3 := ((s2.stdUpsets x upset).stdItem p x upset).itemUnlease p x
      match (s3.engine p).run with
      | some y => if y.ended then s3.endRun p y else s3
      | none => s3

/-- ITEM_COMMIT (R115, R210): a run that SRET has ended; a run of the ROM program goes on here as far as its sticks and its lease
let it, and meets the upsets of the words that it reads (R138). -/
def execItemCommit (q : EngineHit) (s : State) : Out :=
  .next (match (s.engine q.p.val).run with
    | none => s
    | some x =>
      if x.fault ≠ 0 || x.leasing.isSome then s
      else if !x.ended && s.runsRom x then s.stdCommit q.p.val x q.upset
      else if x.ended then s.endRun q.p.val x else s)

/-! ## Checks (R132-R134) -/

/-- The waiting runs of one item are dropped. -/
def State.dropDone (s : State) (it : Item) : State :=
  { s with fab := { s.fab with done := s.fab.done.filter fun d => d.item ≠ it } }

/-- A waiting run of an item. -/
def State.doneRun (s : State) (it : Item) (k : RunKind) : Option DoneRun := s.fab.done.find? fun d => d.item = it && d.kind = k

/-- THE COMPARISON (R133, R134): equal signatures commit the primary run; different ones start the mismatch procedure. The third
run decides which engines are fenced. -/
def State.compare (s : State) (fr : Frame) (d : DoneRun) : State :=
  match s.doneRun d.item .check, s.doneRun d.item .third with
  | some c, some t =>
    let s1 := s.dropDone d.item
    let s2 := if d.sig ≠ t.sig then s1.fence d.engine else s1
    (if c.sig ≠ t.sig then s2.fence c.engine else s2).freeRows fr d.item.region
  | some c, none =>
    if ((s.region d.item.region).rframe d.item.frame).any fun x => x.ended.contains d.item.row then s
    else
      let s1 := s.bump Obj.CHECK_RUNS
      if d.sig = c.sig then (s1.dropDone d.item).commitItem fr d.run
      else
        let s2 := (s1.bump Obj.CHECK_MISMATCH).bell 0x0410
        State.commitChk { s2 with fab := { s2.fab with thirds := s2.fab.thirds ++ [(d.item, d.engine, c.engine)] } } fr d.run
  | none, _ => s

/-- CHECK_COMPARE (R133). -/
def execCheckCompare (g : Fin 64) (row : Nat) (s : State) : Out :=
  .next (match s.fab.done.find? fun d => d.kind = .item && d.item.region = g.val && d.item.row = row &&
      (s.doneRun d.item .check).isSome with
    | none => s
    | some d => match s.frame? d.item.frame with
      | none => s
      | some fr => s.compare fr d)

/-! ## Faults (R116, R138, R190) -/

/-- The runs of an item other than this one are given up: the check waiting, running or done. -/
def State.dropItem (s : State) (it : Item) : State :=
  let running := (List.range 272).filter fun p => ((s.engine p).run.map fun (x : Run) => decide (x.item = it)).getD false
  let s1 := running.foldl (fun (t : State) p => t.abandon p) s
  State.dropDone { s1 with fab := { s1.fab with
    checks := s1.fab.checks.filter fun c => c.1 ≠ it
    reruns := s1.fab.reruns.filter fun c => c.1 ≠ it } } it

/-- THE SECOND FAULT OF AN ITEM (R138): the program is at fault; the item's lines are delivered with every pixel tagged CHK. No
run of it has committed, so they hold the fill value, whose tag has CHK, unless a primary run is waiting. -/
def State.programFault (s : State) (x : Run) : State :=
  let s1 := (s.bump Obj.PROG_FAULTS).bell 0x0414
  match s1.frame? x.item.frame with
  | none => s1
  | some fr =>
    let primary := s1.doneRun x.item .item
    if x.kind = .third then (s1.dropDone x.item).freeRows fr x.item.region
    else match primary with
      | some d => (s1.dropItem x.item).commitChk fr d.run
      | none =>
        let s2 := s1.dropItem x.item
        let r := s2.region x.item.region
        (s2.setRegion x.item.region { r with queue := r.queue.filter (· ≠ x.item) }).endItem fr x.item

/-- A FAULT RUN IS HANDLED (R116, R138): the run is abandoned; an item goes back to the head of its queue, to be run again on
another engine, and so does a check run to its list; a second fault is the program's, and a fault of an entry run ends it.
`count` is the object that counts it. -/
def State.handleFault (s : State) (p : Nat) (x : Run) (count : Nat) : State :=
  let s1 := s.abandon p
  match x.kind with
  | .frameEntry => s1.bump Obj.PROG_FAULTS
  | .endEntry =>
    let s2 := s1.bump Obj.PROG_FAULTS
    match s2.frame? x.item.frame with
    | some fr => s2.finishFrame fr x.item.region
    | none => s2
  | k =>
    let s2 := s1.bump count
    match x.first with
    | some _ => s2.programFault x
    | none =>
      let s3 : State := { s2 with fab := { s2.fab with reruns := s2.fab.reruns ++ [(x.item, p, k)] } }
      if k = .item then s3.requeue x.item else s3

/-- The word at the PC is undefined, or an EMIT of the undefined KIND 3 (R152, R181). -/
def State.undefinedAt (s : State) (e : Engine) (x : Run) : Bool :=
  let w := s.fetched e x
  let op := w / 2 ^ 26
  !([0x00, 0x01, 0x02, 0x03, 0x04, 0x05, 0x06, 0x07, 0x08, 0x09, 0x0A, 0x0B, 0x10, 0x11, 0x12, 0x13, 0x14, 0x15, 0x20, 0x21,
     0x22, 0x23, 0x24, 0x25, 0x26, 0x27, 0x28, 0x29, 0x2A, 0x2C, 0x2D, 0x2E, 0x30, 0x31, 0x32, 0x38, 0x39, 0x3A, 0x3B, 0x3C,
     0x3F].contains op) || (op = 0x38 && bits w 16 15 = 3)

/-- Codes of ENGINE_FAULT that end no run (R138): an uncorrectable word in program memory met at the fetch, which is copied
from another engine, and a corrected error there. -/
def progUpset : Nat := 0x100
/-- A corrected error in program memory. -/
def progCorrected : Nat := 0x101

/-- ENGINE_FAULT (R138, R190): the fault that the engine's run has met, an undefined word at its PC, an uncorrectable scratch word
(0x40) or a register parity error (0x41) found in the run, or an upset of the program word at its PC, which is repaired or
corrected and counted. -/
def execEngineFault (p : Fin 272) (code : Nat) (s : State) : Out :=
  .next (
    let e := s.engine p.val
    match e.run with
    | none => s
    | some x =>
      let free := x.fault = 0 && !x.ended
      if free && code = progUpset then s.bump Obj.ECC_REPAIR
      else if free && code = progCorrected then s.bump Obj.ECC_CORR
      else if (x.fault ≠ 0 && x.fault = code) || (free && (code = 0x40 || code = 0x41)) ||
          (free && code = 0x01 && x.waiting.isNone && x.leasing.isNone && x.flash.isNone && s.undefinedAt e x && !s.runsRom x) then
        (s.setEngine p.val { e with lastFault := code, run := some { x with fault := code } }).handleFault p.val
          { x with fault := code } Obj.ENG_FAULTS
      else s)

/-- The leases that engine `p` holds will end in a revocation (R275). -/
def State.markLeases (s : State) (p : Nat) : State :=
  s.fab.leases.foldl (fun (t : State) e => if e.2.holder = p then t.setLease e.1 { e.2 with bad := true } else t) s

/-- CLAIM_TIMEOUT (R116): a claim not ended within CLAIM_ROLLS rolls of its grant is revoked and handled as a fault run. -/
def execClaimTimeout (p : Fin 272) (s : State) : Out :=
  .next (match (s.engine p.val).run with
    | none => s
    | some x =>
      let s1 := (s.setEngine p.val { s.engine p.val with lastFault := 0x50 }).markLeases p.val
      if x.kind = .frameEntry || x.ended || s.nat Obj.ROLL_COUNT < x.grant + s.nat Obj.CLAIM_ROLLS then s
      else if x.kind = .endEntry then (s1.handleFault p.val x Obj.CLAIM_TIMEOUTS).bump Obj.CLAIM_TIMEOUTS
      else s1.handleFault p.val x Obj.CLAIM_TIMEOUTS)

end Sys2Proof.Machine
end

