-- ==== Sys2Proof/Machine/Calib.lean ====
section
/-! DEFINITION. Calibration (07_calibration.md R231-R248): the runs, the two-point steps, the clapper refresh, the drift fit,
offset updates and scene refinement. -/

namespace Sys2Proof.Machine

/-! ## Runs (R231-R233) -/

/-- The kind of R248 that a run of CAL_START's KIND counts as. -/
def calKindOf (kind : Nat) : Nat := if kind = 3 then 2 else if kind = 4 then 4 else 1

/-- A load or a save owns the inactive banks (R233, R253, R258). -/
def State.banksTaken (s : State) : Bool :=
  s.cal.load.isSome || s.cal.partner.isSome || decide (s.cal.save.map (·.1) = some 2)

/-- Offset updates are deferred (R255): a load or commit with LOAD_UOF_MODE 1 has copied UOF, and a region that it loaded has
neither swapped nor lost VERIFIED. -/
def State.deferring (s : State) : Bool :=
  decide (s.cal.load.map (·.mode) = some 1) || s.cal.uofWait.any fun g => (s.bank (s.bankNo g true)).verified

/-- CAL_STATE with no run in progress. -/
def State.calIdle (s : State) : State := s.put Obj.CAL_STATE (if s.cal.deferred then 6 else 0)

/-- A CAL_START is refused (R232); where its kind is one of R248's, that was the last attempt of the kind. -/
def State.calRefuse (s : State) (kind : Nat) (code : Option Nat) : State :=
  let s1 := s.bump Obj.CAL_REFUSED
  match code with
  | none => s1
  | some c =>
    let s2 := s1.put Obj.CAL_RESULT c
    if kind = 0 || 4 < kind then s2 else s2.put (Obj.CALK_LAST_RESULT (calKindOf kind)) c

/-- A run is accepted; its first step is taken by the command of its kind. The scene estimates are lost (R245), so an update
that was due is not made from them, and a refresh that waited (R255) is this one. -/
def State.calAccept (s : State) (kind point : Nat) (boot : Bool := false) : State :=
  (({ s with cal := { s.cal with
      run := some { kind := kind, point := point, boot := boot }
      sceneDirty := true
      sceneDue := none
      deferred := s.cal.deferred && kind ≠ 3
      zeroDone := s.cal.zeroDone && kind = 2 } }.put Obj.CAL_STATE kind).put Obj.CAL_RESULT 1).put Obj.CAL_FRAMES 0

/-- CAL_GEN is not acceptable (R237). -/
def State.calGenBad (s : State) : Bool :=
  s.nat Obj.CAL_GEN = 0 || (List.range 64).any fun g => (s.bank (s.bankNo g false)).gen = s.nat Obj.CAL_GEN

/-- A clapper refresh is asked for (R240, R255): it starts, or waits with CAL_STATE 6. -/
def State.askRefresh (s : State) (boot : Bool := false) : State :=
  if s.deferring then ({ s with cal := { s.cal with deferred := true } }).put Obj.CAL_STATE 6
  else s.calAccept 3 0 boot

/-- A landed CAL_START (R231, R232, R233, R237, R238, R246, R255). -/
def State.calStart (s : State) (arg : Nat) : State :=
  let kind := bits arg 7 0
  let p := bits arg 15 8
  match s.cal.run with
  | some r =>
    if kind = 5 then { s with cal := { s.cal with run := some { r with abort := true } } } else s.calRefuse kind (some 0x10)
  | none =>
    if kind = 5 then
      let s1 := s.bump Obj.CAL_REFUSED
      let s2 := { s1 with cal := { s1.cal with zeroDone := false, ownBanks := false } }
      if s.cal.ownBanks then s2.put Obj.DRIFT_DONE 0 else s2
    else if kind = 3 then s.askRefresh
    else if kind = 0 || 5 < kind then s.calRefuse kind none
    else if s.banksTaken then s.calRefuse kind (some 0x12)
    else if kind = 1 then (if s.calGenBad then s.calRefuse kind (some 0x13) else s.calAccept 1 0)
    else if kind = 2 then
      if s.cal.zeroDone && s.cal.zeroCommit = s.shadow.converterCommits then s.calAccept 2 0 else s.calRefuse kind (some 0x11)
    else if p ≠ 0 && !(p < s.nat Obj.DRIFT_POINTS && (List.range p).all (s.nat Obj.DRIFT_DONE).testBit) then
      s.calRefuse kind (some 0x11)
    else if p = 0 && s.calGenBad then s.calRefuse kind (some 0x13)
    else s.calAccept 4 p

/-- CAL_START (R231). -/
def execCalStart (l : Landing) (s : State) : Out := .next (s.land 0x70 l fun t => t.calStart l.arg.toNat)

/-- The opening CLAPPER stroke (R240), barred while SUN_TRIPPED is 1 (R242). -/
def State.calOpen (s : State) : State :=
  match s.cal.run with
  | none => s
  | some r =>
    if !r.closed || s.nat Obj.SUN_TRIPPED = 1 then s
    else { s with cal := { s.cal with run := some { r with closed := false } } }.fire 0x50
      { level := 5, arg := BitVec.ofNat 32 (s.nat Obj.CLAP_OPEN_PROFILE), src := .calibration }

/-- THE RUN IN PROGRESS FAILS (R236, R260): result and bell 0x0703, banks released, the flag opened. -/
def State.calFail (s : State) (code : Nat) : State :=
  match s.cal.run with
  | none => s
  | some r =>
    let s1 := s.calOpen
    let s2 := { s1 with cal := { s1.cal with
      run := none
      zeroDone := false
      ownBanks := if r.kind = 3 then s1.cal.ownBanks else false } }
    let s3 := (if r.kind = 4 then s2.put Obj.DRIFT_DONE 0 else s2).freePorts 0x8000
    (((s3.put Obj.CAL_RESULT code).put (Obj.CALK_LAST_RESULT (calKindOf r.kind)) code).calIdle).bell 0x0703

/-- THE RUN FINISHES (R236, R248): bell 0x0702; `count` tells that its kind is counted. -/
def State.calDone (s : State) (kind : Nat) (count : Bool) : State :=
  let s1 := State.freePorts { s with cal := { s.cal with run := none } } 0x8000
  let s2 := (s1.put Obj.CAL_RESULT 2).put (Obj.CALK_LAST_RESULT kind) 2
  let s3 := if count then (s2.bump (Obj.CALK_COUNT kind)).put (Obj.CALK_LAST_DLT kind) s2.now.toNat else s2
  s3.calIdle.bell 0x0702

/-- CAL_ABORT (R232). -/
def execCalAbort (s : State) : Out :=
  .next (match s.cal.run with
    | some r => if r.abort then s.calFail 0x23 else s
    | none => s)

/-! ## First steps -/

/-- A bank changes as one of the inactive banks: the views of the banks follow. -/
def State.setInactive (s : State) (g : Nat) (b : Bank) : State := (s.setBank (s.bankNo g true) b).bankView g

/-- THE COPY OF R237 in region `g`: records and J6F words; GEN stays, VERIFIED is cleared. A record that cannot be read is
copied as programs read it (R138). -/
def State.copyBank (s : State) (g : Nat) : State :=
  let a := s.bankNo g false
  let i := s.bankNo g true
  let b := (s.bank a).write tailOff ((s.bank i).read tailOff 4 ++ [0])
  let bad := (List.range 491520).filter fun k => s.recordBad a (k % 768) (k / 768)
  let b' := bad.foldl (fun (c : Bank) k => c.write (16 * k) (leBytes 16 (s.record a (k % 768) (k / 768)))) b
  let lo := bankAddr i 0
  ({ s with eccBad := s.eccBad.filter fun w => w < lo || lo + 2 ^ 23 ≤ w }).setInactive g b'

/-- Accesses at a bank port for all records and J6F words of a region: a 32-byte write holds two records (R263); what is read is
counted in the same blocks (log entry 28). -/
def bankAccesses : Nat := 245820

/-- The copy in every region, read and written under class AC2 (R266); the calibration sequencer owns the inactive banks (R233,
R237). -/
def State.copyBanks (s : State) : State :=
  let s1 := ((List.range 64).foldl State.copyBank s).owePorts 2 (2 * bankAccesses)
  { s1 with cal := { s1.cal with ownBanks := true } }.put Obj.DRIFT_DONE 0

/-- The accepted run of a kind, before its first step. -/
def State.calReady (s : State) (kind : Nat) : Option CalRun :=
  s.cal.run.filter fun r => r.kind = kind && !r.begun && !r.abort

/-- The run starts counting at once. -/
def State.calCount (s : State) (r : CalRun) : State :=
  { s with cal := { s.cal with run := some { r with begun := true, step := 4, need := s.nat Obj.CAL_NAVG } } }

/-- The run fires the closing stroke and waits for SHUTTER (R240, steps 1 and 2). -/
def State.calClose (s : State) (r : CalRun) (need : Nat) : State :=
  { s with cal := { s.cal with run := some { r with
      begun := true, step := 2, closed := true, t0 := s.now, need := need } } }.fire 0x50
    { level := 5, arg := BitVec.ofNat 32 (s.nat Obj.CLAP_CLOSE_PROFILE), src := .calibration }

/-- THE FIRST STEP of a run that writes the inactive banks: the calibration sequencer takes every region's port lease and keeps it
until the run finishes or fails (R233, R276); while another holds one, the step waits. -/
def State.calPorts (s : State) (go : State → State) : State :=
  let s1 := s.holdPorts 0x8000
  if s1.portsHeld 0x8000 then go s1 else s1

/-- CAL_TWO_POINT_ZERO (R237): the copy, and the averaging of the low blackbody. -/
def execCalTwoPointZero (s : State) : Out :=
  .next (match s.calReady 1 with
    | some r => s.calPorts fun t => t.copyBanks.calCount r
    | none => s)

/-- CAL_TWO_POINT_FULL_SCALE (R238). -/
def execCalTwoPointFullScale (s : State) : Out :=
  .next (match s.calReady 2 with
    | some r => s.calPorts fun t => t.calCount r
    | none => s)

/-- CAL_CLAPPER_REFRESH (R240). -/
def execCalClapperRefresh (s : State) : Out :=
  .next (match s.calReady 3 with
    | some r => s.calClose r (s.nat Obj.CLAP_AVG)
    | none => s)

/-- CAL_DRIFT_POINT (R246): point 0 makes the copy; DRIFT_SRC chooses the clapper or a source that is presented. -/
def execCalDriftPoint (point : Nat) (s : State) : Out :=
  .next (match s.calReady 4 with
    | some r =>
      if r.point ≠ point then s
      else s.calPorts fun t =>
        let s1 := if point = 0 then t.copyBanks else t
        if s.nat Obj.DRIFT_SRC = 0 then s1.calClose r (s.nat Obj.CAL_NAVG) else s1.calCount r
    | none => s)

/-- CLAP_REFRESH_TIMEOUT (R240): no frame marked SHUTTER within CLAP_TIMEOUT of the stroke. -/
def execClapRefreshTimeout (s : State) : Out :=
  .next (match s.cal.run with
    | some r =>
      if r.step = 2 && s.nat Obj.CLAP_TIMEOUT * 64000000 ≤ (s.now - r.t0).toNat then s.calFail 0x24 else s
    | none => s)

/-! ## The frames of a run (R234, R236, R240-R242) -/

/-- A frame starts: the kind that the run gives it (R234), 6 between counted frames, where stage 7 is only off, and whether it is the first counted
one. `set2` is the frame's rule-2 marking. -/
def State.calFrameStart (s : State) (set2 : BitVec 4) : State × Nat × Bool :=
  match s.cal.run with
  | none => (s, 0, false)
  | some r =>
    if r.step = 4 && r.started < r.need && set2 = 0 then
      ({ s with cal := { s.cal with run := some { r with started := r.started + 1 } } }, r.kind, r.started = 0)
    else if r.step = 4 && r.started ≠ 0 && r.started < r.need then (s, 6, false)
    else (s, 0, false)

/-- Counted frames start from zero (R234): every count, so that a program that does not accumulate leaves zero, and the sums of
rows without an item; the sums of the others start from zero in their items, since the filter state may still be in use. -/
def State.calClear (s : State) (f : Frame) : State :=
  (List.range 64).foldl (fun (t : State) g =>
    ((List.range 640).filter fun y => !f.hasItem g y).foldl (fun (u : State) y =>
      u.wipe (fstBase g + 4 * 768 * y) (fstBase g + 4 * 768 * (y + 1))) (t.wipe (fstBase g + 0x1E0000) (fstBase g + 0x2D0000))) s

/-- The sum of all 1,920 cluster temperatures as last converted, mK above 173.15 K. -/
def State.cltSum (s : State) : Nat := ((List.range 1920).map fun c => (Cells.get s.focal.clt c 0).toNat).sum

/-- Frames that the refresh skips (R240): CLAP_SKIP, or 12.5 ms in frames, rounded up. -/
def State.clapSkip (s : State) (f : Frame) : Nat :=
  if s.nat Obj.CLAP_SKIP = 0 then (800000000 + f.tFrame - 1) / max 1 f.tFrame else s.nat Obj.CLAP_SKIP

/-- A frame's last slot has ended (R240, R241, R246): the run waits, skips, counts or fails; after the last counted frame it
fires the opening stroke and finishes. -/
def State.calFrameEnd (s : State) (f : Frame) : State :=
  match s.cal.run with
  | none => s
  | some r =>
    let put (q : CalRun) : State := { s with cal := { s.cal with run := some q } }
    if r.step = 2 then
      if !f.shutter then s
      else if s.clapSkip f ≤ 1 then put { r with step := 4 } else put { r with step := 3, skip := s.clapSkip f - 1 }
    else if r.step = 3 then
      if !f.shutter then s
      else if r.skip ≤ 1 then put { r with step := 4, skip := 0 } else put { r with skip := r.skip - 1 }
    else if r.step = 4 && f.calKind = r.kind then
      if r.closed && !f.shutter then s.calFail 0x24
      else if r.kind = 4 && !r.closed && f.shutter then s.calFail 0x21
      else
        let n := r.frames + 1
        let t := s.cltSum
        let q : CalRun := { r with
          frames := n, last := f.num, tSum := r.tSum + t, tFirst := some (r.tFirst.getD t), tLast := t
          step := if n = r.need then 5 else 4 }
        let s1 := (put q).put Obj.CAL_FRAMES n
        if n = r.need then (s1.put Obj.CAL_STATE 5).calOpen else s1
    else s

/-! ## The results (R237-R247) -/

/-- SUM of a pixel (R234). -/
def State.calSum (s : State) (g i : Nat) : Int := s.i32 (fstBase g + 4 * i)
/-- CNT of a pixel (R234). -/
def State.calCnt (s : State) (g i : Nat) : Nat := s.le (fstBase g + 0x1E0000 + 2 * i) 2
/-- A pixel is accepted (R234): its count reaches half the frames, rounded up. -/
def State.calOk (s : State) (r : CalRun) (g i : Nat) : Bool := (r.frames + 1) / 2 ≤ s.calCnt g i && s.calCnt g i ≠ 0
/-- Its mean. -/
def State.calMean (s : State) (g i : Nat) : Int := roundDiv (s.calSum g i) (s.calCnt g i)
/-- Its bit in ACC_MAP. -/
def State.accBit (s : State) (g i : Nat) : Bool := (s.byte (fstBase g + 0x2D0000 + i / 8)).getLsbD (i % 8)

/-- Pixels with a property, over the package, as region and pixel. -/
def pixelsWith (p : Nat → Nat → Bool) : List (Nat × Nat) :=
  (List.range 64).flatMap fun g => ((List.range 491520).filter (p g)).map fun i => (g, i)

/-- Record of pixel `i` in region `g`'s bank. -/
def State.pixRecord (s : State) (g : Nat) (inactive : Bool) (i : Nat) : Nat :=
  s.record (s.bankNo g inactive) (i % 768) (i / 768)

/-- Put a record of an inactive bank. -/
def State.putRecord (s : State) (g i r : Nat) : State := s.bankWrite (s.bankNo g true) (16 * i) (leBytes 16 r)

/-- Change the records of every region's inactive bank where `f` gives a new one, all from the same state. -/
def State.mapRecords (s : State) (f : Nat → Nat → Option Nat) : State :=
  (List.range 64).foldl (fun (t : State) g => (List.range 491520).foldl (fun (u : State) i =>
    match f g i with
    | some r => u.putRecord g i r
    | none => u) t) s

/-- Write ACC_MAP. -/
def State.putAcc (s : State) (p : Nat → Nat → Bool) : State :=
  (List.range 64).foldl (fun (t : State) g => t.poke (fstBase g + 0x2D0000) ((List.range 61440).map fun k =>
    BitVec.ofNat 8 (((List.range 8).map fun b => if p g (8 * k + b) then 2 ^ b else 0).sum))) s

/-- The rounded package mean of a quantity over pixels; 0 over none. -/
def meanOver (ps : List (Nat × Nat)) (v : Nat → Nat → Int) : Int := roundDiv ((ps.map fun e => v e.1 e.2).sum) (max 1 ps.length)

/-- CAL_REJECT (R238). -/
def State.reject (s : State) (n : Nat) : State := s.put Obj.CAL_REJECT n

/-- The DEF = 0 neighbours in the same region that a record's SUB pattern names (R202, R239). -/
def State.subNeighbours (s : State) (g i : Nat) : List Nat :=
  let r := s.pixRecord g true i
  let sel := if s.natR g Obj.SUB_SIZE = 0 then nbrSelected nbr3 (recSub r)
    else if recSub r = 0 then [] else nbrSelected nbr5 (Config.subTable (recSub r)).toNat
  (sel.filterMap fun (d : Int × Int) =>
    let x : Int := (i % 768 : Nat) + d.1
    let y : Int := (i / 768 : Nat) + d.2
    if 0 ≤ x ∧ x < 768 ∧ 0 ≤ y ∧ y < 640 then some (768 * y + x).toNat else none).filter fun j =>
      recDef (s.pixRecord g true j) = 0

/-- A record with new GN, DO1, DO2 and DG1. -/
def withGains (r : Nat) (gn do1 do2 dg1 : Int) : Nat :=
  putBits (putBits (putBits (putBits r 35 20 (wrapNat 16 gn)) 47 36 (wrapNat 12 do1)) 57 48 (wrapNat 10 do2)) 67 58 (wrapNat 10 dg1)

/-- Step 1 of R239: pixels whose class is set in DEF_MASK take the rounded means of their neighbours. -/
def State.fillDefects (s : State) : State :=
  s.mapRecords fun g i =>
    let r := s.pixRecord g true i
    if !(s.natR g Obj.DEF_MASK).testBit (recDef r) then none
    else
      let ns := (s.subNeighbours g i).map (s.pixRecord g true)
      if ns.isEmpty then none
      else
        let m (f : Nat → Int) : Int := roundDiv ((ns.map f).sum) ns.length
        some (withGains r (m fun n => recGn n) (m recDo1) (m recDo2) (m recDg1))

/-- THE RESULT IS COMPLETED (R239): defects, GEN, read-back, VERIFIED; a difference fails the run with 0x33. Writes and the
read-back are charged to AC2 (R266). -/
def State.completeResult (s : State) (kind : Nat) (readBackOk : Bool) : State :=
  let s1 := s.fillDefects.owePorts 2 (2 * bankAccesses)
  let gen := leBytes 4 (s1.nat Obj.CAL_GEN)
  let s2 := (List.range 64).foldl (fun (t : State) g => (t.bankWrite (t.bankNo g true) tailOff gen).bankView g) s1
  if !readBackOk then s2.calFail 0x33
  else
    let s3 := (List.range 64).foldl (fun (t : State) g => (t.setVerified (t.bankNo g true) true).bankView g) s2
    { s3 with cal := { s3.cal with ownBanks := false, zeroDone := false, uofWait := [] } }.calDone kind true

/-- The zero step ends (R237). -/
def State.finishZero (s : State) (r : CalRun) : State :=
  let ok := pixelsWith (s.calOk r)
  if ok.isEmpty then (s.reject 31457280).calFail 0x31
  else
    let s1 := s.mapRecords fun g i =>
      if !s.calOk r g i then none
      else some (putBits (putBits (s.pixRecord g true i) 19 0
        (wrapNat 20 (clampInt (s.calMean g i) (-524288) 524287))) 83 68 0)
    let s2 := ((s1.putAcc (s.calOk r)).reject (31457280 - ok.length)).owePorts 2 bankAccesses
    { s2 with cal := { s2.cal with
      zeroDone := true
      zeroCommit := s2.shadow.converterCommits
      t0 := (r.tSum : Rat) / (1920 * r.frames) } }.calDone 1 false

/-- The full-scale step ends (R238, R239). -/
def State.finishFull (s : State) (r : CalRun) (readBackOk : Bool) : State :=
  let t1 : Rat := (r.tSum : Rat) / (1920 * r.frames)
  let delta (g i : Nat) : Int := s.calMean g i - recOfs (s.pixRecord g true i)
  let good (g i : Nat) : Bool := s.calOk r g i && s.accBit g i && recDef (s.pixRecord g true i) = 0 && 0 < delta g i
  let ps := pixelsWith good
  let mean := meanOver ps delta
  let gn (g i : Nat) : Int := roundDivS (16384 * mean) (delta g i)
  let takes (g i : Nat) : Bool := good g i && 4096 ≤ gn g i && gn g i ≤ 65535
  let taken := (pixelsWith takes).length
  let clean := (pixelsWith fun g i => recDef (s.pixRecord g true i) = 0).length
  let s1 := ((s.reject (31457280 - taken)).put Obj.CAL_DELTA mean).put Obj.CAL_TPLANE (roundRat ((s.cal.t0 + t1) / 2) + 173150)
  if s.nat Obj.CAL_DT_MAX < |t1 - s.cal.t0| then s1.calFail 0x30
  else if 2 * taken < clean || taken = 0 then s1.calFail 0x31
  else
    (s1.mapRecords fun g i =>
      if takes g i then some (putBits (s.pixRecord g true i) 35 20 (gn g i).toNat) else none).completeResult 1 readBackOk

/-- The word [95:64] of an active record (R235): the record with a new UOF and DEF. -/
def offsetWord (r : Nat) (uof : Int) (defc : Nat) : Nat := bits (putBits (putBits r 83 68 (wrapNat 16 uof)) 87 84 defc) 95 64

/-- An offset update is ready (R235). -/
def State.offsetReady (s : State) (words : Store) : State :=
  { s with cal := { s.cal with update := some (List.range 64), applied := false, uof := words } }

/-- The place of a pixel's word in an update. -/
def uofKey (g i : Nat) : Nat := 2 ^ 40 + g * 2 ^ 24 + i

/-- Division by a GN of 0 is not given: the quotient is free (log entry 7). -/
def State.divGn (s : State) (k : Nat) (n : Int) (gn : Nat) : Int :=
  if gn = 0 then signedOf 20 (Config.freeBits (s.free + k)).toNat else roundDiv n gn

/-- The clapper refresh ends (R240 step 6). -/
def State.finishClapper (s : State) (r : CalRun) : State :=
  let ok := pixelsWith (s.calOk r)
  let s1 := s.reject (31457280 - ok.length)
  if ok.isEmpty then s1.calFail 0x31
  else
    let mean := meanOver (ok.filter fun e => recDef (s.pixRecord e.1 false e.2) = 0) s.calMean
    let raw (e : Nat × Nat) : Int :=
      let rc := s.pixRecord e.1 false e.2
      recUof rc + s.divGn (491520 * e.1 + e.2) ((s.calMean e.1 e.2 - mean) * 16384) (recGn rc)
    let sat := (ok.filter fun e => raw e < -32768 || 32767 < raw e).length
    let words : Store := ok.map fun e =>
      let rc := s.pixRecord e.1 false e.2
      (uofKey e.1 e.2, (offsetWord rc (clampInt (raw e) (-32768) 32767) (recDef rc) : Int))
    ((((s1.drawn 31457280).bump Obj.UOF_SAT sat).offsetReady words).calDone 2 true)

/-- ΔT at the centre of CU `k` of region `g` in a frame (R199, R246). -/
def State.cuDelta (s : State) (g : Nat) (f : BitVec 32) (k : Nat) : Int :=
  deltaT (s.tCu g f ((k % 24 : Nat) : Int) ((k / 24 : Nat) : Int)) (match s.page? f with
    | some p => p.get g Obj.T_REF
    | none => s.getR g Obj.T_REF)

/-- The CU, within its region, of pixel `i`. -/
def cuOfPixel (i : Nat) : Nat := i / 768 / 32 * 24 + i % 768 / 32

/-- ΔT of a CU at drift point `p` (R234). -/
def State.dpt (s : State) (g p k : Nat) : Int := s.i32 (fstBase g + 0x2DF000 + 4 * (480 * p + k))

/-- DRIFT_POINT_T of point `p`. -/
def State.pointT (s : State) (p : Nat) : Int := signedOf 32 (s.getLe Obj.DRIFT_POINT_T (4 * p) 4)

/-- DO1 and DO2 of a pixel from its points (R247), before the clamp; free where two points have one temperature (log entry 7). -/
def driftFit (points : Nat) (t y : Nat → Int) (free : Int × Int) : Int × Int :=
  if t 1 = t 0 || (points = 3 && (t 2 = t 0 || t 2 = t 1)) then free
  else
    let b01 : Rat := ((y 1 - y 0 : Int) : Rat) / (t 1 - t 0 : Int)
    let c : Rat := if points = 3 then (((y 2 - y 0 : Int) : Rat) / (t 2 - t 0 : Int) - b01) / (t 2 - t 1 : Int) else 0
    (roundRat (64 * (b01 - c * (t 1 + t 0 : Int))), roundRat (2 ^ 20 * c))

/-- THE DRIFT FIT (R247). -/
def State.fitDrift (s : State) (r : CalRun) (y : Nat → Nat → Int) (readBackOk : Bool) : State :=
  let n := s.nat Obj.DRIFT_POINTS
  let near := (List.range n).any fun a => (List.range a).any fun b =>
    (s.pointT a - s.pointT b).natAbs * 1000 < s.nat Obj.DRIFT_MIN_SEP * 256
  if near then s.calFail 0x32
  else
    let fit (g i : Nat) : Int × Int :=
      let rc := s.pixRecord g true i
      let ys (p : Nat) : Int := if p = r.point then y g i else signedOf 16 (rc / 2 ^ (96 + 16 * p))
      let fv := (Config.freeBits (s.free + 491520 * g + i)).toNat
      driftFit n (fun p => s.dpt g p (cuOfPixel i)) ys (signedOf 12 fv, signedOf 10 (fv / 4096))
    let clamped (g i : Nat) : Bool := clampInt (fit g i).1 (-2047) 2047 ≠ (fit g i).1 || clampInt (fit g i).2 (-511) 511 ≠ (fit g i).2
    let marks := pixelsWith fun g i => s.accBit g i && clamped g i && recDef (s.pixRecord g true i) = 0
    let s1 := s.mapRecords fun g i =>
      let rc := s.pixRecord g true i
      let usr := putBits rc 127 96 (bits (s.pixRecord g false i) 127 96)
      if !s.accBit g i then some usr
      else
        let q := putBits (putBits usr 47 36 (wrapNat 12 (clampInt (fit g i).1 (-2047) 2047))) 57 48
          (wrapNat 10 (clampInt (fit g i).2 (-511) 511))
        some (if clamped g i && recDef rc = 0 then putBits q 87 84 5 else q)
    ((s1.drawn 31457280).bump Obj.DRIFT_OUTLIERS marks.length).completeResult 4 readBackOk

/-- A drift point ends (R246); the last one fits (R247). -/
def State.finishDrift (s : State) (r : CalRun) (readBackOk : Bool) : State :=
  let acc (g i : Nat) : Bool := s.calOk r g i && (r.point = 0 || s.accBit g i)
  let ok := pixelsWith acc
  let s0 := s.reject (31457280 - ok.length)
  if s.nat Obj.CAL_DT_MAX * 1920 < max (r.tLast - r.tFirst.getD 0) (r.tFirst.getD 0 - r.tLast) then s0.calFail 0x30
  else if ok.isEmpty then s0.calFail 0x31
  else
    let mean := meanOver (ok.filter fun e => recDef (s.pixRecord e.1 false e.2) = 0) s.calMean
    let y (g i : Nat) : Int := s.calMean g i - mean
    let beyond (g i : Nat) : Bool := acc g i && sat16 (y g i) ≠ y g i && recDef (s.pixRecord g true i) = 0
    let s1 := s0.mapRecords fun g i =>
      if !acc g i then none
      else
        let rc := s.pixRecord g true i
        let a := if r.point = 0 then putBits rc 111 96 (wrapNat 16 (sat16 (y g i)))
          else if r.point = 1 then putBits rc 127 112 (wrapNat 16 (sat16 (y g i))) else rc
        some (if beyond g i then putBits a 87 84 5 else a)
    let s2 := (List.range 64).foldl (fun (t : State) g => t.poke (fstBase g + 0x2DF000 + 1920 * r.point)
      ((List.range 480).flatMap fun k => leBytes 4 (wrapNat 32 (s.cuDelta g r.last k)))) (s1.putAcc acc)
    let total := ((List.range 64).map fun g => ((List.range 480).map (s.cuDelta g r.last)).sum).sum
    let s3 := ((s2.putLe Obj.DRIFT_POINT_T (4 * r.point) 4 (wrapNat 32 (roundDiv total 30720))).bump Obj.DRIFT_OUTLIERS
      (pixelsWith beyond).length).put Obj.DRIFT_DONE (putBit (s.nat Obj.DRIFT_DONE) r.point true)
    if r.point + 1 = s.nat Obj.DRIFT_POINTS then s3.fitDrift r y readBackOk else s3.calDone 4 false

/-- CAL_RUN_FINISH (R236-R247): the package merge of the last counted frame is complete. -/
def execCalRunFinish (readBackOk : Bool) (s : State) : Out :=
  .next (match s.cal.run with
    | none => s
    | some r =>
      let merged := match s.pipe.merged with
        | some m => decide ((m - r.last).toNat < 2 ^ 31)
        | none => false
      if r.step ≠ 5 || !merged || (r.kind ≠ 3 && !s.portsPaid 2) then s
      else match r.kind with
        | 1 => s.finishZero r
        | 2 => s.finishFull r readBackOk
        | 3 => s.finishClapper r
        | _ => s.finishDrift r readBackOk)

/-! ## Offset updates (R235) -/

/-- The update is over once every region is written and its gate has passed. -/
def State.updateOver (s : State) : State :=
  if s.cal.applied && decide (s.cal.update = some []) then
    { s with cal := { s.cal with update := none, applied := false, uof := [] } }
  else s

/-- THE PORT OF REGION `g` FOR AN OFFSET UPDATE (R233, R270): held by a run of the sequencer, taken, or asked for; with what the
lease is afterwards, `none` while the write waits for the lease or for a CPORT stick of AC2. -/
def State.updatePort (s : State) (g : Nat) : State × Option Lease :=
  let r := leaseNumber 1 0 g
  let l := s.lease r
  let keeps := (s.cal.run.map fun x => x.begun && x.kind ≠ 3).getD false
  let free := l.holder = 0xFFFF && l.waiting.isEmpty && !l.rolling
  if !(l.holder = 0x8000 || free) then
    (if l.waiting.any fun w => w.1 = 0x8000 then s else s.setLease r { l with waiting := l.waiting ++ [(0x8000, 0)] }, none)
  else if !s.maySpend (64 + g) 2 then (s.stallRoll (64 + g) 2, none)
  else (s, some (if l.holder = 0x8000 && keeps then l else { l with holder := 0xFFFF, grant := s.nat Obj.ROLL_COUNT, bad := false }))

/-- OFFSET_UPDATE_WRITE (R233, R235): the words of region `g` are written while no gated frame has an unended item there, under the
port's lease, and a gate that waited for them is released. -/
def execOffsetUpdateWrite (g : Fin 64) (s : State) : Out :=
  .next (
    let left := s.cal.update.getD []
    let busy := (s.region g.val).frames.any fun x => !x.endDone && match s.frame? x.num with
      | some f => f.gated.getLsbD g.val
      | none => false
    if !left.contains g.val || busy then s
    else match s.updatePort g.val with
    | (t, none) => t
    | (_, some l) =>
      let b := s.bankNo g.val false
      let mine := s.cal.uof.filter fun (e : Nat × Int) => e.1 / 2 ^ 24 = 2 ^ 16 + g.val
      let s1 := mine.foldl (fun (t : State) e =>
        let i := e.1 % 2 ^ 24
        if t.recordBad b (i % 768) (i / 768) then t else t.bankWrite b (16 * i + 8) (leBytes 4 e.2.toNat)) s
      let s1 := (s1.setLease (leaseNumber 1 0 g.val) l).owe (64 + g.val) 2 mine.length
      let s2 : State := { s1 with cal := { s1.cal with update := some (left.filter (· ≠ g.val)) } }
      (s2.focal.frames.foldl State.gateHeld s2).updateOver)

/-- A region that swaps its bank takes no offsets of the old generation any more (R255). -/
def State.dropUpdate (s : State) (swapped : BitVec 64) : State :=
  { s with cal := { s.cal with
    update := s.cal.update.map fun (gs : List Nat) => gs.filter fun g => !swapped.getLsbD g
    uofWait := s.cal.uofWait.filter fun g => !swapped.getLsbD g } }.updateOver

/-! ## Scene refinement (R243-R245) -/

/-- The estimate of a pixel. -/
def State.sceneE (s : State) (g i : Nat) : Int := signedOf 16 (s.le (fstBase g + 0x1E0000 + 2 * i) 2)

/-- The estimates of region `g` go to zero. -/
def State.sceneZero (s : State) (g : Nat) : State := s.wipe (fstBase g + 0x1E0000) (fstBase g + 0x1E0000 + 983040)

/-- SCENE_UPDATE (R244, R248): SCENE_PERIOD moving frames are over and the last of them is merged. -/
def execSceneUpdate (s : State) : Out :=
  .next (match s.cal.sceneDue, s.pipe.merged with
    | some f, some m =>
      if 2 ^ 31 ≤ (m - f).toNat || s.deferring || s.cal.update.isSome || s.cal.run.isSome then s
      else
        let rule3 := (s.nat Obj.SET_PENDING).testBit 4
        let ps := pixelsWith fun g i => s.sceneE g i ≠ 0
        let step (e : Nat × Nat) : Int :=
          let d := s.divGn (491520 * e.1 + e.2) (s.sceneE e.1 e.2 * 2048) (recGn (s.pixRecord e.1 false e.2))
          let lim : Int := s.get Obj.SCENE_STEP_MAX
          if rule3 then d else clampInt d (-lim) lim
        let beyond (e : Nat × Nat) : Bool :=
          s.nat Obj.SCENE_UOF_LIMIT < (recUof (s.pixRecord e.1 false e.2) + step e).natAbs
        let words : Store := ps.map fun e =>
          let rc := s.pixRecord e.1 false e.2
          (uofKey e.1 e.2, (if beyond e then offsetWord rc (recUof rc) 6 else offsetWord rc (recUof rc + step e) (recDef rc) : Nat))
        let s1 := (List.range 64).foldl State.sceneZero (((s.drawn 31457280).bump Obj.SCENE_FLAGGED
          (ps.filter beyond).length).offsetReady words)
        ((({ s1 with cal := { s1.cal with sceneDue := none } }.put Obj.SCENE_FRAMES 0).bump (Obj.CALK_COUNT 3)).put
          (Obj.CALK_LAST_DLT 3) s1.now.toNat).put (Obj.CALK_LAST_RESULT 3) 2
    | _, _ => s)

/-- SCENE REFINEMENT AT A GATE (R243, R245): estimates that a suspension spoilt are zeroed, and the regions that update their
estimates in this frame are chosen; SCENE_STATE and SCENE_FRAMES follow. -/
def State.sceneGate (s : State) (f : Frame) (gimbal : BitVec 64) : State × BitVec 64 :=
  let on := (List.range 64).filter fun g => s.natR g Obj.SCENE_ENABLE = 1
  let counting := s.focal.frames.any fun x => x.counted && s.fab.regions.any fun r => r.frames.any fun y => y.num = x.num && !y.endDone
  let held := s.cal.run.isSome || f.shutter || counting
  let dirty := if f.shutter then true else s.cal.sceneDirty
  let lost := if f.filterChg then List.range 64
    else (List.range 64).filter fun g => f.swapped.getLsbD g || (f.mixedGen && f.genMap.getLsbD g)
  let s1 := if held then { s with cal := { s.cal with sceneDirty := dirty } }
    else
      let t : State := { s with cal := { s.cal with sceneDirty := false } }
      (if dirty then List.range 64 else lost).foldl State.sceneZero t
  let moves (g : Nat) : Bool := s.natR g Obj.SCENE_MOVING = 1 || gimbal.getLsbD g
  let act := if held || f.filterChg || f.mixedGen || s.deferring then []
    else on.filter fun g => moves g && !f.set2.getLsbD (quadOfRegion g) && !f.swapped.getLsbD g &&
      (s.natR g Obj.STAGE_ENABLE).testBit 2 && (s.natR g Obj.STAGE_ENABLE).testBit 3
  let s2 := s1.put Obj.SCENE_STATE (if on.isEmpty then 0 else if act.isEmpty then 2 else 1)
  if act.isEmpty then (s2, 0)
  else
    let s3 := s2.bump Obj.SCENE_FRAMES
    (if s3.nat Obj.SCENE_PERIOD ≤ s3.nat Obj.SCENE_FRAMES && s3.cal.sceneDue.isNone then
      { s3 with cal := { s3.cal with sceneDue := some f.num } } else s3, regionMask act)

end Sys2Proof.Machine
end

