-- ==== Sys2Proof/Machine/Domains.lean ====
section
/-! DEFINITION. The power domains as every chapter sees them: parent, rail and turning on (15_power_startup_heat.md R421,
R422; the rail codes of R33). -/

namespace Sys2Proof.Machine

/-- The rail code of domain `d` (R421, R33). -/
def domainRail (d : Nat) : Nat :=
  if d < 6 then [0, 8, 11, 2, 2, 0].getD d 0
  else [2, 3, 4 + (d - 6) / 6, 8, 9, 9].getD ((d - 6) % 6) 0

/-- The parent of domain `d` (R421); AON has none. -/
def domainParent (d : Nat) : Nat :=
  if d < 6 then [0, 0, 1, 1, 1, 0].getD d 0
  else
    let k := (d - 6) / 6 * 6
    [4, 6 + k, 9 + k, 3, 9 + k, 9 + k].getD ((d - 6) % 6) 0

/-- The domain of lane `n` (R421). -/
def laneDomain (n : Nat) : Nat := 10 + 6 * (n / 2) + n % 2

/-- The lane of a domain, if it is a lane's (R421). -/
def domainLane (d : Nat) : Option Nat :=
  if 6 ≤ d && 4 ≤ (d - 6) % 6 then some ((d - 6) / 6 * 2 + (d - 6) % 6 - 4) else none

/-- DOMAIN_STATE of domain `d`: 0 off, 1 on, 2 retention, 3 waiting for rail. -/
def State.domain (s : State) (d : Nat) : Nat := (s.power.domains.toList[d]?).getD 0

/-- Set the state of a domain. -/
def State.setDomain (s : State) (d v : Nat) : State :=
  { s with power := { s.power with domains := s.power.domains.setIfInBounds d v } }

/-- Rail `r` is good. -/
def State.rail (s : State) (r : Nat) : Bool := (s.power.rails.toList[r]?).getD false

/-- The rails that domain `d` needs are good: its own, and VDDLH for a lane (R422, R423). -/
def State.railsFor (s : State) (d : Nat) : Bool := s.rail (domainRail d) && ((domainLane d).isNone || s.rail 10)

/-- OWN_UID64: 0x6151 and SERIAL48 (R338, 10_kettle_lanes.md Objects). -/
def State.ownUid (s : State) : Nat := 0x6151 * 2 ^ 48 + s.otp.serial48.toNat

/-- The part lacks lane `n`: L4 to L7 of an XK6151-L4 (R422, 10_kettle_lanes.md Objects). -/
def State.laneAbsent (s : State) (n : Nat) : Bool := s.otp.isL4 && 4 ≤ n

/-- TURN A DOMAIN ON (R422): only while its parent is on and its rail is good; with its parent on and its rail not good it
waits for the rail. A lane that the part lacks is never turned on. -/
def State.turnOn (s : State) (d : Nat) : State :=
  if s.domain d = 1 || ((domainLane d).map s.laneAbsent).getD false then s
  else if d = 0 || s.domain (domainParent d) = 1 then s.setDomain d (if s.railsFor d then 1 else 3)
  else s

/-- TURN A DOMAIN OFF (R422). -/
def State.turnOff (s : State) (d : Nat) : State := s.setDomain d 0

/-! ## The output lands (R443, R445) -/

/-- A land's level: released open-drain lands and high-impedance lands are not driven. -/
inductive Level where
  | low | high | released | highZ
deriving DecidableEq, Repr

/-- The output lands of R445 whose level its table gives. -/
inductive OutLand where
  | bellN | gongN | syncOut | fspiClk | fspiSelN | canTx | sspiDo | fspiDo | accScl | accSda
deriving DecidableEq, Repr

/-- THE LEVEL OF AN OUTPUT LAND (R443, R445): high-impedance without VIO; as R445's table has it while CTRL is off; otherwise
BELL_N, GONG_N and SYNC_OUT as the state drives them, and `none` for a land whose level is its port's traffic. `none` stands also for
SSPI_DO while CTRL is off, where AON shifts its status word (R432). -/
def State.outLand (s : State) (l : OutLand) : Option Level :=
  let off := s.domain 1 ≠ 1
  if !s.rail 1 then some .highZ
  else
    match l with
    | .bellN => some (if s.bellN then .low else .released)
    | .gongN => some (if s.lands.gongOwn then .low else .released)
    | .syncOut => some (if !off && s.clk.syncOut then .high else .low)
    | .fspiClk => if off then some .low else none
    | .fspiSelN | .canTx => if off then some .high else none
    | .fspiDo => if off then some .highZ else none
    | .sspiDo => none
    | .accScl | .accSda => if off then some .released else none

end Sys2Proof.Machine
end

