-- ==== Sys2Proof/Machine/Drumline.lean ====
section
/-! DEFINITION. Drumline time (02_drumline.md): the beat, the copies, REF_IN, the time sources and the servo, steps,
SYNC_OUT, time marks, the gong line and the BELL stroke. -/

namespace Sys2Proof.Machine

/-! ## The beat (R38, R61) -/

/-- The increment of the fractional accumulator for an adjustment of `f` ppb, in units of 2^-32 (R61). -/
def slewInc (f : Int) : Nat := (roundDiv (320 * f.natAbs * 2 ^ 32) 1000000000).toNat

/-- The advance and the accumulator of the next beat (R61). -/
def Clock.nextAdvance (c : Clock) (f : Int) : Nat × BitVec 32 :=
  let t := c.acc.toNat + slewInc f
  (if 2 ^ 32 ≤ t then (if 0 < f then 321 else 319) else 320, BitVec.ofNat 32 t)

/-- The DRUM domain is on: DLT counts (R421, R424, R429). -/
def State.drumOn (s : State) : Bool := s.power.domains[3] = 1

/-- One beat of the drum clock (R38, R61): DLT and every copy advance by what the accumulator selects. -/
def State.oneBeat (s : State) : State :=
  let a := s.clk.nextAdvance (s.get Obj.FREQ_ADJ)
  { s with
    clk := { s.clk with
      dlt := s.clk.dlt + BitVec.ofNat 64 a.1
      copies := s.clk.copies.map (· + BitVec.ofNat 64 a.1)
      acc := a.2
      advance := a.1
      beats := s.clk.beats + 1 }
    strokes := { s.strokes with replaced := [], landed := [] } }

/-- A frame's slots are running in some quadrant (R71). -/
def State.slotsRunning (s : State) : Bool := s.focal.scans.any fun c => !c.todo.isEmpty

/-- DLT_COPY_COMPARE (R40): the copy of a die is compared with the control die's; a copy found different sends a gong of
cause 0x0021 and is due for a reload. `found` is what the die's copy reads. -/
def execDltCopyCompare (die : Fin 4) (found : Dlt) (s : State) : Out :=
  let s1 := { s with clk := { s.clk with copies := s.clk.copies.set die found } }
  if !s.drumOn then .next s
  else if found = s.clk.dlt then .next s1
  else .next (State.pullGong
    { s1 with clk := { s1.clk with reloadDue := s1.clk.reloadDue.set die true } } (some 0x21))

/-- DLT_COPY_RELOAD (R40): in a frame gap the copy of a die that differs is reloaded from the control die. -/
def execDltCopyReload (die : Fin 4) (s : State) : Out :=
  if s.clk.reloadDue[die] && !s.slotsRunning then
    .next { s with clk := { s.clk with
      copies := s.clk.copies.set die s.clk.dlt
      reloadDue := s.clk.reloadDue.set die false } }
  else .next s

/-- REF_IN_LOSS (R41): the PLL holds its control word and bell 0x0201 is raised; DLT keeps counting. A PLL that is off detects
nothing. -/
def execRefInLoss (s : State) : Out :=
  if s.clk.refLost || !s.drumOn then .next s
  else .next (State.bell { s with clk := { s.clk with refLost := true } } 0x0201)

/-- REF_IN_RETURN (R41): the PLL relocks without a phase step. -/
def execRefInReturn (s : State) : Out := .next { s with clk := { s.clk with refLost := false } }

/-! ## Sources, lock state and servo (R56-R60, R455, R456) -/

/-- The place of a source in `Clock.sources`: its code of R56 less one. -/
def sourceIdx : TimeSource → Fin 3
  | .drumBus => 0 | .lane => 1 | .syncIn => 2

/-- The codes of PRIORITY, most significant first, up to the first 0 (R56). -/
def priorityList (p : Nat) : List Nat :=
  ([p / 4096 % 16, p / 256 % 16, p / 16 % 16, p % 16].takeWhile (· ≠ 0)).filter fun c => 1 ≤ c ∧ c ≤ 3

/-- The active source: the highest-priority qualified one, as its code, 0 for none (R56). -/
def State.activeCode (s : State) : Nat :=
  ((priorityList (s.nat Obj.PRIORITY)).find? fun c =>
    ((s.clk.sources.toList[c - 1]?).map (·.qualified)).getD false).getD 0

/-- A source is enabled (R456). -/
def State.sourceEnabled (s : State) (c : Nat) : Bool :=
  (priorityList (s.nat Obj.PRIORITY)).contains c &&
  match c with
  | 1 => s.nat Obj.ENS_ENABLE = 1 && s.nat Obj.ENS_STATE ≠ 4
  | 2 => s.nat (Obj.TT_ROLE (s.nat Obj.TIME_LANE)) = 2
  | _ => s.nat Obj.SYNC_MODE ≠ 0

/-- LOCK_STATE, the first row of R456 that holds. -/
def State.lockState (s : State) : Nat :=
  let act := s.activeCode
  let everQ := s.clk.sources.any (·.everQual)
  if act ≠ 0 && ((s.clk.sources.toList[act - 1]?).map (·.locked)).getD false then 2
  else if s.clk.sources.any (·.qualified) || (!everQ && [1, 2, 3].any s.sourceEnabled) then 1
  else if everQ then 3 else 0

/-- ACTIVE_SOURCE and LOCK_STATE follow the sources; leaving 2 raises bell 0x0202 with the new state (R56, R60, R456). -/
def State.updateLock (s : State) : State :=
  let new := s.lockState
  let s1 := (s.put Obj.ACTIVE_SOURCE s.activeCode).put Obj.LOCK_STATE new
  if s.nat Obj.LOCK_STATE = 2 ∧ new ≠ 2 then s1.bell 0x0202 new else s1

/-- π to sixteen digits and the damping of R455 (log entry 15). -/
def piRat : Rat := 3141592653589793 / 1000000000000000

/-- One servo update (R455) for a phase error of `e` LSB and an event period of `t` LSB. -/
def State.servo (s : State) (e : Int) (t : Nat) : State :=
  let lsb : Rat := 15625 / 1000000000000000
  let tS : Rat := (t : Rat) * lsb
  let eS : Rat := (e : Rat) * lsb
  let b : Rat := min ((s.nat Obj.LOOP_BW : Rat) / 1000) (1 / (20 * tS))
  let w : Rat := 2 * piRat * b
  let i : Rat := s.clk.integ + w * w * tS * eS
  let y : Rat := 2 * (707 / 1000) * w * eS + i
  let f := roundRat (-y * 1000000000)
  let lim : Int := s.get Obj.SLEW_LIMIT
  let clamped := lim < f || f < -lim
  ({ s with clk := { s.clk with integ := if clamped then s.clk.integ else i } }).put Obj.FREQ_ADJ (clampInt f (-lim) lim)

/-- The event window of R57 around the `m`-th expected event after the last good one. -/
def Source.inWindow (r : Source) (t : Dlt) (interval : Nat) : Bool :=
  let d := Dlt.diff t (r.last + BitVec.ofNat 64 ((r.missed + 1) * interval))
  100 * d.natAbs ≤ interval

/-- The record of a source after a good event (R57, R58). `e` is the phase error. Events before the source qualifies and
while another source is active count toward the 16 events within and the 4 outside of R58, of which the spec does not say
from when they count (DESIGN CHOICE, log entry 48). -/
def Source.good (r : Source) (t : Dlt) (e : Int) : Source :=
  let n := if r.run = 0 then 1 else min 8 (r.run + 1)
  let near := e.natAbs ≤ 64
  let il := if near then min 16 (r.inLock + 1) else 0
  let ol := if near then 0 else min 4 (r.outLock + 1)
  let q := r.qualified || n = 8
  { r with
    run := n
    missed := 0
    last := t
    first := if r.run = 0 then t else r.first
    qualified := q
    everQual := r.everQual || q
    inLock := il
    outLock := ol
    locked := q && ((r.locked && ol < 4) || il = 16) }

/-- A run or a qualification ends (R57). -/
def Source.ended (r : Source) : Source :=
  { r with run := 0, missed := 0, qualified := false, locked := false, inLock := 0, outLock := 0 }

/-- AN EVENT OF A TIME SOURCE at time `t` with phase error `e` (R57, R58, R62, R455). The eighth consecutive good event
qualifies the source; its first qualification before the part is running asks for a step that zeroes the error, and
starts the integral at the measured frequency error. Events of the active source feed the servo. The step takes the place
of a user's step that is still due, whose STEP_GO then keeps its status (DESIGN CHOICE, log entry 48). -/
def State.sourceEvent (s : State) (src : TimeSource) (t : Dlt) (e : Int) (interval : Nat) : State :=
  let r := s.clk.sources[sourceIdx src]
  if r.run = 0 || r.inWindow t interval then
    let r' := r.good t e
    let s1 := { s with clk := { s.clk with sources := s.clk.sources.set (sourceIdx src) r' } }
    let firstQ := r'.qualified && !r.everQual
    let step := firstQ && !s.clk.running && e ≠ 0
    let active := s1.activeCode = (sourceIdx src).val + 1
    let s2 := if firstQ && active then
        let num : Int := Dlt.diff t r.first - 7 * interval
        { s1 with clk := { s1.clk with
            integ := (num : Rat) / (7 * interval : Rat)
            stepDue := if step then some (s.clk.beats + 1, false, -e) else s1.clk.stepDue
            stepUser := if step then false else s1.clk.stepUser } }
      else s1
    let s3 := if active then
        (s2.put Obj.PHASE_ERR (clampInt e (-2147483648) 2147483647)).servo (if step then 0 else e) interval
      else s2
    s3.updateLock
  else s

/-- AN EXPECTED EVENT FAILS (R57): before qualification it ends the run; after it, the third in a row ends the
qualification. -/
def State.sourceMiss (s : State) (src : TimeSource) : State :=
  let r := s.clk.sources[sourceIdx src]
  let r' := if r.qualified && r.missed + 1 < 3 then { r with missed := r.missed + 1 }
    else r.ended
  ({ s with clk := { s.clk with sources := s.clk.sources.set (sourceIdx src) r' } }).updateLock

/-- The event period of a source in LSB (R57-R59, R326, R410). -/
def State.sourcePeriod (s : State) (src : TimeSource) : Nat :=
  match src with
  | .drumBus => 64000000
  | .lane => s.nat Obj.TT_PERIOD_US * 64000
  | .syncIn => if s.nat Obj.SYNC_MODE = 2 then 64000000000 else s.nat Obj.SYNC_PERIOD

/-- The phase error of a SYNC_IN edge: its distance from the nearest SYNC_PHASE + k·PERIOD (R59). -/
def syncError (t : Dlt) (phase period : Nat) : Int :=
  let r := (Dlt.diff t (BitVec.ofNat 64 phase)).emod period
  if (period : Int) < 2 * r then r - period else r

/-- SYNC_IN_EDGE (R57-R59): a selected edge within its window is accepted; one outside every window counts in MISS_COUNT
and is not used. -/
def execSyncInEdge (falling : Bool) (stamp : Dlt) (s : State) : Out :=
  if s.nat Obj.SYNC_MODE = 0 || falling != (s.nat Obj.SYNC_EDGE = 1) then .next s
  else
    let p := s.sourcePeriod .syncIn
    let r := s.clk.sources[sourceIdx .syncIn]
    if r.run = 0 || r.inWindow stamp p then
      .next ((s.sourceEvent .syncIn stamp (syncError stamp (s.nat Obj.SYNC_PHASE) p) p).put
        Obj.LAST_EDGE_DLT stamp.toNat)
    else .next (s.bump Obj.MISS_COUNT)

/-- SOURCE_EVENT_MISSED (R57): the window of the next expected event has closed without an event. A SYNC_IN event that
fails counts in MISS_COUNT. -/
def execSourceEventMissed (src : TimeSource) (s : State) : Out :=
  let r := s.clk.sources[sourceIdx src]
  let p := s.sourcePeriod src
  let d := Dlt.diff s.now (r.last + BitVec.ofNat 64 ((r.missed + 1) * p))
  if r.run ≠ 0 ∧ (p : Int) < 100 * d then
    .next ((if src = .syncIn then s.bump Obj.MISS_COUNT else s).sourceMiss src)
  else .next s

/-- A write of SYNC_MODE (R456): 0 removes SYNC_IN's qualification at once; LOCK_STATE follows. -/
def State.writeSyncMode (s : State) (v : Nat) : State :=
  let s1 := s.put Obj.SYNC_MODE v
  (if v = 0 then
    { s1 with clk := { s1.clk with
      sources := s1.clk.sources.set (sourceIdx .syncIn) (s1.clk.sources[sourceIdx .syncIn]).ended } }
  else s1).updateLock

/-- SYNC_MODE_WRITE (R456): values above 2 are refused (R340). -/
def execSyncModeWrite (v : Nat) (s : State) : Out := .next (if v ≤ 2 then s.writeSyncMode v else s)

/-! ## Steps (R62-R64) -/

/-- The DLT at the next beat. -/
def State.nextDlt (s : State) : Dlt :=
  s.now + BitVec.ofNat 64 (s.clk.nextAdvance (s.get Obj.FREQ_ADJ)).1

/-- A write of 1 to STEP_GO (R62): a zero step is refused with 3, a backward step of a running part without FORCE with 2;
otherwise the step is due at the next beat, in place of one that is still due, and STEP_GO keeps its earlier status until
then (DESIGN CHOICE, log entry 48). -/
def State.writeStepGo (s : State) (v : Nat) : State :=
  if v ≠ 1 then s
  else
    let absolute := s.nat Obj.STEP_MODE = 0
    let val := s.get Obj.STEP_VALUE
    let by' : Int := if absolute then Dlt.diff (BitVec.ofInt 64 val) s.nextDlt else val
    if by' = 0 then s.put Obj.STEP_GO 3
    else if by' < 0 && s.clk.running && s.nat Obj.FORCE = 0 then s.put Obj.STEP_GO 2
    else { s with clk := { s.clk with stepDue := some (s.clk.beats + 1, absolute, val), stepUser := true } }

/-- STEP_GO (R62): the write; values above 1 are refused (R340). -/
def execStepGo (v : Nat) (s : State) : Out := .next (s.writeStepGo v)

/-- The first LAUNCH + k·PERIOD strictly after `t`, with k at least `k0` (R48, R63). -/
def nextOccurrence (launch : Dlt) (period : Nat) (t : Dlt) (k0 : Nat) : Dlt :=
  let d := Dlt.diff t launch
  let k : Nat := if d < 0 then 0 else d.toNat / period + 1
  launch + BitVec.ofNat 64 (max k k0 * period)

/-- Beats from a DLT to the first beat whose DLT reaches `launch`, at 320 LSB a beat; 0 once it is reached. -/
def beatsTo (now launch : Dlt) : Nat :=
  if Dlt.reached now launch then 0 else ((launch - now).toNat + 319) / 320

/-- An entry at the beat of a step to `new` (R63). -/
def Stroke.stepped (e : Stroke) (new : Dlt) : Stroke :=
  if e.period.toNat ≠ 0 then
    if e.state = 3 ∨ e.state = 5 then e
    else
      let n := nextOccurrence e.launch e.period.toNat new 0
      { e with next := n, forwarded := beatsTo new n < 400, dies := 0 }
  else if e.state = 1 && Dlt.reached new e.launch && new ≠ e.launch then { e with lateDue := true, passed := true }
  else e

/-- The next occurrence of a repeating package entry after a step, where the entry still stands (R63, R72). -/
def steppedNext (entries : List (Nat × Stroke)) (k : Nat) : Option Dlt :=
  ((entries.find? fun e => e.1 == k).map (·.2)).bind fun e =>
    if e.period.toNat ≠ 0 && e.state ≠ 3 && e.state ≠ 5 then some e.next else none

/-- The live Drumline steps by `by'` LSB (R63, R64): every copy takes the new value, strokes are tested against it, the
sources' windows move with it, the deadline of a frame and of the MC's sequence follows its entry's next occurrence (R72, R101), and a backward step marks
every frame in progress. Slots keep their modulator cycles (R39). -/
def State.stepBy (s : State) (by' : Int) : State :=
  let new := Dlt.add s.now by'
  let entries := s.strokes.entries.map fun (e : Nat × Stroke) => (e.1, if s.power.trims then e.2.stepped new else e.2)
  let moved (f : Frame) : Frame := match f.entry.bind (steppedNext entries) with
    | some n => { f with deadline := n }
    | none => f
  let s1 := { s with
    clk := { s.clk with
      dlt := new
      copies := Vector.replicate 4 new
      sources := s.clk.sources.map fun (r : Source) => { r with last := Dlt.add r.last by', first := Dlt.add r.first by' } }
    strokes := { s.strokes with entries := entries }
    focal := { s.focal with frames := s.focal.frames.map fun (f : Frame) =>
      { moved f with timeStep := f.timeStep || by' < 0 } }
    mc := match s.mc.entry.bind (steppedNext entries) with
      | some n => { s.mc with deadline := some n }
      | none => s.mc }
  let s2 := (s1.put Obj.LAST_STEP_DLT new.toNat).bump Obj.STEP_COUNT
  if by' < 0 then s2.bump Obj.BACK_STEP_COUNT else s2

/-- DLT_STEP (R62, R63): at its beat the step that is due takes place. An absolute step is judged against the DLT of that
beat, which a servo event since STEP_GO may have moved: it is refused where it has become a zero step or, without FORCE
while running, a backward one. -/
def execDltStep (s : State) : Out :=
  match s.clk.stepDue with
  | none => .next s
  | some (beat, absolute, val) =>
    if s.clk.beats < beat then .next s
    else
      let by' : Int := if absolute then Dlt.diff (BitVec.ofInt 64 val) s.now else val
      let user := s.clk.stepUser
      let s0 : State := { s with clk := { s.clk with stepDue := none, stepUser := false } }
      if absolute && by' = 0 then .next (s0.put Obj.STEP_GO 3)
      else if absolute && by' < 0 && s.clk.running && s.nat Obj.FORCE = 0 then .next (s0.put Obj.STEP_GO 2)
      else
        let s1 := s0.stepBy by'
        .next (if user then s1.put Obj.STEP_GO 1 else s1)

/-! ## SYNC_OUT, time marks, gong and bell strokes (R50, R65, R359, R420) -/

/-- SYNC_OUT (R65): the pulse starts, or its width count restarts. -/
def execSyncOut (l : Landing) (s : State) : Out :=
  .next (s.land 0x60 l fun t =>
    { t with clk := { t.clk with syncOut := true, syncOutEnd := t.clk.beats + l.arg.toNat } })

/-- SYNC_OUT_PULSE_END (R65): ARG beats after the start, SYNC_OUT goes low. -/
def execSyncOutPulseEnd (s : State) : Out :=
  .next (if s.clk.syncOut && s.clk.syncOutEnd ≤ s.clk.beats then { s with clk := { s.clk with syncOut := false } } else s)

/-- TIME_MARK (R50): the landing DLT goes into mark slot ARG[2:0]. -/
def execTimeMark (l : Landing) (s : State) : Out :=
  .next (s.land 0x61 l fun t => t.put (Obj.TIME_MARK (l.arg.toNat % 8)) t.now.toNat)

/-- GONG (R420): GONG_N is pulled low for 10 µs, with the cause for the next beacon. -/
def execGong (l : Landing) (s : State) : Out :=
  .next (s.land 0x01 l fun t => t.pullGong (some (l.arg.toNat % 65536)))

/-- GONG_LOW_END (R420): after 10 µs the part releases GONG_N; in a shutdown, where no beat is counted, when AON says so. -/
def execGongLowEnd (s : State) : Out :=
  .next (if s.lands.gongOwn && (s.lands.gongEnd ≤ s.clk.beats || !s.drumOn) then
    { s with lands := { s.lands with gongOwn := false } } else s)

/-- BELL (R359): a BELL stroke raises a bell with code ARG[15:0]. -/
def execBell (l : Landing) (s : State) : Out :=
  .next (s.land 0x02 l fun t => t.bell (l.arg.toNat % 65536))

end Sys2Proof.Machine
end

