-- ==== Sys2Proof/Machine/Can.lean ====
section
/-! DEFINITION. The CAN FD port (11_kazluisk_dictionary.md R347-R352, R358, R360): fault confinement, node IDs and
heartbeats, bells and broadcasts. CAN timers count beats, 200,000 a millisecond (log entry 11). -/

namespace Sys2Proof.Machine

/-! ## The port (R347) -/

/-- The port takes part in the bus: CTRL is on and CAN_STATE is error-active or error-passive. -/
def State.canActive (s : State) : Bool :=
  s.domain 1 = 1 && s.nat Obj.CAN_ENABLE = 1 && (s.nat Obj.CAN_STATE = 2 || s.nat Obj.CAN_STATE = 3)

/-- The part holds a node ID and serves (R350). -/
def State.operational (s : State) : Bool := s.nat Obj.CLAIM_STATE = 2

/-- `ms` milliseconds have passed since beat `from'`. -/
def State.passedMs (s : State) (from' ms : Nat) : Bool := from' + 200000 * ms ≤ s.clk.beats

/-- CAN_STATE after the error counts have changed (R347, ISO 11898-1): error-passive from 128, bus-off from a transmit error
count of 256. -/
def State.confine (s : State) : State :=
  if 256 ≤ s.dict.traErr then (s.put Obj.CAN_STATE 4).bump Obj.BUS_OFF_COUNT
  else s.put Obj.CAN_STATE (if 128 ≤ s.dict.traErr || 128 ≤ s.dict.recErr then 3 else 2)

/-- The content of a frame padded with zeros (R348): to a length that a data length code allows, 4 bytes or more, and as the
worked example of R357 shows not to 5, 6 or 7 (log entry 33). -/
def canPad (bs : List Byte) : List Byte :=
  let n := ([4, 8, 12, 16, 20, 24, 32, 48, 64].find? fun k => bs.length ≤ k).getD bs.length
  bs ++ List.replicate (n - bs.length) 0

/-- The nominal rate of a code, kbit/s. -/
def nomRate (c : Nat) : Nat := [125, 250, 500, 1000].getD c 0
/-- The data rate of a code, kbit/s. -/
def dataRate (c : Nat) : Nat := [1000, 2000, 4000, 5000, 8000].getD c 0

/-- SEND A FRAME on CAN FD (R347, R348): BRS when the data rate in force exceeds the nominal one; at 2 Mbit/s and above the
transmitter delay is measured, whose value is free (log entry 33); the transmit error count falls by one. -/
def State.sendCan (s : State) (id : Nat) (bs : List Byte) : State :=
  let rate := dataRate s.dict.canData
  let s1 := if 2000 ≤ rate then s.put Obj.CAN_TDC_MEAS (Config.tdcMeas s.clk.beats).toNat else s
  (State.confine { s1 with dict := { s1.dict with traErr := s1.dict.traErr - 1 } }).send
    (.can id (nomRate s.dict.canNom < rate) (canPad bs))

/-- A frame has been received without error: the receive error count falls by one, from above 127 to a value from 119 to 127
that ISO 11898-1 leaves open (log entry 7). -/
def State.canHeard (s : State) : State :=
  let r := s.dict.recErr
  if r ≤ 127 then State.confine { s with dict := { s.dict with recErr := r - 1 } }
  else (State.confine { s with dict := { s.dict with recErr := 119 + s.draw.toNat % 9 } }).drawn

/-- CAN_CLASSIC_FRAME (R347): a classical or remote frame is ignored and counted. -/
def execCanClassicFrame (s : State) : Out := .next (if s.canActive then s.bump Obj.CAN_CLASSIC else s)

/-- The port leaves or joins the bus (R347): CAN_ENABLE 1 starts integrating, 0 turns the port off. -/
def State.writeCanEnable (s : State) (v : Nat) : State :=
  let was := s.nat Obj.CAN_ENABLE
  let s1 := s.put Obj.CAN_ENABLE v
  if v = was then s1 else s1.put Obj.CAN_STATE (if v = 1 && s.domain 1 = 1 then 1 else 0)

/-- A write of CAN_APPLY (R347): the timing applies and the port integrates again; refused with a data rate below the nominal
rate. -/
def State.writeCanApply (s : State) (v : Nat) : State :=
  if v ≠ 1 then s
  else if dataRate (s.nat Obj.CAN_DATA_RATE) < nomRate (s.nat Obj.CAN_NOM_RATE) then s.put Obj.CAN_APPLY 2
  else
    let s1 : State := { s with dict := { s.dict with canNom := s.nat Obj.CAN_NOM_RATE, canData := s.nat Obj.CAN_DATA_RATE } }
    (s1.put Obj.CAN_APPLY 1).put Obj.CAN_STATE (if s.nat Obj.CAN_ENABLE = 1 && s.domain 1 = 1 then 1 else 0)

/-- CAN_APPLY (R347). -/
def execCanApply (v : Nat) (s : State) : Out := .next (s.writeCanApply v)

/-! ## Claims (R350, R351) -/

/-- Listening begins (R350 step 1), in CLAIM_STATE `st`: 0, or 3 after an ID has been given up. -/
def State.listen (s : State) (st : Nat) : State :=
  { s with dict := { s.dict with heard := [], listenAt := s.clk.beats, claimTry := 0, retryAt := none } }.put Obj.CLAIM_STATE st

/-- A CLAIM goes out on identifier 0x000 + n (R350). -/
def State.sendClaim (s : State) (n : Nat) : State := s.sendCan n (leBytes 6 s.otp.serial48.toNat ++ [0, 0])

/-- A HEARTBEAT goes out (R352): state 1 operational or 2 leaving. -/
def State.sendHeartbeat (s : State) (st : Nat) : State :=
  let c := s.dict.hbCount
  ({ s with dict := { s.dict with hbCount := (c + 1) % 256, hbAt := s.clk.beats } }).sendCan (0x700 + s.nat Obj.NODE_ID)
    (leBytes 6 s.otp.serial48.toNat ++ [BitVec.ofNat 8 st, BitVec.ofNat 8 c])

/-- The part claims `n` (R350 step 2). -/
def State.claimFor (s : State) (n : Nat) : State :=
  ((({ s with dict := { s.dict with claimId := n, claimAt := s.clk.beats, claimTry := 0, retryAt := none } }).put
    Obj.CLAIM_STATE 1).bump Obj.CLAIM_COUNT).sendClaim n

/-- The first free ID at or above `n`, wrapping from 127 to 1 (R350). -/
def freeId (heard : List Nat) (n : Nat) : Nat :=
  let next (i : Nat) : Nat := (n - 1 + i) % 127 + 1
  ((List.range 127).map next).find? (fun k => !heard.contains k) |>.getD n

/-- THE PART GIVES ITS ID UP (R351): every KTP session ends, bell 0x0B82, and listening begins again. -/
def State.giveUpId (s : State) : State :=
  (({ s with dict := { s.dict with sessions := [] } }.put Obj.NODE_ID 0).bell 0x0B82).listen 3

/-- A CLAIM or HEARTBEAT for `n` has been heard (R350, R351): a listening node notes the ID; a claiming one contests it, the
lower serial keeping it; an operational one defends its ID or gives it up. -/
def State.heardId (s : State) (n : Nat) (serial : BitVec 48) : State :=
  let s1 := { s with dict := { s.dict with heard := if s.dict.heard.contains n then s.dict.heard else s.dict.heard ++ [n] } }
  let own := s.otp.serial48
  if s.operational then
    (if n ≠ s.nat Obj.NODE_ID || serial = own then s
    else if own < serial then s.sendClaim n
    else s.giveUpId)
  else if s.nat Obj.CLAIM_STATE = 1 && n = s.dict.claimId then
    (if serial = own || own < serial then s else s1.claimFor (freeId s1.dict.heard (n % 127 + 1)))
  else s1

/-- CLAIM (R350, R351): a CLAIM of `n` is received. Node ID 0 is never used (R348). -/
def execClaim (n : Nat) (serial : BitVec 48) (s : State) : Out :=
  .next (if !s.canActive || n = 0 || 127 < n then s else s.canHeard.heardId n serial)

/-- CLAIM_LISTEN_END (R350): HB_EXPIRE has passed, so the part claims NODE_ID_PREF if it is free and the next free ID if not. -/
def execClaimListenEnd (s : State) : Out :=
  .next (
    if s.canActive && (s.nat Obj.CLAIM_STATE = 0 || s.nat Obj.CLAIM_STATE = 3) && s.passedMs s.dict.listenAt (s.nat Obj.HB_EXPIRE) then
      s.claimFor (freeId s.dict.heard (s.nat Obj.NODE_ID_PREF))
    else s)

/-- CLAIM_WAIT_END (R350): CLAIM_WAIT, 50 ms, has passed without contest: the first HEARTBEAT goes out and the part is
operational. -/
def execClaimWaitEnd (s : State) : Out :=
  .next (
    if s.canActive && s.nat Obj.CLAIM_STATE = 1 && s.dict.retryAt.isNone && s.passedMs s.dict.claimAt 50 then
      ((s.put Obj.NODE_ID s.dict.claimId).put Obj.CLAIM_STATE 2).sendHeartbeat 1
    else s)

/-- The wait after the `k`-th error of a claim (R350): ((serial >> 6k) mod 64) + 1 ms. The rule gives k from 0 to 7; the model
counts on modulo 8. -/
def claimBackoff (serial : BitVec 48) (k : Nat) : Nat := (serial.toNat >>> (6 * (k % 8))) % 64 + 1

/-- CLAIM_RETRY (R350): after a collision and its wait the CLAIM is sent again. -/
def execClaimRetry (s : State) : Out :=
  .next (
    match s.dict.retryAt with
    | some b =>
      if s.canActive && s.nat Obj.CLAIM_STATE = 1 && b ≤ s.clk.beats then
        ({ s with dict := { s.dict with retryAt := none, claimAt := s.clk.beats } }).sendClaim s.dict.claimId
      else s
    | none => s)

/-- CAN_INTEGRATION_COMPLETE (R347): the port has seen 11 recessive bits and is error-active; a part without an ID listens. -/
def execCanIntegrationComplete (s : State) : Out :=
  .next (
    if s.domain 1 ≠ 1 || s.nat Obj.CAN_ENABLE ≠ 1 || s.nat Obj.CAN_STATE ≠ 1 then s
    else
      let s1 := { s with dict := { s.dict with recErr := 0, traErr := 0 } }.put Obj.CAN_STATE 2
      if s1.operational then s1 else s1.listen (s1.nat Obj.CLAIM_STATE / 3 * 3))

/-- CAN_BUS_ERROR (R347, R350): an error raises a count by `delta`, the port may become error-passive or bus-off, and an error
of the part's CLAIM, the only frame it sends while claiming, starts the wait of R350. -/
def execCanBusError (transmit : Bool) (delta : Nat) (s : State) : Out :=
  .next (
    if !s.canActive then s
    else
      let d := s.dict
      let s1 := if transmit then State.confine { s with dict := { d with traErr := d.traErr + delta } }
        else State.confine { s with dict := { d with recErr := min 255 (d.recErr + delta) } }
      if transmit && s.nat Obj.CLAIM_STATE = 1 && d.retryAt.isNone then
        { s1 with dict := { s1.dict with
          claimTry := d.claimTry + 1
          retryAt := some (s.clk.beats + 200000 * claimBackoff s.otp.serial48 d.claimTry) } }
      else s1)

/-- CAN_BUS_OFF_RECOVERY (R347): with CAN_AUTO_RECOVER 1, after 128 occurrences of 11 recessive bits; the part defends its ID
and raises bell 0x0B81. -/
def execCanBusOffRecovery (s : State) : Out :=
  .next (
    if s.domain 1 ≠ 1 || s.nat Obj.CAN_ENABLE ≠ 1 || s.nat Obj.CAN_STATE ≠ 4 || s.nat Obj.CAN_AUTO_RECOVER ≠ 1 then s
    else
      let s1 := ({ s with dict := { s.dict with recErr := 0, traErr := 0 } }.put Obj.CAN_STATE 2).bell 0x0B81
      if s1.operational then s1.sendClaim (s1.nat Obj.NODE_ID) else s1)

/-! ## Heartbeats and the node table (R352) -/

/-- A node leaves the table, and with it its session (R352, R354). -/
def State.dropNode (s : State) (n : Nat) : State :=
  { s with dict := { s.dict with
    nodes := s.dict.nodes.filter fun x => x.id ≠ n
    sessions := s.dict.sessions.filter fun x => x.client ≠ n } }

/-- The node table hears node `n` (R352): 64 entries; one heard while the table is full is counted. -/
def State.enterNode (s : State) (n : Nat) (serial : BitVec 48) (st : Nat) : State :=
  let x : Node := ⟨n, serial, st, s.now, s.clk.beats⟩
  if s.dict.nodes.any (fun y => y.id = n) then
    { s with dict := { s.dict with nodes := s.dict.nodes.map fun y => if y.id = n then x else y } }
  else if s.dict.nodes.length < 64 then { s with dict := { s.dict with nodes := s.dict.nodes ++ [x] } }
  else s.bump Obj.NODES_REFUSED

/-- HEARTBEAT (R350-R352): an ID heard, and the node table. -/
def execHeartbeat (n : Nat) (serial : BitVec 48) (state : Nat) (s : State) : Out :=
  .next (
    if !s.canActive || n = 0 || 127 < n || 2 < state then s
    else
      let s1 := s.canHeard.heardId n serial
      if state = 2 then s1.dropNode n else s1.enterNode n serial state)

/-- HEARTBEAT_SEND (R352): every HB_PERIOD. -/
def execHeartbeatSend (s : State) : Out :=
  .next (if s.canActive && s.operational && s.passedMs s.dict.hbAt (s.nat Obj.HB_PERIOD) then s.sendHeartbeat 1 else s)

/-- NODE_EXPIRE (R352, R354): HB_EXPIRE without a heartbeat. -/
def execNodeExpire (n : Nat) (s : State) : Out :=
  .next (
    match s.dict.nodes.find? fun x => x.id = n with
    | some x => if s.domain 1 = 1 && s.passedMs x.beat (s.nat Obj.HB_EXPIRE) then s.dropNode n else s
    | none => s)

/-! ## Bells and broadcasts (R213, R358-R360) -/

/-- The 16 bytes of a bell record (R359). -/
def Bell.bytes (b : Bell) : List Byte :=
  leBytes 4 (b.code.toNat * 65536 + b.seq.toNat) ++ leBytes 8 b.dlt.toNat ++ leBytes 4 b.arg.toNat

/-- A write of BELL_ACK (R360): the records up to the one with that SEQ leave the queue; a SEQ of no queued record is refused
(status 5 of R357). -/
def State.writeBellAck (s : State) (seq : Nat) : State × Nat :=
  match s.dict.bells.findIdx? fun b => b.seq.toNat = seq with
  | some i => ({ s with dict := { s.dict with bells := s.dict.bells.drop (i + 1) } }.put Obj.BELL_ACK seq, 0)
  | none => (s, 5)

/-- BELL_ACK (R360). -/
def execBellAck (seq : Nat) (s : State) : Out := .next (s.writeBellAck seq).1

/-- A broadcast of the part spends the DICT sticks of AC5, one for each 64 bytes (R345). -/
def State.broadcast (s : State) (id : Nat) (bs : List Byte) (f : State → State) : State :=
  s.charge 145 5 ((bs.length + 63) / 64) fun t => f (t.sendCan (id + t.nat Obj.NODE_ID) bs)

/-- CAN_BELL_SEND (R360): each record once, up to four to a frame, oldest first. -/
def execCanBellSend (s : State) : Out :=
  .next (
    let next := (s.dict.bells.filter fun b => !b.sent).take 4
    if s.canActive && s.operational && s.nat Obj.BELL_CAN = 1 && !next.isEmpty then
      s.broadcast 0x080 (next.flatMap Bell.bytes) fun t =>
        let mark (b : Bell) : Bell := if next.any fun c => c.seq = b.seq then { b with sent := true } else b
        { t with dict := { t.dict with bells := t.dict.bells.map mark } }
    else s)

/-- CAN_TRACK_SEND (R358): up to four final results, in ascending target order. -/
def execCanTrackSend (s : State) : Out :=
  .next (
    let next := (s.pipe.trackDue.take 4).mergeSort fun a b => a.1 ≤ b.1
    if s.canActive && s.operational && s.nat Obj.TRACK_EN = 1 && !next.isEmpty then
      s.broadcast 0x100 (next.flatMap (·.2)) fun t => { t with pipe := { t.pipe with trackDue := t.pipe.trackDue.drop 4 } }
    else s)

/-- CAN_FOCUS_SEND (R358): the focus windows whose results are final, four to a frame. -/
def execCanFocusSend (s : State) : Out :=
  .next (
    let next := (s.pipe.focusDue.take 4).mergeSort fun a b => a.1 ≤ b.1
    if s.canActive && s.operational && s.nat Obj.FOCUS_EN = 1 && !next.isEmpty then
      s.broadcast 0x180 (next.flatMap (·.2)) fun t => { t with pipe := { t.pipe with focusDue := t.pipe.focusDue.drop 4 } }
    else s)

/-- Number and flags of the last frame whose slots have ended (R358): of its record, or as kept when that went. -/
def State.lastEnded (s : State) : Nat × Nat :=
  ((s.focal.frames.find? fun f => f.slotsEnd.isSome).map fun f => (f.num.toNat, f.flags f.truncated)).getD s.dict.lastFrame

/-- The 24 bytes of STATUS (R358). -/
def State.statusBytes (s : State) : List Byte :=
  leBytes 4 s.lastEnded.1 ++ leBytes 4 (s.now.toNat / 65536) ++
  leBytes 2 s.lastEnded.2 ++
  [BitVec.ofNat 8 (s.nat Obj.STARTUP_STAGE), BitVec.ofNat 8 s.lockState,
    BitVec.ofNat 8 (((List.range 8).map fun n => if s.laneUp n then 2 ^ n else 0).sum), BitVec.ofNat 8 s.dict.bells.length] ++
  leBytes 2 (wrapNat 16 (s.get Obj.TJMAX)) ++ leBytes 2 (min 0xFFFF (s.nat Obj.FENCE_COUNT)) ++ [0, 0] ++
  leBytes 4 (s.nat Obj.BELL_LOST)

/-- STATUS_SEND (R358): every STATUS_PERIOD, unless it is 0. -/
def execStatusSend (s : State) : Out :=
  .next (
    let p := s.nat Obj.STATUS_PERIOD
    if s.canActive && s.operational && p ≠ 0 && s.passedMs s.dict.statusAt p then
      s.broadcast 0x200 s.statusBytes fun t => { t with dict := { t.dict with statusAt := t.clk.beats } }
    else s)

end Sys2Proof.Machine
end

