-- ==== Sys2Proof/Machine/EngineScalar.lean ====
section
/-! DEFINITION. Scalar and control instructions of the engines (05_engine_instructions.md R150, R154, R160-R164). -/

namespace Sys2Proof.Machine

/-! ## SR arithmetic (R160) -/

/-- The operand `op` of SR: Sb with [12:0] zero, or the immediate (R153, R160). -/
def Engine.srOperand (e : Engine) (x : Run) (f : Nat) : Option Word :=
  if bit f 25 then srImm f x.pfx?
  else if bits f 12 0 = 0 then some (e.sr (bits f 16 13)) else none

/-- A scalar instruction of two operands: `g` gives the engine from Sd, Sa's value and `op`. -/
def State.scalarOp (s : State) (p op : Nat) (f : BitVec 26) (legal : Bool) (g : Engine → Nat → Word → Word → Engine) : State :=
  s.regInstr p op f 1 (bit f.toNat 25) legal fun e x =>
    match e.srOperand x f.toNat with
    | none => .error 0x01
    | some b => .ok (g e (bits f.toNat 24 21) (e.sr (bits f.toNat 20 17)) b)

/-- SADD (R160). -/
def execSadd (p : Fin 272) (f : BitVec 26) (s : State) : Out :=
  .next (s.scalarOp p.val 0x01 f true fun e d a b => (e.flagsAdd a b).putS d (a + b))

/-- SSUB (R160). -/
def execSsub (p : Fin 272) (f : BitVec 26) (s : State) : Out :=
  .next (s.scalarOp p.val 0x02 f true fun e d a b => (e.flagsSub a b).putS d (a - b))

/-- SAND (R160). -/
def execSand (p : Fin 272) (f : BitVec 26) (s : State) : Out :=
  .next (s.scalarOp p.val 0x03 f true fun e d a b => (e.flagsZN (a &&& b)).putS d (a &&& b))

/-- SOR (R160). -/
def execSor (p : Fin 272) (f : BitVec 26) (s : State) : Out :=
  .next (s.scalarOp p.val 0x04 f true fun e d a b => (e.flagsZN (a ||| b)).putS d (a ||| b))

/-- SSHL (R160): C is the last bit shifted out, 0 for a shift of 0. -/
def execSshl (p : Fin 272) (f : BitVec 26) (s : State) : Out :=
  .next (s.scalarOp p.val 0x05 f true fun e d a b =>
    let n := b.toNat % 32
    let r := a <<< n
    ((e.flagsZN r).putFlag flC (n ≠ 0 && a.getLsbD (32 - n))).putS d r)

/-- SSHR (R160): arithmetic when op[5] is 0, logical when it is 1. -/
def execSshr (p : Fin 272) (f : BitVec 26) (s : State) : Out :=
  .next (s.scalarOp p.val 0x06 f true fun e d a b =>
    let n := b.toNat % 32
    let r := if b.getLsbD 5 then a >>> n else a.sshiftRight n
    ((e.flagsZN r).putFlag flC (n ≠ 0 && a.getLsbD (n - 1))).putS d r)

/-- SCMP (R160): the flags of Sa - op; the Sd field is reserved. -/
def execScmp (p : Fin 272) (f : BitVec 26) (s : State) : Out :=
  .next (s.scalarOp p.val 0x07 f (bits f.toNat 24 21 = 0) fun e _ a b => e.flagsSub a b)

/-! ## SMOV (R150, R161) -/

/-- A moment register, field `k` of target `t` (R180). -/
def Moment.word (m : Moment) (k : Nat) : Word :=
  match k with
  | 0 => BitVec.ofNat 32 m.n
  | 1 => BitVec.ofNat 32 m.sw
  | 2 => BitVec.ofNat 32 m.swx
  | 3 => BitVec.ofNat 32 (m.swx / 2 ^ 32)
  | 4 => m.peak
  | _ => 0

/-- The time an engine reads (R145, R150): in item runs the landing DLT of its frame, else its die's copy. -/
def State.engineTime (s : State) (p : Nat) (x : Run) : Dlt :=
  if x.kind.isItem then ((s.frame? x.item.frame).map (·.landing)).getD 0
  else s.clk.copies.toList.getD (dieOfEngine p) 0

/-- A special register (R150); an unassigned index reads zero. -/
def State.special (s : State) (p : Nat) (e : Engine) (x : Run) (i : Nat) : Word :=
  let lo (v : Nat) : Word := BitVec.ofNat 32 v
  let hi (v : Nat) : Word := BitVec.ofNat 32 (v / 2 ^ 32)
  let time := (s.engineTime p x).toNat
  if i = 0x000 then e.fl
  else if i = 0x001 then e.icount
  else if i = 0x002 then lo time
  else if i = 0x003 then hi time
  else if i = 0x004 then lo e.land.toNat
  else if i = 0x005 then hi e.land.toNat
  else if i = 0x006 then e.wreason
  else if i = 0x007 then e.evp
  else if i = 0x008 then lo (wrapNat 64 e.stSum)
  else if i = 0x009 then hi (wrapNat 64 e.stSum)
  else if i = 0x00A then lo e.stSq
  else if i = 0x00B then hi e.stSq
  else if i = 0x00C then BitVec.ofInt 32 e.stMin
  else if i = 0x00D then BitVec.ofInt 32 e.stMax
  else if i = 0x00E then e.stCnt
  else if 0x010 ≤ i ∧ i ≤ 0x013 then lo (((e.loops[i - 0x010]?).map (·.left)).getD 0)
  else if i = 0x014 then lo e.calls.length
  else if 0x100 ≤ i ∧ i ≤ 0x1FF then (e.mom.toList.getD ((i - 0x100) / 8) {}).word (i % 8)
  else 0

/-- Put one lane of a vector register; its tag stays (R161). -/
def VReg.putLane (r : VReg) (w : Bool) (lane : Nat) (v : Int) : VReg :=
  { r with lanes := BitVec.ofNat 512 (packLanes (laneCount w) (laneBits w) fun j =>
      if j = lane then v else (r.laneU w j : Int)) }

/-- SMOV with I = 0 (R161). -/
def State.smovKind (s : State) (p : Nat) (e : Engine) (x : Run) (f : Nat) : Except Nat Engine :=
  let d := bits f 24 21
  let a := bits f 20 17
  let k := bits f 16 13
  let lane := bits f 12 8
  let n := bits f 7 3
  let w := bit f 2
  let laneOk := bits f 1 0 = 0 && (!w || lane < 16)
  match k with
  | 0 => if bits f 12 0 = 0 then .ok (e.putS d (e.sr a)) else .error 0x01
  | 1 => if bits f 3 0 = 0 then .ok (e.putS d (s.special p e x (bits f 12 4))) else .error 0x01
  | 2 => if bits f 3 0 = 0 && bits f 12 4 = 0 then .ok { e with fl := e.sr a &&& 0x70F } else .error 0x01
  | 3 => if laneOk then .ok (e.putS d (BitVec.ofInt 32 ((e.vr n).lane w lane))) else .error 0x01
  | 4 => if laneOk then .ok (e.putV n ((e.vr n).putLane w lane (e.sr a).toNat)) else .error 0x01
  | 5 => if bits f 9 0 = 0 then .ok (e.putS d (e.mask (bits f 12 10))) else .error 0x01
  | 6 => if bits f 9 0 = 0 then .ok (e.putMask (bits f 12 10) (e.sr a)) else .error 0x01
  | _ => .error 0x01

/-- SMOV (R161). -/
def execSmov (p : Fin 272) (f : BitVec 26) (s : State) : Out :=
  .next (s.regInstr p.val 0x00 f 1 (bit f.toNat 25) true fun e x =>
    if bit f.toNat 25 then
      if bits f.toNat 20 17 = 0 then
        match srImm f.toNat x.pfx? with
        | some v => .ok (e.putS (bits f.toNat 24 21) v)
        | none => .error 0x01
      else .error 0x01
    else s.smovKind p.val e x f.toNat)

/-! ## Control (R162-R164) -/

/-- SBR (R162, R163): a taken branch ends the loops whose body its target leaves. -/
def execSbr (p : Fin 272) (f : BitVec 26) (s : State) : Out :=
  let n := f.toNat
  let c := bits n 25 22
  .next (s.instr p.val 0x08 f 1 false (!bit n 13 && c < 14 && (c = 9 || c = 10 || bits n 16 14 = 0)) fun e _ =>
    match e.cond c (bits n 16 14) with
    | none => Eff.fail s 0x01
    | some false => (s, .next)
    | some true =>
      let t := if bit n 21 then (e.sr (bits n 20 17)).toNat % 8192 else bits n 12 0
      (s.setEngine p.val { e with loops := leaveLoops t e.loops }, .jump t))

/-- SLOOP (R163): the body runs from the next address to END; a count of 0 skips it, a fifth loop overflows. -/
def execSloop (p : Fin 272) (f : BitVec 26) (s : State) : Out :=
  let n := f.toNat
  .next (s.instr p.val 0x09 f 1 false (bit n 25 || (bits n 24 21 = 0 && bits n 16 13 = 0)) fun e x =>
    let count := if bit n 25 then bits n 24 13 else (e.sr (bits n 20 17)).toNat % 65536
    let endp := bits n 12 0
    if endp ≤ e.pc || !s.inProgram x.slot endp || s.progWord x.slot endp / 2 ^ 26 = 0x3F then Eff.fail s 0x03
    else if count = 0 then (s, .jump (endp + 1))
    else if 4 ≤ e.loops.length then Eff.fail s 0x21
    else (s.setEngine p.val { e with loops := ⟨e.pc + 1, endp, count, e.calls.length⟩ :: e.loops }, .next))

/-- SCALL (R164): PC + 1 is pushed; a seventeenth push overflows. -/
def execScall (p : Fin 272) (f : BitVec 26) (s : State) : Out :=
  .next (s.instr p.val 0x0A f 2 false (bits f.toNat 25 13 = 0) fun e _ =>
    if 16 ≤ e.calls.length then Eff.fail s 0x20
    else (s.setEngine p.val { e with calls := (e.pc + 1) :: e.calls }, .jump (bits f.toNat 12 0)))

/-- SRET (R164, R115): with an empty call stack the run ends; else the return address is popped and every loop that began
at the popped call depth or deeper ends. -/
def execSret (p : Fin 272) (f : BitVec 26) (s : State) : Out :=
  .next (s.instr p.val 0x0B f 2 false (f = 0) fun e x =>
    match e.calls with
    | [] => (s.setEngine p.val { e with run := some { x with ended := true } }, .next)
    | r :: rest => (s.setEngine p.val { e with
        calls := rest
        loops := e.loops.filter fun l => l.depth < e.calls.length }, .jump r))

/-- PFX (R154): the PFX word waits for the word that it extends. -/
def execPfx (p : Fin 272) (f : BitVec 26) (s : State) : Out :=
  .next (
    match s.issues p.val 0x3F f with
    | none => s
    | some (e, x) =>
      let g := (s.regionOfEngine p.val).getD 0
      if x.pfx?.isSome then s.faultRun p.val 0x01
      else if !s.maySpend g x.kind.cls then s.stallRoll g x.kind.cls
      else State.retire (s.setEngine p.val { e with run := some { x with pfx? := some f } }, .next) p.val e.pc 1 false)

end Sys2Proof.Machine
end

