-- ==== Sys2Proof/Machine/Strokes.lean ====
section
/-! DEFINITION. The stroke schedulers and the rimshot (02_drumline.md R44-R52, R62, R63; 14_ensembles.md R417, R419). -/

namespace Sys2Proof.Machine

/-! ## Entries of the schedulers -/

/-- The key of an entry in `Strokes.entries`: the scheduler and the entry's number, its byte offset over 32 (R46). -/
def schedKey (sched : Sched) (e : Nat) : Nat :=
  match sched with
  | .package => e
  | .die q => 256 + 1024 * q.val + e
  | .cluster => 4352 + e

/-- Bytes of a scheduler's table (R46). -/
def schedSize (sched : Sched) : Nat :=
  match sched with
  | .package => 8192 | .die _ => 32768 | .cluster => 983040

/-- The entry at a key, if it has been written. -/
def Strokes.at (t : Strokes) (k : Nat) : Option Stroke := (t.entries.find? fun e => e.1 == k).map (·.2)

/-- Put an entry at its place among rising keys. -/
def Strokes.put (t : Strokes) (k : Nat) (e : Stroke) : Strokes :=
  { t with entries := Cells.insert (Cells.erase t.entries k) k e }

/-- The entry that the eight words of a record spell, as it is accepted (R44); reserved fields read as zero (R12), W7 is
ignored (R47). -/
def Stroke.parse (bs : List Byte) : Stroke :=
  let w (i : Nat) : Nat := leVal ((bs.drop (4 * i)).take 4)
  { launch := BitVec.ofNat 64 (w 0 + w 1 * 2 ^ 32)
    mask := BitVec.ofNat 16 (w 2 / 65536)
    index := BitVec.ofNat 16 (w 2)
    action := BitVec.ofNat 16 (w 3 / 65536)
    strict := (w 3).testBit 7
    level := BitVec.ofNat 4 (w 3)
    arg := BitVec.ofNat 32 (w 4)
    period := BitVec.ofNat 48 (w 5 + w 6 % 65536 * 2 ^ 32)
    repeatN := BitVec.ofNat 16 (w 6 / 65536)
    state := 0
    fires := 0
    next := BitVec.ofNat 64 (w 0 + w 1 * 2 ^ 32)
    applies := 0 }

/-- W0 to W6 of an entry (R44). -/
def Stroke.words (e : Stroke) : List Word :=
  [e.launch.truncate 32, (e.launch >>> 32).truncate 32,
   BitVec.ofNat 32 (e.mask.toNat * 65536 + e.index.toNat),
   BitVec.ofNat 32 (e.action.toNat * 65536 + (if e.strict then 128 else 0) + e.level.toNat),
   e.arg, e.period.truncate 32,
   BitVec.ofNat 32 (e.repeatN.toNat * 65536 + e.period.toNat / 2 ^ 32)]

/-- The 32 bytes of an entry as they are read back (R44). -/
def Stroke.bytes (e : Stroke) : List Byte :=
  wordsBytes (e.words ++ [BitVec.ofNat 32 (e.state * 2 ^ 28 + min e.fires 0xFFFF)])

/-- A byte of a scheduler's table as it is read. -/
def State.schedByte (s : State) (sched : Sched) (off : Nat) : Byte :=
  match s.strokes.at (schedKey sched (off / 32)) with
  | none => 0
  | some e => e.bytes.getD (off % 32) 0

/-- The count against which a scheduler's strokes are tested: the die's own copy, which differs from the control die's only
between a failed comparison and the reload (R40). -/
def State.schedNow (s : State) (sched : Sched) (e : Nat) : Dlt :=
  match sched with
  | .package => s.now
  | .die q => s.clk.copies[q]
  | .cluster => (s.clk.copies.toList[quadOfRegion (regionOfCluster (e / 16 % 1920))]?).getD s.now

/-- The entry of this scheduler is forwarded to the dies (R48, R457). -/
def forwards (sched : Sched) (e : Stroke) : Bool :=
  match sched with
  | .package => actsOffC e.action.toNat e.level.toNat e.mask.toNat e.index.toNat e.arg.toNat
  | _ => false

/-- The entry will not fire again: fired, cancelled, or late with its last firing made (R49). -/
def Stroke.finished (e : Stroke) : Bool :=
  e.action == 0 || e.state == 3 || e.state == 5 ||
  (e.fires ≠ 0 && (e.period == 0 || (e.repeatN.toNat ≠ 0xFFFF && e.repeatN.toNat < e.fires)))

/-- The refusals of R44, R46, R47 and R65 that depend on the entry alone; `pkgRules` leaves the period rules out for a
rimshot. -/
def entryForm (sched : Sched) (off : Nat) (e : Stroke) : Bool :=
  match actionRow e.action.toNat with
  | none => false
  | some (levels, periodOk) =>
    levels.contains e.level.toNat &&
    !(targetSet sched off e.level.toNat e.mask.toNat e.index.toNat).isEmpty &&
    (e.period == 0 || (periodOk && 20480 ≤ e.period.toNat)) &&
    (e.action != 0x60 || (1 ≤ e.arg.toNat && e.arg.toNat ≤ 65535)) &&
    (sched != .cluster || e.period != 0)

/-- Late when accepted (R48). -/
def State.lateAt (s : State) (sched : Sched) (n : Nat) (e : Stroke) : Bool :=
  if forwards sched e then beatsTo s.now e.launch < 40 else Dlt.reached (s.schedNow sched n) e.launch

/-- The rules of an ensemble entry at a write (R417): refused on a member; on the master, refused when it would fire
less than 20 ms after the write. -/
def State.ensembleRefuses (s : State) (sched : Sched) (off : Nat) (e : Stroke) : Bool :=
  if sched == .package && 240 ≤ off / 32 && s.nat Obj.ENS_ENABLE == 1 then
    if s.nat Obj.ENS_STATE ≠ 4 then true
    else
      let t := if e.period == 0 then e.launch
        else if Dlt.reached e.launch s.now then e.launch else nextOccurrence e.launch e.period.toNat s.now 0
      e.action != 0 && Dlt.diff t s.now < 1280000000
  else false

/-- THE CHECK OF ONE ENTRY (R47, R48, R49, R417): true when the write of it is accepted. Nothing is forwarded before the
trim-apply event (R426). -/
def State.entryOk (s : State) (sched : Sched) (off : Nat) (e : Stroke) : Bool :=
  let held := match s.strokes.at (schedKey sched (off / 32)) with
    | none => false
    | some old => s.power.trims && !old.finished && forwards sched old && beatsTo s.now old.next < 400
  !held && !s.ensembleRefuses sched off e &&
  (e.action == 0 ||
    (entryForm sched off e &&
     !(e.strict && (if forwards sched e then beatsTo s.now e.launch < 400
       else Dlt.reached (s.schedNow sched (off / 32)) e.launch))))

/-- The contents that entries had at the start of this beat: the first write of a beat keeps the old one, which decides until
the beat ends (R47, R49). -/
def Strokes.keep (t : Strokes) (k beats : Nat) : List (Nat × Stroke) :=
  match t.at k with
  | some old => if old.applies ≤ beats && !old.finished then t.replaced ++ [(k, old)] else t.replaced
  | none => t.replaced

/-- An accepted entry (R47-R49): STATE 5 for ACTION 0, else 1 or 2 with FIRES 0; it applies from the next beat, and the
content it replaces decides for this one. Late firing starts only after the trim-apply event (R426). -/
def State.accept (s : State) (sched : Sched) (off : Nat) (e : Stroke) : State :=
  let k := off / 32
  let masked := sched == .package && 240 ≤ k && s.nat Obj.ENS_ENABLE == 1 && s.nat Obj.ENS_STATE == 4 &&
    !(s.getLe Obj.ENS_SLOTS (2 * (k - 240)) 2).testBit 0
  let st : Nat := if e.action == 0 || masked then 5 else if e.period == 0 then 1 else 2
  let e' : Stroke := { e with
    state := st
    applies := s.clk.beats + 1
    lateDue := st ≠ 5 && s.power.trims && s.lateAt sched k e
    forwarded := forwards sched e && beatsTo s.now e.launch < 400 }
  { s with
    strokes := { s.strokes.put (schedKey sched k) e' with replaced := s.strokes.keep (schedKey sched k) s.clk.beats }
    ens := if sched == .package && 240 ≤ k then
        { s.ens with mirrorNew := (s.ens.mirrorNew.filter (· ≠ k)) ++ [k] } else s.ens }

/-- One 32-byte block of a write: the whole entry is accepted or refused alone; a partial entry is refused (R47). -/
def State.writeEntry (s : State) (sched : Sched) (off : Nat) (bs : List Byte) : State × Nat :=
  let e := Stroke.parse bs
  if bs.length = 32 && s.entryOk sched off e then (s.accept sched off e, 0)
  else (s.bump Obj.STROKE_REFUSED, 1)

/-- The blocks that a write of `bytes` at `off` covers, with the part of each that it brings. -/
def entryBlocks (off : Nat) (bytes : List Byte) : List (Nat × List Byte) :=
  let last := off + bytes.length
  (List.range ((last + 31) / 32 - off / 32)).map fun i =>
    let b := 32 * (off / 32 + i)
    let lo := max b off
    (b, ((bytes.drop (lo - off)).take (min (b + 32) last - lo)))

/-- A WRITE TO A SCHEDULER (R47): every block in ascending order; the status is REFUSED when any entry was refused, and
LENGTH where the access leaves the table (R342). -/
def State.writeStrokes (s : State) (sched : Sched) (off : Nat) (bytes : List Byte) : State × Nat :=
  if schedSize sched < off + bytes.length then (s, 4)
  else
    let r := (entryBlocks off bytes).foldl (fun (a : State × Nat) b =>
      let x := a.1.writeEntry sched b.1 b.2
      (x.1, a.2 + x.2)) (s, 0)
    (r.1, if r.2 = 0 then 0 else 5)

/-- STROKE_ENTRY_WRITE (R47). -/
def execStrokeEntryWrite (sched : Sched) (off : Nat) (bytes : List Byte) (s : State) : Out :=
  .next (s.writeStrokes sched off bytes).1

/-! ## Forwarding and firing (R44, R48, R49) -/

/-- STROKE_FORWARD (R48): 400 beats before its launch beat, an occurrence of a forwarded entry goes to the dies. -/
def execStrokeForward (e : Fin 256) (s : State) : Out :=
  match s.strokes.at e.val with
  | none => .next s
  | some st =>
    if !st.finished && forwards .package st && s.power.trims && beatsTo s.now st.next ≤ 400 then
      .next { s with strokes := s.strokes.put e.val { st with forwarded := true } }
    else .next s

/-- Where a stroke of a scheduler comes from in the order of R51. -/
def schedSrc : Sched → StrokeSrc
  | .package => .packageSched | .die _ => .dieSched | .cluster => .clusterSeq

/-- The landing of an entry's occurrence, with the launch time of the occurrence after it, if there is one (R72). A die
scheduler or a cluster sequencer acts on those units of the target set that it may target (R46). -/
def entryLanding (sched : Sched) (e : Nat) (st : Stroke) (nx : Option Dlt) : Landing :=
  { level := st.level, mask := st.mask, index := st.index, arg := st.arg, period := st.period, next := nx
    src := schedSrc sched, only := if sched = .package then none else some sched, entry := e }

/-- The package's slot matches a level-6 target (R419). -/
def State.slotMatches (s : State) (e : Stroke) : Bool :=
  e.level ≠ 6 || (s.nat Obj.ENS_SLOT < 16 && targetMatch e.mask.toNat e.index.toNat (s.nat Obj.ENS_SLOT))

/-- An occurrence of an entry fires (R44, R48, R49): FIRES counts, the entry becomes fired after its last firing, and the
next occurrence is chosen. `dies` are the dies on which it fires now, all of them unless their copies differ (R40). -/
def State.fireEntry (s : State) (sched : Sched) (e : Nat) (st : Stroke) (late : Bool) (dies : BitVec 6 := 0x3F) : State :=
  let fires := min 0xFFFF (st.fires + 1)
  let rep := st.period.toNat
  let next := if rep = 0 then st.next
    else if late then nextOccurrence st.launch rep (s.schedNow sched e) 1 else st.next + BitVec.ofNat 64 rep
  let more := rep ≠ 0 && (st.repeatN.toNat = 0xFFFF || fires ≤ st.repeatN.toNat)
  let st' := { st with
    fires := fires
    state := if late then 4 else if more then 2 else 3
    next := next
    lateDue := false
    passed := false
    dies := 0
    forwarded := more && forwards sched st && beatsTo s.now next < 400 }
  let s1 := { s with strokes := s.strokes.put (schedKey sched e) st' }
  let order := if st.passed then (st.launch - s.schedNow sched e + 0x8000000000000000).toNat else 2 ^ 63
  (if late then s1.bump Obj.STROKE_LATE else s1).fire st.action.toNat
    { entryLanding sched e st (if more then some next else none) with dies := dies } order

/-- A forwarded occurrence fires on some of its dies and is still to fire on the others, whose copies differ (R40). -/
def State.firePart (s : State) (e : Nat) (st : Stroke) (dies : BitVec 6) : State :=
  { s with strokes := s.strokes.put e { st with dies := st.dies ||| dies } }.fire st.action.toNat
    { entryLanding .package e st none with dies := dies }

/-- The content that an entry had at the start of this beat fires, though a write has replaced it (R47, R49): nothing of it
is left in the table. -/
def State.fireReplaced (s : State) (sched : Sched) (e : Nat) (st : Stroke) (late : Bool) : State :=
  let s1 := { s with strokes := { s.strokes with replaced := s.strokes.replaced.filter fun x => x.1 ≠ schedKey sched e } }
  (if late then s1.bump Obj.STROKE_LATE else s1).fire st.action.toNat (entryLanding sched e st none)

/-- An entry may fire: the trims are applied, it is not finished, and the package's slot matches a level-6 target. -/
def State.mayFire (s : State) (st : Stroke) (late : Bool) : Bool :=
  s.power.trims && !st.finished && st.lateDue == late && st.applies ≤ s.clk.beats && s.slotMatches st

/-- The content that decides whether an entry fires in this beat, and whether it has been replaced in it (R47). -/
def Strokes.deciding (t : Strokes) (k : Nat) : Option (Stroke × Bool) :=
  match t.replaced.find? fun x => x.1 == k with
  | some x => some (x.2, true)
  | none => (t.at k).map fun st => (st, false)

/-- The dies whose count has reached a time: a logic die by its own copy, S and C by the control die's (R40). -/
def State.diesAt (s : State) (t : Dlt) : BitVec 6 :=
  BitVec.ofNat 6 ((((List.range 4).filter fun q => Dlt.reached ((s.clk.copies.toList[q]?).getD s.now) t).map fun q => 2 ^ q).sum +
    (if Dlt.reached s.now t then 48 else 0))

/-- STROKE_FIRE (R40, R44, R47): the occurrence whose launch time DLT has reached fires as a flam. While copies differ, a
forwarded stroke fires on each die against that die's own count; a FRAME_START fires with the control die's, and each
quadrant's slots are offset by its copy's difference (log entry 18). -/
def execStrokeFire (sched : Sched) (e : Nat) (s : State) : Out :=
  match s.strokes.deciding (schedKey sched e) with
  | none => .next s
  | some (st, old) =>
    .next (
      if !s.mayFire st false || (forwards sched st && !st.forwarded) then s
      else if old then
        if Dlt.reached (s.schedNow sched e) st.next then s.fireReplaced sched e st false else s
      else
        let left := if st.dies = 0 then 0x3F else diesOf st.action.toNat (entryLanding sched e st none) &&& ~~~st.dies
        if forwards sched st && st.action ≠ 0x20 && s.clk.copies.any (· ≠ s.now) then
          let want := diesOf st.action.toNat (entryLanding sched e st none) &&& ~~~st.dies
          let got := want &&& s.diesAt st.next
          if got = 0 then s
          else if got = want then s.fireEntry sched e st false got
          else s.firePart e st got
        else if Dlt.reached (s.schedNow sched e) st.next then s.fireEntry sched e st false left
        else s)

/-- LATE_STROKE_FIRE (R48, R63): a late stroke fires once; the entry reads STATE 4 and LATE increments. -/
def execLateStrokeFire (sched : Sched) (e : Nat) (s : State) : Out :=
  match s.strokes.deciding (schedKey sched e) with
  | none => .next s
  | some (st, old) =>
    .next (
      if !s.mayFire st true then s
      else if old then s.fireReplaced sched e st true
      else s.fireEntry sched e st true)

/-- At the trim-apply event (R426): one-shot entries passed over become late, repeating entries pass their occurrences. -/
def State.strokesAtTrim (s : State) : State :=
  { s with strokes := { s.strokes with entries := s.strokes.entries.map fun (x : Nat × Stroke) =>
    let e := x.2
    if e.finished then x
    else if e.period == 0 then (x.1, { e with lateDue := Dlt.reached s.now e.launch })
    else (x.1, { e with next := if Dlt.reached s.now e.launch then nextOccurrence e.launch e.period.toNat s.now 0
                          else e.launch }) } }

/-! ## The rimshot (R52) -/

/-- The rimshot that the RS objects spell. -/
def State.rimshotEntry (s : State) : Stroke :=
  { launch := 0
    mask := BitVec.ofNat 16 (s.nat Obj.RS_TARGET / 65536)
    index := BitVec.ofNat 16 (s.nat Obj.RS_TARGET)
    action := BitVec.ofNat 16 (s.nat Obj.RS_ACTION)
    strict := false
    level := if s.nat Obj.RS_LEVEL < 16 then BitVec.ofNat 4 (s.nat Obj.RS_LEVEL) else 0
    arg := BitVec.ofNat 32 (s.nat Obj.RS_ARG)
    period := 0, repeatN := 0, state := 1, fires := 0, next := 0, applies := 0 }

/-- A write to RS_GO (R52): 1 checks the rimshot and accepts it (busy, 3) or refuses it (2); while one is pending a write
is refused and the status stays. -/
def State.writeRsGo (s : State) (v : Nat) : State :=
  if v ≠ 1 then s
  else if s.strokes.rimshot.isSome then s.bump Obj.STROKE_REFUSED
  else
    let e := s.rimshotEntry
    if entryForm .package 0 e && (s.power.trims || !forwards .package e) then
      { s.put Obj.RS_GO 3 with strokes := { s.strokes with
        rimshot := some ⟨e.action, { entryLanding .package 0 e none with src := .rimshot }, s.clk.beats, 2 ^ 63⟩ } }
    else (s.bump Obj.STROKE_REFUSED).put Obj.RS_GO 2

/-- RIMSHOT_GO (R52). -/
def execRimshotGo (v : Nat) (s : State) : Out := .next (s.writeRsGo v)

/-- RIMSHOT_FIRE (R52): the accepted rimshot fires as a flam; RS_GO reads 1. A level-6 GONG lands only in a package whose
slot matches (R419); in any other, RS_GO and RS_FIRED_DLT read as after a firing (DESIGN CHOICE, log entry 48). -/
def execRimshotFire (s : State) : Out :=
  match s.strokes.rimshot with
  | none => .next s
  | some f =>
    let s1 := ({ s with strokes := { s.strokes with rimshot := none } }.put Obj.RS_GO 1).put Obj.RS_FIRED_DLT s.now.toNat
    if f.l.level ≠ 6 || (s.nat Obj.ENS_SLOT < 16 && f.l.hits (s.nat Obj.ENS_SLOT)) then .next (s1.fire f.action.toNat f.l)
    else .next s1

end Sys2Proof.Machine
end

