-- ==== Sys2Proof/Machine/Ensemble.lean ====
section
/-! DEFINITION. Ensembles of packages (14_ensembles.md R403-R420): the drum bus with its beacons, claims and elections, the
member's time, agreement and dissent, mirrored strokes and the gong line. One DRUM_CYCLE is one cycle of 1 ms. -/

namespace Sys2Proof.Machine

/-- ENS_STATE: 0 off, 1 listening, 2 claiming, 3 member, 4 master, 5 electing, 6 muted. -/
def State.ensState (s : State) : Nat := s.nat Obj.ENS_STATE

/-- Change the ensemble record. -/
def State.mapEns (s : State) (f : Ens → Ens) : State := { s with ens := f s.ens }

/-- What is known of slot `k`. -/
def State.drumSlotOf (s : State) (k : Nat) : DrumSlot := (s.ens.slots.toList[k]?).getD {}

/-- Change what is known of slot `k`. -/
def State.mapSlot (s : State) (k : Nat) (f : DrumSlot → DrumSlot) : State :=
  s.mapEns fun e => { e with slots := e.slots.setIfInBounds k (f (s.drumSlotOf k)) }

/-- The part's own UID64. -/
def State.uid (s : State) : BitVec 64 := BitVec.ofNat 64 s.ownUid

/-- Frames whose slots are still running take a flag (R416). -/
def State.markRunning (s : State) (f : Frame → Frame) : State :=
  { s with focal := { s.focal with frames := s.focal.frames.map fun (x : Frame) => if x.slotsEnd.isNone then f x else x } }

/-! ## Transmissions (R404-R406) -/

/-- A TRANSMISSION (R404): the preamble of alternating ones and zeros, the start delimiter 0xD5A9, the payload, its CRC-32 and the
end mark; each byte goes out least significant bit first (R403). -/
def drumFrame (payload : List Byte) : List Byte :=
  List.replicate 4 0x55 ++ leBytes 2 0xD5A9 ++ payload ++ leBytes 4 (crc32 payload).toNat ++ [0]

/-- The Manchester code of the bytes of a transmission (R403): two half bits a bit, the first of them the bit itself (log entry
37). -/
def manchester (bs : List Byte) : List Bool :=
  bs.flatMap fun b => (List.range 8).flatMap fun i => [b.getLsbD i, !b.getLsbD i]

/-- The fields of a payload of either layout (R406). -/
structure Beacon where
  slot     : Nat
  state    : BitVec 8
  flags    : BitVec 8
  uid      : BitVec 64
  tTx      : Dlt
  arrival  : Dlt                -- the receiver's stamp of the timestamp point (R404)
  config   : Word
  version  : Word
  offset   : Int                -- member: OFFSET
  owner    : List (BitVec 64)   -- master: OWNER[1..15]
  tRx      : List Word          -- master: T_RX[1..15]
  gong     : BitVec 16
  mirEntry : Nat
  mirSlots : BitVec 16
  mirRec   : List Word          -- W0-W6
deriving DecidableEq, Repr

/-- `n` bytes of a reception from byte `i`, as a number. -/
def drumLe (r : DrumRx) (i n : Nat) : Nat := leVal ((r.bytes.drop i).take n)

/-- TYPE (R406). -/
def drumTy (r : DrumRx) : Nat := drumLe r 0 1

/-- The CRC of a reception checks (R404, R406). -/
def drumCrcOk (r : DrumRx) : Bool := r.bytes.length = 260 && (crc32 (r.bytes.take 256)).toNat = drumLe r 256 4

/-- THE FIELDS OF A RECEPTION (R406): types 1 and 4 use the master layout, the others the member layout. -/
def drumFields (r : DrumRx) : Beacon :=
  let master := drumTy r = 1 || drumTy r = 4
  let m (n : Nat) : Nat := if master then n else 0
  { slot := drumLe r 1 1, state := BitVec.ofNat 8 (drumLe r 2 1), flags := BitVec.ofNat 8 (drumLe r 3 1), uid := BitVec.ofNat 64 (drumLe r 4 8)
    tTx := BitVec.ofNat 64 (drumLe r 12 8), arrival := r.arrival
    config := BitVec.ofNat 32 (drumLe r 20 4), version := BitVec.ofNat 32 (drumLe r 24 4)
    offset := if master then 0 else signedOf 32 (drumLe r 32 4)
    owner := (List.range (m 15)).map fun j => BitVec.ofNat 64 (drumLe r (32 + 8 * j) 8)
    tRx := (List.range (m 15)).map fun j => BitVec.ofNat 32 (drumLe r (152 + 4 * j) 4)
    gong := BitVec.ofNat 16 (drumLe r (if master then 244 else 36) 2)
    mirEntry := m (drumLe r 212 1), mirSlots := BitVec.ofNat 16 (m (drumLe r 214 2))
    mirRec := (List.range (m 7)).map fun j => BitVec.ofNat 32 (drumLe r (216 + 4 * j) 4) }

/-- How far from its nominal time, S_k + 3.75 µs, a preamble began on the receiver's DLT, in LSB (R405). The timestamp point
comes 48 bits of 20 ns after that. -/
def Beacon.early (b : Beacon) : Int :=
  let d : Int := (b.arrival.toNat % 64000000 : Nat) - (4000000 * (b.slot % 16) + 240000 + 61440 : Nat)
  if d < -32000000 then d + 64000000 else if 32000000 ≤ d then d - 64000000 else d

/-! ## Joining and leaving (R407-R409) -/

/-- The cycle of the part's own timing (R405). -/
def State.cycleNow (s : State) : Nat := s.now.toNat / 64000000

/-- Listen (R407): nothing is held, and eight cycles and eight beacons are to come. -/
def State.ensListen (s : State) : State :=
  (((s.mapEns fun e => { e with
    listened := 0, near := 0, claims := 0, claimSent := false, backoff := 0, attempt := 0, noBeacon := 0, pair := false, t3 := none
    inTol := 0, in48 := 0, synced := false, unsynced := false, muted := false, differ := 0, agree := 0
    mirrorIn := none }).put Obj.ENS_STATE 1).put Obj.ENS_SLOT 0xFF).put Obj.DISSENT 0

/-- Take no part (R407, R408). -/
def State.ensOff (s : State) : State :=
  ((s.ensListen.mapEns fun e => { e with leaving := 0 }).put Obj.ENS_STATE 0).put Obj.MASTER_UID 0

/-- The drum bus is no source any more (R456). -/
def State.dropDrumSource (s : State) : State :=
  ({ s with clk := { s.clk with
      sources := s.clk.sources.set (sourceIdx .drumBus) (s.clk.sources[sourceIdx .drumBus]).ended } }).updateLock

/-- A write of ENS_ENABLE (R407, R408): 1 starts to listen; 0 makes a member or master send two leaves before it falls
silent, and neither sets an ensemble flag on a frame any more (R416). -/
def State.writeEnsEnable (s : State) (v : Nat) : State :=
  let was := s.nat Obj.ENS_ENABLE
  let s1 := s.put Obj.ENS_ENABLE v
  if v = was then s1
  else if v = 1 then (s1.mapEns fun e => { e with leaving := 0, cycleAt := some s.cycleNow, sentAt := none }).ensListen.updateLock
  else if s1.ensState = 3 || s1.ensState = 4 then
    (((s1.mapEns fun e => { e with leaving := 2, unsynced := false, muted := false }).put Obj.DISSENT 0)).dropDrumSource
  else s1.ensOff.dropDrumSource

/-- ENS_ENABLE_WRITE (R407, R408); values above 1 are refused (R336). -/
def execEnsEnableWrite (v : Nat) (s : State) : Out := .next (if 1 < v then s else s.writeEnsEnable v)

/-- Elect, or listen where the package may not be master (R408, R409). -/
def State.elect (s : State) : State :=
  if s.nat Obj.ENS_MASTER_CAP = 1 then
    (s.mapEns fun e => { e with claims := 0, backoff := 0, claimSent := false, pair := false, t3 := none }).put Obj.ENS_STATE 5
  else s.ensListen

/-- Slot `k` was silent in the last 8 cycles. -/
def State.slotSilent (s : State) (k : Nat) : Bool := 8 ≤ (s.drumSlotOf k).silent

/-- CHOOSE A SLOT TO CLAIM (R407): ENS_SLOT_PREF if it is silent, else the lowest silent one; with none the package stays
listening. -/
def State.chooseSlot (s : State) : State :=
  let pref := s.nat Obj.ENS_SLOT_PREF
  match (pref :: (List.range 15).map (· + 1)).find? s.slotSilent with
  | some k => (s.mapEns fun e => { e with claimSlot := k, claimSent := false }).put Obj.ENS_STATE 2
  | none => s.put Obj.ENS_STATE 1

/-- The backoff in cycles of attempt `j` (R407). -/
def ensBackoff (uid : BitVec 64) (j : Nat) : Nat := (uid.toNat >>> (3 * j)) % 8 + 1

/-- A claim failed (R407, R409): wait out the backoff of this attempt. -/
def State.ensRetry (s : State) : State :=
  s.mapEns fun e => { e with backoff := ensBackoff s.uid e.attempt, attempt := (e.attempt + 1) % 22, claimSent := false }

/-- Another package is master now (R409): MASTER_UID follows, and a change of master counts and rings. -/
def State.newMaster (s : State) (uid : BitVec 64) : State :=
  let old := s.nat Obj.MASTER_UID
  let s1 := s.put Obj.MASTER_UID uid.toNat
  if old ≠ 0 && old ≠ uid.toNat then (s1.bump Obj.ELECTIONS).bell 0x0D01 else s1

/-- The package becomes master (R409): it keeps its DLT and moves to slot 0. -/
def State.becomeMaster (s : State) : State :=
  let s1 := s.mapEns fun e => { e with
    claims := 0, attempt := 0, unsynced := false, muted := false, synced := false, differ := 0, agree := 0, pair := false, t3 := none
    mirrorIn := none }
  ((((((s1.put Obj.ENS_STATE 4).put Obj.ENS_SLOT 0).put Obj.MASTER_UID s.uid.toNat).put Obj.DISSENT 0).bump Obj.ELECTIONS).bell
    0x0D01).updateLock

/-! ## What the package sends (R404-R406, R414, R418) -/

/-- The STATE word (R414): a repeating FRAME_START entry of the package scheduler, and whether a frame would carry
QUALITY_STAGE. -/
def State.stateWord (s : State) : Nat :=
  (if s.strokes.entries.any fun (e : Nat × Stroke) => e.1 < 256 && e.2.action = 0x20 && e.2.period ≠ 0 && !e.2.finished then 1 else 0) +
  (if s.nat Obj.STARTUP_STAGE < 5 then 2 else 0)

/-- The cycle of the master's time (R405). -/
def State.drumCycleNo (s : State) : Nat := s.cycleNow % 2 ^ 32

/-- The ensemble entry that the next beacon carries (R418): one written since it was last carried first, else the rotation. -/
def State.mirrorPick (s : State) : Nat × State :=
  match s.ens.mirrorNew with
  | k :: rest => (k, s.mapEns fun e => { e with mirrorNew := rest })
  | [] => (s.ens.mirrorNext, s.mapEns fun e => { e with mirrorNext := if e.mirrorNext = 255 then 240 else e.mirrorNext + 1 })

/-- The payload of the master layout (R406): TYPE 1 or 4. -/
def State.masterPayload (s : State) (ty state k : Nat) : List Byte :=
  let heard (j : Nat) : Bool := (s.nat Obj.SLOT_MAP).testBit j
  let slots := (List.range 15).map (· + 1)
  let e := (s.strokes.at k)
  let words : List Word := match e with
    | some x => x.words
    | none => List.replicate 7 0
  leBytes 1 ty ++ [0] ++ leBytes 1 state ++ leBytes 1 (if s.ens.gongCause.isSome then 1 else 0) ++ leBytes 8 s.uid.toNat ++
  leBytes 8 s.now.toNat ++ leBytes 4 s.ens.config.toNat ++ leBytes 4 s.ens.version.toNat ++ leBytes 4 s.drumCycleNo ++
  (slots.flatMap fun j => leBytes 8 (if heard j then (s.drumSlotOf j).uid.toNat else 0)) ++
  (slots.flatMap fun j => leBytes 4 (if heard j then (s.drumSlotOf j).arrival.toNat else 0)) ++
  leBytes 1 k ++ [0] ++ leBytes 2 (if k = 0 then 0 else s.getLe Obj.ENS_SLOTS (2 * (k - 240)) 2) ++ wordsBytes words ++
  leBytes 2 ((s.ens.gongCause.map (·.toNat)).getD 0) ++ List.replicate 10 0

/-- The payload of the member layout (R406): TYPE 2, 3 or 5; T_RX is zero in a cycle without a master beacon. -/
def State.memberPayload (s : State) (ty slot state : Nat) : List Byte :=
  let f (i : Nat) (b : Bool) : Nat := if b then 2 ^ i else 0
  leBytes 1 ty ++ leBytes 1 slot ++ leBytes 1 state ++
  leBytes 1 (f 0 s.ens.gongCause.isSome + f 1 (s.nat Obj.DISSENT ≠ 0) + f 2 s.ens.unsynced + f 3 (s.nat Obj.ENS_MASTER_CAP = 1)) ++
  leBytes 8 s.uid.toNat ++ leBytes 8 s.now.toNat ++ leBytes 4 s.ens.config.toNat ++ leBytes 4 s.ens.version.toNat ++
  leBytes 4 (if s.ens.beaconNow then s.ens.t2.toNat else 0) ++ leBytes 4 (wrapNat 32 (s.get Obj.ENS_OFFSET)) ++
  leBytes 2 ((s.ens.gongCause.map (·.toNat)).getD 0) ++ List.replicate 218 0

/-- A beacon has carried the gong cause (R420). -/
def State.gongCarried (s : State) : State := s.mapEns fun e => { e with gongCause := none }

/-- The master's transmission, with the mirror record it carries. -/
def State.sendMaster (s : State) (state : Nat) : State :=
  let p := s.mirrorPick
  (p.2.send (.drum (drumFrame (s.masterPayload 1 state p.1)))).gongCarried

/-- One leave of a member, or one leaving beacon of a master (R408); after the second the package falls silent. -/
def State.sendLeave (s : State) : State :=
  let s1 := if s.ensState = 4 then s.sendMaster (s.stateWord + 128)
    else (s.send (.drum (drumFrame (s.memberPayload 5 (s.nat Obj.ENS_SLOT) (s.stateWord + 128))))).gongCarried
  if s.ens.leaving ≤ 1 then s1.ensOff else s1.mapEns fun e => { e with leaving := e.leaving - 1 }

/-- A transmission that reads back wrong counts a collision (R404). -/
def State.readBack (s : State) (ok : Bool) : State := if ok then s else s.bump Obj.COLLISIONS

/-- The slot in which the package sends (R405, R407, R409): its own, the one it claims, or slot 0. -/
def State.ownSlot (s : State) : Nat :=
  if s.ensState = 3 then s.nat Obj.ENS_SLOT else if s.ensState = 2 then s.ens.claimSlot else 0

/-- THE TIMESTAMP POINT OF THE PACKAGE'S TRANSMISSION HAS COME (R404, R405): 48 bits after S_k + 3.75 µs of the cycle, within the
slot, and once in each cycle. -/
def State.slotDue (s : State) : Bool :=
  let at' := s.now.toNat % 64000000
  4000000 * s.ownSlot + 301440 ≤ at' && at' < 4000000 * (s.ownSlot + 1) && s.ens.sentAt ≠ some s.cycleNow

/-- DRUM_SLOT (R404, R405, R407-R409): what the package sends in its slot, and how its own transmission reads back. A
claimant of mastership that has sent eight consecutive claims becomes master. -/
def execDrumSlot (readBackOk : Bool) (s0 : State) : Out :=
  .next (
    let s := s0.mapEns fun e => { e with sentAt := some s0.cycleNow }
    if !s0.slotDue then s0
    else if s.ens.leaving ≠ 0 then s.sendLeave.readBack readBackOk
    else
      match s.ensState with
      | 4 => (s.sendMaster s.stateWord).readBack readBackOk
      | 3 =>
        ((s.send (.drum (drumFrame (s.memberPayload 2 (s.nat Obj.ENS_SLOT) s.stateWord)))).gongCarried.mapEns fun e =>
          { e with t3 := some s.now }).readBack readBackOk
      | 2 =>
        if s.ens.backoff ≠ 0 then
          let s1 := s.mapEns fun e => { e with backoff := e.backoff - 1 }
          if s.ens.backoff = 1 then s1.chooseSlot else s1
        else
          ((s.send (.drum (drumFrame (s.memberPayload 3 s.ens.claimSlot s.stateWord)))).mapEns fun e =>
            { e with claimSent := true }).readBack readBackOk
      | 5 =>
        if s.ens.backoff ≠ 0 then s.mapEns fun e => { e with backoff := e.backoff - 1 }
        else
          let s1 := (s.send (.drum (drumFrame (s.masterPayload 4 s.stateWord 0)))).readBack readBackOk
          if !readBackOk then (s1.mapEns fun e => { e with claims := 0 }).ensRetry
          else if 8 ≤ s.ens.claims + 1 then s1.becomeMaster
          else s1.mapEns fun e => { e with claims := e.claims + 1 }
      | _ => s)

/-! ## Mirrored strokes (R418) -/

/-- A one-shot record whose LAUNCH had passed when its beacon arrived. -/
def State.mirrorLate (s : State) (e : Stroke) : Bool := e.action ≠ 0 && e.period = 0 && Dlt.reached s.ens.t2 e.launch

/-- The words of entry `k` as the part holds it; an empty entry reads zeros. -/
def State.heldWords (s : State) (k : Nat) : List Word := ((s.strokes.at k).map (·.words)).getD (List.replicate 7 0)

/-- THE RECORD THAT CAME WITH THE LAST BEACON is applied to the entry of the same number (R418): its words, or ACTION 0 where the
mask leaves the member's slot out; what the part already holds is ignored, and so is a one-shot record whose LAUNCH had
passed on arrival, which is counted. -/
def State.applyMirror (s : State) : State :=
  match s.ens.mirrorIn with
  | none => s
  | some (k, mask, rec') =>
    let s1 := s.mapEns fun e => { e with mirrorIn := none }
    if s.ensState ≠ 3 || s.nat Obj.DISSENT ≠ 0 then s1
    else
      let e := Stroke.parse (wordsBytes (rec' ++ List.replicate (8 - rec'.length) 0))
      let w : Stroke := if mask.getLsbD (s.nat Obj.ENS_SLOT) then e else { e with action := 0 }
      if s.heldWords k = w.words then s1
      else if s.mirrorLate e then s1.bump Obj.MIRROR_LATE
      else { s1.accept .package (32 * k) w with ens := s1.ens }

/-- MIRROR_APPLY (R418). -/
def execMirrorApply (s : State) : Out := .next s.applyMirror

/-! ## What the package hears (R405-R411, R413-R415) -/

/-- The window of R405 applies: the part's own time is that of the ensemble. -/
def State.windowed (s : State) : Bool :=
  s.ensState = 4 || ((s.ensState = 2 || s.ensState = 3) && !s.ens.unsynced)

/-- A RECEIVED TRANSMISSION is taken (R405, R406): its fields, or `none` with the state that has counted it. A CRC that
fails or an unknown TYPE counts in DRUM_CRC_ERR, a preamble outside its window in SLOT_EDGE. Listening,
electing and unsynced packages do not apply the window. -/
def State.letIn (s : State) (r : DrumRx) : Option Beacon × State :=
  if s.nat Obj.ENS_ENABLE ≠ 1 || s.ensState = 0 || !s.drumOn then (none, s)
  else if !drumCrcOk r || drumTy r = 0 || 5 < drumTy r then (none, s.bump Obj.DRUM_CRC_ERR)
  else if s.windowed && 240000 < (drumFields r).early.natAbs then (none, s.bump Obj.SLOT_EDGE)
  else (some (drumFields r), s)

/-- A RECEPTION of TYPE `ty` does `f` with its fields, if it is taken. -/
def State.received (s : State) (ty : Nat) (r : DrumRx) (f : Beacon → State) : State :=
  match s.letIn r with
  | (none, t) => t
  | (some b, _) => if drumTy r = ty then f b else s

/-- The row of MEMBERS of a slot, its arrival stamp, and its gong cause (R406, R420). -/
def State.heardSlot (s : State) (b : Beacon) : State :=
  let k := b.slot % 16
  let s1 := (s.mapSlot k fun d => { d with heard := true, silent := 0, arrival := b.arrival.truncate 32 })
  let s2 := s1.putBytes Obj.MEMBERS (16 * k) (leBytes 8 b.uid.toNat ++ leBytes 1 b.flags.toNat ++ leBytes 1 b.state.toNat ++
    leBytes 2 0 ++ leBytes 4 (wrapNat 32 b.offset))
  if b.flags.getLsbD 0 then s2.put Obj.GONG_LAST_CAUSE b.gong.toNat else s2

/-- A package becomes unsynced (R411, R416). -/
def State.becomeUnsynced (s : State) : State :=
  if s.ens.unsynced then s.mapEns fun e => { e with inTol := 0 }
  else ((s.mapEns fun e => { e with unsynced := true, synced := false, inTol := 0, in48 := 0 }).markRunning fun f =>
    { f with unsynced := true }).bell 0x0D03

/-- A member is muted (R411, R416). -/
def State.mute (s : State) : State :=
  ((((s.mapEns fun e => { e with muted := true, synced := false, near := 0, pair := false, t3 := none }).put Obj.ENS_STATE 6).bump
    Obj.MUTE_COUNT).markRunning fun f => { f with unsynced := true }).bell 0x0D04

/-- THE CLASS OF A MEMBER'S TIME after an event with offset `o` (R411): only sixteen events within ENS_TOL end unsynced, so
it outlasts muted. -/
def State.classify (s : State) (o : Int) : State :=
  let st := s.ensState
  let tol := s.nat Obj.ENS_TOL
  let a := o.natAbs
  let s1 := s.mapEns fun e => { e with near := if a ≤ 64000 then min 8 (e.near + 1) else 0 }
  let s2 := s1.mapEns fun e =>
    let n := if a ≤ 48 then min 16 (e.in48 + 1) else 0
    let m := if a ≤ tol then min 16 (e.inTol + 1) else 0
    { e with in48 := n, inTol := m, synced := (e.synced || st = 3 && n = 16) && a ≤ tol, unsynced := e.unsynced && m < 16 }
  if st = 3 then
    let s3 := if tol < a then s2.becomeUnsynced else s2
    if 240000 < a then s3.mute else s3
  else if st = 6 && s1.ens.near = 8 then
    ((s2.mapEns fun e => { e with muted := false, near := 0, backoff := 0, attempt := 0 }).put Obj.ENS_SLOT 0xFF).chooseSlot
  else if st = 1 && s1.ens.near = 8 && 8 ≤ s1.ens.listened then s2.chooseSlot
  else s2

/-- ONE EVENT OF THE DRUM BUS (R410, R58): delay and offset are recorded, the source takes the event, the class follows. -/
def State.drumEvent (s : State) (t1 t2 : Dlt) (delay : Int) : State :=
  let o := Dlt.diff t2 t1 - delay
  let s1 := (s.put Obj.ENS_DELAY (clampInt delay (-2147483648) 2147483647)).put Obj.ENS_OFFSET (clampInt o (-2147483648) 2147483647)
  (s1.sourceEvent .drumBus t2 o 64000000).classify o

/-- The 64-bit time nearest to `near` whose low half is `lo` (R410). -/
def extendDlt (lo : Word) (near : Dlt) : Dlt := near + (lo - near.truncate 32).signExtend 64

/-- THE TIME OF A MASTER BEACON (R410): a member completes the exchange of the previous cycle with the t4 that the beacon
brings, or with the last delay; a package that listens uses 0 (R407), and one that claims or is muted its last delay. -/
def State.beaconTime (s : State) (b : Beacon) : State :=
  if s.ensState = 3 then
    let s1 := if s.ens.pair then
        let t4 := b.tRx.getD (s.nat Obj.ENS_SLOT - 1) 0
        let delay := match s.ens.t3 with
          | some t3 =>
            if t4 = 0 then s.get Obj.ENS_DELAY
            else roundDiv (Dlt.diff s.ens.t2 s.ens.t1 + Dlt.diff (extendDlt t4 s.now) t3) 2 + s.get Obj.DRUM_ASYM
          | none => s.get Obj.ENS_DELAY
        s.drumEvent s.ens.t1 s.ens.t2 delay
      else s
    if s1.ensState = 3 then s1.mapEns fun e => { e with pair := true, t1 := b.tTx, t2 := b.arrival, t3 := none } else s1
  else if s.ensState = 1 || s.ensState = 2 || s.ensState = 6 then
    (s.drumEvent b.tTx b.arrival (if s.ensState = 1 then 0 else s.get Obj.ENS_DELAY)).mapEns fun e => { e with t2 := b.arrival }
  else s

/-- A claim is confirmed or not by the OWNER table (R407); a member whose slot the table gives to another loses it (R408). -/
def State.beaconOwner (s : State) (b : Beacon) : State :=
  let owner (k : Nat) : BitVec 64 := if k = 0 then 0 else b.owner.getD (k - 1) 0
  if s.ensState = 2 && s.ens.claimSent then
    if owner s.ens.claimSlot = s.uid then
      ((s.mapEns fun e => { e with claimSent := false, attempt := 0, pair := false, in48 := 0, inTol := 0, differ := 0, agree := 0 }).put
        Obj.ENS_STATE 3).put Obj.ENS_SLOT s.ens.claimSlot
    else s.ensRetry
  else if s.ensState = 3 && owner (s.nat Obj.ENS_SLOT) ≠ 0 && owner (s.nat Obj.ENS_SLOT) ≠ s.uid then s.ensListen
  else s

/-- AGREEMENT AND DISSENT (R415) of a member against its master. -/
def State.agreement (s : State) (b : Beacon) : State :=
  let d := (if s.ens.config = b.config then 0 else 1) + (if s.ens.version = b.version then 0 else 2) +
    (if s.stateWord % 128 = b.state.toNat % 128 then 0 else 4)
  let n := s.nat Obj.DISSENT_CYCLES
  let s1 := s.mapEns fun e => { e with
    differ := if d = 0 then 0 else min 255 (e.differ + 1)
    agree := if d = 0 then min 255 (e.agree + 1) else 0 }
  if d ≠ 0 && n ≤ s1.ens.differ && s.nat Obj.DISSENT = 0 then
    ((s1.put Obj.DISSENT d).markRunning fun f => { f with dissent := true }).bell 0x0D02
  else if d = 0 && n ≤ s1.ens.agree then s1.put Obj.DISSENT 0
  else s1

/-- A member that does not dissent takes the mirror record of a beacon (R415, R418); one that is still to be applied is applied
first, for it has had its cycle. -/
def State.takeMirror (s0 : State) (b : Beacon) : State :=
  let s := s0.applyMirror
  if s.nat Obj.DISSENT = 0 && 240 ≤ b.mirEntry && b.mirEntry ≤ 255 then
    s.mapEns fun e => { e with mirrorIn := some (b.mirEntry, b.mirSlots, b.mirRec) }
  else s

/-- A valid beacon of the master, as the others take it. -/
def State.followMaster (s : State) (b : Beacon) : State :=
  let s1 := ((s.heardSlot { b with slot := 0 }).mapEns fun e => { e with beaconNow := true, noBeacon := 0 }).newMaster b.uid
  if b.state.getLsbD 7 then s1.elect
  else
    let s2 := (s1.beaconOwner b).beaconTime b
    if s2.ensState = 3 then (s2.agreement b).takeMirror b else s2

/-- MASTER_BEACON (R407-R411, R415, R418): it gives time, confirms a slot, is compared, and carries a mirror record. A master
or a claimant yields to a lower UID64. -/
def execMasterBeacon (r : DrumRx) (s : State) : Out :=
  .next (s.received 1 r fun b =>
    if s.ensState = 4 || s.ensState = 5 then
      (if b.uid < s.uid then (((s.ensListen.newMaster b.uid).heardSlot { b with slot := 0 }).mapEns fun e =>
          { e with beaconNow := true }).updateLock
       else s)
    else s.followMaster b)

/-- MEMBER_BEACON (R406): the arrival and the row of the slot; the owner where none is recorded. -/
def execMemberBeacon (r : DrumRx) (s : State) : Out :=
  .next (s.received 2 r fun b =>
    (s.heardSlot b).mapSlot (b.slot % 16) fun d => { d with uid := if s.ensState = 4 && d.uid ≠ 0 then d.uid else b.uid })

/-- SLOT_CLAIM (R407): the master records the claimant as owner of a slot that is free. -/
def execSlotClaim (r : DrumRx) (s : State) : Out :=
  .next (s.received 3 r fun b =>
    let t := s.heardSlot b
    if s.ensState = 4 && (s.drumSlotOf (b.slot % 16)).uid = 0 then t.mapSlot (b.slot % 16) fun d => { d with uid := b.uid } else t)

/-- MASTER_CLAIM (R409): a claimant with a higher UID64 withdraws and listens. -/
def execMasterClaim (r : DrumRx) (s : State) : Out :=
  .next (s.received 4 r fun b => if s.ensState = 5 && b.uid < s.uid then s.ensListen else s)

/-- LEAVE (R408): the slot has no owner from then on; members elect when the master leaves. -/
def execLeave (r : DrumRx) (s : State) : Out :=
  .next (s.received 5 r fun b =>
    if b.slot = 0 then (if s.ensState = 1 || s.ensState = 2 || s.ensState = 3 then s.elect else s)
    else (s.heardSlot b).mapSlot (b.slot % 16) fun d => { d with uid := 0 })

/-! ## The cycle (R405, R408, R409, R411) -/

/-- The silence of every slot advances by a cycle: the slots heard make SLOT_MAP, and the master frees a slot that has been
silent for 8 cycles. -/
def State.slotsTurn (s : State) : State :=
  let map := ((List.range 16).map fun k => if (s.drumSlotOf k).heard then 2 ^ k else 0).sum
  (s.mapEns fun e => { e with slots := e.slots.map fun (d : DrumSlot) =>
    let n := if d.heard then 0 else min 8 (d.silent + 1)
    { d with silent := n, heard := false, arrival := if d.heard then d.arrival else 0, uid := if 8 ≤ n then 0 else d.uid } }).put
      Obj.SLOT_MAP map

/-- DRUM_CYCLE (R405, R408, R409, R411): at the start of each cycle of the part's own timing the silence counters advance; a member without a valid master
beacon for 3 cycles is unsynced, and a package without one for 8 cycles elects. A cycle without a beacon brings no t4 (R410). -/
def execDrumCycle (s : State) : Out :=
  .next (
    if s.ensState = 0 || s.ens.cycleAt = some s.cycleNow then s
    else
      let s1 := s.slotsTurn.mapEns fun e => { e with
        cycleAt := some s.cycleNow
        listened := min 8 (e.listened + 1)
        noBeacon := if e.beaconNow then 0 else min 8 (e.noBeacon + 1)
        t3 := if e.beaconNow then e.t3 else none
        beaconNow := false }
      let st := s1.ensState
      if s1.ens.leaving ≠ 0 || st = 4 || st = 5 then s1
      else
        let s2 := if st = 3 && 3 ≤ s1.ens.noBeacon then s1.becomeUnsynced else s1
        if 8 ≤ s2.ens.noBeacon then
          (if st = 1 && s2.nat Obj.ENS_MASTER_CAP ≠ 1 then s2 else s2.elect)
        else s2)

/-! ## The gong line (R420) -/

/-- GONG_RECEIVE (R420): a low on GONG_N of `ns` that another package drives and that lasts more than 1 µs is one gong: its
edge is stamped, counted and rung, and with GONG_ACTION 1 a CLAPPER stroke is launched. -/
def execGongReceive (ns : Nat) (stamp : Dlt) (s : State) : Out :=
  .next (
    if ns ≤ 1000 || s.lands.gongOwn || s.lands.gongOther || s.power.domains[1] ≠ 1 then s
    else
      let s1 := (({ s with lands := { s.lands with gongOther := true } }.bump Obj.GONG_IN).put Obj.GONG_LAST_DLT stamp.toNat).bell 0x0D10
      if s1.nat Obj.GONG_ACTION = 1 then
        s1.fire 0x50 { level := 5, arg := BitVec.ofNat 32 (s1.nat Obj.GONG_PROFILE), src := .gongAction }
      else s1)

/-- GONG_N_RISE (R420): another package has released GONG_N, so the next falling edge counts as a new gong. -/
def execGongNRise (s : State) : Out := .next { s with lands := { s.lands with gongOther := false } }

end Sys2Proof.Machine
end

