-- ==== Sys2Proof/Machine/Images.lean ====
section
/-! DEFINITION. Coefficient images in flash and partner loads (07_calibration.md R249-R258). -/

namespace Sys2Proof.Machine

/-! ## Layout (R249) -/

/-- The image configuration is accepted (R249): both slots 64 KiB-aligned, within the 4-byte range, not overlapping. -/
def imgConfigOk (base0 base1 size : Nat) : Bool :=
  base0 % 65536 = 0 && base1 % 65536 = 0 && base0 + size ≤ 2 ^ 32 && base1 + size ≤ 2 ^ 32 &&
  (base0 + size ≤ base1 || base1 + size ≤ base0)

/-- The flash address of image slot `i`. -/
def State.imgBase (s : State) (i : Nat) : Nat := if i = 0 then s.nat Obj.IMG_BASE0 else s.nat Obj.IMG_BASE1

/-- Page `n` of the image in slot `i`, 4,096 bytes. -/
def State.imgPage (s : State) (i n : Nat) : List Byte := s.bytes (flashBase + s.imgBase i + 4096 * n) 4096

/-- A little-endian field of a list of bytes. -/
def fieldLe (bs : List Byte) (off n : Nat) : Nat := leVal ((bs.drop off).take n)

/-- PCRC of a page matches (R249). -/
def pageOk (p : List Byte) : Bool := (crc32 (p.take 4092)).toNat = fieldLe p 4092 4

/-- PAYLOAD of a page. -/
def pagePayload (p : List Byte) : List Byte := (p.take 4092).drop 8

/-- N_PAGES of the header in slot `i`. -/
def State.imgPages (s : State) (i : Nat) : Nat := fieldLe (s.imgPage i 0) 16 4

/-- THE VALID IMAGE OF SLOT `i` (R251): its IMG_ID, or `none`. -/
def State.imgValid (s : State) (i : Nat) : Option Nat :=
  let h := s.imgPage i 0
  let n := s.imgPages i
  let c := s.imgPage i (n - 1)
  if pageOk h && 2 ≤ n && n * 4096 ≤ s.nat Obj.IMG_SIZE && pageOk c &&
      fieldLe h 8 4 = 0x4D494743 && fieldLe c 8 4 = 0x4B4F4743 && fieldLe h 12 2 = 1 &&
      fieldLe h 0 4 = fieldLe c 0 4 && fieldLe c 12 4 = n then some (fieldLe h 0 4)
  else none

/-- The slot of the newest valid image (R252, R254). -/
def State.imgNewest (s : State) : Option Nat :=
  match s.imgValid 0, s.imgValid 1 with
  | none, none => none
  | some _, none => some 0
  | none, some _ => some 1
  | some a, some b => if a < b then some 1 else some 0

/-- IMG_SERIALS (R248): IMG_ID of the valid image in each slot, 0 if none. -/
def State.imgSerials (s : State) : List Byte := leBytes 4 ((s.imgValid 0).getD 0) ++ leBytes 4 ((s.imgValid 1).getD 0)

/-! ## Coding (R250) -/

/-- The eight fields of a record in the order of R250, with their widths. -/
def recFields (r : Nat) : List (Nat × Nat) :=
  [(bits r 19 0, 20), (bits r 35 20, 16), (bits r 47 36, 12), (bits r 57 48, 10), (bits r 67 58, 10),
   (bits r 83 68, 16), (bits r 95 84, 12), (bits r 127 96, 32)]

/-- A record from its eight fields. -/
def recOfFields (f : List Nat) : Nat :=
  let g (i : Nat) : Nat := f.getD i 0
  g 0 + g 1 * 2 ^ 20 + g 2 * 2 ^ 36 + g 3 * 2 ^ 48 + g 4 * 2 ^ 58 + g 5 * 2 ^ 68 + g 6 * 2 ^ 84 + g 7 * 2 ^ 96

/-- A number in groups of 7 bits, least significant first; at most 5 groups are needed. -/
def groups7 : Nat → Nat → List Byte
  | 0, _ => []
  | k + 1, z => if z < 128 then [BitVec.ofNat 8 z] else BitVec.ofNat 8 (128 + z % 128) :: groups7 k (z / 128)

/-- The delta code of a record against the previous one (R250). -/
def deltaRecord (prev r : Nat) : List Byte :=
  let fs := (recFields prev).zip (recFields r)
  let mask := ((fs.zipIdx.filter fun e => e.1.1.1 ≠ e.1.2.1).map fun e => 2 ^ e.2).sum
  BitVec.ofNat 8 mask :: fs.flatMap fun e =>
    if e.1.1 = e.2.1 then []
    else
      let d := signedOf e.2.2 (wrapNat e.2.2 ((e.2.1 : Int) - e.1.1))
      groups7 5 (if 0 ≤ d then 2 * d else -2 * d - 1).toNat

/-- The delta codes of records in order. -/
def deltaStream : Nat → List Nat → List Byte
  | _, [] => []
  | prev, r :: rs => deltaRecord prev r ++ deltaStream r rs

/-- Read a number in groups of 7 bits. -/
def readGroups : Nat → List Byte → Option (Nat × List Byte)
  | 0, _ => none
  | _, [] => none
  | k + 1, b :: bs =>
    if b.toNat < 128 then some (b.toNat, bs)
    else (readGroups k bs).map fun e => (b.toNat % 128 + 128 * e.1, e.2)

/-- Read the fields whose mask bits are set: the new values in reverse. -/
def readFields : List ((Nat × Nat) × Nat) → Nat → List Byte → List Nat → Option (List Nat × List Byte)
  | [], _, bs, acc => some (acc.reverse, bs)
  | ((v, w), i) :: fs, mask, bs, acc =>
    if !mask.testBit i then readFields fs mask bs (v :: acc)
    else match readGroups 5 bs with
      | none => none
      | some (z, rest) =>
        let d : Int := if z % 2 = 0 then (z / 2 : Nat) else -((z / 2 : Nat) : Int) - 1
        readFields fs mask rest (wrapNat w ((v : Int) + d) :: acc)

/-- Decode `n` delta-coded records. -/
def readDeltas : Nat → Nat → List Byte → Option (List Nat)
  | 0, _, _ => some []
  | _, _, [] => none
  | n + 1, prev, m :: bs =>
    match readFields (recFields prev).zipIdx m.toNat bs [] with
    | none => none
    | some (fs, rest) => (readDeltas n (recOfFields fs) rest).map fun rs => recOfFields fs :: rs

/-- Raw records of 16 bytes. -/
def readRaw : Nat → List Byte → Option (List Nat)
  | 0, _ => some []
  | n + 1, bs => if bs.length < 16 then none else (readRaw n (bs.drop 16)).map fun rs => leVal (bs.take 16) :: rs

/-- The 480 J6F words of a bank as bytes. -/
def Bank.j6fBytes (b : Bank) : List Byte := b.read j6fOff 1920
/-- All records of bank `i` in pixel order, each as programs read it. -/
def State.bankRecords (s : State) (i : Nat) : List Nat := (List.range 491520).map fun k => s.record i (k % 768) (k / 768)

/-- The CRC-32 of R249 over records and J6F words. -/
def rcrc (records : List Nat) (j6f : List Byte) : Nat := (crc32 ((records.flatMap fun r => leBytes 16 r) ++ j6f)).toNat

/-- A region's stream with its method (R250, R252): whichever is shorter, raw when they are equal. -/
def State.imgStream (s : State) (bank : Nat) : Nat × List Byte :=
  let rs := s.bankRecords bank
  let raw := rs.flatMap fun r => leBytes 16 r
  let delta := deltaStream 0 rs
  let j := (s.bank bank).j6fBytes
  if delta.length < raw.length then (1, j ++ delta) else (0, j ++ raw)

/-! ## Saving (R252, R253) -/

/-- A page of an image. -/
def imgPageBytes (id n : Nat) (payload : List Byte) : List Byte :=
  let body := leBytes 4 id ++ leBytes 4 n ++ (payload ++ List.replicate (4084 - payload.length) 0).take 4084
  body ++ leBytes 4 (crc32 body).toNat

/-- Cut a stream into payloads of 4,084 bytes, at most `k` of them. -/
def cutPayloads : Nat → List Byte → List (List Byte)
  | 0, _ => []
  | _, [] => []
  | k + 1, bs => bs.take 4084 :: cutPayloads k (bs.drop 4084)

/-- The payloads of a stream. -/
def streamPages (bs : List Byte) : List (List Byte) := cutPayloads ((bs.length + 4083) / 4084) bs

/-- The regions' pages in order, with the directory entries: start page, method, length, GEN, RCRC. -/
def State.imgRegions (s : State) (inactive : Bool) : List (List Byte) × List (List Byte) :=
  let r := (List.range 64).foldl (fun (a : List (List Byte) × List (List Byte)) g =>
    let b := s.bankNo g inactive
    let st := s.imgStream b
    let entry := leBytes 4 (1 + a.1.length) ++ leBytes 4 (st.1 * 2 ^ 28 + st.2.length) ++ leBytes 4 (s.bank b).gen ++
      leBytes 4 (rcrc (s.bankRecords b) (s.bank b).j6fBytes)
    (a.1 ++ streamPages st.2, a.2 ++ [entry])) ([], [])
  r

/-- The IMG_ID of the next save (R252). -/
def State.imgNextId (s : State) : Nat := max ((s.imgValid 0).getD 0) ((s.imgValid 1).getD 0) + 1

/-- A save starts (R252, R253) or is refused; its pages are written and read back, and the records read, under AC4 (R266); a write while a save runs leaves it as it is. -/
def State.startSave (s : State) (mode : Nat) : State :=
  let slot := match s.imgNewest with
    | none => 0
    | some k => 1 - k
  if s.cal.save.isSome then s
  else if !s.flashWritable || s.imgNextId = 0xFFFFFFFF || s.cal.load.isSome ||
      (mode = 2 && (s.cal.ownBanks || !(List.range 64).all fun g => (s.bank (s.bankNo g true)).verified)) then
    s.put Obj.IMG_SAVE 3
  else
    let a := flashBase + s.imgBase slot
    let pages := (s.imgRegions (mode = 2)).1.length + 2
    let s0 := (({ s with cal := { s.cal with save := some (mode, slot), saveT0 := s.now, saveSwap := false } }.wipe a (a + 65536)).put
      Obj.IMG_SAVE 1).put Obj.IMG_PROGRESS 0
    let s1 := (s0.owe 144 4 (8192 * pages)).owePorts 4 bankAccesses
    if mode = 2 then s1.holdPorts 0x8002 else s1

/-- IMG_SAVE_ACTIVE (R252). -/
def execImgSaveActive (s : State) : Out := .next (s.startSave 1)

/-- IMG_SAVE_INACTIVE (R252). -/
def execImgSaveInactive (s : State) : Out := .next (s.startSave 2)

/-- A save ends: its leases go back and the status is written. -/
def State.endSave (s : State) (mode status bell : Nat) : State :=
  let s1 := { s with cal := { s.cal with save := none, saveSwap := false } }
  let s2 := if mode = 2 then s1.freePorts 0x8002 else s1
  (s2.put Obj.IMG_SAVE status).bell bell

/-- The pages of an image under save in the order in which they are written (R252, R253): the region pages that fit, then page 0
and the commit page where all of them do. -/
def State.saveWrites (s : State) (mode : Nat) : List (Nat × List Byte) :=
  let id := s.imgNextId
  let room := s.nat Obj.IMG_SIZE / 4096
  let r := s.imgRegions (mode = 2)
  let n := r.1.length + 2
  let body := (r.1.take (room - 2)).zipIdx.map fun e => (e.2 + 1, imgPageBytes id (e.2 + 1) e.1)
  if room < n then body
  else
    let head := leBytes 4 0x4D494743 ++ leBytes 2 1 ++ leBytes 2 64 ++ leBytes 4 n ++ leBytes 8 s.cal.saveT0.toNat ++
      leBytes 4 0 ++ r.2.flatten
    let payload (p : List Byte) : List Byte := (p ++ List.replicate (4084 - p.length) 0).take 4084
    let icrc := crc32 ((head :: r.1).flatMap payload)
    body ++ [(0, imgPageBytes id 0 head),
      (n - 1, imgPageBytes id (n - 1) (leBytes 4 0x4B4F4743 ++ leBytes 4 n ++ leBytes 4 icrc.toNat))]

/-- The pages `ws` reach the flash in the slot at `a`. -/
def State.writePages (s : State) (a : Nat) (ws : List (Nat × List Byte)) : State :=
  ws.foldl (fun (t : State) e => t.poke (a + 4096 * e.1) e.2) s

/-- A SAVE THAT IS CUT OFF (R252, R372): the pages written so far, of which there may be any number, stand; each bit of the next
is 1 or its target; its 64 KiB and those before it have been erased, and the next 64 KiB may read any value (log entries 7, 9). -/
def State.saveTear (s : State) : State :=
  match s.cal.save with
  | none => s
  | some (mode, slot) =>
    let a := flashBase + s.imgBase slot
    let ws := s.saveWrites mode
    let k := s.draw.toNat % (ws.length + 1)
    let w (i : Nat) : Byte := ((Config.freeBits (s.free + 1 + i / 8)) >>> (8 * (i % 8))).truncate 8
    let at' := ((ws[k]?).map (·.1)).getD 0
    let top := ((ws.take (k + 1)).foldl (fun m e => max m e.1) 0 / 16 + 1) * 65536
    let s1 := (s.wipe a (a + top)).writePages a (ws.take k)
    let s2 := match ws[k]? with
      | none => s1
      | some e => s1.poke (a + 4096 * at') (e.2.zipIdx.map fun (b : Byte × Nat) => b.1 ||| w b.2)
    (if top < s.nat Obj.IMG_SIZE then s2.poke (a + top) ((List.range 65536).map fun i => w (4096 + i)) else s2).drawn 8705

/-- IMG_SAVE_COMPLETE (R252, R253): the pages, then page 0, then the commit page; or no commit for size or for a swap. -/
def execImgSaveComplete (s : State) : Out :=
  .next (match s.cal.save with
    | none => s
    | some (mode, slot) =>
      if (mode = 2 && !s.portsHeld 0x8002) || s.owing 144 4 ≠ 0 || !s.portsPaid 4 then s
      else
      let a := flashBase + s.imgBase slot
      let size := s.nat Obj.IMG_SIZE
      let n := (s.imgRegions (mode = 2)).1.length + 2
      let fit := min (n - 2) (size / 4096 - 2)
      let ws := s.saveWrites mode
      let blank := s.wipe a (a + size)
      if mode = 1 && s.cal.saveSwap then (blank.writePages a (ws.take fit)).endSave mode 4 0x0707
      else if size / 4096 < n then ((blank.writePages a ws).put Obj.IMG_PROGRESS fit).endSave mode 5 0x0708
      else
        let s2 := blank.writePages a ws
        (((s2.put Obj.IMG_PROGRESS n).bump (Obj.CALK_COUNT 7)).put (Obj.CALK_LAST_DLT 7) s2.now.toNat |>.put
          (Obj.CALK_LAST_RESULT 7) 2).endSave mode 2 0x0706)

/-! ## Loading (R254-R257) -/

/-- The stream of a region in the image of slot `i`: the payloads of its pages from START_PAGE on, `none` when a page fails
PCRC. -/
def State.loadStream (s : State) (i start len : Nat) : Option (List Byte) :=
  let ps := (List.range ((len + 4083) / 4084)).map fun k => s.imgPage i (start + k)
  if ps.all pageOk then some ((ps.flatMap pagePayload).take len) else none

/-- The records, J6F words and GEN of region `g` in the image of slot `i`, `none` on a failure (R249-R251). -/
def State.loadRegion (s : State) (i g : Nat) : Option (List Nat × List Byte × Nat) :=
  let dir := pagePayload (s.imgPage i 0)
  let e := 24 + 16 * g
  let ml := fieldLe dir (e + 4) 4
  (s.loadStream i (fieldLe dir e 4) (ml % 2 ^ 28)).bind fun st =>
    let j := st.take 1920
    let body := st.drop 1920
    let rs := if ml / 2 ^ 28 = 0 then readRaw 491520 body else if ml / 2 ^ 28 = 1 then readDeltas 491520 0 body else none
    rs.bind fun r => if j.length = 1920 && rcrc r j = fieldLe dir (e + 12) 4 then some (r, j, fieldLe dir (e + 8) 4) else none

/-- The whole image of slot `i`, `none` on a failure of PCRC, RCRC or ICRC. -/
def State.loadImage (s : State) (i : Nat) : Option (List (List Nat × List Byte × Nat)) :=
  let n := s.imgPages i
  let ps := (List.range (n - 1)).map (s.imgPage i)
  let icrc := (crc32 (ps.flatMap pagePayload)).toNat
  let rs := (List.range 64).filterMap (s.loadRegion i)
  if (s.imgValid i).isSome && ps.all pageOk && icrc = fieldLe (s.imgPage i (n - 1)) 16 4 && rs.length = 64 then some rs else none

/-- UOF of a record replaced by another record's (R254, R258). -/
def withUof (r other : Nat) : Nat := putBits r 83 68 (bits other 83 68)

/-- A load of slot `i` starts (R254, R255): the banks are filled from here on and lose VERIFIED. Its flash pages, writes and the
read-back are charged to AC3 (R266). -/
def State.startLoad (s : State) (x : Load) : State :=
  let s1 := { s with cal := { s.cal with load := some x } }
  let s2 := (List.range 64).foldl (fun (t : State) g => (t.setVerified (t.bankNo g true) false).bankView g) s1
  let s3 := ((s2.holdPorts 0x8001).owe 144 3 (4096 * s.imgPages x.slot)).owePorts 3 (2 * bankAccesses)
  (s3.put Obj.IMG_LOAD 1).put Obj.IMG_PROGRESS 0

/-- A write of 1 to IMG_LOAD (R233, R254). With no valid image the load fails at once. -/
def State.writeImgLoad (s : State) : State :=
  if s.cal.load.isSome then s
  else if s.cal.ownBanks || s.cal.save.isSome || s.ports.sfdp.isNone then s.put Obj.IMG_LOAD 3
  else match s.imgNewest with
    | none => (s.put Obj.IMG_LOAD 4).bell 0x0705
    | some i => s.startLoad { slot := i, mode := s.nat Obj.LOAD_UOF_MODE }

/-- IMG_LOAD (R254). -/
def execImgLoad (s : State) : Out := .next s.writeImgLoad

/-- THE BOOT LOAD (R256, R257), once stage 4 begins; refused while a calibration run or a save owns the banks (R233). -/
def State.bootLoad (s : State) : State :=
  if s.nat Obj.BOOT_LOAD = 0 then s
  else if s.cal.ownBanks || s.cal.save.isSome then s.put Obj.IMG_LOAD 3
  else match (if s.ports.sfdp.isSome then s.imgNewest else none) with
    | none => s.bell 0x0705
    | some i => s.startLoad { slot := i, mode := s.nat Obj.LOAD_UOF_MODE, boot := true }

/-- Region `g`'s inactive bank takes records, J6F words and GEN, and becomes VERIFIED. -/
def State.fillBank (s : State) (mode g : Nat) (records : List Nat) (j6f : List Byte) (gen : Nat) : State :=
  let a := s.bankNo g false
  let i := s.bankNo g true
  let rs := if mode = 1 then records.zipIdx.map fun e => withUof e.1 (s.record a (e.2 % 768) (e.2 / 768)) else records
  let s1 := s.bankWrite i 0 (rs.flatMap fun r => leBytes 16 r)
  (((s1.bankWrite i j6fOff j6f).bankWrite i tailOff (leBytes 4 gen)).setVerified i true).bankView g

/-- The regions whose UOF was copied and that have not swapped (R255): those of `gs` join them under LOAD_UOF_MODE 1; under
LOAD_UOF_MODE 0 those of `gs` whose banks had lost VERIFIED leave them. -/
def State.awaitSwap (s : State) (mode : Nat) (gs : List Nat) (lost : Nat → Bool) : State :=
  let rest := s.cal.uofWait.filter fun g => !(gs.contains g && (mode = 1 || lost g))
  { s with cal := { s.cal with uofWait := if mode = 1 then rest ++ gs else rest } }

/-- A generation has been loaded (R248). -/
def State.generationLoaded (s : State) : State :=
  ((s.bump (Obj.CALK_COUNT 6)).put (Obj.CALK_LAST_DLT 6) s.now.toNat).put (Obj.CALK_LAST_RESULT 6) 2

/-- What an abandoned load leaves in region `g`'s inactive bank: the spec says only that it is unverified, so its records, J6F
words and GEN are free (log entry 27). -/
def State.spoilBank (s : State) (g : Nat) : State :=
  let i := s.bankNo g true
  let any (off n : Nat) : List Byte := (List.range n).map fun k =>
    BitVec.ofNat 8 (Config.freeBits (s.free + 2 ^ 23 * g + off + k)).toNat
  ((((s.bankWrite i 0 (any 0 7864320)).bankWrite i j6fOff (any j6fOff 1920)).bankWrite i tailOff (any tailOff 4)).setVerified i
    false).bankView g

/-- An abandoned load (R254): every inactive bank is unverified. -/
def State.spoilBanks (s : State) : State := ((List.range 64).foldl State.spoilBank s).drawn (2 ^ 29)

/-- IMG_LOAD_COMPLETE (R254, R256, R257). -/
def execImgLoadComplete (s : State) : Out :=
  .next (match s.cal.load with
    | none => s
    | some x =>
      if !s.portsHeld 0x8001 || s.owing 144 3 ≠ 0 || !s.portsPaid 3 then s
      else
      let s0 := { s with cal := { s.cal with load := none } }.freePorts 0x8001
      match s.loadImage x.slot with
      | some rs =>
        let s1 := rs.zipIdx.foldl (fun (t : State) e => t.fillBank x.mode e.2 e.1.1 e.1.2.1 e.1.2.2) s0
        let s2 := (((((s1.awaitSwap x.mode (List.range 64) fun _ => true).generationLoaded).put Obj.IMG_LAST_SLOT x.slot).put Obj.IMG_LOAD 2).put
          Obj.IMG_PROGRESS (s.imgPages x.slot)).bell 0x0704
        { s2 with cal := { s2.cal with bootSwap := x.boot } }
      | none =>
        let s1 := (s0.spoilBanks.put Obj.IMG_LOAD 4).bell 0x0705
        if x.boot && !x.second && (s.imgValid (1 - x.slot)).isSome then
          s1.startLoad { x with slot := 1 - x.slot, second := true }
        else s1)

/-! ## Partner loads (R258) -/

/-- A calibration run or a save owns the inactive banks (R258). -/
def State.banksOwned (s : State) : Bool := s.cal.ownBanks || decide (s.cal.save.map (·.1) = some 2)

/-- A WRITE OF INACTIVE_BANKS (R258): refused whole when it includes one of the first two tail words of a region, and with status
4 of COMMIT_GO while the banks are owned; every region it reaches loses VERIFIED. AC3 is charged at each region's port (R266). -/
def State.writeInactive (s : State) (off : Nat) (bytes : List Byte) : State × Nat :=
  let last := off + bytes.length
  if 536870912 < last then (s, 4)
  else if bytes.isEmpty then (s, 0)
  else
    let gs := (List.range 64).filter fun g => g * 2 ^ 23 < last && off < (g + 1) * 2 ^ 23
    if s.banksOwned then (if s.cal.partner.isSome then s else s.put Obj.COMMIT_GO 4, 5)
    else if gs.any fun g => g * 2 ^ 23 + tailOff < last && off < g * 2 ^ 23 + tailOff + 8 then (s, 5)
    else
      (gs.foldl (fun (t : State) g =>
        let lo := max off (g * 2 ^ 23)
        let part := (bytes.drop (lo - off)).take (min last ((g + 1) * 2 ^ 23) - lo)
        let i := t.bankNo g true
        let u := t.owe (64 + g) 3 ((part.length + 31) / 32)
        ((u.bankWrite i (lo - g * 2 ^ 23) part).setVerified i false).bankView g) s, 0)

/-- The first region reached by `n` bytes at an offset of INACTIVE_BANKS whose write port has no stick for AC3: the write waits
(R270). -/
def State.portStall (s : State) (off n : Nat) : Option Nat :=
  (List.range 64).find? fun g => g * 2 ^ 23 < off + n && off < (g + 1) * 2 ^ 23 && !s.maySpend (64 + g) 3

/-- INACTIVE_BANKS_WRITE (R258, R270). -/
def execInactiveBanksWrite (off : Nat) (bytes : List Byte) (s : State) : Out :=
  .next (match s.portStall off bytes.length with
    | some g => s.stallRoll (64 + g) 3
    | none => (s.writeInactive off bytes).1)

/-- A write to COMMIT_GO (R258): the check takes the objects as they are now; the write is refused while a check runs, and the
commit, with status 4, while the banks are owned (R339). Its read-back is charged to AC3 (R266). -/
def State.writeCommitGo (s : State) (v : Nat) : State × Nat :=
  if v ≠ 1 then (s, 0)
  else if s.cal.partner.isSome then (s, 5)
  else
    let region := s.nat Obj.COMMIT_REGION
    if s.banksOwned || (64 ≤ region && region ≠ 0xFF) then (s.put Obj.COMMIT_GO 4, 0)
    else
      let crcs := if region = 0xFF then (List.range 64).map fun g => BitVec.ofNat 32 (s.getLe Obj.COMMIT_CRCS (4 * g) 4)
        else [BitVec.ofNat 32 (s.nat Obj.COMMIT_CRC)]
      let x : Partner := ⟨region, BitVec.ofNat 32 (s.nat Obj.COMMIT_GEN), crcs, s.nat Obj.LOAD_UOF_MODE⟩
      let gs := if region = 0xFF then List.range 64 else [region]
      let s1 := gs.foldl (fun (t : State) g => t.owe (64 + g) 3 bankAccesses) s
      ({ s1 with cal := { s1.cal with partner := some x } }.put Obj.COMMIT_GO 1, 0)

/-- COMMIT_GO (R258). -/
def execCommitGo (v : Nat) (s : State) : Out := .next (s.writeCommitGo v).1

/-- COMMIT_CHECK_DONE (R258): every region whose CRC matches takes LOAD_UOF_MODE, GEN and VERIFIED; the status reads 3 when
one did not match, and such a region is unverified (R260). The check ends once its read-back has been charged (R270). -/
def execCommitCheckDone (s : State) : Out :=
  .next (match s.cal.partner with
    | none => s
    | some x =>
      let gs := if x.region = 0xFF then List.range 64 else [x.region]
      if gs.any fun g => s.owing (64 + g) 3 ≠ 0 then s
      else
      let ok (e : Nat × BitVec 32) : Bool :=
        let i := s.bankNo e.1 true
        rcrc (s.bankRecords i) (s.bank i).j6fBytes = e.2.toNat
      let good := ((gs.zip x.crcs).filter ok).map (·.1)
      let s1 := { s with cal := { s.cal with partner := none } }
      let s2 := good.foldl (fun (t : State) g =>
        let i := t.bankNo g true
        let u := if x.mode = 1 then t.bankWrite i 0 ((t.bankRecords i).zipIdx.flatMap fun e =>
            leBytes 16 (withUof e.1 (t.record (t.bankNo g false) (e.2 % 768) (e.2 / 768)))) else t
        ((u.bankWrite i tailOff (leBytes 4 x.gen.toNat)).setVerified i true).bankView g) s1
      let s2 := (gs.filter fun g => !good.contains g).foldl (fun (t : State) g =>
        (t.setVerified (t.bankNo g true) false).bankView g) s2
      let s3 := s2.awaitSwap x.mode good fun g => !(s.bank (s.bankNo g true)).verified
      if good.length = gs.length then s3.generationLoaded.put Obj.COMMIT_GO 2 else s3.put Obj.COMMIT_GO 3)

end Sys2Proof.Machine
end

