-- ==== Sys2Proof/Machine/Mc.lean ====
section
/-! DEFINITION. The monitor converter (03_focal_plane_readout.md R96-R105). -/

namespace Sys2Proof.Machine

/-! ## Channels and outputs (R97, R99-R101) -/

/-- The channel being converted: that of a calibration step, of the injected or the regular sequence, or of the scan. -/
def State.mcChannel (s : State) : Nat :=
  let m := s.mc
  if m.calStep ≠ 0 then m.calCh
  else match m.inj with
    | some i => s.nat (Obj.MC_INJ_SEQ + i)
    | none => if m.seqMode then s.nat (Obj.MC_SEQ + m.pos) else m.pos

/-- The first entry of a sequence of `len` entries, from entry `i` on, whose channel exists: an entry that names a reserved
channel has no effect (R12, R96). -/
def State.mcEntry (s : State) (seq len i : Nat) : Option Nat :=
  (List.range len).find? fun j => i ≤ j && s.nat (seq + j) < 14

/-- Where the sequencer stands once entries without effect are passed over: the regular sequence wraps, the injected one
ends. -/
def State.mcSettle (s : State) : State :=
  let m := s.mc
  let reg (i : Nat) : Nat := match s.mcEntry Obj.MC_SEQ (s.nat Obj.MC_SEQ_LEN) i with
    | some j => j
    | none => (s.mcEntry Obj.MC_SEQ (s.nat Obj.MC_SEQ_LEN) 0).getD 0
  let inj := m.inj.bind fun i => s.mcEntry Obj.MC_INJ_SEQ (s.nat Obj.MC_INJ_LEN) i
  let pos := if m.seqMode then reg m.pos else m.pos
  { s with mc := { m with inj := inj, pos := pos, outs := if inj = m.inj && pos = m.pos then m.outs else 0 } }

/-- Outputs of a channel's conversion (R99). The spec gives the count for a scan; an entry of a sequence takes as many
(DESIGN CHOICE, log entry 48). -/
def State.mcOutputs (s : State) : Nat := s.nat Obj.MC_K - 1 + s.nat Obj.MC_DWELL

/-- MC_STATE follows the sequencer. -/
def State.mcView (s : State) : State :=
  s.put Obj.MC_STATE (if s.mc.calStep ≠ 0 then 3 else if !s.mc.running then 0 else if s.mc.inj.isSome then 2 else 1)

/-- The lowest channel of a scan mask. -/
def lowestBit (mask : Nat) : Nat := ((List.range 16).find? mask.testBit).getD 0

/-- The channel after `ch` in a scan, ascending with wrap (R100). -/
def nextChannel (mask ch : Nat) : Nat :=
  ((List.range 16).find? fun i => ch < i && mask.testBit i).getD (lowestBit mask)

/-- The first place of the scan or the regular sequence. -/
def State.mcFirst (s : State) : Nat := if s.mc.seqMode then 0 else lowestBit (s.nat Obj.MC_SCAN_MASK)

/-- The decimator is reset, and an integration begins now (R99). -/
def State.mcReset (s : State) : State := { s with mc := { s.mc with outs := 0, since := 96 * s.clk.beats } }

/-- The output in progress is complete: D cycles of 6.144 MHz, 3,125 / 96 beats each, after its start (R97). -/
def State.mcDue (s : State) : Bool := s.mc.since + 3125 * s.nat Obj.MC_D ≤ 96 * s.clk.beats

/-- The sequencer stops. -/
def State.mcHalt (s : State) : State :=
  ({ s with mc := { s.mc with running := false, stopping := false, inj := none, outs := 0, deadline := none } }.put
    Obj.MC_SCAN_MASK 0).mcView

/-! ## Starting and stopping (R100, R101) -/

/-- MC_START (R100, R101): a new scan, or the regular sequence, from its beginning. -/
def execMcStart (l : Landing) (s : State) : Out :=
  .next (s.land 0x28 l fun t =>
    let mask := l.arg.toNat % 65536
    let seq := t.nat Obj.MC_MODE = 1
    if !seq && (mask = 0 || 16384 ≤ mask) then t.bump Obj.MC_REFUSED
    else
      (({ t with mc := { t.mc with
          running := true, seqMode := seq, stopping := false, inj := none, outs := 0
          pos := if seq then 0 else lowestBit mask
          deadline := l.next, entry := l.repeating, since := 96 * t.clk.beats } }).put Obj.MC_SCAN_MASK (if seq then 0 else mask)).mcSettle.mcView)

/-- MC_STOP (R100): the scan stops at the end of the conversion in progress; a suspended one does not resume. -/
def execMcStop (s : State) : Out :=
  .next (match s.strokes.inflight.find? fun f => f.action = 0x29 with
    | none => s
    | some f => s.land 0x29 f.l fun t =>
      if !t.mc.running then t
      else if t.mc.calStep ≠ 0 then t.mcHalt
      else { t with mc := { t.mc with stopping := true } })

/-- MC cycles in LSB: one cycle of 6.144 MHz is 31,250 / 3 LSB. -/
def mcLsb (cycles : Nat) : Rat := (cycles : Rat) * 31250 / 3

/-- AN URGENT REQUEST (R101): the injected sequence runs, or the request is dropped and counted. `go` tells a write of
MC_INJ_GO. -/
def State.mcUrgent (s : State) (go : Bool) : State :=
  let status (t : State) (v : Nat) : State := if go then t.put Obj.MC_INJ_GO v else t
  if !s.mc.running || !s.mc.seqMode || s.mc.calStep ≠ 0 then s
  else if s.mc.inj.isSome then status (s.bump Obj.MC_INJ_DROP_BUSY) 2
  else
    let need := mcLsb ((s.nat Obj.MC_INJ_LEN + 1) * s.mcOutputs * s.nat Obj.MC_D)
    let late := match s.mc.deadline with
      | none => false
      | some d => decide ((Dlt.diff d s.now : Rat) ≤ need)
    if late then status (s.bump Obj.MC_INJ_DROP_DEADLINE) 2
    else status (({ s with mc := { s.mc with inj := some 0, outs := 0, since := 96 * s.clk.beats } }.bump Obj.MC_INJ_SERVED).mcSettle.mcView) 1

/-- A write to MC_INJ_GO (R101). -/
def State.writeMcInjGo (s : State) (v : Nat) : State := if v = 1 then s.mcUrgent true else s

/-- MC_INJ_GO (R101). -/
def execMcInjGo (v : Nat) (s : State) : Out := .next (s.writeMcInjGo v)

/-! ## Outputs (R98, R99, R102-R104) -/

/-- RESULT of R104. -/
def mcResult (raw offset gain : Int) : Int := clampInt (((raw - offset) * gain).fdiv (2 ^ 22)) (-8388608) 8388607

/-- A record enters the buffer (R102, R103) and the views that mirror it (R302), or is lost. -/
def State.mcRecord (s : State) (w0 : Nat) : State :=
  let wr := s.nat Obj.MC_WR
  if (wr + 512 - s.nat Obj.MC_RD) % 512 = 511 then s.bump Obj.MC_LOST
  else
    let bytes := leBytes 4 w0 ++ leBytes 4 (s.now.toNat / 65536)
    let s1 := (s.poke (mcBase + 8 * wr) bytes).put Obj.MC_WR ((wr + 1) % 512 : Nat)
    ((List.range 16).filter fun v => s1.nat (Obj.VW_SOURCE v) = 2 && 2 ≤ s1.nat (Obj.VW_STATE v)).foldl
      (fun (t : State) v => t.addEntry v s1.now bytes) s1

/-- What follows an output of the scan or a sequence: the next channel after the last settled output, or the end. -/
def State.mcAdvance (s : State) : State :=
  let m := s.mc
  if m.outs < s.mcOutputs then s
  else if m.stopping then s.mcHalt
  else
    let next : Mc := match m.inj with
      | some i => if i + 1 < s.nat Obj.MC_INJ_LEN then { m with inj := some (i + 1), outs := 0 } else { m with inj := none, outs := 0 }
      | none =>
        if m.seqMode then { m with pos := if m.pos + 1 < s.nat Obj.MC_SEQ_LEN then m.pos + 1 else 0, outs := 0 }
        else { m with pos := nextChannel (s.nat Obj.MC_SCAN_MASK) m.pos, outs := 0 }
    ({ s with mc := next }).mcSettle.mcView

/-- The full scale of a channel (R96), in nV, for channels 4 to 6 in units of 10^-9 of the ratio; channel 12 counts 0.1 mK
and has none. -/
def State.mcFullScale (s : State) (ch : Nat) : Nat :=
  if ch < 4 then 1250000000 / 2 ^ s.nat (Obj.MC_GAIN_SEL ch)
  else if ch < 7 then 1000000000
  else [40000000000, 2500000000, 1250000000, 5000000000, 1250000000].getD (ch - 7) 1250000000

/-- THE RAW CODE OF AN INPUT (R96, R97): its part of full scale in units of 2^-23, rounded to nearest, clamped to the
full-scale codes; full scale itself reads 0x7F_FFFF (DEDUCED, log entry 20). Channel 12 gives its temperature above 273.15 K
in 0.1 mK. -/
def State.mcRaw (s : State) (ch : Nat) (x : Int) : Int :=
  clampInt (if ch = 12 then x else roundDiv (x * 2 ^ 23) (s.mcFullScale ch)) (-8388608) 8388607

/-- MC_OUTPUT (R96-R99, R102-R104): the decimator forms an output of the input `x`, in nV, in 10^-9 of the ratio on
channels 4 to 6, in 0.1 mK above 273.15 K on channel 12, D cycles of its clock after the one before. -/
def execMcOutput (x : Int) (ovr : Bool) (s0 : State) : Out :=
  .next (
    let s := s0.mcSettle
    let m := s.mc
    if (!m.running && m.calStep = 0) || 14 ≤ s.mcChannel || !s.mcDue then s0
    else
      let ch := s.mcChannel
      let r := s.mcRaw ch x
      let unsettled := m.outs + 1 < s.nat Obj.MC_K
      let res := mcResult r (s.get (Obj.MC_OFFSET ch)) (s.get (Obj.MC_GAINCOEF ch))
      let w0 := ch * 2 ^ 28 + (if ovr then 2 ^ 27 else 0) + (if unsettled then 2 ^ 26 else 0) +
        (if m.calStep = 0 && m.inj.isSome then 2 ^ 25 else 0) + wrapNat 24 res
      let s1 := (s.mcRecord w0).put (Obj.MC_LAST ch) w0
      let s2 : State := { s1 with mc := { s1.mc with outs := m.outs + 1, since := m.since + 3125 * s.nat Obj.MC_D } }
      if m.calStep ≠ 0 then
        if unsettled || s.nat Obj.MC_CAL_AVG ≤ m.calCount then s2
        else { s2 with mc := { s2.mc with
          calSum := m.calSum + r, calCount := m.calCount + 1, calOvr := m.calOvr || ovr } }
      else s2.mcAdvance)

/-- A write of MC_RD (R103): it must not pass MC_WR. -/
def State.writeMcRd (s : State) (v : Nat) : State × Nat :=
  let rd := s.nat Obj.MC_RD
  if 512 ≤ v || (s.nat Obj.MC_WR + 512 - rd) % 512 < (v + 512 - rd) % 512 then (s, 5) else (s.put Obj.MC_RD v, 0)

/-- MC_RD_WRITE (R103). -/
def execMcRdWrite (v : Nat) (s : State) : Out := .next (s.writeMcRd v).1

/-- The object of a filter setting. -/
def mcFilterKey (which : McFilter) : Nat :=
  match which with
  | .k => Obj.MC_K
  | .d => Obj.MC_D
  | .gainSel ch => Obj.MC_GAIN_SEL ch.val

/-- The value is one that the object takes (R96, R97). -/
def mcFilterOk (which : McFilter) (v : Nat) : Bool :=
  match which with
  | .k => 1 ≤ v && v ≤ 4
  | .d => 16 ≤ v && v ≤ 131072
  | .gainSel ch => v ≤ 3 && (ch.val < 4 || v = 0)

/-- A write of MC_K, MC_D or MC_GAIN_SEL resets the decimator at once (R99, R105). -/
def State.writeMcFilter (s : State) (which : McFilter) (v : Nat) : State := (s.put (mcFilterKey which) v).mcReset

/-- MC_FILTER_WRITE (R99). -/
def execMcFilterWrite (which : McFilter) (v : Nat) (s : State) : Out :=
  .next (if mcFilterOk which v then s.writeMcFilter which v else s)

/-! ## System calibration (R104, R105) -/

/-- A write of MC_CAL_CH: no step 1 stands for it yet (R105). -/
def State.writeMcCalCh (s : State) (v : Nat) : State := { s.put Obj.MC_CAL_CH v with mc := { s.mc with calZero := none } }

/-- A step begins (R104): the scan is suspended and the channel converted alone. -/
def State.mcCalBegin (s : State) (step : Nat) : State :=
  ({ s with mc := { s.mc with
    calStep := step, calCh := s.nat Obj.MC_CAL_CH % 16, calSum := 0, calCount := 0, calOvr := false
    inj := none, outs := 0, since := 96 * s.clk.beats } }.put Obj.MC_CAL_STEP 1).mcView

/-- MC_CAL_ZERO (R104): a write of 1 to MC_CAL_STEP; while a step runs it has no effect. -/
def execMcCalZero (s : State) : Out := .next (if s.mc.calStep ≠ 0 then s else s.mcCalBegin 1)

/-- MC_CAL_FULL_SCALE (R104, R105): a write of 2 to MC_CAL_STEP, refused without a step 1 on the same channel. -/
def execMcCalFullScale (s : State) : Out :=
  .next (if s.mc.calStep ≠ 0 then s
    else if s.mc.calZero = some (s.nat Obj.MC_CAL_CH % 16) then s.mcCalBegin 2
    else s.put Obj.MC_CAL_STEP 4)

/-- A write to MC_CAL_STEP. -/
def State.writeMcCalStep (s : State) (v : Nat) : State :=
  if s.mc.calStep ≠ 0 then s
  else if v = 1 then s.mcCalBegin 1
  else if v = 2 then
    (if s.mc.calZero = some (s.nat Obj.MC_CAL_CH % 16) then s.mcCalBegin 2 else s.put Obj.MC_CAL_STEP 4)
  else s

/-- The step ends with a status, and a suspended scan resumes from its lowest channel (R104). -/
def State.mcCalEnd (s : State) (status : Nat) : State :=
  let s1 : State := { s with mc := { s.mc with calStep := 0, outs := 0, pos := s.mcFirst, since := 96 * s.clk.beats } }
  (s1.put Obj.MC_CAL_STEP status).mcView

/-- MC_CAL_STEP_DONE (R104, R105): MC_CAL_AVG settled outputs have been averaged. GAIN is rounded to the nearest integer
before the test of its range, and an average equal to OFFSET gives GAIN 0, which is out of range: the spec states neither
(DESIGN CHOICE, log entry 48). -/
def execMcCalStepDone (s : State) : Out :=
  .next (
    let m := s.mc
    if m.calStep = 0 || m.calCount < s.nat Obj.MC_CAL_AVG then s
    else if m.calOvr then s.mcCalEnd 3
    else
      let avg := roundDiv m.calSum (max 1 m.calCount)
      if m.calStep = 1 then
        ({ s with mc := { m with calZero := some m.calCh } }.put (Obj.MC_OFFSET m.calCh) avg).mcCalEnd 2
      else
        let den := avg - s.get (Obj.MC_OFFSET m.calCh)
        let gain := if den = 0 then 0 else roundDivS (s.get Obj.MC_FS_TARGET * 2 ^ 22) den
        if gain < 0x200000 || 0x7FFFFF < gain then s.mcCalEnd 5
        else
          ((((s.put (Obj.MC_GAINCOEF m.calCh) gain).bump (Obj.CALK_COUNT 5)).put (Obj.CALK_LAST_DLT 5) s.now.toNat).put
            (Obj.CALK_LAST_RESULT 5) 2).mcCalEnd 2)

end Sys2Proof.Machine
end

