-- ==== Sys2Proof/Machine/Frames.lean ====
section
/-! DEFINITION. The scan (03_focal_plane_readout.md R66-R95): launching a frame with all that a FRAME_START landing brings
into force, slots and their results, settling, the sun guard, urgent injection, and the gate (R194, R424, R425). -/

namespace Sys2Proof.Machine

/-! ## Digests (R413) -/

/-- The value in force of an object, as READ_ACTIVE returns it, in bytes (R413). -/
def State.activeBytes (s : State) (index sub : Nat) : List Byte :=
  match objRow? index sub with
  | none => []
  | some r =>
    let k := (index * 256 + sub) * 2 ^ 32
    if r.ty = .blob then (List.range r.size).map fun i => BitVec.ofNat 8 (s.natR 0 (k + i))
    else leBytes r.size (wrapNat (8 * r.size) (s.getR 0 k))

/-- The objects of ENS_OBJ_LIST, in order; 0 ends the list. -/
def State.ensObjects (s : State) : List Nat :=
  ((List.range 64).map fun i => s.getLe Obj.ENS_OBJ_LIST (4 * i) 4).takeWhile (· ≠ 0)

/-- CONFIG_DIGEST (R413). -/
def State.configDigest (s : State) : Word := crc32 (s.ensObjects.flatMap fun o => s.activeBytes (o / 256 % 65536) (o % 256))

/-- VERSION_DIGEST (R413). -/
def State.versionDigest (s : State) : Word :=
  let digest (i : Nat) : Nat := if s.slotValid i then s.progWord i 4 else 0
  crc32 (leBytes 2 s.otp.siliconRev.toNat ++ leBytes 2 1 ++ leBytes 2 0 ++ leBytes 4 (digest 0) ++ leBytes 4 (digest 1) ++
    leBytes 8 (s.nat Obj.RUN_SLOTS))

/-- Both digests are computed again at a FRAME_START landing (R413). -/
def State.digests (s : State) : State :=
  let c := s.configDigest
  let v := s.versionDigest
  { s with ens := { s.ens with config := c, version := v } }.put Obj.OWN_DIGESTS (v.toNat * 2 ^ 32 + c.toNat : Nat)

/-! ## Chopping (R402) -/

/-- The chopping clock follows N of the frame in progress (R402): the smallest divisor m of N for which f_MOD·m/N lies from 20
to 500 kHz, or CHOP_KHZ free-running. -/
def State.chop (s : State) : State :=
  let locked := match s.focal.frames with
    | [] => none
    | f :: _ => if s.nat Obj.CHOP_LOCK = 0 then none
      else ((List.range (f.n + 1)).find? fun m => m ≠ 0 && f.n % m = 0 &&
        20000 * f.n * f.div ≤ 2000000000 * m && 2000000000 * m ≤ 500000 * f.n * f.div).map fun m => (m, f)
  match locked with
  | some (m, f) => (s.put Obj.CHOP_ACTIVE_HZ (roundDiv (2000000000 * m) (f.n * f.div))).put Obj.CHOP_LOCKED (2 * m + 1 : Nat)
  | none => (s.put Obj.CHOP_ACTIVE_HZ (1000 * s.nat Obj.CHOP_KHZ : Nat)).put Obj.CHOP_LOCKED 0

/-! ## Scans (R71, R74, R82) -/

/-- The J slots at the end of a frame (R71). -/
def jSlots (mask : Nat) : List Slot := (setBits 8 mask).map fun j => { isJ := true, n := j }

/-- The slots of quadrant `q` (R71, R82). -/
def State.quadSlots (s : State) (p : Nat) (f : Frame) (q : Nat) : List Slot :=
  (if s.nat (Obj.P_SCAN_MODE p) = 1 then s.seqSlots
   else ((List.range 1024).filter (f.posOn q)).map fun n => { isJ := false, n := n }) ++ jSlots f.jMask

/-! ## Settling (R87-R90) -/

/-- Frames over which rule 2 holds: ceil(5·τ_spec / t_frame). -/
def settleFrames (tFrame : Nat) : Nat := (800000000 + tFrame - 1) / max 1 tFrame

/-- Bias and range of a quadrant in force. -/
def State.biasRangeNow (s : State) : Vector Nat 4 := Vector.ofFn fun q => s.nat (Obj.BIAS_SEL q.val) + 8 * s.nat (Obj.RANGE_SEL q.val)

/-- Frames left under rule 2 in quadrant `q`. -/
def State.setLeft (s : State) (q : Nat) : Nat := s.focal.settle.toList.getD q 0

/-- The frames left under rule 2 once a frame of `tFrame` LSB has started (R87): a change of bias or range marks its own
number of frames, and an earlier one that lasts longer goes on. -/
def State.settleNext (s : State) (tFrame : Nat) : Vector Nat 4 :=
  let bias := s.biasRangeNow
  Vector.ofFn fun q =>
    if s.focal.biasRange[q] ≠ bias[q] then max (settleFrames tFrame) (s.setLeft q.val - 1) else s.setLeft q.val - 1

/-- The converter objects whose change by a commit fails a run (R236). -/
def converterKey (k : Nat) : Bool :=
  let i := k / 2 ^ 40
  let sub := k / 2 ^ 32 % 256
  (0x3010 ≤ i && i ≤ 0x3013 && (sub = 1 || sub = 4 || sub = 6)) || (i = 0x3020 && 1 ≤ sub && sub ≤ 8)

/-! ## Launching a frame (R71-R73, R435) -/

/-- The cause that refuses a FRAME_START, 0 for none (R73). -/
def State.startCause (s : State) (arg : Nat) : Nat := if s.slotsRunning then 1 else if 3 < arg then 2 else 0

/-- Landing `n` is suppressed at throttle level `l` (R435). -/
def suppressed (n l : Nat) : Bool := n * l / 8 < (n + 1) * l / 8

/-- A boot load that has been verified swaps every region (R256), as if a SWAP_BANK had named each region's GEN. -/
def State.bootSwaps (s : State) : State × Bool :=
  if s.cal.bootSwap && (List.range 64).all fun g => (s.bank (s.bankNo g true)).verified then
    let s1 := (List.range 64).foldl (fun (t : State) g =>
      let gen := BitVec.ofNat 32 (t.bank (t.bankNo g true)).gen
      { t.setRegion g { t.region g with swapBank := some gen } with shadow := { t.shadow with newestGen := gen } }) s
    let s2 : State := { s1 with cal := { s1.cal with bootSwap := false } }
    (s2.put Obj.EXPECT_GEN s2.shadow.newestGen.toNat, true)
  else (s, false)

/-- Frames that nothing refers to any more are forgotten, with their pixels, pages and region records. -/
def State.prune (s : State) : State :=
  let newest := (s.focal.frames.head?.map (·.num)).getD 0
  let used (n : BitVec 32) : Bool :=
    (newest - n).toNat ≤ 3 || s.fab.regions.any (fun r => r.frames.any fun x => x.num = n && !x.endDone) ||
    s.views.any (fun w => w.frames.any fun x => x.num = n)
  let keep := s.focal.frames.filter fun f => used f.num
  let known (n : BitVec 32) : Bool := keep.any fun f => f.num = n
  { s with
    focal := { s.focal with frames := keep }
    fab := { s.fab with regions := s.fab.regions.map fun (r : Region) =>
      { r with frames := r.frames.filter fun x => known x.num } }
    pipe := { s.pipe with pages := s.pipe.pages.filter fun p => known p.frame } }

/-- The frame that a landing launches, before the marks of its swaps and settling. The last occurrence of a repeating entry
has none after it: its deadline is that of a one-shot entry (R72; DESIGN CHOICE, log entry 48). -/
def State.newFrame (s : State) (l : Landing) (num : BitVec 32) : Frame :=
  let p := l.arg.toNat
  let limit := s.nat (Obj.P_FRAME_LIMIT p) * 320
  { num := num, profile := p, landing := s.now, beat := s.clk.beats
    deadline := l.next.getD (s.now + BitVec.ofNat 64 limit)
    lastPos := if s.nat (Obj.P_SCAN_MODE p) = 1 then (s.seqSlots.filter fun k => !k.isJ).getLast?.map (·.n) else none
    entry := l.repeating
    tFrame := if l.period = 0 then limit else l.period.toNat
    n := s.nat (Obj.P_N p), g := s.nat (Obj.P_G p), k := s.nat (Obj.P_K p), div := s.nat (Obj.P_FMOD_DIV p)
    rho := s.nat Obj.NBR_RADIUS
    jMask := s.nat (Obj.P_J_MASK p), mask := s.frameMask p
    shutter := s.nat Obj.CLAP_STATE = 1
    throttled := s.nat Obj.THROTTLE_LEVEL ≠ 0
    unsynced := s.ens.unsynced || s.ens.muted
    dissent := s.nat Obj.DISSENT ≠ 0 }

/-- Clapper refreshes at a landing that launches a frame (R89, R242, R255, R259): under rule 3, after the boot swap, or one
that was deferred until now. -/
def State.startRefresh (s : State) (rule3 boot wasDeferring : Bool) : State :=
  let wanted := (rule3 && s.nat Obj.AUTO_CLAP = 1) || (boot && s.nat Obj.BOOT_CLAP = 1)
  if wanted then
    match s.cal.run with
    | some r =>
      if r.kind = 3 && !s.deferring then s.calAccept 3 0 (boot || r.boot) else { s with cal := { s.cal with deferred := true } }
    | none => s.askRefresh boot
  else if s.cal.deferred && !wasDeferring && s.cal.run.isNone then
    { s with cal := { s.cal with deferred := false } }.calAccept 3 0
  else s

/-- WHAT COMES INTO FORCE AT A LANDING THAT LAUNCHES A FRAME, before the frame itself: ROLL_US (R262), captured values
(R219), swaps (R130, R221, R256), engine clocks (R139) and spares (R136). It answers the regions that swapped, whether
the boot swap took place, and the regions whose STAGE_ENABLE bit 6 changed (R206). -/
def State.intoForce (s : State) (num : BitVec 32) : State × BitVec 64 × Bool × BitVec 64 :=
  let commit := s.shadow.captured.any fun c => converterKey c.key && c.val ≠ s.get c.key
  let bit6 (t : State) (g : Nat) : Bool := (t.natR g Obj.STAGE_ENABLE).testBit 6
  let s1 := s.applyCaptures.newRollUs
  let changed := regionMask ((List.range 64).filter fun g => bit6 s g ≠ bit6 s1 g)
  let s2 := if commit && s1.cal.run.isSome then s1.calFail 0x20 else s1
  let (s3, boot) := s2.bootSwaps
  let (s4, swapped) := s3.swapAll
  let banks := regionMask ((List.range 64).filter fun g => (s3.region g).active ≠ (s4.region g).active)
  let s5 := s4.dropUpdate banks
  let s6 := match s5.cal.run with
    | some r => if swapped ≠ 0 && (r.kind = 3 || r.kind = 4) then s5.calFail 0x22 else s5
    | none => s5
  let s7 : State := if banks ≠ 0 && decide (s6.cal.save.map (·.1) = some 1) then
      { s6 with cal := { s6.cal with saveSwap := true } } else s6
  (((List.range 4).foldl State.switchEngine s7).sparesTakeOver num, swapped, boot, changed)

/-- The marks of a new frame: settling (R87, R88), filter-reset causes (R206), generations (R222). -/
def State.markFrame (s : State) (f : Frame) (swapped changed : BitVec 64) : Frame :=
  let prev := s.focal.frames.head?
  let filter := s.focal.newFilter || match prev with
    | none => true
    | some p => p.n ≠ f.n || p.k ≠ f.k || p.div ≠ f.div
  let bias := s.biasRangeNow
  let moved := (List.range 4).filter fun q => (s.focal.biasRange.toList[q]?) ≠ (bias.toList[q]?)
  let set2 := (List.range 4).filter fun q => moved.contains q || 1 < s.setLeft q
  let maskChanged := match prev with
    | none => true
    | some p => p.mask ≠ f.mask
  { f with
    filterChg := filter
    set2 := BitVec.ofNat 4 ((set2.map fun q => 2 ^ q).sum)
    set3 := filter || (s.nat Obj.SET_PENDING).testBit 4
    swapped := swapped
    banks := BitVec.ofNat 64 (s.regionsWith fun r => r.active)
    live := (List.range 64).map fun g => (s.liveEngines g).length
    mixedGen := s.mixedGen
    genMap := s.genMap
    runSlots := BitVec.ofNat 64 (s.regionsWith fun r => r.slot = 1)
    reset := if filter || maskChanged then BitVec.allOnes 64 else swapped ||| changed }

/-- The objects of a launched frame (R74, R90, R130, R222); a count of SET_FRAMES_LEFT shows 255 at most. -/
def State.frameObjects (s : State) (f : Frame) : State :=
  let settle := s.settleNext f.tFrame
  let left (q : Nat) : Nat := min 255 (settle.toList.getD q 0)
  let s1 := ((s.put Obj.FRAME_COUNT f.num.toNat).put Obj.ACTIVE_PROFILE f.profile).put Obj.LAST_START_DLT f.landing.toNat
  let s2 := s1.put Obj.SET_FRAMES_LEFT (((List.range 4).map fun q => left q * 2 ^ (8 * q)).sum : Nat)
  ((s2.put Obj.SET_PENDING ((if f.set3 then 16 else 0) + f.set2.toNat : Nat)).put Obj.LAST_GEN_MAP f.genMap.toNat).put
    Obj.RUN_SLOTS f.runSlots.toNat

/-- When quadrant `q` begins the first slot of a frame launched now, in tenths of a beat (R71): at the landing on its die,
against whose copy of the count the stroke has fired (R40). -/
def State.scanStart (s : State) (q : Fin 4) : Nat := ((10 * s.clk.beats : Nat) + Dlt.diff s.now s.clk.copies[q] / 32 : Int).toNat

/-- A frame begins in every region (R109, R279): a region whose previous frame was discarded and that has no free buffer
discards this one too. -/
def State.framesInRegions (s : State) (f : Frame) : State :=
  (List.range 64).foldl (fun (t : State) g =>
    let r := t.region g
    let before := (r.frames.getLast?.map (·.discarded)).getD false
    let t1 := t.setRegion g { r with frames := r.frames ++ [{ num := f.num }] }
    if before && r.freeBufs = 0 then t1.discardFrame f g else t1) s

/-- Every live engine has FRAME_ENTRY to run (R117). -/
def State.entriesDue (s : State) (num : BitVec 32) : State :=
  ((List.range 272).filter fun p => s.engGood p && (s.logicalOf p).isSome).foldl (fun (t : State) p =>
    t.setEngine p { t.engine p with entryDue := some num }) s

/-- A FRAME IS LAUNCHED (R71). -/
def State.launch (s : State) (l : Landing) : State :=
  let num := BitVec.ofNat 32 (s.nat Obj.FRAME_COUNT + 1)
  let wasDeferring := s.deferring
  let (s1, swapped, boot, changed) := s.intoForce num
  let f0 := s1.markFrame (s1.newFrame l num) swapped changed
  let s2 := (s1.frameObjects f0).startRefresh f0.filterChg boot wasDeferring
  let (s3, kind, first) := s2.calFrameStart f0.set2
  let calChange := (kind ≠ 0 && first) || (kind = 0 && ((s.focal.frames.head?.map (·.calKind)).getD 0) ≠ 0)
  let f : Frame := { f0 with
    calKind := kind
    calFirst := first
    reset := if calChange then BitVec.allOnes 64 else f0.reset }
  let s4 : State := { s3 with focal := { s3.focal with
    frames := f :: s3.focal.frames
    scans := Vector.ofFn fun q => { todo := s3.quadSlots f.profile f q.val, start := s3.scanStart q }
    settle := s2.settleNext f.tFrame
    started := true
    newFilter := false
    biasRange := s3.biasRangeNow
    ovr := Vector.replicate 64 0 } }
  let s4' := s4.mapWaits fun p w => if w.fsLand.isSome then w
    else { w with fsLand := some (BitVec.ofNat 64 (s.nat (Obj.LANDING_DLT (2 + dieOfEngine p)))) }
  let s5 := if first then s4'.calClear f else s4'
  let s6 := (((s5.framesInRegions f).entriesDue num).applyContexts num).viewsAtStart f
  (s6.prune.placeGrid.chop).digests

/-- FRAME_START (R71, R73, R435): refused while slots remain or for an argument above 3, suppressed under throttling, else it
launches a frame. Before the trim-apply event no stroke reaches the quadrants (R229). -/
def execFrameStart (l : Landing) (s : State) : Out :=
  .next (s.land 0x20 l fun t =>
    if !t.power.trims then t
    else match t.startCause l.arg.toNat with
      | 0 =>
        let n := t.power.landings
        let t1 := { t with power := { t.power with landings := n + 1 } }
        if suppressed n (t.nat Obj.THROTTLE_LEVEL) then t1.bump Obj.THROTTLE_SKIPS else t1.launch l
      | c => ((t.bump Obj.FRAME_REFUSED).put Obj.REFUSE_CAUSE c).bell 0x0301 c)

/-! ## Results of a slot (R84-R86, R75-R77, R94) -/

/-- An input within |x| = 1.10 of range `r`, where the detector stays silent (R86). -/
def inBounds (r : Nat) (x : Int) : Bool := 10 * x.natAbs ≤ 11 * 2 ^ (32 + r)

/-- An input at |x| = 1.50 or beyond of range `r` (R86). -/
def beyond (r : Nat) (x : Int) : Bool := 3 * 2 ^ (31 + r) ≤ x.natAbs

/-- The runs of a moving input up to the one in which 8 consecutive cycles beyond 1.50 are complete, if there is one: the
overload is certain by then (R86). -/
def certainRuns (r : Nat) : Nat → List (Int × Nat) → Option (List (Int × Nat))
  | _, [] => none
  | n, e :: rest =>
    let n' := if beyond r e.1 then n + e.2 else 0
    if 8 ≤ n' then some [e] else (certainRuns r n' rest).map (e :: ·)

/-- THE OVERLOAD DETECTOR (R86): the sign of the first overload (positive is true), if there is one. A steady input is
decided by the bounds, and between them the answer is free. A moving input that never leaves ±1.10 sets nothing (DEDUCED);
8 consecutive cycles beyond 1.50 set it for certain, anything else may. Its sign is that of a run outside ±1.10, free
where both signs occur before the overload is certain (log entry 8). Bit 0 of `free` decides whether, bit 1 which. -/
def overload (r : Nat) (x : Int) (runs : List (Int × Nat)) (free : BitVec 64) : Option Bool :=
  match runs with
  | [] | [_] =>
    let v := (runs.head?.map (·.1)).getD x
    if inBounds r v || (!beyond r v && !free.getLsbD 0) then none else some (0 < v)
  | _ =>
    let certain := certainRuns r 0 runs
    let out := (certain.getD runs).filter fun e => !inBounds r e.1
    let pos := out.any fun e => 0 < e.1
    let neg := out.any fun e => e.1 < 0
    if out.isEmpty || (certain.isNone && !free.getLsbD 0) then none
    else some (if pos && neg then free.getLsbD 1 else pos)

/-- THE CONVERTER'S ANSWER at range `r`: value and OVR (R84, R86). -/
def convert (r : Nat) (x : Int) (runs : List (Int × Nat)) (free : BitVec 64) : Int × Bool :=
  match overload r x runs free with
  | some p => (if p then 524287 else -524288, true)
  | none => (clampInt (roundDiv x (8192 * 2 ^ r)) (-524288) 524287, false)

/-- J4 (R77): a temperature outside its 20-bit range carries OVR, any other does not; `x` is the temperature in LSB above
273.15 K, in units of 2^-13 LSB as for the other channels. -/
def convertJ4 (x : Int) : Int × Bool :=
  let v := roundDiv x 8192
  if 524287 < v then (524287, true) else if v < -524288 then (-524288, true) else (v, false)

/-- J5 to J7 (R75): the nominal result of the bias and the range in force, with the deviation of the CU within the bounds
that the table gives; none of them comes near an overload. -/
def convertMonitor (j bias r : Nat) (x : Int) : Int :=
  match j with
  | 5 => roundDiv (2 ^ 19 * (12 + 2 * bias) * (1000000 + clampInt x (-20000) 20000)) (40 * 1000000)
  | 6 => clampInt x (-2048) 2048
  | _ => roundDiv (2 ^ 19 * 3 * (1000000 + clampInt x (-50000) 50000)) (4 * 2 ^ r * 1000000)

/-- The conversion of a slot's sample: J4 in its own way, J5 to J7 by their monitors, J0 to J3 and pixels in the quadrant's
range (R75, R77, R84). -/
def State.converted (s : State) (k : Slot) (x : Sample) (i : Nat) : Int × Bool :=
  let q := quadOfCu x.cu
  let r := s.nat (Obj.RANGE_SEL q)
  if k.isJ && k.n = 4 then convertJ4 x.x
  else if k.isJ && 5 ≤ k.n then (convertMonitor k.n (s.nat (Obj.BIAS_SEL q)) r x.x, false)
  else convert r x.x x.runs (Config.freeBits (s.free + i))

/-- The result of CU `n` in a slot: value and tag (R77, R85, R87, R94). -/
def State.slotResult (s : State) (f : Frame) (k : Slot) (x : Sample) (i : Nat) : Int × Nat :=
  if s.otp.deadCus.contains x.cu then (0, tagSET)
  else
    let r := s.converted k x i
    (r.1, (if r.2 then tagOVR else 0) + (if f.set2.getLsbD (quadOfCu x.cu) || f.set3 then tagSET else 0))

/-- A CU takes part in a slot: all of its quadrant, or those that an injected request targets (R79). -/
def Slot.takes (k : Slot) (cu : Nat) : Bool :=
  !k.inj ||
    match k.target.level.toNat with
    | 1 => k.target.hits cu
    | 2 => k.target.hits (clusterOfCu cu)
    | 3 => k.target.hits (regionOfCu cu)
    | _ => true

/-- The place of the J word of channel `j` of CU `cu` in its region's frame-state store (R76): R193 gives none, so the words
lie in the area it keeps reserved at 0x30_6000, 32 bytes per CU in row-major order (DESIGN CHOICE, log entry 48). -/
def jState (cu j : Nat) : Nat :=
  fstBase (regionOfCu cu) + 0x306000 + 32 * (cu / 192 % 20 * 24 + cu % 24) + 4 * j

/-- A J result (R76, R81): the word of its channel is replaced, in the region's frame-state store and in J_RESULTS. -/
def State.jResult (s : State) (f : Frame) (k : Slot) (cu : Nat) (r : Int × Nat) : State :=
  let word := (if k.inj then 2 ^ 31 else 0) + f.num.toNat % 128 * 2 ^ 24 + r.2 * 2 ^ 20 + wrapNat 20 r.1
  let s1 := (s.poke (jBase + 32 * cu + 4 * k.n) (leBytes 4 word)).poke (jState cu k.n) (leBytes 4 word)
  { s1 with focal := { s1.focal with jSeen := Cells.set s1.focal.jSeen (8 * cu + k.n) 1 0 } }

/-! ## The sun guard (R91-R93) -/

/-- A SUN-GUARD TRIP (R91, R242): the stroke, the records and bell 0x0302; a refresh in progress fails. -/
def State.sunTrip (s : State) (g : Nat) : State :=
  let s1 := ((((s.put Obj.SUN_TRIPPED 1).bump Obj.SUN_COUNT).put Obj.SUN_REGION g).put Obj.SUN_DLT s.now.toNat).fire 0x50
    { level := 5, arg := BitVec.ofNat 32 (s.nat Obj.SUN_PROFILE), src := .sunGuard }
  let s2 := s1.bell 0x0302 g
  match s2.cal.run with
  | some r => if r.kind = 3 then s2.calFail 0x21 else s2
  | none => s2

/-- Of several regions that reach the threshold with values that end at one time, the lowest-numbered is recorded (R91): a
slot of another quadrant that ends at the time of the trip may name a lower one. -/
def State.sunAmend (s : State) (g : Nat) : State :=
  if s.nat Obj.SUN_DLT = s.now.toNat && g < s.nat Obj.SUN_REGION then
    let old := BitVec.ofNat 32 (s.nat Obj.SUN_REGION)
    let fix (b : Bell) : Bell := if b.code = 0x0302 && b.dlt = s.now && b.arg = old then { b with arg := BitVec.ofNat 32 g } else b
    { s.put Obj.SUN_REGION g with dict := { s.dict with bells := s.dict.bells.map fix } }
  else s

/-- An OVR pixel value is counted at a region's line-store entrance (R91); the second part tells that the count trips. -/
def State.countOvr (s : State) (g : Nat) : State × Bool :=
  let n := s.focal.ovr.toList.getD g 0 + 1
  let s1 := { s with focal := { s.focal with ovr := s.focal.ovr.setIfInBounds g n } }
  (s1, s.nat Obj.SUN_ENABLE = 1 && s.nat Obj.SUN_THRESH ≤ n)

/-- SUN_TRIPPED_CLEAR (R92): a write of 1 clears and rearms. -/
def State.writeSunTripped (s : State) (v : Nat) : State := if v = 1 then s.put Obj.SUN_TRIPPED 0 else s

/-- SUN_TRIPPED_CLEAR. -/
def execSunTrippedClear (v : Nat) (s : State) : Out := .next (s.writeSunTripped v)

/-! ## The end of a slot (R71, R84) -/

/-- A position's values reach the line store, and the OVR counts (R85, R91, R120): a position that the frame converts again
delivers only its last conversion (R82). -/
def State.deliver (s : State) (f : Frame) (k : Slot) (samples : List Sample) : State :=
  let r := samples.zipIdx.foldl (fun (a : State × List Nat) e =>
    let x := e.1
    let g := regionOfCu x.cu
    let res := s.slotResult f k x e.2
    let cx := x.cu % 192 % 24
    let cy := x.cu / 192 % 20
    let row := 32 * cy + k.n / 32
    let col := 32 * cx + k.n % 32
    let word := 2 ^ 24 + f.num.toNat % 128 * 2 ^ 25 + res.2 * 2 ^ 20 + wrapNat 20 res.1
    let t := a.1.storeWord f g row col word
    if res.2.testBit 0 then
      let c := t.countOvr g
      (c.1, if c.2 then g :: a.2 else a.2)
    else (t, a.2)) (s, [])
  let trips := (List.range 64).filter r.2.contains
  match trips with
  | g :: _ => if r.1.nat Obj.SUN_TRIPPED = 1 then r.1.sunAmend g else r.1.sunTrip g
  | [] => r.1

/-- THE FRAME'S SLOTS HAVE ENDED (R71, R91, R397, R416): SHUTTER is decided, the OVR counts are kept, a calibration run moves
on, and regions without items end the frame. -/
def State.slotsOver (s : State) (f : Frame) : State :=
  let s1 := s.mapFrame f.num fun x => { x with
    slotsEnd := some s.now
    shutter := x.shutter && s.nat Obj.CLAP_STATE = 1 }
  let s3 := s1.putBytes Obj.OVR_COUNTS 0 (s1.focal.ovr.toList.flatMap fun n => leBytes 4 n)
  let f' := (s3.frame? f.num).getD f
  let s4 := s3.calFrameEnd f'
  ((List.range 64).filter fun g => (f'.items g).isEmpty).foldl (fun (t : State) g => t.afterItem f' g) s4

/-- SLOT_END (R70, R71, R84): quadrant `q`'s slot ends, t_slot after it began, with the samples of its CUs, and the next one
starts. -/
def execSlotEnd (q : Fin 4) (samples : List Sample) (s : State) : Out :=
  .next (
    let c := s.focal.scans[q]
    match c.todo, s.focal.frames with
    | k :: rest, f :: _ =>
      if 10 * s.clk.beats < c.start + f.slotTenths then s else
      let mine := samples.filter fun x => x.cu < 30720 && quadOfCu x.cu = q.val && k.takes x.cu
      let s1 : State := { s with focal := { s.focal with
        scans := s.focal.scans.set q { todo := rest, start := c.start + f.slotTenths } } }
      let s2 :=
        if k.isJ then mine.zipIdx.foldl (fun (t : State) e => t.jResult f k e.1.cu (s.slotResult f k e.1 e.2)) s1
        else if rest.any fun r => !r.isJ && r.n = k.n then s1
        else s1.deliver f k mine
      let s3 := s2.drawn mine.length
      if s3.slotsRunning || ((s3.frame? f.num).map (·.slotsEnd)).getD none ≠ none then s3 else s3.slotsOver f
    | _, _ => s)

/-! ## Urgent injection (R78-R83) -/

/-- The next modulator cycle after the beat `beats`, in tenths of a beat, on the grid of the slot that started at `start`
(R39, R70): a modulator cycle is FMOD_DIV tenths, whatever the count does. -/
def nextMod (f : Frame) (start beats : Nat) : Nat := start + ((10 * beats - start) / max 1 f.div + 1) * f.div


/-- What one quadrant does with a request (R80, R83): its scan afterwards and the outcome, 1 served, 2 dropped for the deadline,
3 dropped as busy. The J slots at the end of a frame are those of J_MASK. -/
def State.scanRequest (s : State) (c : Scan) (f : Frame) (inj : List Slot) : Scan × Nat :=
  let slot := f.slotTenths
  let fits (e : Nat) : Bool := Dlt.reached f.deadline (s.dltAt e)
  match c.todo with
  | [] =>
    let t := nextMod f c.start s.clk.beats
    if fits (t + inj.length * slot) then ({ todo := inj, start := t }, 1) else (c, 2)
  | k :: rest =>
    if k.inj then (c, 3)
    else if k.isJ && c.todo.length ≤ (countBits 8 f.jMask) + (c.todo.filter (·.inj)).length then
      if fits (c.start + (c.todo.length + inj.length) * slot) then
        ({ c with todo := k :: (rest.takeWhile (·.inj)) ++ inj ++ rest.dropWhile (·.inj) }, 1)
      else (c, 2)
    else
      let t := nextMod f c.start s.clk.beats
      if fits (t + (c.todo.length + inj.length) * slot) then ({ todo := inj ++ c.todo, start := t }, 1)
      else (c, 2)

/-- The slots of a request (R78, R83): its channels in ascending order, or the injected sequence in sequence mode. -/
def State.requestSlots (s : State) (f : Frame) (chans : Nat) (l : Landing) : List Slot :=
  let js := if s.nat (Obj.P_SCAN_MODE f.profile) = 1 then
      (List.range (s.nat Obj.INJ_LEN)).map fun i => s.getLe Obj.INJ_ENTRIES (2 * i) 2 % 8
    else setBits 8 chans
  js.map fun j => { isJ := true, n := j, inj := true, target := if l.level = 4 then { l with level := 5 } else l }

/-- The counter of an outcome (R81). -/
def injCounter (q outcome : Nat) : Nat :=
  if outcome = 1 then Obj.INJ_SERVED q else if outcome = 2 then Obj.INJ_DROP_DEADLINE q else Obj.INJ_DROP_BUSY q

/-- AN URGENT REQUEST (R78-R83). An INJECT and an edge on INJ_TRIG of one beat are one request: the second is decided together with
the first, from the scans before it. Before the first frame there is no scan, deadline or slot length: the request has no
effect and counts nowhere (DESIGN CHOICE, log entry 48). -/
def State.request (s : State) (chans : Nat) (l : Landing) (trig : Bool) : State :=
  match s.focal.frames with
  | [] => s
  | f :: _ =>
    let same := s.focal.inj.filter fun r => r.beat = s.clk.beats && r.trig ≠ trig
    let scans := match same with
      | some r => r.scans
      | none => s.focal.scans
    let s0 := match same with
      | some r => (List.range 4).foldl (fun (t : State) q =>
          let o := r.outs.getD q 0
          if o = 0 then t else t.put (injCounter q o) (t.get (injCounter q o) - 1)) s
      | none => s
    let set := match same with
      | some r => chans ||| r.chans
      | none => chans
    let target : Landing := match same with
      | some _ => {}
      | none => l
    let slots := s.requestSlots f set target
    let quads := (List.range 4).map fun q => !slots.isEmpty && (target.level = 4 || target.hitsQuad q)
    let res := (List.range 4).map fun q =>
      let c := scans.toList.getD q {}
      if quads.getD q false then s.scanRequest c f slots else (c, 0)
    let s1 : State := { s0 with focal := { s0.focal with
      scans := Vector.ofFn fun q => (res.getD q.val ({}, 0)).1
      inj := some { beat := s.clk.beats, trig := trig, chans := set, scans := scans, outs := res.map (·.2) } } }
    (List.range 4).foldl (fun (t : State) q =>
      let o := (res.getD q ({}, 0)).2
      if o = 0 then t else t.bump (injCounter q o)) s1

/-- INJECT (R78, R79): at level 4 only index 4 targets CUs. -/
def execInject (l : Landing) (s : State) : Out :=
  .next (s.land 0x22 l fun t =>
    if l.level = 4 && !l.hits 4 then t else t.request (l.arg.toNat % 256) l false)

/-- INJ_TRIG_EDGE (R78, R101): a rising edge requests the channels of INJ_TRIG_MASK in every CU, and the injected sequence of
the MC when MC_INJ_SRC is 1. -/
def execInjTrigEdge (s : State) : Out :=
  .next (
    let s1 := if s.nat Obj.INJ_TRIG_MASK = 0 then s else s.request (s.nat Obj.INJ_TRIG_MASK) {} true
    if s1.nat Obj.MC_INJ_SRC = 1 then s1.mcUrgent false else s1)

/-! ## The gate (R68, R194, R424, R425) -/

/-- Stages 4 and 5 at a gate (R424, R425): stage 4 with the boot load where rule-3 marking first ends, stage 5 where every
active bank has a GEN and no boot refresh is in progress. -/
def State.gateStages (s : State) (f : Frame) : State :=
  let enter (t : State) (k : Nat) : State := (t.put Obj.STARTUP_STAGE k).putLe Obj.STAGE_DLT (8 * k) 8 t.now.toNat
  let s1 := if s.nat Obj.STARTUP_STAGE = 3 && !f.set3 then (enter s 4).bootLoad else s
  let boot := (s1.cal.run.map (·.boot)).getD false
  if s1.nat Obj.STARTUP_STAGE = 4 && !boot && (List.range 64).all fun g => (s1.bank (s1.bankNo g false)).gen ≠ 0 then enter s1 5
  else s1

/-- A ready offset update applies from this gate, and rule-3 marking ends (R87, R235). -/
def State.gateUpdate (s : State) (num : BitVec 32) : State :=
  if s.cal.update.isSome && !s.cal.applied then
    let s1 := s.mapFrame num fun x => { x with set3 := false }
    let s2 := s1.put Obj.SET_PENDING (s1.nat Obj.SET_PENDING % 16 : Nat)
    { s2 with cal := { s2.cal with applied := true } }
  else s

/-- Words of the frame that were stored before its gate lose the SET of rule 3 where that alone gave it (R235). -/
def State.clearRule3 (s : State) (f : Frame) : State :=
  (List.range 64).foldl (fun (t : State) g =>
    if f.set2.getLsbD (quadOfRegion g) then t
    else ((t.region g).bufs.filter fun b => b.frame = f.num).foldl (fun (u : State) b =>
      (List.range 772).foldl (fun (v : State) i =>
        let a := lineBase g + 4096 * b.buf + 4 * i
        let w := v.le a 4
        let src := haloSource g b.row ((i : Int) - 2)
        let dead := match src with
          | some (h, r, c) => v.otp.deadCus.contains ((20 * (h / 8) + r / 32) * 192 + 24 * (h % 8) + c / 32)
          | none => false
        let other := match src with
          | some (h, _, _) => f.set2.getLsbD (quadOfRegion h)
          | none => false
        if linePresent w && (lineTag w).testBit 1 && !dead && !other then v.poke a (leBytes 4 (w - 2 ^ 21)) else v) u) t) s

/-- The thermometer conversion of a frame is over: 100 µs, 20,000 beats, after its landing, or with its slots (R68). -/
def State.convertedOver (s : State) (f : Frame) : Bool := f.slotsEnd.isSome || f.beat + 20000 ≤ s.clk.beats

/-- FRAME_GATE (R68, R194): the thermometers have been converted; the pages are written and the first items released in every
region that may be gated. -/
def execFrameGate (temps : List (Nat × Nat)) (s : State) : Out :=
  .next (match s.focal.frames with
    | [] => s
    | f0 :: _ =>
      if f0.gateDone || !s.convertedOver f0 then s
      else
        let clt := temps.foldl (fun (m : Store) e => if e.1 < 1920 then Cells.set m e.1 ((e.2 % 2 ^ 20 : Nat) : Int) 0 else m) s.focal.clt
        let s1 : State := { s with focal := { s.focal with clt := clt } }
        let had := f0.set3
        let s2 := s1.updateRefc.gateUpdate f0.num
        let f1 := (s2.frame? f0.num).getD f0
        let s3 := (if had && !f1.set3 then s2.clearRule3 f1 else s2).gateStages f1
        let s4 := s3.mapFrame f0.num fun x => { x with gateDone := true, quality := s3.nat Obj.STARTUP_STAGE < 5 }
        let f2 := (s4.frame? f0.num).getD f1
        let page := s4.newPage f2
        let (s5, scene) := s4.sceneGate f2 page.gimbal
        let s6 : State := (State.toneStale { s5 with pipe := { s5.pipe with pages := { page with scene := scene } :: s5.pipe.pages } } f0.num)
        (s6.gateHeld ((s6.frame? f0.num).getD f2)).updateOver)

end Sys2Proof.Machine
end

