-- ==== Sys2Proof/Machine/Lanes.lean ====
section
/-! DEFINITION. Kettle link serial lanes (10_kettle_lanes.md R303-R334): bring-up and transmitter taps, codewords and rate
matching, packets and replay, lane loss, time transfer and roles, the eye scan. Lane timers count beats (log entry 11). -/

namespace Sys2Proof.Machine

/-! ## States, counters, blocks sent -/

/-- Count `k` in counter word `i` of lane `n` (R334). -/
def State.laneCount (s : State) (n i : Nat) (k : Nat := 1) : State := s.bumpLe (Obj.LANE_COUNTERS n) (8 * i) 8 k

/-- The state code of lane `n` (R316). -/
def State.laneState (s : State) (n : Nat) : Nat := s.nat (Obj.LANE_STATE n)

/-- Lane `n` enters a state (R316): in LOCK, TRAIN, HOLDOFF and FAILED its transmitter sends FILLER, of which the record
shows the first (log entry 45); an eye scan on it stops unless the state is TRAIN or UP (R332). -/
def State.enterLane (s : State) (n st : Nat) : State :=
  let s0 := (s.put (Obj.LANE_STATE n) st).mapLane n fun l => { l with since := s.clk.beats }
  let s1 := if st = 1 || st = 2 || st = 5 || st = 6 then s0.sendFiller n else s0
  if st ≠ 2 && st ≠ 4 && (s1.eye.map (·.1)) = some n then { s1 with eye := none }.put Obj.EYE_STATE 3 else s1

/-- What lane `n` has sent, as the codewords on its line, the last filled up with FILLERs (R306, R307). -/
def State.lineOut (s : State) (n : Nat) : List (List Nat) :=
  let bs := s.dict.sent.filterMap fun m =>
    match m with
    | .lane k ctrl bytes => if k = n then some (Block.mk ctrl bytes) else none
    | _ => none
  codewordsOf ((bs.length + 19) / 20) bs 0

/-- `us` µs have passed since beat `from'` (200 beats a µs). -/
def State.passedUs (s : State) (from' us : Nat) : Bool := from' + 200 * us ≤ s.clk.beats

/-! ## Transmitter taps (R313, R314) -/

/-- The coefficients packed as TX_COEFS packs them: pre2, pre1, main, post1 from the low byte upwards. -/
def packCoefs (c : List Int) : Word := BitVec.ofNat 32 (leVal (c.map fun x => BitVec.ofInt 8 x))

/-- The coefficients of a packed word: pre2, pre1, main, post1. -/
def unpackCoefs (w : Word) : List Int := (leBytes 4 w.toNat).map (·.toInt)

/-- The presets P0 to P7 (R313). -/
def presetCoefs (p : Nat) : Word :=
  packCoefs ([[0, 0, 64, 0], [0, -4, 60, 0], [0, -8, 56, 0], [0, -4, 56, -4], [-2, -8, 50, -4], [0, 0, 56, -8],
    [-2, -10, 44, -8], [-4, -12, 40, -8]].getD p [0, -4, 56, -4])

/-- The coefficients lie in their ranges and keep the sum (R313). -/
def coefsOk (w : Word) : Bool :=
  match unpackCoefs w with
  | [a, b, c, d] => -8 ≤ a && a ≤ 8 && -16 ≤ b && b ≤ 0 && 32 ≤ c && c ≤ 64 && -16 ≤ d && d ≤ 0 &&
      a.natAbs + b.natAbs + c.natAbs + d.natAbs ≤ 64
  | _ => false

/-- One tap moved by `d` steps. -/
def stepTap (w : Word) (tap : Nat) (d : Int) : Word :=
  packCoefs ((unpackCoefs w).zipIdx.map fun c => if c.2 = tap then c.1 + d else c.1)

/-- Own coefficients of lane `n` change. -/
def State.setCoefs (s : State) (n : Nat) (w : Word) : State :=
  (s.mapLane n fun l => { l with coefs := w }).put (Obj.TX_COEFS n) w.toNat

/-! ## Bring-up (R311, R312, R315, R316) -/

/-- ENTER LOCK (R311, R315, R316): LANE_RATE is taken; `fresh` begins a bring-up, in which an automatic lane seeks
112 Gbit/s first, and otherwise an automatic lane keeps its rate. The transmitter holds preset TX_INIT_PRESET. -/
def State.enterLock (s : State) (n : Nat) (fresh : Bool) : State :=
  let want := s.nat (Obj.LANE_RATE n)
  let rate := if want ≠ 0 then want else if fresh || (s.laneRec n).rate = 0 then 2 else (s.laneRec n).rate
  let s1 := s.mapLane n fun l => { l with
    rate := rate, auto := want = 0, goodRun := 0, badRun := 0, fill := 8, reqOpen := false, sentDone := false, rcvdDone := false
    seen := false, search := 0, best := 0, base := none, gained := false, meas := none, berCw := 0
    held := l.held && !fresh
    attempts := if fresh then 0 else l.attempts
    ratesFailed := if fresh then 0 else l.ratesFailed }
  ((s1.put (Obj.RATE_ACTIVE n) rate).setCoefs n (presetCoefs (s.nat (Obj.TX_INIT_PRESET n)))).enterLane n 1

/-- Ask the far transmitter with a TAP_REQ of body `body` and the next number (R312, R317). -/
def State.askTap (s : State) (n body : Nat) : State :=
  let num := ((s.laneRec n).reqNum + 1) % 256
  (s.mapLane n fun l => { l with reqNum := num, reqOpen := true, reqBody := body, meas := none, reqAt := s.clk.beats }).sendCtrl n 0x02
    [BitVec.ofNat 8 body, BitVec.ofNat 8 num]

/-- ENTER TRAIN (R312, R316): the attempt counts, and preset P0 is measured first. -/
def State.enterTrain (s : State) (n : Nat) : State :=
  (((s.laneCount n 12).mapLane n fun l => { l with
    held := true, search := 0, best := 0, base := none, gained := false, meas := none, berCw := 0
    sentDone := false, rcvdDone := false }).enterLane n 2).askTap n 0x0C

/-- The HELLO of lane `n` (R317, R323): version 1, rate code, both roles possible as allowed, [2] once the far HELLO has been
seen, 2,048 blocks of replay capacity, the time role. -/
def State.sendHello (s : State) (n : Nat) : State :=
  (s.mapLane n fun l => { l with helloAt := s.clk.beats }).sendCtrl n 0x01
    (leBytes 8 s.ownUid ++ [1, BitVec.ofNat 8 (s.nat (Obj.RATE_ACTIVE n)),
      BitVec.ofNat 8 (s.nat (Obj.TT_ROLE_ALLOW n) % 4 + if (s.laneRec n).seen then 4 else 0)] ++
      leBytes 2 2048 ++ [BitVec.ofNat 8 (s.nat (Obj.TT_ROLE n))])

/-- ENTER HELLO (R316, R323), once TRAIN_DONE has been both sent and received. -/
def State.enterHello (s : State) (n : Nat) : State :=
  ((s.mapLane n fun l => { l with seen := false, attempts := 0, ratesFailed := 0, reqOpen := false }).enterLane n 3).sendHello n

/-- Leave TRAIN for HELLO when TRAIN_DONE has gone both ways (R316). -/
def State.trainEnds (s : State) (n : Nat) : State :=
  if (s.laneRec n).sentDone && (s.laneRec n).rcvdDone then s.enterHello n else s

/-- Start lane `n` where LANE_ENABLE is 1, its domain is on, the trims are applied and it is OFF (R316, R422; a lane's
transmitter is disabled until the trim-apply event, R229). -/
def State.startLane (s : State) (n : Nat) : State :=
  if s.nat (Obj.LANE_ENABLE n) = 1 && s.power.trims && s.domain (laneDomain n) = 1 && s.laneState n = 0 then s.enterLock n true else s

/-! ## Down (R324, R325, R330) -/

/-- A time role of lane `n` is set (R330): a change disqualifies the lane as a source under R57; DLT is never stepped. -/
def State.setRole (s : State) (n role : Nat) : State :=
  if s.nat (Obj.TT_ROLE n) = role then s
  else
    let s1 := (s.put (Obj.TT_ROLE n) role).mapLane n fun l => { l with ttOpen := false, ttAt := none }
    if s1.nat Obj.TIME_LANE = n then
      ({ s1 with clk := { s1.clk with
          sources := s1.clk.sources.set (sourceIdx .lane) (s1.clk.sources[sourceIdx .lane]).ended } }).updateLock
    else s1

/-- Nobody waits any more for a dictionary read of transport `t` (R325). -/
def FlashOp.forget (t : Nat) : FlashOp → FlashOp
  | .read t' r => .read (if t' = t then 10 else t') r
  | op => op

/-- THE LANE IS DECLARED DOWN (R325): the replay buffer and the dictionary traffic in flight are discarded, pages in flight
are abandoned (R299), roles end, DOWN_COUNT and bell 0x0E84 tell it, and HOLDOFF follows. Its EGRESS capacity is 0 from the
next roll boundary, because a lane that is not UP has none (R263). -/
def State.laneDown (s : State) (n cause : Nat) : State :=
  let s1 := (s.put (Obj.DOWN_CAUSE n) cause).viewsLaneDown n
  let s2 := s1.mapLane n fun l => { l with unacked := [], sentN := 0, replays := 0, nakSent := false }
  let s3 := { s2 with
    dict := { s2.dict with queues := s2.dict.queues.setIfInBounds (2 + n) [] }
    ports := { s2.ports with
      flashQ := s2.ports.flashQ.map (FlashOp.forget (2 + n)), flashNow := s2.ports.flashNow.map (FlashOp.forget (2 + n)) } }
  ((((s3.setRole n 0).laneCount n 11).bell 0x0E84).enterLane n 5)

/-- LEAVE IN ORDER (R324): DOWN with cause 4 eight times, then down. Only a lane that is UP has a partner to leave. -/
def State.leaveLane (s : State) (n : Nat) : State :=
  if s.laneUp n then ((List.range 8).foldl (fun (t : State) _ => t.sendCtrl n 0x60 [4]) s).laneDown n 4 else s

/-- Turn lane `n` off (R316, R422): it leaves in order, its transmitter idles and its domain goes off. -/
def State.laneOff (s : State) (n : Nat) : State :=
  (((s.leaveLane n).enterLane n 0).put (Obj.RATE_ACTIVE n) 0).turnOff (laneDomain n)

/-- A write of LANE_ENABLE (R316, R324, R422): 1 turns the lane's domain on and starts bring-up, also out of FAILED; 0 leaves
in order and turns the lane off. -/
def State.writeLaneEnable (s : State) (n v : Nat) : State :=
  let s1 := s.put (Obj.LANE_ENABLE n) v
  if v = 0 then s1.laneOff n
  else if s1.laneState n = 6 then s1.enterLock n true
  else (s1.turnOn (laneDomain n)).startLane n

/-- LANE_ENABLE_WRITE (R316); values above 1 and lanes that the part lacks are refused (R336, Objects). -/
def execLaneEnableWrite (n : Fin 8) (v : Nat) (s : State) : Out :=
  .next (if 1 < v || s.laneAbsent n.val then s else s.writeLaneEnable n.val v)

/-- A write of LANE_RESTART (R324): 1 leaves in order and brings the lane up again; a lane in FAILED leaves it (R316). -/
def State.writeLaneRestart (s : State) (n v : Nat) : State :=
  if v ≠ 1 then s
  else
    let s1 := s.put (Obj.LANE_RESTART n) 1
    let st := s1.laneState n
    if st = 4 then s1.leaveLane n
    else if st = 0 || st = 5 then s1
    else s1.enterLock n true

/-- LANE_RESTART (R324). -/
def execLaneRestart (n : Fin 8) (v : Nat) (s : State) : Out :=
  .next (if s.laneAbsent n.val then s else s.writeLaneRestart n.val v)

/-- A write of TX_FIXED (R305): 1 takes the lane to LOCK, where it stays; a lane that is UP leaves in order first, and one
that is OFF or FAILED stays so (log entry 45). The coefficients are those of TX_INIT_PRESET. -/
def State.writeTxFixed (s : State) (n v : Nat) : State :=
  let s1 := s.put (Obj.TX_FIXED n) v
  let st := s1.laneState n
  if v = 0 then s1
  else if st = 4 then (s1.leaveLane n).enterLock n true
  else if st = 2 || st = 3 || st = 5 then s1.enterLock n true
  else s1.setCoefs n (presetCoefs (s1.nat (Obj.TX_INIT_PRESET n)))

/-- A write of TX_INIT_PRESET (R305, R311): the transmitter has its coefficients while the lane is OFF or in LOCK, and while
TX_FIXED holds them. -/
def State.writeTxPreset (s : State) (n v : Nat) : State :=
  let s1 := s.put (Obj.TX_INIT_PRESET n) v
  if s1.laneState n ≤ 1 || s1.nat (Obj.TX_FIXED n) = 1 then s1.setCoefs n (presetCoefs v) else s1

/-! ## Codewords and rate matching (R306-R310, R334) -/

/-- What passes the elastic buffer (R310): its fill, fillers deleted, fillers inserted, and whether it overflowed or ran dry. -/
structure Elastic where
  fill : Nat
  del  : Nat := 0
  ins  : Nat := 0
  out  : Bool := false
deriving DecidableEq, Repr

/-- `k` blocks are read from the buffer since the last one arrived (R310): below 4 blocks it inserts a FILLER at its output
instead of the first of them; a read of an empty buffer runs it dry. -/
def Elastic.read (e : Elastic) (k : Nat) : Elastic :=
  let j := if e.fill < 4 && k ≠ 0 then k - 1 else k
  { e with fill := e.fill - j, ins := e.ins + (k - j), out := e.out || e.fill < j }

/-- A block arrives at the buffer (R310): above 12 blocks a FILLER is deleted; more than 16 blocks overflow it. -/
def Elastic.write (e : Elastic) (b : RxBlock) : Elastic :=
  if 12 < e.fill && b = .filler then { e with del := e.del + 1 }
  else { e with fill := min 16 (e.fill + 1), out := e.out || 16 ≤ e.fill }

/-- THE ELASTIC BUFFER over the blocks of a codeword (R310); `reads` gives for each block how many the lane block clock has
read since the one before, 1 where it gives none. -/
def elastic : List RxBlock → List Nat → Elastic → Elastic
  | [], _, e => e
  | b :: r, ks, e => elastic r (ks.drop 1) ((e.read (ks.headD 1)).write b)

/-- An uncorrectable codeword (R308, R334): bell 0x0E86 when 16 fall within one second. -/
def State.uncorrectable (s : State) (n : Nat) : State :=
  let now := s.clk.beats
  let old := ((s.laneRec n).uncorr.filter fun b => now < b + 200000000) ++ [now]
  let s1 := (s.laneCount n 3).mapLane n fun l => { l with
    goodRun := 0, badRun := min 8 (l.badRun + 1), uncorr := if 16 ≤ old.length then [] else old }
  if 16 ≤ old.length then s1.bell 0x0E86 else s1

/-- A codeword that decodes, with `k` symbols corrected (R307, R334). -/
def State.correctable (s : State) (n k : Nat) : State :=
  ((if k = 0 then s else (s.laneCount n 1).laneCount n 2 k)).mapLane n fun l => { l with goodRun := min 16 (l.goodRun + 1), badRun := 0 }

/-- The blocks of a good codeword of a lane in lock (R310, R317): fillers deleted and inserted, control blocks that fail
their CRC, unknown types; a buffer that overflows or runs dry declares a lane that is UP down with cause 2, and another lane
goes on with it half full (log entry 45). -/
def State.takeBlocks (s : State) (n : Nat) (blocks : List RxBlock) (reads : List Nat) : State :=
  let e := elastic blocks reads { fill := (s.laneRec n).fill }
  let s1 := (((s.laneCount n 9 e.del).laneCount n 10 e.ins).laneCount n 4 (blocks.count .badCrc)).laneCount n 13
    (blocks.count .unknownType)
  let s2 := s1.mapLane n fun l => { l with fill := if e.out then 8 else e.fill }
  if e.out && s2.laneUp n then s2.laneDown n 2 else s2

/-! ## The search for the far coefficients (R312) -/

/-- The TAP_REQ body of step `j` of a round, or of taking it back: tap j div 2, INC for an even j and DEC for an odd one. -/
def stepBody (j : Nat) (back : Bool) : Nat := j / 2 + 4 * (1 + (if back then j + 1 else j) % 2)

/-- THE NEXT TAP_REQ OF THE PART'S RECEIVER (R312): the presets in order, the best of them, then each tap one step up and one
step down, round after round, until a round has kept no step (log entry 45). -/
def State.nextTap (s : State) (n : Nat) : State :=
  let l := s.laneRec n
  let go (k : Nat) : State := s.mapLane n fun l => { l with search := k }
  if l.search < 7 then (go (l.search + 1)).askTap n (0x0C + 16 * (l.search + 1))
  else if l.search = 7 then (go 8).askTap n (0x0C + 16 * l.best)
  else if l.search = 8 then (s.mapLane n fun l => { l with search := 9, gained := false }).askTap n (stepBody 0 false)
  else
    let j := (l.search - 9) / 2
    if j < 7 then (go (11 + 2 * j)).askTap n (stepBody (j + 1) false)
    else if l.gained then (s.mapLane n fun l => { l with search := 9, gained := false }).askTap n (stepBody 0 false)
    else s.mapLane n fun l => { l with search := 25, meas := none, berCw := 0 }

/-- The count of a measurement is there (R312): a preset is the best if none before had as few symbols corrected; a step is
kept and tried again while the count falls, and taken back otherwise. -/
def State.measured (s : State) (n count : Nat) : State :=
  let l := s.laneRec n
  let better := l.base.all fun b => decide (count < b)
  let s1 := if better then s.mapLane n fun l => { l with base := some count } else s
  if l.search < 8 then (if better then s1.mapLane n fun l => { l with best := l.search } else s1).nextTap n
  else
    let j := (l.search - 9) / 2
    if better then (s1.mapLane n fun l => { l with gained := true }).askTap n (stepBody j false)
    else (s1.mapLane n fun l => { l with search := l.search + 1 }).askTap n (stepBody j true)

/-- A codeword of a lane in TRAIN adds the symbols `k` that it had corrected to the measurement in progress, which ends after
1 ms for a preset and 100 µs for a step (R312); after the search its bits count towards the 10^9. -/
def State.searchCodeword (s : State) (n k : Nat) : State :=
  let l := s.laneRec n
  if s.laneState n ≠ 2 then s
  else if l.search = 25 then s.mapLane n fun l => { l with berCw := l.berCw + 1 }
  else
    match l.meas with
    | none => s
    | some (t0, c) =>
      if s.passedUs t0 (if l.search < 8 then 1000 else 100) then (s.mapLane n fun l => { l with meas := none }).measured n (c + k)
      else s.mapLane n fun l => { l with meas := some (t0, c + k) }

/-- CODEWORD_RECEIVE (R306-R310): the 514 message and 30 parity symbols of a codeword are decoded; 16 good ones in a row give lock, 8 uncorrectable
ones lose it, and the blocks of a good one are descrambled and pass the elastic buffer. The blocks of an uncorrectable one are
discarded whole; its bits pass the descrambler as received, and it counts as 16 symbols for the search (log entry 45). -/
def execCodewordReceive (n : Fin 8) (message parity : List Nat) (reads : List Nat) (s : State) : Out :=
  .next (
    if s.laneState n.val = 0 then s
    else
      let symbols := message ++ parity
      let s1 := s.laneCount n.val 0
      let msg := ((rsDecode symbols).map (·.2)).getD message
      let d := blocksOf 20 (symbolBits msg) (s.laneRec n.val).rxScr
      let s2 := s1.mapLane n.val fun l => { l with rxScr := d.2 }
      match (rsDecode symbols).map (·.1) with
      | none =>
        let s3 := (s2.uncorrectable n.val).searchCodeword n.val 16
        if (s3.laneRec n.val).badRun < 8 then s3
        else if s3.laneState n.val = 4 then s3.laneDown n.val 1
        else if s3.laneState n.val = 2 then s3.enterLock n.val false
        else s3
      | some k =>
        let s3 := s2.correctable n.val k
        let st := s3.laneState n.val
        if st = 1 then
          (if 16 ≤ (s3.laneRec n.val).goodRun && s3.nat (Obj.TX_FIXED n.val) = 0 then s3.enterTrain n.val else s3)
        else if 2 ≤ st && st ≤ 4 then (s3.searchCodeword n.val k).takeBlocks n.val (d.1.map Block.kind) reads
        else s3)

/-! ## Training (R312, R314, R316) -/

/-- The answer to a TAP_REQ: status 0 UPDATED, 1 AT_LIMIT, 2 REFUSED, and the coefficients after it (R314). -/
def State.tapAnswer (s : State) (n tap op preset : Nat) : Nat × Word :=
  let w := (s.laneRec n).coefs
  if s.laneState n ≠ 2 || s.nat (Obj.TX_FIXED n) = 1 then (2, w)
  else
    match op with
    | 0 => (0, w)
    | 3 => (0, presetCoefs (preset % 8))
    | k =>
      let w' := stepTap w (tap % 4) (if k = 1 then 1 else -1)
      if coefsOk w' then (0, w') else (1, w)

/-- Send a TAP_RESP (R317). -/
def State.sendTapResp (s : State) (n num status : Nat) (coefs : Word) : State :=
  s.sendCtrl n 0x03 ([BitVec.ofNat 8 num, BitVec.ofNat 8 status] ++ leBytes 4 coefs.toNat)

/-- A new TAP_REQ takes its effect and is answered (R314). -/
def State.answerTap (s : State) (n : Nat) (a : Nat × Word) (num : Nat) : State :=
  ((s.setCoefs n a.2).mapLane n fun l => { l with lastReq := some (num, a.1) }).sendTapResp n num a.1 a.2

/-- TAP_REQ (R314): answered with the coefficients in force after it; a repeated number is answered again with the same
status, and nothing changes. -/
def execTapReq (n : Fin 8) (tap op preset num : Nat) (s : State) : Out :=
  .next (
    if s.laneState n.val = 0 then s
    else
      match (s.laneRec n.val).lastReq with
      | some (m, st) =>
        if m = num then s.sendTapResp n.val num st (s.laneRec n.val).coefs
        else s.answerTap n.val (s.tapAnswer n.val tap (op % 4) preset) num
      | none => s.answerTap n.val (s.tapAnswer n.val tap (op % 4) preset) num)

/-- TAP_RESP (R312, R314): the answer to the open request shows the far coefficients; a change that was made is measured, and
after one that was not, or after a step taken back, the search goes on. -/
def execTapResp (n : Fin 8) (num status : Nat) (coefs : Word) (s : State) : Out :=
  .next (
    let l := s.laneRec n.val
    if s.laneState n.val ≠ 2 || !l.reqOpen || l.reqNum ≠ num || 2 < status then s
    else
      let s1 := (s.put (Obj.FAR_TX_COEFS n.val) coefs.toNat).mapLane n.val fun l => { l with reqOpen := false }
      if l.search = 25 then s1
      else if status = 0 && (l.search < 8 || l.search % 2 = 1) then s1.mapLane n.val fun l => { l with meas := some (s.clk.beats, 0) }
      else s1.nextTap n.val)

/-- TAP_REQ_RETRY (R314): 10 µs without an answer, so the request is repeated with the same number. -/
def execTapReqRetry (n : Fin 8) (s : State) : Out :=
  .next (
    let l := s.laneRec n.val
    if s.laneState n.val = 2 && l.reqOpen && s.passedUs l.reqAt 10 then
      (s.mapLane n.val fun l => { l with reqAt := s.clk.beats }).sendCtrl n.val 0x02
        [BitVec.ofNat 8 l.reqBody, BitVec.ofNat 8 l.reqNum]
    else s)

/-- Send a TRAIN_DONE (R316). -/
def State.sendTrainDone (s : State) (n : Nat) : State :=
  (s.mapLane n fun l => { l with doneAt := s.clk.beats }).sendCtrl n 0x04 []

/-- TRAIN_DONE_SEND (R312, R316): no step improves the count any more, and the pre-FEC BER, in units of 10^-9, measured over
at least 10^9 bits since, is at most 10^-6. -/
def execTrainDoneSend (n : Fin 8) (ber1e9 : Nat) (s : State) : Out :=
  .next (
    let l := s.laneRec n.val
    if s.laneState n.val ≠ 2 || l.search ≠ 25 || 5440 * l.berCw < 1000000000 || 1000 < ber1e9 then s
    else ((s.mapLane n.val fun l => { l with sentDone := true }).sendTrainDone n.val).trainEnds n.val)

/-- What lane `n` sends at a beat of its own accord (R316): HELLO every µs, 200 beats, in HELLO state, and TRAIN_DONE every 64
blocks in TRAIN once it has been sent: 64 of the block slots of R303, 280 to 136 beats at 112 Gbit/s. -/
def State.laneTick (s : State) (n : Nat) : State :=
  let l := s.laneRec n
  if s.laneState n = 3 && s.passedUs l.helloAt 1 then s.sendHello n
  else if s.laneState n = 2 && l.sentDone && 64 * 136 ≤ 140 * l.rate * (s.clk.beats - l.doneAt) then s.sendTrainDone n
  else s

/-- What the lanes send at a beat. -/
def State.lanesTick (s : State) : State := (List.range 8).foldl (fun (t : State) n => t.laneTick n) s

/-- TRAIN_DONE (R316): a TRAIN_DONE is received; with its own sent, the lane moves to HELLO. -/
def execTrainDone (n : Fin 8) (s : State) : Out :=
  .next (
    if s.laneState n.val ≠ 2 then s
    else (s.mapLane n.val fun l => { l with rcvdDone := true }).trainEnds n.val)

/-- TRAIN_LIMIT_EXPIRY (R316): TRAIN_LIMIT after entry into TRAIN the attempt fails: back to LOCK; after three failures at
one rate an automatic lane tries the other rate once, and otherwise the lane is FAILED and bell 0x0E81 is raised. -/
def execTrainLimitExpiry (n : Fin 8) (s : State) : Out :=
  .next (
    let l := s.laneRec n.val
    if s.laneState n.val ≠ 2 || !s.passedUs l.since (1000 * s.nat (Obj.TRAIN_LIMIT n.val)) then s
    else if l.attempts + 1 < 3 then (s.mapLane n.val fun l => { l with attempts := l.attempts + 1 }).enterLock n.val false
    else if l.auto && l.ratesFailed = 0 then
      (s.mapLane n.val fun l => { l with attempts := 0, ratesFailed := 1, rate := 3 - l.rate, held := false }).enterLock n.val false
    else ((s.mapLane n.val fun l => { l with attempts := 3 }).enterLane n.val 6).bell 0x0E81)

/-- RATE_SEEK_TIMEOUT (R315): an automatic lane that has sought lock for TRAIN_LIMIT without finding it switches to the other
rate; no bell is raised. -/
def execRateSeekTimeout (n : Fin 8) (s : State) : Out :=
  .next (
    let l := s.laneRec n.val
    if s.laneState n.val = 1 && l.auto && !l.held && s.passedUs l.since (1000 * s.nat (Obj.TRAIN_LIMIT n.val)) then
      (s.mapLane n.val fun l => { l with rate := 3 - l.rate }).enterLock n.val false
    else s)

/-! ## Link-up (R316, R323) -/

/-- THE LANE IS UP (R319, R323): packets number from 0, PARTNER_UID and LAST_UP_DLT are recorded, bell 0x0E83 is raised, and
views whose partner returns go on (R300, R301). -/
def State.laneComesUp (s : State) (n : Nat) (uid : BitVec 64) : State :=
  let s1 := (s.enterLane n 4).mapLane n fun l => { l with
    txSeq := 0, unacked := [], sentN := 0, rxSeq := 0, nakSent := false, replays := 0, ackAt := s.clk.beats, ttOpen := false, ttAt := none }
  ((((s1.put (Obj.PARTNER_UID n) uid.toNat).put (Obj.LAST_UP_DLT n) s.now.toNat).bell 0x0E83).viewsLaneUp n)

/-- HELLO (R323): in HELLO state a valid HELLO is seen, and with the far end's bit [2] set the lane is UP; another version
counts in CTRL_UNKNOWN and raises bell 0x0E82. On a lane that is UP it is the mark of a partner that has restarted. -/
def execHello (n : Fin 8) (m : HelloMsg) (s : State) : Out :=
  .next (
    let st := s.laneState n.val
    if st = 4 then s.laneDown n.val 5
    else if st ≠ 3 then s
    else if m.version ≠ 1 then (s.laneCount n.val 13).bell 0x0E82
    else
      let s1 := (s.mapLane n.val fun l => { l with seen := true, since := s.clk.beats }).sendHello n.val
      if m.seen then s1.laneComesUp n.val m.uid else s1)

/-- HELLO_TIMEOUT (R316): 1 ms in HELLO without a valid HELLO leads to HOLDOFF. -/
def execHelloTimeout (n : Fin 8) (s : State) : Out :=
  .next (if s.laneState n.val = 3 && s.passedUs (s.laneRec n.val).since 1000 then s.enterLane n.val 5 else s)

/-- HOLDOFF_EXPIRY (R316): after 1 ms the lane returns to LOCK. -/
def execHoldoffExpiry (n : Fin 8) (s : State) : Out :=
  .next (if s.laneState n.val = 5 && s.passedUs (s.laneRec n.val).since 1000 then s.enterLock n.val true else s)

/-! ## Packets (R318-R322) -/

/-- NAK the expected SEQ (R319): at most one for each expected SEQ until it has been accepted or REPLAY_TIMEOUT has passed. -/
def State.sendNak (s : State) (n : Nat) : State :=
  let l := s.laneRec n
  if l.nakSent && !s.passedUs l.nakAt (s.nat Obj.REPLAY_TIMEOUT) then s
  else ((s.mapLane n fun l => { l with nakSent := true, nakAt := s.clk.beats }).laneCount n 5).sendCtrl n 0x21 (leBytes 2 l.rxSeq)

/-- The expected packet is accepted in order and acknowledged (R319). -/
def State.acceptSeq (s : State) (n : Nat) : State :=
  let q := (s.laneRec n).rxSeq
  (s.mapLane n fun l => { l with rxSeq := (q + 1) % 4096, nakSent := false }).sendCtrl n 0x20 (leBytes 2 q)

/-- ANSWER A DICTIONARY REQUEST ON A LANE (R361): a packet of KIND 2 with the transport header, charged to AC6. An answer
without data carries one byte of zero, because a packet has at least one (R317, log entry 45). -/
def State.laneReply (s : State) (n : Nat) (r : DictReq) (status ty : Nat) (data : List Byte) : State :=
  if s.laneUp n then
    let d := if data.isEmpty then [0] else data
    ((s.owe (136 + n) 6 ((d.length + 31) / 32)).tx n
      { seq := 0, kind := 2, blocks := writeBlocks d, header := transportHeader r status ty data.length, data := d }).send
        (.reply (2 + n) r.tag status data)
  else s

/-- PKT_RECEIVE (R318, R319, R361): only the expected SEQ, whole and with a matching CRC-32, is accepted; anything else is
NAKed. A WRITE and a DICT_RESP are discarded and counted; a DICT_REQ joins the lane's queue of 16, or is answered BUSY. -/
def execPktReceive (n : Fin 8) (p : RxPacket) (s : State) : Out :=
  .next (
    if !s.laneUp n.val then s
    else
      let s1 := if p.whole && !p.crcOk then s.laneCount n.val 4 else s
      if !p.whole || !p.crcOk || p.seq ≠ (s.laneRec n.val).rxSeq then s1.sendNak n.val
      else if 2 < p.kind then (s1.laneCount n.val 13).sendNak n.val
      else
        let s2 := s1.acceptSeq n.val
        if p.kind ≠ 1 then s2.laneCount n.val 14
        else
          let q := (s2.dict.queues.toList[2 + n.val]?).getD []
          if 16 ≤ q.length then s2.laneReply n.val p.req 6 0 []
          else { s2 with dict := { s2.dict with queues := s2.dict.queues.setIfInBounds (2 + n.val) (q ++ [{ p.req with stamp := s.now }]) } })

/-- CREDIT (R292, R318, R322): a packet of one block. Accepted in order it grants; for a view that the lane does not serve it
is discarded and counted. -/
def execCredit (n : Fin 8) (seq : Nat) (view : Fin 16) (ring : Fin 2) (count : Word) (s : State) : Out :=
  .next (
    if !s.laneUp n.val then s
    else if seq ≠ (s.laneRec n.val).rxSeq then s.sendNak n.val
    else
      let s1 := s.acceptSeq n.val
      if (s.viewSet view.val).contains n.val then (s1.grant view.val ring.val count.toNat).1 else s1.laneCount n.val 14)

/-- ACK (R320): cumulative; the packets up to SEQ leave the replay buffer, and those that now fit go out. A SEQ outside the
window is discarded and counted. -/
def execAck (n : Fin 8) (seq : Nat) (s : State) : Out :=
  .next (
    if !s.laneUp n.val then s
    else
      match (s.laneRec n.val).window.findIdx? fun p => p.seq = seq with
      | none => s.laneCount n.val 14
      | some i =>
        let acked := (s.laneRec n.val).unacked.take (i + 1)
        let s1 := s.mapLane n.val fun l => { l with unacked := l.unacked.drop (i + 1), sentN := l.sentN - (i + 1), replays := 0, ackAt := s.clk.beats, replayAt := s.clk.beats }
        (s1.linesAcked n.val acked).flushLane n.val)

/-- REPLAY (R320, R325): the packets of the window from the `i`-th on are sent again, in order; more than 64 replays without
an ACK advance declare the lane down with cause 6. -/
def State.replay (s : State) (n i : Nat) : State :=
  let ps := (s.laneRec n).window.drop i
  let s1 := (s.laneCount n 7 ps.length).mapLane n fun l => { l with replays := l.replays + 1, replayAt := s.clk.beats }
  if 64 < (s1.laneRec n).replays then s1.laneDown n 6 else s1.putPackets n ps

/-- NAK (R320): every unacknowledged packet from the SEQ named is sent again; a SEQ outside the window is discarded and
counted. -/
def execNak (n : Fin 8) (seq : Nat) (s : State) : Out :=
  .next (
    if !s.laneUp n.val then s
    else
      let s1 := s.laneCount n.val 6
      let w := (s.laneRec n.val).window
      match w.findIdx? fun p => p.seq = seq with
      | none => s1.laneCount n.val 14
      | some i => s1.replay n.val i)

/-- REPLAY_TIMEOUT (R320): no ACK has advanced for REPLAY_TIMEOUT, so everything unacknowledged is sent again. -/
def execReplayTimeout (n : Fin 8) (s : State) : Out :=
  .next (
    let l := s.laneRec n.val
    if s.laneUp n.val && !l.unacked.isEmpty && s.passedUs (max l.ackAt l.replayAt) (s.nat Obj.REPLAY_TIMEOUT) then
      (s.laneCount n.val 8).replay n.val 0
    else s)

/-- LINK_STALL_TIMEOUT (R325): no ACK advance for LINK_STALL_US while packets are unacknowledged: down with cause 3. -/
def execLinkStallTimeout (n : Fin 8) (s : State) : Out :=
  .next (
    let l := s.laneRec n.val
    if s.laneUp n.val && !l.unacked.isEmpty && s.passedUs l.ackAt (s.nat Obj.LINK_STALL_US) then s.laneDown n.val 3 else s)

/-- DOWN (R324): a DOWN block, whatever its cause, declares a lane that is UP down with cause 4. -/
def execDown (n : Fin 8) (cause : Nat) (s : State) : Out :=
  .next (if s.laneUp n.val && cause < 256 then s.laneDown n.val 4 else s)

/-! ## Time transfer (R326, R327) -/

/-- TIME_SYNC_SEND (R326): as reference, every TT_PERIOD_US. -/
def execTimeSyncSend (n : Fin 8) (s : State) : Out :=
  .next (
    let due := match (s.laneRec n.val).ttAt with
      | none => true
      | some b => s.passedUs b (s.nat Obj.TT_PERIOD_US)
    if s.laneUp n.val && s.nat (Obj.TT_ROLE n.val) = 1 && due then
      (s.mapLane n.val fun l => { l with ttAt := some s.clk.beats }).sendCtrl n.val 0x40 (leBytes 8 s.now.toNat)
    else s)

/-- TIME_SYNC (R326): as follower, the arrival is stamped `t2` and answered with one TIME_REQ that carries `t3`. -/
def execTimeSync (n : Fin 8) (t1 t2 t3 : Dlt) (s : State) : Out :=
  .next (
    if s.laneUp n.val && s.nat (Obj.TT_ROLE n.val) = 2 then
      (s.mapLane n.val fun l => { l with ttT1 := t1, ttT2 := t2, ttT3 := t3, ttOpen := true }).sendCtrl n.val 0x41 (leBytes 8 t3.toNat)
    else s)

/-- TIME_REQ (R326): as reference, answered with TIME_RESP carrying the arrival `t4` and `t3` echoed. -/
def execTimeReq (n : Fin 8) (t3 t4 : Dlt) (s : State) : Out :=
  .next (
    if s.laneUp n.val && s.nat (Obj.TT_ROLE n.val) = 1 then (s.laneCount n.val 15).sendCtrl n.val 0x42 (leBytes 8 t4.toNat ++ leBytes 8 t3.toNat) else s)

/-- TIME_RESP (R326): the exchange is complete: the delay is recorded, and on TIME_LANE, with lanes in PRIORITY, the phase
error is an event of the lane source. -/
def execTimeResp (n : Fin 8) (t4 t3 : Dlt) (s : State) : Out :=
  .next (
    let l := s.laneRec n.val
    if s.laneUp n.val && s.nat (Obj.TT_ROLE n.val) = 2 && l.ttOpen && l.ttT3 = t3 then
      let delay := roundDiv (Dlt.diff l.ttT2 l.ttT1 + Dlt.diff t4 t3) 2 + s.get (Obj.LANE_ASYM n.val)
      let err := Dlt.diff l.ttT2 l.ttT1 - delay
      let s1 := ((s.mapLane n.val fun l => { l with ttOpen := false }).laneCount n.val 15).put (Obj.TT_DELAY n.val)
        (clampInt delay (-2147483648) 2147483647)
      if s.nat Obj.TIME_LANE = n.val && (priorityList (s.nat Obj.PRIORITY)).contains 2 then
        s1.sourceEvent .lane l.ttT2 err (s.sourcePeriod .lane)
      else s1
    else s)

/-! ## Roles (R328-R330) -/

/-- Send a ROLE_REQ (R317, R328). -/
def State.sendRoleReq (s : State) (n role num : Nat) : State := s.sendCtrl n 0x50 [BitVec.ofNat 8 role, BitVec.ofNat 8 num]

/-- Send a ROLE_RESP (R317, R328). -/
def State.sendRoleResp (s : State) (n num status : Nat) : State := s.sendCtrl n 0x51 [BitVec.ofNat 8 num, BitVec.ofNat 8 status]

/-- A write of TT_ROLE_REQ (R328): the part asks with ROLE_REQ, naming the role it wants; the object reads 1, waiting. -/
def State.writeRoleReq (s : State) (n v : Nat) : State :=
  let num := ((s.laneRec n).roleNum + 1) % 256
  let s1 := (s.mapLane n fun l => { l with roleNum := num, roleReq := some (v, num, 1), roleAt := s.clk.beats }).put (Obj.TT_ROLE_REQ n) 1
  if s.laneUp n then s1.sendRoleReq n v num else s1

/-- TT_ROLE_REQ (R328); values above 2 are refused (R340). -/
def execTtRoleReq (n : Fin 8) (v : Nat) (s : State) : Out :=
  .next (if 2 < v || s.laneAbsent n.val then s else s.writeRoleReq n.val v)

/-- A request of the far end taken as if the part had none (R328): the complementary role, if it is allowed. -/
def State.grantRole (s : State) (n role num : Nat) : State :=
  let own := if role = 1 then 2 else if role = 2 then 1 else 0
  let ok := role ≤ 2 && (own = 0 || (s.nat (Obj.TT_ROLE_ALLOW n)).testBit (own - 1))
  let st := if ok then 0 else 1
  let s1 := (s.mapLane n fun l => { l with lastRole := some (num, st) }).sendRoleResp n num st
  if ok then s1.setRole n own else s1

/-- An incoming request is answered COLLISION (R329). -/
def State.collideRole (s : State) (n num : Nat) : State :=
  (s.mapLane n fun l => { l with lastRole := some (num, 2) }).sendRoleResp n num 2

/-- ROLE_REQ (R328, R329): granted or refused; an answer is repeated for a repeated number; against a request of the part's
own the UID64s decide. -/
def execRoleReq (n : Fin 8) (role num : Nat) (s : State) : Out :=
  .next (
    let l := s.laneRec n.val
    if !s.laneUp n.val then s
    else if (l.lastRole.map (·.1)) = some num then s.sendRoleResp n.val num ((l.lastRole.map (·.2)).getD 0)
    else if l.roleReq.isNone then s.grantRole n.val role num
    else
      let own := s.ownUid
      let far := s.nat (Obj.PARTNER_UID n.val)
      if own < far then s.collideRole n.val num
      else if far < own then
        (((s.mapLane n.val fun l => { l with roleReq := none }).put (Obj.TT_ROLE_REQ n.val) 4).grantRole n.val role num)
      else (s.collideRole n.val num).bell 0x0E85)

/-- ROLE_RESP (R328, R330): the answer to the part's request; GRANTED changes the role. -/
def execRoleResp (n : Fin 8) (num status : Nat) (s : State) : Out :=
  .next (
    match (s.laneRec n.val).roleReq with
    | none => s
    | some (role, num', _) =>
      if !s.laneUp n.val || num ≠ num' || 2 < status then s
      else
        let s1 := (s.mapLane n.val fun l => { l with roleReq := none }).put (Obj.TT_ROLE_REQ n.val) (2 + status)
        if status = 0 then s1.setRole n.val role else s1)

/-- ROLE_REQ_RETRY (R328): 100 µs without an answer, so the request is repeated with the same number; after 8 tries
TT_ROLE_REQ reads 5. -/
def execRoleReqRetry (n : Fin 8) (s : State) : Out :=
  .next (
    match (s.laneRec n.val).roleReq with
    | none => s
    | some (role, num, tries) =>
      if !s.passedUs (s.laneRec n.val).roleAt 100 then s
      else if 8 ≤ tries then (s.mapLane n.val fun l => { l with roleReq := none }).put (Obj.TT_ROLE_REQ n.val) 5
      else
        let s1 := s.mapLane n.val fun l => { l with roleReq := some (role, num, tries + 1), roleAt := s.clk.beats }
        if s.laneUp n.val then s1.sendRoleReq n.val role num else s1)

/-! ## Eye scan (R331, R332) -/

/-- A write of EYE_GO (R332): one scan at a time, on a lane that is UP or in TRAIN; otherwise EYE_STATE reads 4. -/
def State.writeEyeGo (s : State) (v : Nat) : State :=
  if v ≠ 1 then s
  else
    let n := s.nat Obj.EYE_LANE
    if s.eye.isSome || !(s.laneState n = 2 || s.laneState n = 4) then s.put Obj.EYE_STATE 4
    else
      let eyes := s.nat Obj.EYE_MASK % 8
      let s1 := (s.put Obj.EYE_POINT 0).put Obj.EYE_STATE (if eyes = 0 then 2 else 1)
      { s1 with eye := if eyes = 0 then none else some (n, eyes) }

/-- EYE_GO (R332). -/
def execEyeGo (v : Nat) (s : State) : Out := .next (s.writeEyeGo v)

/-- The offset in EYE_RESULT of the `p`-th point of a scan of the eyes of a mask (R331). -/
def eyeOffset (eyes p : Nat) : Nat := 8 * (8192 * (setBits 3 eyes).getD (p / 8192) 0 + p % 8192)

/-- EYE_POINT_DONE (R331): the symbols compared and the errors of the next point are written; after the last point the scan
is done. -/
def execEyePointDone (symbols errors : Word) (s : State) : Out :=
  .next (
    match s.eye with
    | none => s
    | some (_, eyes) =>
      let p := s.nat Obj.EYE_POINT
      let s1 := (s.putBytes Obj.EYE_RESULT (eyeOffset eyes p) (leBytes 4 symbols.toNat ++ leBytes 4 errors.toNat)).put Obj.EYE_POINT (p + 1)
      if 8192 * (setBits 3 eyes).length ≤ p + 1 then { s1 with eye := none }.put Obj.EYE_STATE 2 else s1)

end Sys2Proof.Machine
end

