-- ==== Sys2Proof/Machine/Mallet.lean ====
section
/-! DEFINITION. The actuator drive (13_actuator_drive.md R383-R401): commands, Mallet profiles, diagnostics, the flag's state,
the coil model and the trip. The chopping clock (R402) stands in Frames.lean. -/

namespace Sys2Proof.Machine

/-! ## Banks -/

/-- Bank `b`. -/
def State.actBank (s : State) (b : Nat) : ActBank := (s.act.banks.toList[b]?).getD {}

/-- Replace bank `b`; BANK_STATE, RUN_INFO and QUEUE follow (R388). -/
def State.setBankAct (s : State) (b : Nat) (x : ActBank) : State :=
  let s1 := { s with act := { s.act with banks := s.act.banks.setIfInBounds b x } }
  let s2 := s1.put (Obj.BANK_STATE b) (match x.run with
    | none => 0
    | some p => if p.wait = .sticks then 2 else 1)
  let s3 := match x.run with
    | none => s2
    | some p => s2.put (Obj.RUN_INFO b) (p.req.chan * 2 ^ 14 + p.req.entry * 2 ^ 8 + p.pc % 256 : Nat)
  s3.putBytes (Obj.QUEUE b) 0 ((List.range 4).flatMap fun i => leBytes 2 (match x.queue[i]? with
    | some q => 0x8000 + q.chan * 64 + q.entry
    | none => 0))

/-- The bank's coil is free: no profile runs, and the current of the last one has decayed (R385). -/
def ActBank.free (x : ActBank) : Bool := x.run.isNone && x.fading.isNone

/-- A profile takes up drive (`drive`), slow decay (2), fast decay (1) or neither at a beat (R384). -/
def Profile.phase (p : Profile) (drive : Bool) (decay beat : Nat) : Profile :=
  { p with drive := drive, decay := decay, turned := if (p.drive && decay = 2) || (p.decay = 2 && drive) then some beat else p.turned }

/-- The regulation target of a profile at a beat: a RAMP moves it linearly over its time (R389). -/
def Profile.targetAt (p : Profile) (beat : Nat) : Rat :=
  match p.ramp with
  | none => p.target
  | some (m, t0, us) =>
    let k := min (beat - t0) (200 * us)
    m + ((p.target : Rat) - m) * k / (200 * us)

/-- The switches of a bank that are on (R383): the high side, the recirculation switch, and the channel whose low side is on. -/
structure Switches where
  hs : Bool := false
  rc : Bool := false
  ls : Option Nat := none
deriving DecidableEq, Repr

/-- THE SWITCH STATES OF A BANK (R384, R400): drive, slow decay, fast decay or off. `chop` tells that the chopping clock holds a
regulated drive phase in its slow decay. Within DEAD_NS of a change between drive and slow decay the high side and the
recirculation switch are both off; a trip or an abort in that time leaves every switch off. -/
def State.switches (s : State) (b : Nat) (chop : Bool) : Switches :=
  match (s.actBank b).run with
  | none => {}
  | some p =>
    let dead := match p.turned with
      | some t => (s.clk.beats - t) * 5 < s.nat Obj.DEAD_NS
      | none => false
    let slow := p.decay = 2 || (p.drive && chop)
    if p.drive || p.decay = 2 then { hs := !slow && !dead, rc := slow && !dead, ls := some p.req.chan } else {}

/-- Change the running profile of bank `b`. -/
def State.mapProfile (s : State) (b : Nat) (f : Profile → Profile) : State :=
  s.setBankAct b { s.actBank b with run := (s.actBank b).run.map f }

/-- The number of a channel among the eight (R395). -/
def coilNo (b c : Nat) : Nat := 4 * b + c

/-- Count in COUNTERS of a channel (0xA020): 0 RUNS, 1 COMPLETED, 2 RESTARTS, 3 REFUSED, 3 + cause for aborts. -/
def State.countCoil (s : State) (b c i : Nat) : State := s.bumpLe (Obj.COIL_COUNTERS (coilNo b c)) (4 * i) 4

/-- The flag is no longer known to be closed (R396, R397). -/
def State.clapOpened (s : State) : State :=
  { s with focal := { s.focal with frames := s.focal.frames.map fun (f : Frame) =>
      if f.slotsEnd.isNone then { f with shutter := false } else f } }.put Obj.CLAP_STATE 0

/-- CLAP_POS reads open, or closed (R394); with CLAP_POS_EN 0 it reads neither. -/
def State.posOpen (s : State) : Bool :=
  (s.nat Obj.CLAP_POS_EN = 1 && !s.lands.clapPos) || (s.nat Obj.CLAP_POS_EN = 2 && s.lands.clapPos)
/-- CLAP_POS reads closed. -/
def State.posClosed (s : State) : Bool :=
  (s.nat Obj.CLAP_POS_EN = 1 && s.lands.clapPos) || (s.nat Obj.CLAP_POS_EN = 2 && !s.lands.clapPos)

/-- T_coil of a channel, °C (R398). -/
def State.coilTemp (s : State) (b c : Nat) : Rat := (s.get Obj.COIL_AMBIENT : Rat) + (s.actBank b).theta.toList.getD c 0

/-- A CLAP_TABLE entry: its channel, Mallet entry, VALID and KIND open (R387). -/
def State.clapEntry (s : State) (i : Nat) : Nat × Nat × Bool × Bool :=
  let b0 := s.nat (Obj.CLAP_TABLE + 2 * i)
  let b1 := s.nat (Obj.CLAP_TABLE + 2 * i + 1)
  (b0 / 64 % 4, b0 % 64, b1.testBit 7, b1.testBit 0)

/-- A valid CLAP_TABLE entry of KIND open names channel `c` of BANK0 (R396). -/
def State.opensFlag (s : State) (b c : Nat) : Bool :=
  b = 0 && (List.range 16).any fun i => let e := s.clapEntry i; e.2.2.1 && e.2.2.2 && e.1 = c

/-! ## The Mallet store (R389, R390) -/

/-- A word of a bank's store. -/
def State.malletWord (s : State) (b pc : Nat) : Nat := s.getLe (Obj.MALLET_STORE b) (4 * pc) 4

/-- A Mallet word is legal and its fields lie within their ranges (R389, R390). -/
def malletLegal (w : Nat) : Bool :=
  let ma := bits w 11 0
  match bits w 31 28 with
  | 0 => bits w 27 1 = 0
  | 1 => bits w 27 12 = 0 && 1 ≤ ma && ma ≤ 3000
  | 2 => 1 ≤ bits w 27 16 && bits w 27 16 ≤ 3000 && 1 ≤ bits w 15 0
  | 3 => bits w 27 24 = 0 && bits w 23 16 < bits w 15 8 && bits w 15 8 ≤ bits w 7 0
  | 4 => bits w 27 12 = 0 && 100 ≤ ma && ma ≤ 1000
  | 5 => bits w 27 12 = 0
  | 6 => bits w 27 12 = 0
  | 7 => bits w 27 20 = 0 && 1 ≤ bits w 19 0 && bits w 19 0 ≤ 1000000
  | 8 => bits w 23 12 = 0 && (bits w 27 24 = 0 || (bits w 27 24 ≤ 2 && ma = 0))
  | 9 => bits w 27 24 ≤ 4 && bits w 23 8 = 0
  | _ => false

/-- The words that may follow a word (R389). -/
def malletNext (w pc : Nat) : List Nat :=
  match bits w 31 28 with
  | 0 => []
  | 9 => if bits w 27 24 = 0 then [bits w 7 0] else [bits w 7 0, pc + 1]
  | _ => if bits w 31 28 < 10 then [pc + 1] else []

/-- The words reached from a list within a number of steps. -/
def State.malletReach (s : State) (b : Nat) : Nat → List Nat → List Nat
  | 0, seen => seen
  | k + 1, seen =>
    State.malletReach s b k (((seen ++ seen.flatMap fun pc => malletNext (s.malletWord b pc) pc).filter (· < 256)).dedup)

/-- STORE_VALID after an accepted write (R390). -/
def State.malletValid (s : State) (b : Nat) : Bool :=
  let starts := ((List.range 64).map fun i => s.nat (Obj.MALLET_ENTRIES b + i)).filter (· ≠ 0xFF)
  (s.malletReach b 256 starts).all fun pc => malletLegal (s.malletWord b pc)

/-- A Mallet word without its reserved bits (R12, R389); an illegal opcode keeps its bits. -/
def malletWordKept (w : Nat) : Nat :=
  w &&& (match bits w 31 28 with
    | 0 => 0xF0000001
    | 1 | 4 | 5 | 6 => 0xF0000FFF
    | 3 => 0xF0FFFFFF
    | 7 => 0xF00FFFFF
    | 8 => if bits w 27 24 = 1 || bits w 27 24 = 2 then 0xFF000000 else 0xFF000FFF
    | 9 => 0xFF0000FF
    | _ => 0xFFFFFFFF)

/-- A WRITE OF A MALLET STORE OR ENTRIES (R390): refused while a profile of the bank runs or is queued; the words that it
touches keep no reserved bit (R12). -/
def State.writeMallet (s : State) (b : Nat) (entries : Bool) (off : Nat) (bytes : List Byte) : State × Nat :=
  let size := if entries then 64 else 1024
  if size < off + bytes.length then (s, 4)
  else if (s.actBank b).run.isSome || !(s.actBank b).queue.isEmpty then (s, 5)
  else
    let s0 := s.putBytes (if entries then Obj.MALLET_ENTRIES b else Obj.MALLET_STORE b) off bytes
    let s1 := if entries then s0
      else (List.range ((off + bytes.length + 3) / 4 - off / 4)).foldl (fun (t : State) i =>
        t.putLe (Obj.MALLET_STORE b) (4 * (off / 4 + i)) 4 (malletWordKept (t.malletWord b (off / 4 + i)))) s0
    (s1.put (Obj.STORE_VALID b) (if s1.malletValid b then 1 else 0), 0)

/-- MALLET_STORE_WRITE (R390). -/
def execMalletStoreWrite (b : Fin 2) (entries : Bool) (off : Nat) (bytes : List Byte) (s : State) : Out :=
  .next (s.writeMallet b.val entries off bytes).1

/-! ## Starting and ending profiles (R385, R386, R395) -/

/-- A profile stands at its entry address (R386, R387); a current that still decayed on its channel is its own from then on. -/
def State.placeProfile (s : State) (b : Nat) (q : ActReq) : State :=
  let p : Profile := { req := q, pc := s.nat (Obj.MALLET_ENTRIES b + q.entry), t0 := s.clk.beats }
  s.setBankAct b { s.actBank b with run := some p, fading := none }

/-- A profile starts on a bank that is free, and counts in RUNS. -/
def State.startProfile (s : State) (b : Nat) (q : ActReq) : State := (s.placeProfile b q).countCoil b q.chan 0

/-- The next request of a bank that is free starts (R385). -/
def State.serveQueue (s : State) (b : Nat) : State :=
  match (s.actBank b).queue with
  | [] => s
  | q :: rest => if (s.actBank b).free then (s.setBankAct b { s.actBank b with queue := rest }).startProfile b q else s

/-- The bell of an abort cause (R395). -/
def abortBell (cause : Nat) : Nat :=
  [0, 0x0A01, 0x0A02, 0x0A03, 0x0A04, 0x0A05, 0x0A06, 0x0A07, 0x0A07, 0x0A07, 0x0A05].getD cause 0

/-- A JAM or BOUNCE on the closure of a calibration run fails it (R241). -/
def State.closureFailed (s : State) (close : Bool) (cause : Nat) : State :=
  if close && (cause = 1 || cause = 4) && (s.cal.run.map (·.closed)).getD false then s.calFail 0x24 else s

/-- The current of a profile's channel may still flow: it has driven, and not decayed to a floor of 0. -/
def Profile.flows (p : Profile) : Bool := p.drive || p.decay ≠ 0

/-- A PROFILE ABORTS (R395, R396): fast decay, the records and the bell. The queue is served, unless the abort is a trip, once
the channel's current has decayed (R385). -/
def State.abortProfile (s : State) (b cause : Nat) : State :=
  match (s.actBank b).run with
  | none => s
  | some p =>
    let c := p.req.chan
    let s1 := s.setBankAct b { s.actBank b with run := none, fading := if p.flows then some c else none }
    let s2 := ((s1.put (Obj.LAST_ABORT b) cause).countCoil b c (3 + cause)).bell (abortBell cause) (coilNo b c)
    let s3 := if p.req.close || cause = 4 || cause = 5 then s2.clapOpened else s2
    let s4 := s3.closureFailed p.req.close cause
    if cause = 5 then s4 else s4.serveQueue b

/-- A close profile reaches END: the flag is closed (R396). -/
def State.flagCloses (s : State) (b : Nat) (p : Profile) : State :=
  if p.req.close then
    ({ s with act := { s.act with closeEnded := some (coilNo b p.req.chan) } }.put Obj.CLAP_STATE 1).put Obj.CLAP_CLOSED_DLT s.now.toNat
  else s

/-- CLAP_POS READS OPEN AFTER A CLOSURE (R394): the flag counts as closed, and no close profile is under way; it is a BOUNCE of the
channel whose close profile ended last. -/
def State.posCheck (s : State) : State :=
  let closing := (List.range 2).any fun b => ((s.actBank b).run.map fun p => p.req.close).getD false
  if s.posOpen && s.nat Obj.CLAP_STATE = 1 && !closing then
    let n := s.act.closeEnded.getD 0
    (((s.put (Obj.LAST_ABORT (n / 4)) 4).countCoil (n / 4) (n % 4) 7).bell 0x0A04 n).clapOpened.closureFailed true 4
  else s

/-- CLAP_POS reads open (R394): BOUNCE of every profile that watches it, and after a closure. -/
def State.posWatch (s : State) : State :=
  if !s.posOpen then s
  else
    let watched := (List.range 2).filter fun b => ((s.actBank b).run.map fun p => p.posArm).getD false
    (watched.foldl (fun (t : State) b => t.abortProfile b 4) s).posCheck

/-- A PROFILE COMPLETES once its current has decayed to zero (R385, R389, R398): its energy is kept, a flag that
it has closed is checked, and the queue is served. -/
def State.completeProfile (s : State) (b : Nat) (p : Profile) : State :=
  let c := p.req.chan
  let s1 := s.setBankAct b { s.actBank b with run := none }
  let s2 := (s1.countCoil b c 1).put (Obj.ENERGY_LAST (coilNo b c)) (roundRat p.energy)
  let s3 : State := { s2 with act := { s2.act with done := s2.act.done.setIfInBounds (coilNo b c) true } }
  s3.posCheck.serveQueue b

/-! ## Commands (R385-R388, R399) -/

/-- The thermal prediction of R399 is over the limit. -/
def State.tooHot (s : State) (b c : Nat) : Bool :=
  let n := coilNo b c
  let e : Nat := if s.act.done.toList.getD n false then s.nat (Obj.ENERGY_LAST n) else s.nat (Obj.ENERGY_HINT n)
  (s.get (Obj.T_LIMIT n) : Rat) < s.coilTemp b c + (e : Rat) / (1000 * s.nat (Obj.C_TH n))

/-- The cause that refuses a command, the lowest where several hold (R388); 0 for none. -/
def State.actCause (s : State) (b : Nat) (q : ActReq) (bad : Bool) : Nat :=
  let x := s.actBank b
  let other := match x.run with
    | some p => p.req.chan ≠ q.chan
    | none => x.fading.isSome && x.fading ≠ some q.chan
  let queued := x.queue.any fun r => r.chan = q.chan
  if other && s.nat (Obj.OVERLAP b) = 1 && !q.sun then 1
  else if other && !queued && 4 ≤ x.queue.length && !q.sun then 2
  else if s.tooHot b q.chan && !q.sun then 3
  else if s.nat Obj.TRIP_ACTIVE = 1 then 4
  else if bad || s.nat (Obj.STORE_VALID b) = 0 || s.nat (Obj.MALLET_ENTRIES b + q.entry) = 0xFF then 5
  else if s.nat Obj.ACT_ENABLE = 0 then 6
  else 0

/-- A request waits behind another channel of its bank (R93, R385): a sun-guard request cancels the queue, and a request for a
channel that has one replaces it in place. -/
def State.queueProfile (s : State) (b : Nat) (q : ActReq) : State :=
  let x := s.actBank b
  if q.sun then s.setBankAct b { x with queue := [q] }
  else if x.queue.any fun r => r.chan = q.chan then
    s.setBankAct b { x with queue := x.queue.map fun r => if r.chan = q.chan then q else r }
  else s.setBankAct b { x with queue := x.queue ++ [q] }

/-- A COMMAND FOR A PROFILE (R93, R385-R388): refused, restarted (which counts in RESTARTS alone), queued or started. `bad` tells a CLAPPER that names no valid
entry, `named` whether it names a channel. -/
def State.actCommand (s : State) (b : Nat) (q : ActReq) (bad named : Bool) : State :=
  match s.actCause b q bad with
  | 0 =>
    let x := s.actBank b
    match x.run with
    | none =>
      if x.free || x.fading = some q.chan then (if q.sun then s.setBankAct b { x with queue := [] } else s).startProfile b q
      else s.queueProfile b q
    | some p =>
      if p.req.chan = q.chan then
        let s1 := (if q.sun then s.setBankAct b { x with queue := [] } else s).placeProfile b q
        s1.countCoil b q.chan 2
      else s.queueProfile b q
  | cause =>
    let s1 := s.put (Obj.LAST_REFUSE b) cause
    (if named then s1.countCoil b q.chan 3 else s1).bell 0x0A09

/-- CLAPPER (R387): an entry of CLAP_TABLE on BANK0. -/
def execClapper (l : Landing) (s : State) : Out :=
  .next (s.land 0x50 l fun t =>
    let i := l.arg.toNat % 256
    let e := t.clapEntry (i % 16)
    t.actCommand 0 { chan := e.1, entry := e.2.1, close := !e.2.2.2, sun := l.src = .sunGuard }
      (16 ≤ i || !e.2.2.1) (i < 16))

/-- ACT_START (R387). -/
def execActStart (l : Landing) (s : State) : Out :=
  .next (s.land 0x51 l fun t =>
    let a := l.arg.toNat
    t.actCommand (bits a 8 8) { chan := bits a 7 6, entry := bits a 5 0 } false true)

/-! ## Mallet instructions (R389, R391, R393) -/

/-- THE NEXT INSTRUCTION of bank `b`'s profile issues when it has opcode `op` and nothing is waited for; with VACT below 8.5 V the
profile aborts as UV (R392), and one that has run past word 255 as FAULT (R390). -/
def State.mallet (s : State) (b op : Nat) (f : Profile → Nat → State) : State :=
  match (s.actBank b).run with
  | none => s
  | some p =>
    if p.wait ≠ .none then s
    else if s.power.vactMv < 8500 then s.abortProfile b 10
    else if 256 ≤ p.pc then s.abortProfile b 9
    else
      let w := s.malletWord b p.pc
      if bits w 31 28 = op then f p w else s

/-- The profile goes on after its instruction; past word 255 it aborts at once (R390). -/
def State.malletStep (s : State) (b : Nat) (p : Profile) : State :=
  let s1 := s.setBankAct b { s.actBank b with run := some { p with pc := p.pc + 1, wait := .none } }
  if 256 ≤ p.pc + 1 then s1.abortProfile b 9 else s1

/-- The class of Mallet profiles holds ACT sticks on the bank (R267, R391). -/
def State.actSticks (s : State) (b : Nat) : Bool := s.maySpend (146 + b) 7

/-- A drive phase begins (R396): it ends a decay, and on an opening channel the flag no longer counts as closed. -/
def State.driveBegins (s : State) (b : Nat) (p : Profile) : State := if s.opensFlag b p.req.chan then s.clapOpened else s

/-- A DRIVE PHASE ISSUES (R389, R391): TARGET, RAMP or HOLD by its word. -/
def State.drive (s : State) (b : Nat) (p : Profile) (w : Nat) : State :=
  let s1 := s.driveBegins b p
  match bits w 31 28 with
  | 1 => s1.malletStep b { p.phase true 0 s.clk.beats with
      target := bits w 11 0, ramp := none, peakMa := bits w 11 0, peakT0 := s.clk.beats, peakUs := none }
  | 2 => s1.setBankAct b { s1.actBank b with run := some { p.phase true 0 s.clk.beats with
      target := bits w 27 16, ramp := some ((p.targetAt s.clk.beats).floor.toNat, s.clk.beats, bits w 15 0)
      wait := .time, waitT0 := s.clk.beats, waitUs := bits w 15 0 } }
  | _ => s1.malletStep b { p.phase true 0 s.clk.beats with target := bits w 11 0, ramp := none }

/-- A drive phase issues, or waits for sticks in slow decay (R391); the roll counts in STALL_ROLLS (R271). -/
def State.driveOrWait (s : State) (b : Nat) (p : Profile) (w : Nat) : State :=
  if s.actSticks b then s.drive b p w
  else
    let q : Profile := { p.phase false (if p.flows then 2 else 0) s.clk.beats with wait := .sticks, waitT0 := s.clk.beats }
    (s.stallRoll (146 + b) 7).setBankAct b { s.actBank b with run := some q }

/-- TARGET (R389). -/
def execTarget (b : Fin 2) (s : State) : Out := .next (s.mallet b.val 1 fun p w => s.driveOrWait b.val p w)
/-- RAMP (R389): the profile continues once the time is over. -/
def execRamp (b : Fin 2) (s : State) : Out := .next (s.mallet b.val 2 fun p w => s.driveOrWait b.val p w)
/-- HOLD (R389). -/
def execHold (b : Fin 2) (s : State) : Out := .next (s.mallet b.val 4 fun p w => s.driveOrWait b.val p w)

/-- DRIVE_STICK_WAIT_END (R391): sticks have arrived. -/
def execDriveStickWaitEnd (b : Fin 2) (s : State) : Out :=
  .next (match (s.actBank b.val).run with
    | some p => if p.wait = .sticks && s.actSticks b.val then s.drive b.val { p with wait := .none } (s.malletWord b.val p.pc) else s
    | none => s)

/-- THE TIME TO PEAK IS JUDGED (R393). -/
def State.judgePeak (s : State) (b : Nat) (p : Profile) (us : Nat) : State :=
  if us < p.tShort then s.abortProfile b 3
  else if us < p.tMin then s.abortProfile b 1
  else if us ≤ p.tMax then (s.put (Obj.T_PEAK_LAST (coilNo b p.req.chan)) us).malletStep b p
  else s.abortProfile b 2

/-- WAIT_PEAK (R389, R393): a peak that has been reached already is judged at once. -/
def execWaitPeak (b : Fin 2) (s : State) : Out :=
  .next (s.mallet b.val 3 fun p w =>
    let q : Profile := { p with
      wait := .peak, tShort := 20 * bits w 23 16, tMin := 20 * bits w 15 8, tMax := 20 * bits w 7 0 }
    let s1 := s.setBankAct b.val { s.actBank b.val with run := some q }
    match p.peakUs with
    | some us => s1.judgePeak b.val q us
    | none => s1)

/-- PEAK_REACHED (R393): the current, now `ma`, first reaches the target of the last TARGET; its time counts from that issue, in whole
microseconds (R389). -/
def execPeakReached (b : Fin 2) (ma : Nat) (s : State) : Out :=
  .next (match (s.actBank b.val).run with
    | none => s
    | some p =>
      if p.peakUs.isSome || !p.drive || ma < p.peakMa then s
      else
        let us := (s.clk.beats - p.peakT0) / 200
        let s1 := s.mapProfile b.val fun q => { q with peakUs := some us }
        if p.wait = .peak then s1.judgePeak b.val { p with peakUs := some us } us else s1)

/-- WAIT_PEAK_TIMEOUT (R393): no peak by t_max. -/
def execWaitPeakTimeout (b : Fin 2) (s : State) : Out :=
  .next (match (s.actBank b.val).run with
    | some p => if p.wait = .peak && p.tMax * 200 < s.clk.beats - p.peakT0 then s.abortProfile b.val 2 else s
    | none => s)

/-- A decay to a floor begins (R389). -/
def State.decay (s : State) (b : Nat) (p : Profile) (w mode : Nat) : State :=
  s.setBankAct b { s.actBank b with run := some { p.phase false mode s.clk.beats with
    floorMa := bits w 11 0, wait := .floor, waitT0 := s.clk.beats } }

/-- DECAY_FAST (R389). -/
def execDecayFast (b : Fin 2) (s : State) : Out := .next (s.mallet b.val 5 fun p w => s.decay b.val p w 1)
/-- DECAY_SLOW (R389). -/
def execDecaySlow (b : Fin 2) (s : State) : Out := .next (s.mallet b.val 6 fun p w => s.decay b.val p w 2)

/-- DECAY_FLOOR_REACHED (R385, R389): the floor of a decay; zero at END, which completes the profile, and after an abort, when
the bank is free for its queue. -/
def execDecayFloorReached (b : Fin 2) (s : State) : Out :=
  .next (match (s.actBank b.val).run with
    | some p =>
      if p.wait ≠ .floor then s
      else if p.ending then s.completeProfile b.val p
      else s.malletStep b.val (if p.floorMa = 0 then { p with decay := 0 } else p)
    | none =>
      if (s.actBank b.val).fading.isSome then (s.setBankAct b.val { s.actBank b.val with fading := none }).serveQueue b.val else s)

/-- WAIT_TIME (R389). -/
def execWaitTime (b : Fin 2) (s : State) : Out :=
  .next (s.mallet b.val 7 fun p w => s.setBankAct b.val { s.actBank b.val with run := some { p with
    wait := .time, waitT0 := s.clk.beats, waitUs := bits w 19 0 } })

/-- WAIT_TIME_END (R389): a timed wait, or the time of a RAMP, is over. -/
def execWaitTimeEnd (b : Fin 2) (s : State) : Out :=
  .next (match (s.actBank b.val).run with
    | some p => if p.wait = .time && p.waitUs * 200 ≤ s.clk.beats - p.waitT0 then s.malletStep b.val p else s
    | none => s)

/-- MEASURE_DIP (R389, R394): arms the dip counter. -/
def execMeasureDip (b : Fin 2) (s : State) : Out :=
  .next (s.mallet b.val 8 fun p w =>
    if bits w 27 24 ≠ 0 then s else s.malletStep b.val { p with dipArm := some (bits w 11 0), dips := 0 })

/-- MEASURE_POS (R389, R394): arms the CLAP_POS watch; a level that reads open is BOUNCE. -/
def execMeasurePos (b : Fin 2) (s : State) : Out :=
  .next (s.mallet b.val 8 fun p w =>
    if bits w 27 24 ≠ 1 then s
    else
      let s1 := s.malletStep b.val { p with posArm := true }
      if s1.posOpen then s1.abortProfile b.val 4 else s1)

/-- MEASURE_CURRENT (R389): copies the measured current into MEAS_MA. -/
def execMeasureCurrent (b : Fin 2) (ma : Nat) (s : State) : Out :=
  .next (s.mallet b.val 8 fun p w =>
    if bits w 27 24 ≠ 2 then s else (s.put (Obj.MEAS_MA (coilNo b.val p.req.chan)) ma).malletStep b.val p)

/-- The condition of a BRANCH (R389). -/
def State.malletCond (s : State) (b c k : Nat) : Bool :=
  match k with
  | 0 => true
  | 1 => s.power.vactMv < s.nat Obj.VACT_LOW
  | 2 => s.posClosed
  | 3 => s.posOpen
  | _ => (s.get (Obj.T_LIMIT (coilNo b c)) : Rat) - 10 < s.coilTemp b c

/-- BRANCH (R389). -/
def execBranch (b : Fin 2) (s : State) : Out :=
  .next (s.mallet b.val 9 fun p w =>
    if s.malletCond b.val p.req.chan (bits w 27 24) then
      s.setBankAct b.val { s.actBank b.val with run := some { p with pc := bits w 7 0 } }
    else s.malletStep b.val p)

/-- END (R389, R396): a close profile closes the flag; the current decays to zero in the mode named, and the profile completes
then, at once where no current flows. -/
def execMalletEnd (b : Fin 2) (s : State) : Out :=
  .next (s.mallet b.val 0 fun p w =>
    let t := s.flagCloses b.val p
    if p.flows then t.setBankAct b.val { t.actBank b.val with run := some { p.phase false (if bits w 0 0 = 1 then 2 else 1) s.clk.beats with
      ending := true, floorMa := 0, wait := .floor, waitT0 := s.clk.beats } }
    else t.completeProfile b.val p)

/-! ## Diagnostics (R390, R392, R394) -/

/-- DIP_DETECTED (R394): a fall of the current to `ma`, at least the threshold below the regulation target, for at least 20 µs; the
second one is BOUNCE. -/
def execDipDetected (b : Fin 2) (ma us : Nat) (s : State) : Out :=
  .next (match (s.actBank b.val).run with
    | none => s
    | some p =>
      match p.dipArm with
      | none => s
      | some th =>
        if !p.drive || p.targetAt s.clk.beats < (ma + th : Nat) || us < 20 then s
        else if p.dips = 0 then s.mapProfile b.val fun q => { q with dips := 1 }
        else s.abortProfile b.val 4)

/-- CLAP_POS_CHANGE (R394): the filtered level; reading open is BOUNCE in a watched profile, and after a closure. -/
def execClapPosChange (level : Bool) (s : State) : Out :=
  .next (State.posWatch { s with lands := { s.lands with clapPos := level } })

/-- MALLET_TIMEOUT (R390, R391): STARVED after ACT_WAIT_MS, TIMEOUT after MALLET_MAX_MS or 10 ms of decay. -/
def execMalletTimeout (b : Fin 2) (s : State) : Out :=
  .next (match (s.actBank b.val).run with
    | none => s
    | some p =>
      let waited := s.clk.beats - p.waitT0
      if p.wait = .sticks && s.nat Obj.ACT_WAIT_MS * 200000 < waited then s.abortProfile b.val 7
      else if (p.wait = .floor && 2000000 < waited) || s.nat Obj.MALLET_MAX_MS * 200000 < s.clk.beats - p.t0 then
        s.abortProfile b.val 8
      else s)

/-- OVER_CURRENT (R392): above 3,500 mA the profile aborts as SHORT. -/
def execOverCurrent (b : Fin 2) (ma : Nat) (s : State) : Out := .next (if 3500 < ma then s.abortProfile b.val 3 else s)

/-- VACT_UNDERVOLTAGE (R392): VACT as measured; below 8.5 V every profile aborts as UV. -/
def execVactUndervoltage (mv : Nat) (s : State) : Out :=
  .next (
    let s1 := { s with power := { s.power with vactMv := mv } }
    if mv < 8500 then
      let running := (List.range 2).filter fun b => (s1.actBank b).run.isSome
      running.foldl (fun (t : State) b => t.abortProfile b 10) s1
    else s1)

/-! ## Coil model (R398, R399) -/

/-- The energy of 10 µs in a coil, µJ: I in mA, R in mΩ at 25 °C (R398). -/
def coilEnergy (ma res : Nat) (temp : Rat) : Rat :=
  ((ma * ma * res : Nat) : Rat) / 10 ^ 8 * (1 + 393 / 100000 * (temp - 25))

/-- One channel over 10 µs: its rise, its temperature and the energy drawn. -/
def State.coilStep (s : State) (b c ma : Nat) : State × Rat :=
  let n := coilNo b c
  let x := s.actBank b
  let th := x.theta.toList.getD c 0
  let e := coilEnergy ma (s.nat (Obj.COIL_RES n)) (s.coilTemp b c)
  let th' := th + e / (1000 * s.nat (Obj.C_TH n)) - th / (100 * s.nat (Obj.TAU_TH n))
  let y : ActBank := { x with theta := x.theta.setIfInBounds c th', amps := x.amps.setIfInBounds c ma }
  let s1 : State := { s with act := { s.act with banks := s.act.banks.setIfInBounds b y } }
  (s1.put (Obj.COIL_TEMP n) (roundRat (100 * s1.coilTemp b c)), e)

/-- ACT energy is charged to AC7 (R263, R267, R398): whole sticks of 10 µJ, its own first and then the free pool's where it may
borrow; what exceeds them is debt. -/
def State.chargeAct (s : State) (b : Nat) (e : Rat) : State :=
  let x := s.actBank b
  let k := (((x.owed + e) / 10).floor).toNat
  let y : ActBank := { x with owed := x.owed + e - 10 * k }
  let s1 : State := { s with act := { s.act with banks := s.act.banks.setIfInBounds b y } }
  if !s.rolls.running then s1
  else
    let own := s1.sticksOf (146 + b) 7
    let lent := if s1.borrow (146 + b) 7 then min (k - own) (s1.poolOf (146 + b)) else 0
    let s2 : State := { s1 with rolls := { s1.rolls with
      sticks := Cells.set s1.rolls.sticks (16 * (146 + b) + 7) ((own - k : Nat) : Int) 0
      free := Cells.set s1.rolls.free (146 + b) ((s1.poolOf (146 + b) - lent : Nat) : Int) 0 } }
    s2.bumpLe Obj.ACT_DEBT (4 * b) 4 (k - own - lent)

/-- COIL_MODEL_UPDATE (R398, R399): every 10 µs, with the measured current of each of the eight channels. -/
def execCoilModelUpdate (ma : List Nat) (s : State) : Out :=
  .next ((List.range 2).foldl (fun (t : State) b =>
    let r := (List.range 4).foldl (fun (a : State × List Rat) c =>
      let y := a.1.coilStep b c (ma.getD (coilNo b c) 0)
      (y.1, a.2 ++ [y.2])) (t, [])
    let t1 := r.1.chargeAct b r.2.sum
    match (t1.actBank b).run with
    | none => t1
    | some p =>
      let t2 := t1.mapProfile b fun q => { q with energy := q.energy + r.2.getD p.req.chan 0 }
      if (t2.get (Obj.T_LIMIT (coilNo b p.req.chan)) : Rat) ≤ t2.coilTemp b p.req.chan then t2.abortProfile b 6 else t2) s)

/-! ## Trip (R400, R401) -/

/-- The trip itself (R400). -/
def State.tripped (s : State) : State :=
  let running := (List.range 2).filter fun b => (s.actBank b).run.isSome
  let s1 := running.foldl (fun (t : State) b => t.abortProfile b 5) s
  let s2 := (List.range 2).foldl (fun (t : State) b => t.setBankAct b { t.actBank b with queue := [] }) s1
  let s3 := (((s2.put Obj.TRIP_ACTIVE 1).bump Obj.TRIP_COUNT).put Obj.TRIP_DLT s.now.toNat).clapOpened
  if running.isEmpty then s3.bell 0x0A05 else s3

/-- TRIP (R400, R446): TRIP_N is low for `ns`; up to 20 ns is rejected, above 40 ns trips, between them the answer is free.
With 0 the land is high again. -/
def execTrip (ns : Nat) (s : State) : Out :=
  .next (
    if ns = 0 then { s with lands := { s.lands with tripN := true } }
    else if ns ≤ 20 then s
    else if 40 < ns then { s with lands := { s.lands with tripN := false } }.tripped
    else
      let s1 := s.drawn
      if Config.freeBit s.free then { s1 with lands := { s1.lands with tripN := false } }.tripped else s1)

/-- A write to TRIP_ACTIVE (R401). -/
def State.writeTripActive (s : State) (v : Nat) : State :=
  if v ≠ 1 then s
  else if !s.lands.tripN then (s.bump Obj.TRIP_CLEAR_REFUSED).bell 0x0A08
  else s.put Obj.TRIP_ACTIVE 0

/-- TRIP_ACTIVE_CLEAR (R401). -/
def execTripActiveClear (v : Nat) (s : State) : Out := .next (s.writeTripActive v)

end Sys2Proof.Machine
end

