-- ==== Sys2Proof/Machine/Serial.lean ====
section
/-! DEFINITION. The three slow serial ports (12_serial_ports_accessory_bus.md R364-R382): the flash port with its write
queue, the service chain and the accessory bus. -/

namespace Sys2Proof.Machine

/-! ## Flash port: the write queue (R365, R368-R371) -/

/-- Bytes `[lo, hi)` touch the image slot that a load or a save is using (R370). -/
def State.touchesImage (s : State) (lo hi : Nat) : Bool :=
  let used (k : Nat) : Bool :=
    let b := s.nat (if k = 0 then Obj.IMG_BASE0 else Obj.IMG_BASE1)
    lo < b + s.nat Obj.IMG_SIZE && b < hi
  ((s.cal.save.map fun p => used p.2).getD false) || ((s.cal.load.map fun l => used l.slot).getD false)

/-- A WRITE INTO FLASH_WINDOW (R365, R368, R370), with its status of R357: queued whole, BUSY where it does not fit, REFUSED
for a flash that is not written, beyond its density, or in an image slot in use. -/
def State.writeFlash (s : State) (off : Nat) (bytes : List Byte) : State × Nat :=
  if 268435456 < off + bytes.length then (s, 4)
  else if !s.flashWritable || s.flashSize < off + bytes.length || s.touchesImage off (off + bytes.length) then (s, 5)
  else if 65536 < s.nat Obj.FLASH_QUEUE + bytes.length then (s, 6)
  else
    ((s.put Obj.FLASH_QUEUE (s.nat Obj.FLASH_QUEUE + bytes.length : Nat)).flashAsk (.program off bytes), 0)

/-- FLASH_WINDOW_WRITE (R368). -/
def execFlashWindowWrite (off : Nat) (bytes : List Byte) (s : State) : Out := .next (s.writeFlash off bytes).1

/-- Programming only clears bits: old AND new (R368). -/
def State.programmed (s : State) (a : Nat) (bs : List Byte) : List Byte :=
  bs.zipIdx.map fun b => b.1 &&& s.byte (flashBase + a + b.2)

/-- A program that failed leaves bytes that nothing states: free values in which only bits have been cleared. -/
def State.failedProgram (s : State) (a : Nat) (bs : List Byte) : State :=
  let w (i : Nat) : Byte := ((Config.freeBits (s.free + i / 8)) >>> (8 * (i % 8))).truncate 8
  (s.poke (flashBase + a) (bs.zipIdx.map fun b => s.byte (flashBase + a + b.2) &&& w b.2)).drawn ((bs.length + 7) / 8)

/-- A WRITE IS ABANDONED (R369): the segment's address, the state, bell 0x0B02; its remaining segments are dropped and later
writes and erases proceed. -/
def State.flashFail (s : State) (a len code : Nat) : State :=
  let left := (s.ports.flashRest.map fun op => match op with
    | FlashOp.program _ bs => bs.length
    | _ => 0).sum + len
  let s1 := { s with ports := { s.ports with flashNow := none, flashRest := [] } }
  ((((s1.put Obj.FLASH_QUEUE (s.nat Obj.FLASH_QUEUE - left : Nat)).put Obj.FLASH_WR_FAIL_ADDR a).put Obj.FLASH_WR_STATE code).bell
    0x0B02).flashStart

/-- A status poll is due (R368): FSPI_POLL_US after the last one. -/
def State.pollDue (s : State) : Bool := s.ports.pollAt + 200 * s.nat Obj.FSPI_POLL_US ≤ s.clk.beats

/-- A status poll, command 05h (R368). -/
def State.polled (s : State) : State := State.send { s with ports := { s.ports with pollAt := s.clk.beats } } (.fspi 0x05 0 [])

/-- With FLASH_VERIFY 1 a segment is read back, and the read is charged as any command is (R368, R370). -/
def State.flashReadBack (s : State) (a n : Nat) : State :=
  if s.nat Obj.FLASH_VERIFY = 1 then (s.owe 144 6 n).send (.fspi s.readCmd a []) else s

/-- FLASH_STATUS_POLL (R368, R369, R371), every FSPI_POLL_US while a program or an erase is in progress: once WIP reads 0 the
segment is programmed and, with FLASH_VERIFY, read back and compared, or the sector is erased; then the next command starts.
With nothing in progress a queued command that waits for its budget tries again. -/
def execFlashStatusPoll (r : FlashPoll) (s0 : State) : Out :=
  .next (
    match s0.ports.flashNow with
    | none => s0.flashStart
    | some (.read _ _) => s0
    | some (.engine _) => s0
    | some (.program a bs) =>
      if !s0.pollDue then s0
      else if r.wip then s0.polled
      else
        let s := s0.polled.flashReadBack a bs.length
        let new := s.programmed a bs
        if s.nat Obj.FLASH_VERIFY = 1 && !r.verify then (s.failedProgram a bs).flashFail a bs.length 4
        else if s.nat Obj.FLASH_VERIFY = 1 && new ≠ bs then (s.poke (flashBase + a) new).flashFail a bs.length 4
        else
          let s1 := { s.poke (flashBase + a) new with ports := { s.ports with flashNow := none } }
          let s2 := (s1.bump Obj.FLASH_PAGES).put Obj.FLASH_QUEUE (s.nat Obj.FLASH_QUEUE - bs.length : Nat)
          (if s.ports.flashRest.isEmpty then s2.put Obj.FLASH_WR_STATE 2 else s2).flashStart
    | some (.erase a size) =>
      if !s0.pollDue then s0
      else if r.wip then s0.polled
      else
        let s := s0.polled
        let s1 := { s.wipe (flashBase + a) (flashBase + a + size) with ports := { s.ports with flashNow := none } }
        (s1.put Obj.ERASE_GO 2).flashStart)

/-- FLASH_PROGRAM_TIMEOUT (R369): at twice the maximum page-program time the write is abandoned and counted. -/
def execFlashProgramTimeout (s : State) : Out :=
  .next (
    match s.ports.flashNow with
    | some (.program a bs) =>
      if s.ports.flashAt + 200 * s.flashLimit (.program a bs) ≤ s.clk.beats then
        ((s.failedProgram a bs).bump Obj.FLASH_TIMEOUTS).flashFail a bs.length 3
      else s
    | _ => s)

/-- A WRITE OF 1 TO ERASE_GO (R365, R370, R371), with its status of R357: queued behind earlier writes; refused (3) where
ERASE_ADDR is not aligned or lies beyond the flash or beyond 256 MiB (R367), where the flash is not written, or where it has no
erase type of that size, as the fallback has none for 64 KiB; an image slot in use refuses the write itself. -/
def State.writeEraseGo (s : State) (v : Nat) : State × Nat :=
  if v ≠ 1 then (s, 0)
  else
    let a := s.nat Obj.ERASE_ADDR
    let size := if s.nat Obj.ERASE_SIZE = 0 then 4096 else 65536
    if s.touchesImage a (a + size) then (s, 5)
    else if !s.flashWritable || a % size ≠ 0 || s.flashSize < a + size || 268435456 < a + size ||
        (s.ports.sfdp.bind fun d => eraseType d size).isNone then
      (s.put Obj.ERASE_GO 3, 0)
    else
      ((s.put Obj.ERASE_GO 1).flashAsk (.erase a size), 0)

/-- ERASE_GO (R371). -/
def execEraseGo (v : Nat) (s : State) : Out := .next (s.writeEraseGo v).1

/-- ERASE_TIMEOUT (R371, R372): at twice the maximum erase time ERASE_GO reads 4 and bell 0x0B02 is raised; the sector may
read any value in any byte, so it takes free values. -/
def execEraseTimeout (s : State) : Out :=
  .next (
    match s.ports.flashNow with
    | some (.erase a size) =>
      if s.ports.flashAt + 200 * s.flashLimit (.erase a size) ≤ s.clk.beats then
        let w (i : Nat) : Byte := ((Config.freeBits (s.free + i / 8)) >>> (8 * (i % 8))).truncate 8
        let s1 := (s.poke (flashBase + a) ((List.range size).map w)).drawn (size / 8)
        let s2 := { s1 with ports := { s1.ports with flashNow := none } }
        (((s2.bump Obj.FLASH_TIMEOUTS).put Obj.ERASE_GO 4).bell 0x0B02).flashStart
      else s
    | _ => s)

/-! ## Service chain (R373-R376) -/

/-- The transport header padded to 28 bytes (R362). -/
def svcHeader (r : DictReq) (status ty len : Nat) : List Byte :=
  transportHeader r status ty len ++ [0, 0, 0]

/-- The words of a response: sync, header, data, CRC (R376). -/
def svcWords (r : DictReq) (status ty : Nat) (data : List Byte) : List Word :=
  let ws := BitVec.ofNat 32 (0xC35A * 65536 + 8 + (data.length + 3) / 4) :: bytesWords (svcHeader r status ty data.length ++ data)
  ws ++ [crc32 (wordsBytes ws)]

/-- A RESPONSE ON THE SERVICE CHAIN is ready (R376). -/
def State.svcReply (s : State) (r : DictReq) (status ty : Nat) (data : List Byte) : State :=
  ({ s with ports := { s.ports with ssReady := s.ports.ssReady ++ [svcWords r status ty data] } }).send (.reply 1 r.tag status data)

/-- The request that assembled words carry: `none` where the CRC does not match (R362, R376). -/
def svcParse (ws : List Word) : Option DictReq :=
  let body := ws.dropLast
  let bs := wordsBytes (body.drop 1)
  if ws.length < 9 || some (crc32 (wordsBytes body)) ≠ ws.getLast? then none
  else
    let at' (i n : Nat) : Nat := leVal ((bs.drop i).take n)
    some { cmd := at' 0 1, tag := at' 1 2, index := at' 3 2, sub := at' 5 1, offset := at' 9 4, length := at' 13 4
           data := (bs.drop 28).take (at' 13 4) }

/-- A status word: [3] request queue full, [2] BELL_N low, [1] response ready, [0] UNDR (R376). -/
def State.statusWord (s : State) : Word :=
  BitVec.ofNat 32 (0x5A000000 + (if 4 ≤ (s.dict.queues.toList[1]?.getD []).length then 8 else 0) + (if s.bellN then 4 else 0) +
    (if s.ports.ssReady.isEmpty then 0 else 2) + (if s.ports.ssUndr then 1 else 0))

/-- Load a status word as the next output word. -/
def State.loadStatus (s : State) : State :=
  { s with ports := { s.ports with ssOut := s.statusWord, ssStat := true } }

/-- A whole request has arrived: it joins the queue of 4, is answered BUSY, or is discarded for its CRC (R345, R376). -/
def State.svcRequest (s : State) (ws : List Word) : State :=
  match svcParse ws with
  | none => s.bump Obj.SSPI_CRC_ERR
  | some r =>
    let q := (s.dict.queues.toList[1]?).getD []
    if 4 ≤ q.length then s.svcReply r 6 0 []
    else { s with dict := { s.dict with queues := s.dict.queues.set 1 (q ++ [{ r with stamp := s.now }]) } }

/-- The input word of a frame (R376): the next word of a request, a request sync, or ignored. -/
def State.svcInput (s : State) (w : Word) : State :=
  if s.ports.ssNeed = 0 then
    (if w.toNat / 65536 = 0xA5C3 && w.toNat % 65536 ≠ 0 then
      { s with ports := { s.ports with ssIn := [w], ssNeed := w.toNat % 65536, ssAt := s.clk.beats } }
    else s)
  else
    let ws := s.ports.ssIn ++ [w]
    let s1 := { s with ports := { s.ports with ssIn := ws, ssNeed := s.ports.ssNeed - 1, ssAt := s.clk.beats } }
    if s.ports.ssNeed = 1 then { s1 with ports := { s1.ports with ssIn := [] } }.svcRequest ws else s1

/-- The next output word (R376): the rest of a response; a response whose status word with [1] set has just gone out; else a
status word. -/
def State.svcOutput (s : State) (announced : Bool) : State :=
  match s.ports.ssResp with
  | w :: rest => { s with ports := { s.ports with ssOut := w, ssStat := false, ssResp := rest } }
  | [] =>
    match announced, s.ports.ssReady with
    | true, (w :: rest) :: more => { s with ports := { s.ports with ssOut := w, ssStat := false, ssResp := rest, ssReady := more } }
    | _, _ => s.loadStatus

/-- AON serves the service chain (R432, R443): CTRL is off and VIO is good. -/
def State.aonServes (s : State) : Bool := s.power.domains[0] = 1 && s.power.domains[1] ≠ 1 && s.power.rails[1]

/-- SSPI_FRAME (R374-R376): at the rise of SSPI_SEL_N. `early` is a fall less than t_RDY after the previous rise: an underrun
frame, which shifts the previous output word out again and ends the request and the response in progress. A clock count that is no multiple of 32 makes the frame void. While CTRL is off AON serves the chain (R432): its status word goes
out, and the words it knows have commands of their own. -/
def execSspiFrame (clocks : Nat) (input : Word) (early : Bool) (s : State) : Out :=
  .next (
    if s.aonServes then (if clocks % 32 ≠ 0 || clocks = 0 then s else s.send (.sspi s.ports.ssOut))
    else if s.nat Obj.SSPI_ENABLE = 0 || s.power.domains[1] ≠ 1 then s
    else if early then
      let s1 := { s with ports := { s.ports with ssUndr := true, ssIn := [], ssNeed := 0, ssResp := [] } }.send (.sspi s.ports.ssPrev)
      (s1.bump Obj.SSPI_UNDR_COUNT).loadStatus
    else if clocks % 32 ≠ 0 then s.bump Obj.SSPI_FRAME_ERR
    else if clocks = 0 then s
    else
      let out := s.ports.ssOut
      let stat := s.ports.ssStat
      let s1 := (if stat then s.put Obj.SSPI_LAST_STATUS out.toNat else s).send (.sspi out)
      let s2 := { s1 with ports := { s1.ports with ssPrev := out, ssUndr := s1.ports.ssUndr && !(stat && out.getLsbD 0) } }
      (s2.svcInput input).svcOutput (stat && out.getLsbD 1))

/-- SSPI_REQUEST_TIMEOUT (R376): more than SSPI_TIMEOUT_MS between two frames of a request discards it. -/
def execSspiRequestTimeout (s : State) : Out :=
  .next (
    if s.ports.ssNeed ≠ 0 && s.ports.ssAt + 200000 * s.nat Obj.SSPI_TIMEOUT_MS < s.clk.beats then
      ({ s with ports := { s.ports with ssIn := [], ssNeed := 0 } }).bump Obj.SSPI_CRC_ERR
    else s)

/-! ## Accessory bus (R377-R381) -/

/-- What the part puts on ACC. -/
def State.accSend (s : State) (l : List AccSym) : State := s.send (.acc l)

/-- The check of the bus or a transfer on it begins: SCL can be low for a time from here on (R378). -/
def State.accBegin (s : State) : State := { s with ports := { s.ports with accAt := s.clk.beats } }

/-- Nothing runs or waits on the bus any more: a transfer asked for reads `code`, and a lens read is over. -/
def State.accDrop (s : State) (code : Nat) : State :=
  let s1 := { s with ports := { s.ports with
    accWait := false, accChecked := false, accQ := [], accBusy := false, accRetry := 0, gridBusy := false } }
  let s2 := if s1.nat Obj.XFER_GO = 1 then s1.put Obj.XFER_GO code else s1
  if s2.nat Obj.LENS_STATE = 1 then s2.put Obj.LENS_STATE 0 else s2

/-- The bus is stuck (R378): cause 1 SDA low, 2 SCL low; bell 0x0B21; whatever was running on it ends. -/
def State.accStuck (s : State) (cause : Nat) : State :=
  (((s.accDrop 6).put Obj.ACC_ENABLE 2).put Obj.ACC_STUCK_CAUSE cause).bell 0x0B21

/-- The part answers as target at ACC_OWN_ADDR (R381). -/
def State.accTarget (s : State) : Bool :=
  s.power.domains[1] = 1 && s.nat Obj.ACC_ENABLE = 1 && s.ports.accChecked && s.nat Obj.ACC_TARGET_EN = 1

/-- A write to the part as target, up to its STOP (R381): the first byte sets the pointer modulo 64, the others fill MBX_IN from
it, wrapping at 64; MBX_WRITES counts and bell 0x0B25 is raised. -/
def State.targetWrite (s : State) (bytes : List Byte) : State :=
  let s1 := match bytes with
    | [] => s
    | p :: data =>
      let ptr := p.toNat % 64
      let s2 := { s with ports := { s.ports with accPtr := ptr } }
      data.zipIdx.foldl (fun (t : State) (b : Byte × Nat) => t.put (Obj.MBX_IN + (ptr + b.2) % 64) b.1.toNat) s2
  (s1.bump Obj.MBX_WRITES).bell 0x0B25

/-- A read of `n` bytes from the part as target (R381): MBX_OUT from the pointer. -/
def State.targetRead (s : State) (n : Nat) : State :=
  s.accSend ((List.range n).map fun i => .byte (BitVec.ofNat 8 (s.nat (Obj.MBX_OUT + (s.ports.accPtr + i) % 64))))

/-- ACC_TARGET_WRITE (R381). -/
def execAccTargetWrite (bytes : List Byte) (s : State) : Out := .next (if s.accTarget then s.targetWrite bytes else s)

/-- ACC_TARGET_READ (R381). -/
def execAccTargetRead (n : Nat) (s : State) : Out := .next (if s.accTarget then s.targetRead n else s)

/-- What a transfer puts on the bus as far as it goes (R379, R380): START, address with W, the bytes written, for a read a
repeated START and address with R, and STOP; no STOP after lost arbitration or with SCL stuck. -/
def AccReq.syms (q : AccReq) : List AccSym :=
  let head : List AccSym := [.start, .byte (BitVec.ofNat 8 (2 * q.addr))]
  let wr : List AccSym := q.wr.map .byte
  match q.res with
  | .done _ => head ++ wr ++ (if q.rdLen = 0 then [] else [.start, .byte (BitVec.ofNat 8 (2 * q.addr + 1))]) ++ [.stop]
  | .addrNack => head ++ [.stop]
  | .dataNack k => head ++ wr.take (k + 1) ++ [.stop]
  | .arbLost k _ => (head ++ wr).take (k + 1)
  | .sclLow => head

/-! ## The lens EEPROM (R204, R382) -/

/-- The header is valid: MAGIC, VERSION and HDR_CRC check (R382). -/
def lensValid (h : List Byte) : Bool :=
  leVal (h.take 4) = 0x4E4C4B48 && leVal ((h.drop 4).take 2) = 1 && (crc32 (h.take 32)).toNat = leVal ((h.drop 32).take 4)

/-- LENS_ID and GRID_CRC of a header. -/
def lensKey (h : List Byte) : List Byte × Word := ((h.drop 8).take 16, BitVec.ofNat 32 (leVal ((h.drop 28).take 4)))

/-- No lens answers, or its header fails (R382): LENS_STATE tells it, and bell 0x0B24 where a lens was identified. -/
def State.lensLost (s : State) (st : Nat) : State :=
  let s1 := s.put Obj.LENS_STATE st
  if s.nat Obj.LENS_STATE = 2 then s1.bell 0x0B24 else s1

/-- The header of the lens as read (R382): a valid one with a grid whose LENS_ID or GRID_CRC differs from the last lens's asks
for the grid. -/
def State.lensHeader (s : State) (bytes : List Byte) : State :=
  let b := (bytes ++ List.replicate 64 0xFF).take 64
  if !lensValid b then s.lensLost 3
  else
    let s1 := s.putBytes Obj.LENS_HEADER 0 b
    if (b.getD 6 0).getLsbD 0 && s.pipe.lensCrc ≠ some (lensKey b) then
      let q : AccReq := { lens := true, grid := true, addr := s.nat Obj.LENS_ADDR, wr := [0, 0x40], rdLen := 8192, res := .done [] }
      { s1 with ports := { s1.ports with accQ := s1.ports.accQ ++ [q], gridHdr := b } }.put Obj.LENS_STATE 1
    else { s1 with pipe := { s1.pipe with lensCrc := some (lensKey b) } }.put Obj.LENS_STATE 2

/-- The grid of the lens as read (R204, R382): one whose GRID_CRC matches is accepted and goes into the slot that is in force in
no region, or waits for one; otherwise the next poll reads again. -/
def State.lensGrid (s : State) (grid : List Byte) : State :=
  let h := s.ports.gridHdr
  let g := grid.take 8192
  if g.length = 8192 && crc32 g = (lensKey h).2 then
    let s2 := ({ s with pipe := { s.pipe with lensCrc := some (lensKey h), gridWait := some g } }.put Obj.LENS_STATE 2).bump Obj.LENS_READS
    s2.placeGrid
  else s.put Obj.LENS_STATE 3

/-! ## Controller transfers, one at a time (R379, R380) -/

/-- The first transfer is over; the next may run. -/
def State.accPop (s : State) : State :=
  { s with ports := { s.ports with accQ := s.ports.accQ.drop 1, accBusy := false, accRetry := 0, gridBusy := false } }

/-- The winner of an arbitration that the part lost in the address byte goes on with the part as its target (R380). -/
def State.ownAccess (s : State) : Option OwnAccess → State
  | some (.write bs) => if s.accTarget then s.targetWrite bs else s
  | some (.read n) => if s.accTarget then s.targetRead n else s
  | none => s

/-- THE FIRST TRANSFER `q` GOES AS ITS RESULT SAYS (R378-R380, R382): done, a NACK, SCL stuck, or arbitration lost, after which
it starts again at the next STOP, at most three times; then XFER_GO reads 5 and bell 0x0B22 is raised. -/
def State.accEnd (s0 : State) (q : AccReq) : State :=
  let s := s0.accBegin.accSend q.syms
  match q.res with
  | .sclLow => s.accStuck 2
  | .arbLost _ own =>
    let s1 := (s.ownAccess own).bump Obj.ACC_ARB_LOST
    if s1.ports.accRetry < 3 then { s1 with ports := { s1.ports with accBusy := true, accRetry := s1.ports.accRetry + 1 } }
    else
      (if q.grid then s1.accPop.put Obj.LENS_STATE 3 else if q.lens then s1.accPop else s1.accPop.put Obj.XFER_GO 5).bell 0x0B22
  | .done bytes =>
    if q.grid then s.accPop.lensGrid bytes
    else if q.lens then s.accPop.lensHeader bytes
    else (s.accPop.put Obj.XFER_GO 2).putBytes Obj.XFER_RD_DATA 0 ((bytes ++ List.replicate q.rdLen 0xFF).take q.rdLen)
  | .addrNack => if q.lens then s.accPop.lensLost 0 else s.accPop.put Obj.XFER_GO 3
  | .dataNack _ => if q.lens then s.accPop.lensLost 0 else s.accPop.put Obj.XFER_GO 4

/-- THE TRANSFERS THAT CAN RUN (R379), in the order in which they were requested: until one waits for a STOP, the reading of a
grid is in progress, or none is left. -/
def State.accRun : Nat → State → State
  | 0, s => s
  | k + 1, s =>
    if s.nat Obj.ACC_ENABLE ≠ 1 || !s.ports.accChecked || s.ports.accBusy || s.ports.gridBusy then s
    else
      match s.ports.accQ with
      | [] => s
      | q :: _ =>
        if q.grid then State.accBegin { s with ports := { s.ports with gridBusy := true } }
        else State.accRun k (s.accEnd q)

/-- All of them: a header may be followed by its grid. -/
def State.accGo (s : State) : State := s.accRun (2 * s.ports.accQ.length + 1)

/-- A controller transfer is asked for (R379). -/
def State.accAsk (s : State) (q : AccReq) : State :=
  State.accGo { s with ports := { s.ports with accQ := s.ports.accQ ++ [q] } }

/-- The bus is found idle and is enabled; the lens header is read next (R382). -/
def State.accOn (s : State) : State :=
  State.accGo (({ s with ports := { s.ports with accWait := false, accChecked := true, lensAt := none } }.put
    Obj.ACC_ENABLE 1).put Obj.ACC_STUCK_CAUSE 0)

/-- THE CHECK OF THE BUS (R378): SCL that toggles means another controller, so the part waits for a STOP; SDA low is clocked up
to nine times, and a STOP follows the pulse that finds it high. -/
def State.accTest (s0 : State) (t : BusTest) : State :=
  let s := s0.accBegin
  if t.toggles then { s with ports := { s.ports with accWait := true, accChecked := false } }
  else if t.sdaHigh then s.accOn
  else if 1 ≤ t.pulses && t.pulses ≤ 9 then (s.accSend (List.replicate t.pulses .pulse ++ [.stop])).accOn
  else (s.accSend (List.replicate 9 .pulse)).accStuck 1

/-- A WRITE OF ACC_ENABLE (R378): 1 checks the bus, as the part also does after a reset; 0 disables it. -/
def State.writeAccEnable (s : State) (v : Nat) (t : BusTest) : State :=
  if v = 0 then (s.accDrop 7).put Obj.ACC_ENABLE 0 else s.accTest t

/-- ACC_ENABLE (R378); values above 1 are refused (R340). -/
def execAccEnable (v : Nat) (toggles sdaHigh : Bool) (pulses : Nat) (s : State) : Out :=
  .next (if 1 < v then s else s.writeAccEnable v ⟨toggles, sdaHigh, pulses⟩)

/-- ACC_STRETCH_TIMEOUT (R377, R378): SCL is low for ACC_STRETCH_MS during the check or a transfer, which began at
least that long ago. -/
def execAccStretchTimeout (s : State) : Out :=
  .next (
    if s.power.domains[1] = 1 && (s.nat Obj.ACC_ENABLE = 1 || s.ports.accWait) &&
        s.ports.accAt + 200000 * s.nat Obj.ACC_STRETCH_MS ≤ s.clk.beats then s.accStuck 2
    else s)

/-- A WRITE OF 1 TO XFER_GO (R379), with its status of R357: both lengths 0 is refused; a disabled bus reads 7 and a stuck
one 6; else the transfer joins those requested before, with outcome `r` once it runs. -/
def State.writeXferGo (s : State) (v : Nat) (r : XferResult) : State × Nat :=
  if v ≠ 1 then (s, 0)
  else if s.nat Obj.XFER_WR_LEN = 0 && s.nat Obj.XFER_RD_LEN = 0 then (s, 5)
  else if s.nat Obj.ACC_ENABLE = 0 then (s.put Obj.XFER_GO 7, 0)
  else if s.nat Obj.ACC_ENABLE = 2 then (s.put Obj.XFER_GO 6, 0)
  else
    let wr := s.getBytes Obj.XFER_WR_DATA 0 (s.nat Obj.XFER_WR_LEN)
    ((s.put Obj.XFER_GO 1).accAsk ⟨false, false, s.nat Obj.XFER_ADDR, wr, s.nat Obj.XFER_RD_LEN, r⟩, 0)

/-- XFER_GO (R379). -/
def execXferGo (v : Nat) (r : XferResult) (s : State) : Out := .next (s.writeXferGo v r).1

/-- ACC_STOP_CONDITION (R378, R380): a STOP of another controller: the waiting check tests again, or the transfer that lost
arbitration starts again. -/
def execAccStopCondition (r : BusStop) (s : State) : Out :=
  .next (
    if s.power.domains[1] ≠ 1 then s
    else if s.ports.accWait then s.accTest r.test
    else
      match s.ports.accQ with
      | [] => s
      | q :: _ =>
        if s.ports.accBusy && s.nat Obj.ACC_ENABLE = 1 then
          (State.accEnd { s with ports := { s.ports with accBusy := false } } { q with res := r.res }).accGo
        else s)

/-- LENS_POLL (R382): at enable and every LENS_POLL_MS the reading of the header is asked for, and goes as `r` says once it
runs. -/
def execLensPoll (r : XferResult) (s : State) : Out :=
  .next (
    let due := match s.ports.lensAt with
      | none => true
      | some b => s.nat Obj.LENS_POLL_MS ≠ 0 && b + 200000 * s.nat Obj.LENS_POLL_MS ≤ s.clk.beats
    if s.power.domains[1] ≠ 1 || s.nat Obj.ACC_ENABLE ≠ 1 || !s.ports.accChecked || !due || (s.ports.accQ.any (·.lens)) then s
    else
      State.accAsk { s with ports := { s.ports with lensAt := some s.clk.beats } }
        { lens := true, addr := s.nat Obj.LENS_ADDR, wr := [0, 0], rdLen := 64, res := r })

/-- LENS_GRID_READ_DONE (R204, R379, R382): the reading of the grid in progress goes as `r` says. -/
def execLensGridReadDone (r : XferResult) (s : State) : Out :=
  .next (
    match s.ports.accQ with
    | [] => s
    | q :: _ => if s.ports.gridBusy && !s.ports.accBusy then (s.accEnd { q with res := r }).accGo else s)

end Sys2Proof.Machine
end

