-- ==== Sys2Proof/Machine/Power.lean ====
section
/-! DEFINITION. Power domains, start-up, low-power modes and heat (15_power_startup_heat.md R421-R438, with the boot check
R20 and the trim-apply event R229, R230). -/

namespace Sys2Proof.Machine

/-! ## Stages and restarts (R423, R424) -/

/-- ENTER A STAGE (R424): STARTUP_STAGE reads it and STAGE_DLT records when. -/
def State.enterStage (s : State) (k : Nat) : State := (s.put Obj.STARTUP_STAGE k).putLe Obj.STAGE_DLT (8 * k) 8 s.now.toNat

/-- The domains with AON and NVM alone. -/
def aonOnly : Vector Nat 30 := (Vector.replicate 30 0).set 0 1 |>.set 5 1

/-- What stays where no power stays but VDD_AON's (R429, R437): the event store, and the flash device's own bytes. -/
def Mem.nonvolatile (m : Mem) : Mem := m.filter fun c => c.1 / 2 ^ 40 = 9 || c.1 / 2 ^ 40 = 11

/-- The AON status word (R432): mode 1 shutdown, 2 standby, 3 sleep, 0 in none of them (log entry 38); [1] COOL. -/
def aonStatus (mode : Nat) (cool : Bool) : Word := BitVec.ofNat 32 (0xA0000000 + 65536 * mode + if cool then 2 else 0)

/-- BACK TO STAGE 0 (R423, R424, R429): every domain but AON and NVM is off, every object at its default. The lands, the
rails, the choice of R443 and the model's own record of time, free values and messages stay; AON serves the service chain. -/
def State.restart (s : State) (cause wake : Nat) : State :=
  let base := State.reset
  let pw : Power := { base.power with
    rails := s.power.rails, domains := aonOnly, vioSense := s.power.vioSense, cool := s.power.cool, vactMv := s.power.vactMv }
  let lands : Lands := { s.lands with gongOwn := false }
  let clk : Clock := { base.clk with beats := s.clk.beats }
  let dict : Dict := { base.dict with sent := s.dict.sent }
  let ports : Ports := { base.ports with ssOut := aonStatus 0 s.power.cool }
  let t : State := { base with
    pending := s.pending, free := s.free, otp := s.otp, fab := Fabric.reset s.otp, mem := Mem.nonvolatile s.mem, ports := ports
    power := pw, lands := lands, clk := clk, dict := dict }
  (t.put Obj.RESET_CAUSE cause).put Obj.WAKE_CAUSE wake

/-- A page program in progress when its command has gone to the flash ends by itself while the flash keeps its power; an
image save in progress is cut off. -/
def State.flashFinish (s0 : State) : State :=
  let s := s0.saveTear
  match s.ports.flashNow with
  | some (.program a bs) => s.poke (flashBase + a) (s.programmed a bs)
  | some (.erase a size) => s.wipe (flashBase + a) (flashBase + a + size)
  | _ => s

/-- A program or erase that power loss cuts off (R372, R436): each bit of a page is its old value or its old value AND its
target, each byte of a sector any value: free values (log entries 7, 9). -/
def State.flashTear (s0 : State) : State :=
  let s := s0.saveTear
  let w (i : Nat) : Byte := ((Config.freeBits (s.free + i / 8)) >>> (8 * (i % 8))).truncate 8
  match s.ports.flashNow with
  | some (.program a bs) =>
    (s.poke (flashBase + a) (bs.zipIdx.map fun b => s.byte (flashBase + a + b.2) &&& (b.1 ||| w b.2))).drawn ((bs.length + 7) / 8)
  | some (.erase a size) => (s.poke (flashBase + a) ((List.range size).map w)).drawn (size / 8)
  | _ => s

/-- AON_POWER_ON (R424): stage 0: AON runs, NVM is on, the slot of the next event record is erased. -/
def execAonPowerOn (s : State) : Out :=
  .next (
    if s.domain 0 = 1 then s
    else
      let pw : Power := { s.power with rails := s.power.rails.set 0 true, domains := aonOnly }
      let ports : Ports := { s.ports with ssOut := aonStatus 0 s.power.cool }
      let s1 : State := { s with power := pw, ports := ports }
      (s1.put Obj.RESET_CAUSE 1).nvmErase s1.nvmNext)

/-- RESET_N_LOW (R431, R446): low for at least 1 µs restarts the part from run and from every low-power mode, but not from a
thermal shutdown. Without VIO the land is ignored (R443). -/
def execResetNLow (ns : Nat) (s : State) : Out :=
  .next (
    if ns < 1000 || s.domain 0 ≠ 1 || s.power.mode = .shutdown || !s.rail 1 then s
    else
      let t := s.flashFinish.restart 2 0
      { t with lands := { t.lands with resetN := false } })

/-! ## Turning on (R422, R424, R426) -/

/-- The order in which domains turn on (R424, R426): CTRL, DRUM, ACT, REF, and in each quadrant MEM, ENG, BIAS, CONV and the
lanes. -/
def onOrder : List Nat := [1, 3, 2, 4] ++ (List.range 4).flatMap fun k => [9, 8, 6, 7, 10, 11].map (· + 6 * k)

/-- The domain is due on at the part's stage (R422, R424): CTRL, DRUM and ACT from stage 1; REF and the quadrants from stage 3,
unless the trims could not be applied (R230); a lane's with LANE_ENABLE 1. -/
def State.dueOn (s : State) (d : Nat) : Bool :=
  let st := s.nat Obj.STARTUP_STAGE
  if d < 4 then 1 ≤ st
  else 3 ≤ st && s.nat Obj.TRIM_STATE < 2 && s.power.mode = .run &&
    match domainLane d with
    | some n => s.nat (Obj.LANE_ENABLE n) = 1
    | none => true

/-- TURN ON what is due on, in order (R426). -/
def State.bringUp (s : State) : State := onOrder.foldl (fun (t : State) d => if t.dueOn d then t.turnOn d else t) s

/-- Lanes whose domain has come on start (R316). -/
def State.lanesStart (s : State) : State := (List.range 8).foldl (fun (t : State) n => t.startLane n) s

/-- STAGE_1_ENTRY (R20, R424): RESET_N is high and VDDM and VIO are good. CTRL and DRUM turn on, DLT counts from 0 or from
R430's value, the Masol table is checked; a failure stops the boot here. -/
def execStage1Entry (s : State) : Out :=
  .next (
    if s.nat Obj.STARTUP_STAGE ≠ 0 || s.domain 0 ≠ 1 || s.power.mode ≠ .run || s.domain 1 = 1 || !s.rail 8 || !s.rail 1 then s
    else
      let clk : Clock := { s.clk with
        dlt := if s.nat Obj.RESET_CAUSE = 3 then s.power.sleepDlt else 0
        copies := Vector.replicate 4 (if s.nat Obj.RESET_CAUSE = 3 then s.power.sleepDlt else 0) }
      let s1 : State := { s with clk := clk, lands := { s.lands with resetN := true } }
      let s2 := (s1.enterStage 1).bringUp
      let s3 := (if s2.nat Obj.CAN_ENABLE = 1 then s2.put Obj.CAN_STATE 1 else s2).loadStatus
      let status := Masol.check s3.otp.masol
      let s4 := s3.put Obj.MASOL_STATUS status
      if status = 0 then s4 else (s4.bell 0x0101 status).event 4 0xFF 0)

/-- RAIL_GOOD (R422, R443): rail `r` has been within range for 100 µs: waiting domains turn on. The choice of the VIO level is
made when VIO first becomes good; which it is stands outside the manual (log entry 7). -/
def execRailGood (r : Fin 12) (s : State) : Out :=
  .next (
    let sense : Option Bool := if r = 1 && s.power.vioSense.isNone then some (Config.freeBit s.free) else s.power.vioSense
    let pw : Power := { s.power with rails := s.power.rails.set r true, vioSense := sense }
    let s1 : State := { s with power := pw }
    let s2 := if r = 1 && s.power.vioSense.isNone then s1.drawn else s1
    if s2.domain 1 = 1 then s2.bringUp.lanesStart else s2)

/-- RAIL_GOOD_TIMEOUT (Objects of 15_power_startup_heat.md): a rail is not good 100 ms after its domain was due on: bell
0x0C02. -/
def execRailGoodTimeout (d : Fin 30) (s : State) : Out :=
  .next (if s.domain d.val = 3 then s.bell 0x0C02 else s)

/-- Some domain on rail `r` is on (R421, R423); VDDLH feeds the lane domains too. -/
def State.railUsed (s : State) (r : Nat) : Bool :=
  (List.range 30).any fun d => s.domain d = 1 && (domainRail d = r || (r = 10 && (domainLane d).isSome))

/-- RAIL_LOST (R423, R443): a rail whose domain is on, other than VDD_AON and VACT, or VIO in run mode: an event of cause 3, and
back to stage 0 as if RESET_N had been pulled. -/
def execRailLost (r : Fin 12) (s : State) : Out :=
  .next (
    let hit := s.rail r.val && r ≠ 0 && r ≠ 11 && s.power.mode ≠ .shutdown &&
      (if r = 1 then s.power.mode = .run && s.domain 1 = 1 else s.railUsed r.val)
    let pw : Power := { s.power with rails := s.power.rails.set r (r = 0 && s.rail 0) }
    let s1 : State := { s with power := pw }
    if hit then (s1.flashFinish.event 3 0xFF 0).restart 5 0 else s1)

/-! ## Stage 3 and the trim-apply event (R191, R195, R229, R230, R426) -/

/-- The region memories are initialised (R195, R426): everything zero, the active banks neutral, the standard program in slot
A. -/
def State.initMemories (s : State) : State :=
  let s1 := s.wipe (1 * 2 ^ 40) (5 * 2 ^ 40)
  let s2 := (List.range 64).foldl (fun (t : State) g =>
    ((t.setBank (t.bankNo g false) { fill := .neutral, cells := [] }).setBank (t.bankNo g true) { fill := .zero, cells := [] }).bankView g) s1
  s2.copyRom 0

/-- STAGE 3 (R230, R426): the trim block's CRC first; then REF and the quadrants, and `fresh` memories. -/
def State.stage3 (s : State) (fresh : Bool) : State :=
  let s1 := s.enterStage 3
  if crc32 s1.otp.trimBlock ≠ s1.otp.trimCrc then ((s1.put Obj.TRIM_STATE 2).bell 0x0701).event 4 0xFF 0
  else
    let s2 := (s1.put Obj.TRIM_STATE 0).bringUp
    let s3 := if fresh then s2.initMemories else s2
    let pw : Power := { s3.power with settling := true }
    { s3 with power := pw }

/-- STAGE_3_ENTRY (R424, R426): the configuration has been applied or found absent. -/
def execStage3Entry (s : State) : Out :=
  .next (if s.nat Obj.STARTUP_STAGE = 2 && s.nat Obj.CFG_STATE ≠ 0 && s.domain 1 = 1 then s.stage3 true else s)

/-- Every quadrant domain but the lanes' is on. -/
def State.quadrantsOn (s : State) : Bool :=
  s.domain 4 = 1 && (List.range 4).all fun k => [6, 7, 8, 9].all fun d => s.domain (d + 6 * k) = 1

/-- THE TRIM-APPLY EVENT (R229, R261, R426): at one beat the trims are in force and strokes may land; earlier one-shot strokes
become late, repeating ones keep their grid; the first roll begins and the lanes start. -/
def State.trimApply (s : State) : State :=
  let pw : Power := { s.power with settling := false, trims := true }
  let s1 : State := { s with power := pw }
  (((s1.put Obj.TRIM_STATE 1).put Obj.TRIM_APPLY_DLT s.now.toNat).strokesAtTrim.firstBoundary).lanesStart

/-- REFERENCES_SETTLED (R229, R230, R426): the trims are written and read back, twice at most; a second difference turns every
quadrant domain off again and the part stays in stage 3. -/
def execReferencesSettled (readBack1 readBack2 : Bool) (s : State) : Out :=
  .next (
    if !s.power.settling || !s.quadrantsOn then s
    else if readBack1 || readBack2 then s.trimApply
    else
      let pw : Power := { s.power with settling := false }
      let s1 : State := { s with power := pw }
      let s2 := ((s1.put Obj.TRIM_STATE 3).bell 0x0701)
      (onOrder.reverse.foldl (fun (t : State) d => if 6 ≤ d then t.turnOff d else t) s2).event 4 0xFF 0)

/-! ## Entering a low-power mode (R429, R430) -/

/-- The package scheduler holds a FRAME_START entry that is pending or repeating (R430). -/
def State.frameStartHeld (s : State) : Bool :=
  s.strokes.entries.any fun x => x.1 < 256 && x.2.action = 0x20 && !x.2.finished

/-- Writes or erases of the flash are queued or in progress (R430). -/
def State.flashWriting (s : State) : Bool :=
  (s.ports.flashNow.toList ++ s.ports.flashRest ++ s.ports.flashQ).any fun op => match op with
    | .program _ _ => true
    | .erase _ _ => true
    | _ => false

/-- A write of a low-power mode is refused (R430). -/
def State.powerRefused (s : State) : Bool :=
  s.frameStartHeld || s.cal.run.isSome || s.cal.load.isSome || s.cal.partner.isSome || s.cal.save.isSome || s.flashWriting

/-- STEP 1 OF R430 for view `v`: it closes under R283; on a record view with records to come the stall timer starts. -/
def State.closeForPower (s : State) (v : Nat) : State :=
  let t := s.closeAsked v
  let w := t.view v
  if t.nat (Obj.VW_SOURCE v) = 0 || (w.frames.isEmpty && w.pageN = 0 && w.buffered.isEmpty) then t
  else t.mapView v fun u => { u with stallFrom := some t.now }

/-- Each view's last record has been written or discarded (R430 step 1). -/
def State.viewsOut (s : State) : Bool :=
  (List.range 16).all fun v => (s.view v).frames.isEmpty && (s.view v).pageN = 0 && (s.view v).buffered.isEmpty

/-- The part leaves the ensemble for a low-power mode (R408, R430 step 3). -/
def State.leaveEnsemble (s : State) : State :=
  if s.ensState = 3 || s.ensState = 4 then
    ((s.mapEns fun e => { e with leaving := 2, unsynced := false, muted := false }).put Obj.DISSENT 0).sendLeave.sendLeave.dropDrumSource
  else s.ensOff.dropDrumSource

/-- STEPS 2 TO 4 OF R430. -/
def State.powerLeave (s : State) (deep : Bool) : State :=
  let s2 := (List.range 8).foldl (fun (t : State) n => t.laneOff n) s
  let s3 := s2.leaveEnsemble
  if deep && s3.canActive && s3.operational then s3.sendHeartbeat 2 else s3

/-- What is lost of a region when its engines turn off and its memory goes into retention. -/
def Region.retained (r : Region) : Region :=
  { active := r.active, slot := r.slot, swapBank := r.swapBank, swapProg := r.swapProg, serial := r.serial }

/-- RETAIN (R429): REF and the quadrants turn off in the reverse order, MEM stays in retention, and what ran there is lost. The
MC stops, and a calibration step that runs ends without a result (DESIGN CHOICE, log entry 48); a step 1 that has succeeded
stands (R105), and fences go on waiting for their rewrite (R36). -/
def State.enterRetain (s : State) : State :=
  let s1 := onOrder.reverse.foldl (fun (t : State) d =>
    if d < 4 then t else if 6 ≤ d && (d - 6) % 6 = 3 then t.setDomain d 2 else t.turnOff d) (s.powerLeave false)
  let fab0 := Fabric.reset s1.otp
  let fab : Fabric := { fab0 with
    phys := s1.fab.phys, state := s1.fab.state, changeDlt := s1.fab.changeDlt, changeBeat := s1.fab.changeBeat
    fences := s1.fab.fences, regions := s1.fab.regions.map Region.retained, seamFails := s1.fab.seamFails, seamDown := s1.fab.seamDown }
  let focal : Focal := { s1.focal with frames := [], scans := Vector.replicate 4 {}, inj := none }
  let pipe : Pipe := { s1.pipe with pages := [], hists := [], merged := none }
  let rolls : Rolls := { applyDue := s1.rolls.applyDue, taken := s1.rolls.taken }
  let pw : Power := { s1.power with mode := .retain, entering := none, trims := false, settling := false }
  let mc : Mc := { calZero := s1.mc.calZero }
  let dict : Dict := { s1.dict with lastFrame := s1.lastEnded }
  let s2 : State := { s1 with
    fab := fab, focal := focal, pipe := pipe, rolls := rolls, power := pw, pix := [], mc := mc, dict := dict }
  let s3 := if s2.nat Obj.MC_CAL_STEP = 1 then s2.put Obj.MC_CAL_STEP 0 else s2
  (s3.put Obj.MC_SCAN_MASK 0).mcView.put Obj.POWER_MODE 1

/-- SLEEP OR STANDBY (R429): AON alone, with its own objects; DLT is kept for sleep (R430). -/
def State.enterDeep (s : State) (mode : Mode) (code : Nat) : State :=
  let s1 := s.flashFinish.powerLeave true
  let t := s1.restart (s1.nat Obj.RESET_CAUSE) (s1.nat Obj.WAKE_CAUSE)
  let pw : Power := { t.power with mode := mode, sleepDlt := s1.now, domains := aonOnly.set 5 0 }
  let ports : Ports := { t.ports with ssOut := aonStatus (if mode = .sleep then 3 else 2) t.power.cool }
  let t1 : State := { t with power := pw, ports := ports }
  [Obj.WAKE_SRC_EN, Obj.SLEEP_TICKS, Obj.AON_CLOCK].foldl (fun (u : State) k => u.put k (s1.get k)) (t1.put Obj.POWER_MODE code)

/-! ## Waking (R431, R432) -/

/-- WAKE FROM RETAIN (R431): stage 3 without re-zeroing; line stores and histogram banks are invalid, and the next frame counts
as a change of N. A part that has not reached stage 3 goes on where it was: after a failed boot check it stays in stage 1
(R20). -/
def State.leaveRetain (s : State) (wake : Nat) : State :=
  let pw : Power := { s.power with mode := .run }
  let focal : Focal := { s.focal with newFilter := true }
  let s1 : State := { s with power := pw, focal := focal }
  let s2 := (((s1.put Obj.POWER_MODE 0).put Obj.RESET_CAUSE 7).put Obj.WAKE_CAUSE wake).wipe (1 * 2 ^ 40) (2 * 2 ^ 40)
  let s3 := if s2.nat Obj.STARTUP_STAGE < 3 then s2 else (s2.wipe (3 * 2 ^ 40) (4 * 2 ^ 40)).stage3 false
  if s3.nat Obj.ENS_ENABLE = 1 then s3.ensListen.updateLock else s3

/-- THE PART WAKES by source `src` of WAKE_SRC_EN after `ticks` of the AON clock (R430, R431). -/
def State.wake (s : State) (src ticks : Nat) : State :=
  if !(s.nat Obj.WAKE_SRC_EN).testBit src then s
  else
    match s.power.mode with
    | .retain => s.leaveRetain (src + 1)
    | .sleep =>
      let t := s.restart 3 (src + 1)
      let pw : Power := { t.power with sleepDlt := s.power.sleepDlt + BitVec.ofNat 64 (1953125 * ticks) }
      { t with power := pw }
    | .standby => s.restart 4 (src + 1)
    | _ => s

/-- WAKE_EDGE (R431, R446): a rising edge on WAKE, high for at least 1 µs; without VIO the land is ignored (R443). -/
def execWakeEdge (ns ticks : Nat) (s : State) : Out := .next (if ns < 1000 || !s.rail 1 then s else s.wake 0 ticks)

/-- CAN_RX_WAKE (R431): CAN_RX dominant for at least 5 µs. -/
def execCanRxWake (ns ticks : Nat) (s : State) : Out := .next (if ns < 5000 || !s.rail 1 then s else s.wake 1 ticks)

/-- SLEEP_TIMER_EXPIRY (R431): SLEEP_TICKS have passed, in sleep only; 0 turns the timer off. -/
def execSleepTimerExpiry (ticks : Nat) (s : State) : Out :=
  .next (
    let n := s.nat Obj.SLEEP_TICKS
    if s.power.mode = .sleep && n ≠ 0 && n ≤ ticks then s.wake 2 ticks else s)

/-- AON_WAKE_COMMAND (R432): the word 0xA0C1_0002 on the service chain, which AON serves while CTRL is off and VIO is good; its
status word goes out. -/
def execAonWakeCommand (ticks : Nat) (s : State) : Out :=
  .next (if s.aonServes then (s.send (.sspi s.ports.ssOut)).wake 3 ticks else s)

/-! ## POWER_MODE (R429-R431) -/

/-- The mode with this code is entered (R429). -/
def State.enterMode (s : State) (v : Nat) : State :=
  match v with
  | 1 => s.enterRetain
  | 2 => s.enterDeep .sleep 2
  | _ => s.enterDeep .standby 3

/-- A mode that is being entered goes on once the views are out (R430). -/
def State.powerGoesOn (s : State) : State :=
  match s.power.entering with
  | some v => if s.viewsOut then s.enterMode v else s
  | none => s

/-- An accepted write of POWER_MODE (R430): it reads 4 while the views' last records are awaited. -/
def State.beginPower (s : State) (v : Nat) : State :=
  let t := (List.range 16).foldl State.closeForPower s
  State.powerGoesOn { t.put Obj.POWER_MODE 4 with power := { t.power with entering := some v } }

/-- A WRITE OF POWER_MODE, with its status of R357: 0 wakes from retain; 1 to 3 enter a mode, also from retain, or are refused and
read 5; retain is left as it is by 1. While a mode is being entered every write is refused and 4 stays (log entry 38). -/
def State.writePowerMode (s : State) (v : Nat) : State × Nat :=
  if s.domain 1 ≠ 1 || s.power.entering.isSome then (s, 5)
  else if v = 0 then
    (if s.power.mode = .retain then s.leaveRetain 0 else s.put Obj.POWER_MODE 0, 0)
  else if s.power.mode = .retain && v = 1 then (s, 0)
  else if s.powerRefused then (s.put Obj.POWER_MODE 5, 5)
  else (s.beginPower v, 0)

/-- BEAT (R38, R61, R316, R430): one beat advances DLT and every copy; the lanes send what is due, and a mode that is being
entered goes on. -/
def execBeat (s : State) : Out := .next (if s.drumOn then s.oneBeat.lanesTick.powerGoesOn else s)

/-- POWER_MODE_RUN (R431). -/
def execPowerModeRun (s : State) : Out := .next (s.writePowerMode 0).1
/-- POWER_MODE_RETAIN (R430). -/
def execPowerModeRetain (s : State) : Out := .next (s.writePowerMode 1).1
/-- POWER_MODE_SLEEP (R430). -/
def execPowerModeSleep (s : State) : Out := .next (s.writePowerMode 2).1
/-- POWER_MODE_STANDBY (R430). -/
def execPowerModeStandby (s : State) : Out := .next (s.writePowerMode 3).1

/-! ## Heat (R433-R438) -/

/-- The throttle level after a reading (R434): it moves by one, at most once per THROTTLE_STEP_MS, with bell 0x0C03. -/
def State.throttle (s : State) (tj : Int) : State :=
  let l := s.nat Obj.THROTTLE_LEVEL
  let at' := s.get Obj.THROTTLE_C
  let want := if at' ≤ tj && l < 7 then l + 1 else if tj ≤ at' - 50 && 0 < l then l - 1 else l
  let may := match s.power.levelBeat with
    | none => true
    | some b => s.passedMs b (s.nat Obj.THROTTLE_STEP_MS)
  if want = l || !may then s
  else
    let pw : Power := { s.power with levelBeat := some s.clk.beats }
    (({ s with power := pw }).put Obj.THROTTLE_LEVEL want).bell 0x0C03

/-- SENSOR_READ (R433, R434): every 100 µs; the temperatures in units of 0.1 °C. -/
def execSensorRead (temps : List Int) (s : State) : Out :=
  .next (
    if s.domain 1 ≠ 1 then s
    else
      let ts : Vector Int 40 := Vector.ofFn fun i => signedOf 16 (wrapNat 16 (temps.getD i.val 0))
      let tj := ts.toList.foldl max (ts.toList.headD 0)
      let pw : Power := { s.power with temps := ts, peak := some (max tj (s.power.peak.getD tj)) }
      let s1 : State := { s with power := pw }
      ((s1.put Obj.TJMAX tj).put Obj.TJMAX_SENSOR (ts.toList.findIdx fun x => x = tj)).throttle tj)

/-- THERMAL_SHUTDOWN (R436): a 158 °C comparator trips, in every mode but standby. Actuators off, GONG_N low for 10 µs without a
cause, an event of cause 1, every domain but AON and NVM off; a flash program is cut off. In sleep the DLT of the event is
free: AON alone knows it. -/
def execThermalShutdown (sensor : Fin 40) (temp : Int) (s : State) : Out :=
  .next (
    if s.domain 0 ≠ 1 || s.power.mode = .standby || s.power.mode = .shutdown then s
    else
      let clk : Clock := { s.clk with dlt := if s.power.mode = .sleep then s.draw else s.clk.dlt }
      let s1 : State := { s.flashTear with clk := clk }
      let t := (s1.drawn.event 1 sensor.val temp).restart (s.nat Obj.RESET_CAUSE) 0
      let pw : Power := { t.power with mode := .shutdown, cool := false }
      let ports : Ports := { t.ports with ssOut := aonStatus 1 false }
      State.pullGong { t with power := pw, ports := ports } none)

/-- AON_CLEAR_COMMAND (R432, R438): the word 0xA0C1_0001 while every 133 °C comparator is below its threshold ends a shutdown:
an event of cause 2, and a restart; the status word goes out. -/
def execAonClearCommand (cool : Bool) (s : State) : Out :=
  .next (
    if s.power.mode ≠ .shutdown || !s.rail 1 then s
    else
      let u := s.send (.sspi s.ports.ssOut)
      let pw : Power := { u.power with cool := cool }
      let ports : Ports := { u.ports with ssOut := aonStatus 1 cool }
      let s1 : State := { u with power := pw, ports := ports }
      if cool then (s1.event 2 0xFF 0).restart 6 0 else s1)

/-- VDD_AON_REMOVAL (R423, R438): everything ends but the event store, the factory memory and the flash; a flash program is
cut off. -/
def execVddAonRemoval (s : State) : Out :=
  .next (
    let s0 := s.flashTear
    let base := State.reset
    let lands : Lands := { s.lands with gongOwn := false }
    let clk : Clock := { base.clk with beats := s.clk.beats }
    let dict : Dict := { base.dict with sent := s.dict.sent }
    let pw : Power := { base.power with rails := s.power.rails.set 0 false, vactMv := s.power.vactMv }
    { base with
      pending := s.pending, free := s0.free, otp := s.otp, fab := Fabric.reset s.otp, mem := Mem.nonvolatile s0.mem
      lands := lands, clk := clk, dict := dict, power := pw })

end Sys2Proof.Machine
end

