-- ==== Sys2Proof/Machine/Reads.lean ====
section
/-! DEFINITION. What a dictionary object reads (R335-R339, R342, R344; the object tables): live readings that are computed when
they are served, and the value that an object holds. -/

namespace Sys2Proof.Machine

/-! ## Readings that are computed -/

/-- `n` bytes from offset `off` of a list, 0 beyond its end. -/
def sliceBytes (bs : List Byte) (off n : Nat) : List Byte := (List.range n).map fun i => bs.getD (off + i) 0

/-- The row of an object address; subindex 0x00 of a grouped index is a U8 that reads the highest subindex in use (R335). -/
def objAt (index sub : Nat) : Option ObjRow :=
  match objRow? index sub with
  | some r => some r
  | none => if sub = 0 && topSub index ≠ 0 then some ⟨index, 1, 0, 1, .u8, .ro, 1, topSub index, none, none, 4, false⟩ else none

/-- The lane whose object an index is: 0x8010 + n and 0x8100 + n. -/
def laneOfIndex (index : Nat) : Option Nat :=
  if 0x8010 ≤ index && index < 0x8018 then some (index - 0x8010)
  else if 0x8100 ≤ index && index < 0x8108 then some (index - 0x8100) else none

/-- The object belongs to a lane that the part lacks: it reads 0 and its writes are refused (10_kettle_lanes.md Objects). -/
def State.absentObject (s : State) (index : Nat) : Bool := ((laneOfIndex index).map s.laneAbsent).getD false

/-- A live scalar (R338: its reading is computed when it is served), or `none` where the object holds its value. -/
def State.liveScalar (s : State) (index sub : Nat) : Option Int :=
  if sub = 0 && topSub index ≠ 0 then some (topSub index : Int)
  else if 0x7100 ≤ index && index < 0x7110 then (if sub = 0x0D then some (s.viewClass (index - 0x7100) : Int) else none)
  else if 0x7200 ≤ index && index < 0x7210 then
    (if sub = 0x10 then some (match (s.view (index - 0x7200)).stallFrom with
      | some t => ((s.now - t).toNat / 64000 : Nat)
      | none => 0) else none)
  else
    match index, sub with
    | 0x1000, 2 => some (s.otp.siliconRev.toNat : Int)
    | 0x1000, 3 => some (s.otp.serial48.toNat : Int)
    | 0x1002, 0 => some ((s.otp.masol.getD 2 0).toNat : Int)
    | 0x1300, 2 => some (objList.length : Int)
    | 0x1400, 2 => some (s.dict.bells.length : Int)
    | 0x2001, 0 => some (s.now.toNat : Int)
    | 0x2011, 0 => some (s.otp.seamTaps.toNat : Int)
    | 0x5000, 1 => some ((romImage.getD 4 0).toNat : Int)
    | 0x5000, 2 => some ((65536 + (Config.romWord 2).toNat % 65536 : Nat) : Int)
    | 0x6001, 2 => some (s.otp.trimCount : Int)
    | 0x6001, 3 => some (s.otp.trimTime.toNat : Int)
    | 0x6001, 4 => some ((crc32 s.otp.trimBlock).toNat : Int)
    | 0x8001, 1 => some (s.ownUid : Int)
    | 0xC003, 0 => some (((List.range 12).map fun r => if s.rail r then 2 ^ r else 0).sum : Nat)
    | 0xC010, 4 => some (s.power.peak.getD 0)
    | 0xC020, 1 => some (s.shutdowns : Int)
    | 0xC020, 3 => some (s.nvmNewest : Int)
    | 0xE002, 0 => some ((min s.dict.recErr 255 * 256 + min s.dict.traErr 255 +
        if s.nat Obj.CAN_STATE = 3 then 65536 else 0 : Nat) : Int)
    | _, _ => none

/-- ENG_STATE of physical engine `p`: its 16 bytes. -/
def State.engState (s : State) (p : Nat) : List Byte :=
  let e := s.engine p
  let lg := s.logicalOf p
  let kind := if !s.engGood p then 6 else
    match e.run with
    | none => if lg.isNone then 7 else 0
    | some x =>
      if x.waiting.isSome || x.leasing.isSome || x.flash.isSome then 5
      else match x.kind with
        | .item => 1 | .check | .third => 4 | .frameEntry => 2 | .endEntry => 3
  let slot := (e.run.map (·.slot)).getD 0
  leBytes 4 (kind * 2 ^ 28 + slot * 2 ^ 13 + e.pc % 2 ^ 13) ++ leBytes 4 (e.sr 0).toNat ++ leBytes 4 (lg.getD 0x1FF) ++
    leBytes 4 e.lastFault

/-- QUEUE_STATE of region `g`: its 16 bytes. -/
def State.queueState (s : State) (g : Nat) : List Byte :=
  let r := s.region g
  leBytes 4 (r.queue.length * 65536 + (r.frames.getLast?.map fun x => x.ended.length).getD 0) ++ leBytes 4 r.freeBufs ++
    leBytes 8 r.lastItem.toNat

/-- The LEASES entry of resource `r` (R277). -/
def State.leaseEntry (s : State) (r : Nat) : List Byte :=
  let l := s.lease r
  let st := if l.rolling then 2 else if l.holder = 0xFFFF then 0 else 1
  let own := 0x8000 ≤ l.holder && l.holder ≠ 0xFFFF
  leBytes 4 (l.holder * 65536 + min 255 l.waiting.length * 256 + st) ++ leBytes 4 (if own then 0xFFFFFFFF else l.expiry) ++
    leBytes 4 l.grant ++ leBytes 4 l.revoked

/-- The entry of 16 bytes of a session (the layout is the model's, log entry 12). -/
def Session.bytes (x : Session) : List Byte :=
  let t := x.xfer
  leBytes 4 x.client ++ leBytes 4 ((t.map (·.cmd)).getD 0) ++ leBytes 4 ((t.map (·.offset)).getD 0) ++ leBytes 4 ((t.map (·.moved)).getD 0)

/-- The entry of 16 bytes of a node (the layout is the model's, log entry 12). -/
def Node.bytes (x : Node) : List Byte :=
  leBytes 1 x.id ++ leBytes 6 x.serial.toNat ++ leBytes 1 x.state ++ leBytes 8 x.dlt.toNat

/-- Bytes `off` to `off + n - 1` of a table of records of `w` bytes each, record `i` being `f i`. -/
def tableBytes (w : Nat) (f : Nat → List Byte) (off n : Nat) : List Byte :=
  if n = 0 then []
  else
    let first := off / w
    sliceBytes ((List.range ((off + n - 1) / w + 1 - first)).flatMap fun i => f (first + i)) (off % w) n

/-- A live BLOB or STR, or `none` where the object holds its bytes. -/
def State.liveBytes (s : State) (index sub off n : Nat) : Option (List Byte) :=
  if 0x2210 ≤ index && index < 0x2214 then
    some ((List.range n).map fun i => s.schedByte (.die (Fin.ofNat 4 (index - 0x2210))) (off + i))
  else
    match index, sub with
    | 0x1000, 1 => some (sliceBytes ((if s.otp.isL4 then "XK6151-L4" else "XK6151-L8").toList.map fun c => BitVec.ofNat 8 c.toNat) off n)
    | 0x1100, 0 => some (tableBytes 4 (fun i => leBytes 4 (s.otp.masol.getD i 0).toNat) off n)
    | 0x1200, 0 => some (tableBytes 4 (fun i => leBytes 4 (s.liveMasol.getD i 0).toNat) off n)
    | 0x1300, 1 => some (tableBytes 8 (fun i => match objList[i]? with
        | some e => dirEntry e.1 e.2.1 e.2.2
        | none => List.replicate 8 0) off n)
    | 0x1400, 1 => some (sliceBytes (s.dict.bells.flatMap Bell.bytes) off n)
    | 0x2010, 0 => some (sliceBytes s.otp.regionTaps off n)
    | 0x2200, 0 => some ((List.range n).map fun i => s.schedByte .package (off + i))
    | 0x2220, 0 => some ((List.range n).map fun i => s.schedByte .cluster (off + i))
    | 0x3040, 0 => some (s.bytes (jBase + off) n)
    | 0x3202, 1 => some (s.bytes (mcBase + off) n)
    | 0x4002, 1 => some (s.bytes (progBase 0 + off) n)
    | 0x4002, 2 => some (s.bytes (progBase 1 + off) n)
    | 0x4003, 0 => some (s.bytes (tableBase + off) n)
    | 0x4010, 0 => some (tableBytes 16 s.engState off n)
    | 0x4011, 0 => some (tableBytes 16 s.queueState off n)
    | 0x4100, 0 => some ((List.range n).map fun i =>
        let a := (off + i) % 262144
        let p := (off + i) / 262144
        if a < 131072 then s.byte (tableBase + a) else s.byte (scratchBase p + (a - 131072)))
    | 0x4300, 0 => some (tableBytes 16 s.leaseEntry off n)
    | 0x5001, 0x0B => some (s.bytes (tableBase + 0x4000 + 8192 * s.nat Obj.SHADE_WRITE_SLOT + off) n)
    | 0x6002, 0 => some ((List.range n).map fun i => ((s.otp.cuTrims.find? fun e => e.1 = off + i).map (·.2)).getD 0)
    | 0x6003, 0 => some (sliceBytes s.otp.laneTrims off n)
    | 0x6200, 6 => some (sliceBytes s.imgSerials off n)
    | 0x6210, 0 => some ((List.range n).map fun i =>
        (s.bank (s.bankNo ((off + i) / 2 ^ 23) true)).byte ((off + i) % 2 ^ 23))
    | 0x9005, 0 => some (tableBytes 2 (fun k => leBytes 2 (min 0xFFFF (s.sticksOf (k / 16) (k % 16)))) off n)
    | 0x9006, 0 => some (tableBytes 2 (fun i => leBytes 2 (min 0xFFFF (Cells.get s.rolls.cap i 0).toNat)) off n)
    | 0xB001, 0 => some (s.flashBytes off n)
    | 0xC002, 0 => some ((List.range n).map fun i => BitVec.ofNat 8 (s.domain (off + i)))
    | 0xC010, 1 => some (tableBytes 2 (fun i => leBytes 2 (wrapNat 16 (s.power.temps.toList.getD i 0))) off n)
    | 0xC020, 2 => some (s.bytes (nvmBase + off) n)
    | 0xE001, 0 => some (tableBytes 2 (fun i => leBytes 2 ((s.dict.queues.toList.getD i []).length)) off n)
    | 0xE003, 0 => some (sliceBytes (s.dict.sessions.flatMap Session.bytes) off n)
    | 0xE004, 0 => some (sliceBytes (s.dict.nodes.flatMap Node.bytes) off n)
    | _, _ => none

/-! ## Reading an object -/

/-- The value that READ returns at a key: the staged value of an RWS object or of a context, else the value held (R220, R337). -/
def State.stagedGet (s : State) (k : Nat) : Int :=
  match (s.shadow.staged ++ s.shadow.ctx).find? fun e => e.1 = k with
  | some e => e.2
  | none => s.get k

/-- The value that READ_ACTIVE returns at a key: the value in force, in RG00 where it is in force per region (R337). -/
def State.readKey (s : State) (active : Bool) (k : Nat) : Int := if active then s.getR 0 k else s.stagedGet k

/-- `n` bytes of an object from offset `off`, as READ or READ_ACTIVE returns them. -/
def State.objBytes (s : State) (index sub : Nat) (r : ObjRow) (active : Bool) (off n : Nat) : List Byte :=
  let k := objKey index sub
  let live := active && r.acc = .rws
  if s.absentObject index then List.replicate n 0
  else if r.ty = .blob || r.ty = .str then
    (s.liveBytes index sub off n).getD ((List.range n).map fun i => BitVec.ofInt 8 (s.readKey live (k + off + i)))
  else sliceBytes (leBytes r.size (wrapNat (8 * r.size) ((s.liveScalar index sub).getD (s.readKey live k)))) off n

/-- A READ OF AN OBJECT, with its status of R357: NO_OBJECT, LENGTH where the access leaves a BLOB or is not the whole of another
object (R342, R361); the bytes and the type code. -/
def State.dictRead (s : State) (index sub off len : Nat) (active : Bool) : Nat × Nat × List Byte :=
  match objAt index sub with
  | none => (1, 0, [])
  | some r =>
    if r.ty = .blob then
      (if len = 0 || r.size < off + len then (4, r.ty.code, []) else (0, r.ty.code, s.objBytes index sub r active off len))
    else if off ≠ 0 || len ≠ r.size then (4, r.ty.code, [])
    else (0, r.ty.code, s.objBytes index sub r active 0 r.size)

end Sys2Proof.Machine
end

