-- ==== Sys2Proof/Machine/Writes.lean ====
section
/-! DEFINITION. Writing a dictionary object (R336-R342): the checks of R340, then what the write does: the value is stored,
staged or cleared, or the object's own chapter acts. A status of R357 is the second part of every answer. -/

namespace Sys2Proof.Machine

/-! ## Values (R12, R336, R340) -/

/-- The bits of a scalar that are not reserved (R12); a reserved bit reads as zero. -/
def objMask (index sub : Nat) : Option Nat :=
  match index, sub with
  | 0x5001, 1 => some 0x3FF
  | 0x8200, 2 => some 7
  | 0xC001, 4 => some 0xF
  | _, _ => if 0x8010 ≤ index && index < 0x8018 && sub = 8 then some 3 else none

/-- The value lies in the object's range: that of its row, and the ranges that have a gap. -/
def rangeOk (index sub : Nat) (r : ObjRow) (v : Int) : Bool :=
  r.lo.all (fun l => decide (l ≤ v)) && r.hi.all (fun h => decide (v ≤ h)) &&
  (r.ty ≠ .bool || v ≤ 1) &&
  (match index, sub with
  | 0xB802, 3 => v = 0 || (10 ≤ v && v ≤ 10000)
  | 0xB203, 2 => v = 0 || (100 ≤ v && v ≤ 60000)
  | 0x6211, 1 => v < 64 || v = 0xFF
  | 0xC001, 3 => v ≤ 3
  | _, _ =>
    if 0x5400 ≤ index && index < 0x5420 && (sub = 4 || sub = 5) then 1 ≤ v && v ≤ 1024
    else if 0x7100 ≤ index && index < 0x7110 && sub = 0x0E then v ≤ 1000000
    else if 0x4030 = index && 1 ≤ sub && sub ≤ 4 then 50 ≤ v && v ≤ 400 && v % 5 = 0
    else true)

/-- Stage a value (R218, R337). -/
def stageIn (l : List (Nat × Int)) (k : Nat) (v : Int) : List (Nat × Int) := (l.filter fun e => e.1 ≠ k) ++ [(k, v)]

/-- Stage a value of an RWS object. -/
def State.stage (s : State) (k : Nat) (v : Int) : State :=
  { s with shadow := { s.shadow with staged := stageIn s.shadow.staged k v } }

/-- Stage a value of a context (R220). -/
def State.stageCtx (s : State) (k : Nat) (v : Int) : State :=
  { s with shadow := { s.shadow with ctx := stageIn s.shadow.ctx k v } }

/-- Bytes staged one by one. -/
def stageBytes (f : State → Nat → Int → State) (s : State) (k : Nat) (bs : List Byte) : State :=
  bs.zipIdx.foldl (fun (t : State) (b : Byte × Nat) => f t (k + b.2) b.1.toNat) s

/-! ## Scalars -/

/-- The outcome of an accessory transfer that a dictionary write starts: what the device on the bus does is not stated, so it
is free (log entry 7). -/
def State.xferOutcome (s : State) : XferResult :=
  let r := s.draw.toNat
  match r % 4 with
  | 0 => .done ((List.range 32).map fun i => (Config.freeBits (s.free + 1 + i)).truncate 8)
  | 1 => if r.testBit 2 then .sclLow else .addrNack
  | 2 => .dataNack (r / 4 % 32)
  | _ => .arbLost (r / 4 % 34) none

/-- A write of an IMG_BASE or of IMG_SIZE (R249): a configuration that breaks R249's conditions is refused. -/
def State.writeImgConfig (s : State) (k v : Nat) : State × Nat :=
  let at' (j : Nat) : Nat := if j = k then v else s.nat j
  if imgConfigOk (at' Obj.IMG_BASE0) (at' Obj.IMG_BASE1) (at' Obj.IMG_SIZE) then (s.put k v, 0) else (s, 5)

/-- The objects of a view's definition (R282, R293): refused while the view is not closed; those of the rings reset them. -/
def State.writeView (s : State) (v sub : Nat) (k : Nat) (x : Int) : State × Nat :=
  if s.nat (Obj.VW_STATE v) ≠ 0 then (s, 5)
  else if 0x0F ≤ sub && sub ≤ 0x13 then ((s.put k x).resetRings v, 0)
  else (s.put k x, 0)

/-- A write of TRK_MODE or of TRK_WIN (R211): a target whose mode changes starts anew, searching in mode 3; in modes 1 and 2 the
window that is written stands at the next gate. -/
def State.writeTrack (s : State) (t sub k : Nat) (v : Int) : State :=
  let r := s.pipe.targets.toList.getD t {}
  let r' : Target :=
    if sub = 1 then (if s.get k = v then r else { state := if v = 3 then 1 else 0 })
    else if s.nat (Obj.TRK_MODE t) = 3 then r else { r with win := none }
  { s.put k v with pipe := { s.pipe with targets := s.pipe.targets.setIfInBounds t r' } }

/-- A WRITE OF A SCALAR THAT ACTS (R339), or `none` for an object that only holds its value. -/
def State.writeSpecial (s : State) (index sub : Nat) (v : Int) (stamp : Dlt) : Option (State × Nat) :=
  let n := v.toNat
  let k := objKey index sub
  if 0x7100 ≤ index && index < 0x7110 then some (s.writeView (index - 0x7100) sub k v)
  else if 0x8010 ≤ index && index < 0x8018 then
    match sub with
    | 0x01 => some (s.writeLaneEnable (index - 0x8010) n, 0)
    | 0x04 => some (s.writeTxPreset (index - 0x8010) n, 0)
    | 0x05 => some (s.writeTxFixed (index - 0x8010) n, 0)
    | 0x07 => some (s.writeRoleReq (index - 0x8010) n, 0)
    | 0x0A => some (s.writeLaneRestart (index - 0x8010) n, 0)
    | _ => none
  else if index = 0x4030 && 1 ≤ sub && sub ≤ 4 then some (s.writeFEng (sub - 1) n, 0)
  else if index = 0x5003 && 1 ≤ sub && sub ≤ 3 then
    some (s.writeGimbal ((List.range 3).map fun i => if i + 1 = sub then some v else none) stamp, 0)
  else if 0x5400 ≤ index && index < 0x5420 && sub ≤ 5 then some (s.writeTrack (index - 0x5400) sub k v, 0)
  else if index = 0x3201 then
    let f : McFilter := .gainSel (Fin.ofNat 16 (sub - 1))
    some (if mcFilterOk f n then (s.writeMcFilter f n, 0) else (s, 3))
  else
    match index, sub with
    | 0x1400, 3 => some (s.writeBellAck n)
    | 0x2020, 4 => some (s.writeStepGo n, 0)
    | 0x2030, 1 => some ((s.put k v).updateLock, 0)
    | 0x2030, 8 => some ((s.put k v).updateLock, 0)
    | 0x2031, 1 => some (s.writeSyncMode n, 0)
    | 0x2100, 5 => some (s.writeRsGo n, 0)
    | 0x3050, 4 => some (s.writeSunTripped n, 0)
    | 0x3200, 2 => some (s.writeMcFilter .k n, 0)
    | 0x3200, 3 => some (s.writeMcFilter .d n, 0)
    | 0x3200, 8 => some (s.writeMcInjGo n, 0)
    | 0x3202, 3 => some (s.writeMcRd n)
    | 0x3206, 1 => some (s.writeMcCalCh n, 0)
    | 0x3206, 2 => some (s.writeMcCalStep n, 0)
    | 0x5000, 3 => some (s.writeStdReload n, 0)
    | 0x6200, 1 => some (s.writeImgConfig k n)
    | 0x6200, 2 => some (s.writeImgConfig k n)
    | 0x6200, 3 => some (s.writeImgConfig k n)
    | 0x6200, 4 => some (if n = 0 then s else s.startSave n, 0)
    | 0x6200, 5 => some (if n = 0 then s else s.writeImgLoad, 0)
    | 0x6211, 4 => some (s.writeCommitGo n)
    | 0x7002, 4 => some (s.writeCreditGo n, 0)
    | 0x8200, 4 => some (s.writeEyeGo n, 0)
    | 0x9004, 1 => some (s.writeAllocApply n, 0)
    | 0xA001, 3 => some ((s.put k v).chop, 0)
    | 0xA001, 4 => some ((s.put k v).chop, 0)
    | 0xA001, 7 => some (s.writeTripActive n, 0)
    | 0xA001, 0x0B => some ((s.put k v).posWatch, 0)
    | 0xB002, 3 => some (s.writeEraseGo n)
    | 0xB200, 1 =>
      let r := s.draw.toNat
      some (s.drawn.writeAccEnable n ⟨r.testBit 0, r.testBit 1, r / 4 % 10⟩, 0)
    | 0xB201, 6 => some ((s.drawn 33).writeXferGo n s.xferOutcome)
    | 0xB800, 1 => some (s.writeCanEnable n, 0)
    | 0xB800, 6 => some (s.writeCanApply n, 0)
    | 0xC001, 3 => some (s.writePowerMode n)
    | 0xC010, 4 =>
      let cleared (p : Int) : Int := signedOf 16 (wrapNat 16 p &&& (0xFFFF - wrapNat 16 v))
      let pw : Power := { s.power with peak := s.power.peak.map cleared }
      some ({ s with power := pw }, 0)
    | 0xD001, 1 => some (s.writeEnsEnable n, 0)
    | _, _ => none

/-- A write of an RWC scalar (R337): a count goes to zero by any non-zero value; any other object loses the bits written 1. -/
def State.clearScalar (s : State) (k : Nat) (r : ObjRow) (v : Int) : State :=
  if r.count then (if v = 0 then s else s.put k 0)
  else s.put k (wrapNat (8 * r.size) (s.get k) &&& (2 ^ (8 * r.size) - 1 - wrapNat (8 * r.size) v) : Nat)

/-- A WRITE OF A SCALAR whose type, length and access have been checked (R337, R340). -/
def State.writeScalar (s : State) (index sub : Nat) (r : ObjRow) (v : Int) (stamp : Dlt) : State × Nat :=
  if !rangeOk index sub r v then (s, 3)
  else
    let k := objKey index sub
    let x : Int := match objMask index sub with
      | some m => (v.toNat &&& m : Nat)
      | none => v
    match s.writeSpecial index sub x stamp with
    | some y => y
    | none =>
      if r.acc = .rwc then (s.clearScalar k r x, 0)
      else if r.acc = .rws then (s.stage k x, 0)
      else if 0x5100 ≤ index && index < 0x5108 && sub ≠ 0x0F then (s.stageCtx k x, 0)
      else (s.put k x, 0)

/-! ## BLOBs -/

/-- The byte that a BLOB stores for a byte written to it: reserved bits read as zero (R12, R82, R264, R387). -/
def blobByte (index sub off : Nat) (b : Byte) : Byte :=
  match index, sub with
  | 0x9002, 0 => if off % 2 = 1 then (b &&& 0x81) ||| (if off % 32 = 1 then 0x80 else 0) else b
  | 0xA002, 0 => if off % 2 = 1 then b &&& 0x81 else b
  | _, _ => b

/-- The bytes of the element of `w` bytes at `e` after `bs` has been written at `off`. -/
def State.elementAfter (s : State) (k off : Nat) (bs : List Byte) (w e : Nat) : Nat :=
  leVal ((List.range w).map fun i =>
    let a := w * e + i
    if off ≤ a && a < off + bs.length then bs.getD (a - off) 0 else BitVec.ofInt 8 (s.stagedGet (k + a)))

/-- An entry of the regular or the injected sequence without its reserved bits (R12, R82): a J entry keeps its channel, a
position entry its position. -/
def seqEntry (w : Nat) : Nat := if w.testBit 15 then 0x8000 + w % 8 else w % 1024

/-- The whole entries that a write to a sequence touches, as they are stored, with the offset of the first (R12, R82). -/
def State.seqBytes (s : State) (k off : Nat) (bs : List Byte) : Nat × List Byte :=
  (off / 2 * 2, (List.range ((off + bs.length + 1) / 2 - off / 2)).flatMap fun i =>
    leBytes 2 (seqEntry (s.elementAfter k off bs 2 (off / 2 + i))))

/-- The chapter that owns a BLOB accepts the bytes (R74, R83, 08_rolls_budgets_drain.md Objects): no quadrant of a scan mask
without a position, no position entry in the injected sequence (REFUSED), engine ceilings from 1 to 256 (RANGE). -/
def State.blobStatus (s : State) (index sub off : Nat) (bs : List Byte) : Nat :=
  let k := objKey index sub
  if 0x3010 ≤ index && index < 0x3014 then
    (if (List.range 4).all fun q => (List.range 32).any fun w => s.elementAfter k off bs 4 (32 * q + w) ≠ 0 then 0 else 5)
  else if index = 0x3031 && sub = 6 then
    (if (List.range 8).all fun e => (s.elementAfter k off bs 2 e).testBit 15 then 0 else 5)
  else if index = 0x9008 then
    (if (List.range 64).all fun e => 1 ≤ s.elementAfter k off bs 2 e && s.elementAfter k off bs 2 e ≤ 256 then 0 else 3)
  else 0

/-- A write of an RWC BLOB (R337): each element that any non-zero byte is written to goes to zero. -/
def State.clearElements (s : State) (index sub off : Nat) (bs : List Byte) : State :=
  let k := objKey index sub
  let w := if 0x8100 ≤ index && index < 0x8108 then 8 else 4
  (List.range ((off + bs.length + w - 1) / w - off / w)).foldl (fun (t : State) i =>
    let e := off / w + i
    if (bs.zipIdx.any fun b => b.1 ≠ 0 && (off + b.2) / w = e) then t.putLe k (w * e) w 0 else t) s

/-- A WRITE OF A BLOB (R342): inside its size, or LENGTH. -/
def State.writeBlob (s : State) (index sub : Nat) (r : ObjRow) (off : Nat) (bs0 : List Byte) : State × Nat :=
  let bs := bs0.zipIdx.map fun b => blobByte index sub (off + b.2) b.1
  let k := objKey index sub
  if bs.isEmpty || r.size < off + bs.length then (s, 4)
  else if 0x2210 ≤ index && index < 0x2214 then s.writeStrokes (.die (Fin.ofNat 4 (index - 0x2210))) off bs
  else if 0xA010 ≤ index && index < 0xA012 then s.writeMallet (index - 0xA010) (sub = 2) off bs
  else if 0x5100 ≤ index && index < 0x5108 then (stageBytes State.stageCtx s (k + off) bs, 0)
  else
    match index, sub with
    | 0x2200, 0 => s.writeStrokes .package off bs
    | 0x2220, 0 => s.writeStrokes .cluster off bs
    | 0x4002, 1 => s.writeProg 0 off bs
    | 0x4002, 2 => s.writeProg 1 off bs
    | 0x4003, 0 => s.writeTable off bs
    | 0x5001, 0x0B => s.writeShade off bs
    | 0x6210, 0 => s.writeInactive off bs
    | 0xB001, 0 => s.writeFlash off bs
    | _, _ =>
      let st := s.blobStatus index sub off bs
      if st ≠ 0 then (s, st)
      else if r.acc = .rwc then (s.clearElements index sub off bs, 0)
      else if index = 0x3031 then
        let e := s.seqBytes k off bs
        (stageBytes State.stage s (k + e.1) e.2, 0)
      else if r.acc = .rws then (stageBytes State.stage s (k + off) bs, 0)
      else (s.putBytes k off bs, 0)

/-! ## Writing an object -/

/-- A WRITE OF AN OBJECT, with its status of R357 (R337, R340, R342): NO_OBJECT, READ_ONLY, LENGTH for a scalar that is not
written whole, then what the object does. The bytes beyond a scalar's size are padding (R355). -/
def State.dictWrite (s : State) (index sub off : Nat) (bytes : List Byte) (stamp : Dlt) : State × Nat :=
  match objAt index sub with
  | none => (s, 1)
  | some r =>
    if r.acc = .ro || r.acc = .rl then (s, 2)
    else if s.absentObject index then (s, 5)
    else if r.ty = .blob then s.writeBlob index sub r off bytes
    else if off ≠ 0 || bytes.length < r.size then (s, 4)
    else s.writeScalar index sub r (r.ty.ofBytes (bytes.take r.size)) stamp

/-- REGISTER_WRITE (R340): a write to an object is stored, staged, cleared or refused. -/
def execRegisterWrite (r : DictReq) (s : State) : Out := .next (s.dictWrite r.index r.sub r.offset r.data s.now).1

end Sys2Proof.Machine
end

