-- ==== Sys2Proof/Machine/Server.lean ====
section
/-! DEFINITION. The dictionary server and the transfer protocol on CAN FD (11_kazluisk_dictionary.md R345, R353-R357, R361-R363),
and the reads of the flash window that wait for the flash (12_serial_ports_accessory_bus.md R370). -/

namespace Sys2Proof.Machine

/-! ## Answers -/

/-- A frame of the part on 0x480 + c, if it takes part in the bus and is operational (R351). -/
def State.ktpSend (s : State) (c : Nat) (bs : List Byte) : State :=
  if s.canActive && s.operational then s.sendCan (0x480 + c) bs else s

/-- Byte 0 of a frame (R353): CMD and TAG. -/
def ktpByte (cmd tag : Nat) : Byte := BitVec.ofNat 8 (16 * cmd + tag % 16)

/-- An ABORT of the part (R357); only one that goes out is counted. -/
def State.ktpAbort (s : State) (c code : Nat) : State :=
  if s.canActive && s.operational then (s.bump Obj.KTP_ABORTS).ktpSend c [0xB0, BitVec.ofNat 8 code] else s

/-- The session of client `c` (R354). -/
def State.session (s : State) (c : Nat) : Option Session := s.dict.sessions.find? fun x => x.client = c

/-- A session changes. -/
def State.mapSession (s : State) (c : Nat) (f : Session → Session) : State :=
  { s with dict := { s.dict with sessions := s.dict.sessions.map fun x => if x.client = c then f x else x } }

/-- The transfer of client `c` becomes `x`. -/
def State.setXfer (s : State) (c : Nat) (x : Option Xfer) : State := s.mapSession c fun y => { y with xfer := x }

/-- Sticks for `n` bytes of a request on the DICT budget: one for each 64 or part (R345). -/
def dictSticks (n : Nat) : Nat := max 1 ((n + 63) / 64)

/-! ## Serving a request (R345, R355, R361, R362) -/

/-- The answer to a request of the service chain (transport 1) or of lane `t` − 2 (R361, R362). -/
def State.answer (s : State) (t : Nat) (r : DictReq) (status ty : Nat) (data : List Byte) : State :=
  if t = 1 then (if s.domain 1 = 1 then s.svcReply r status ty data else s) else s.laneReply (t - 2) r status ty data

/-- A read or write of an object that is not a BLOB gives its size as LENGTH (R361). -/
def wholeLength (r : DictReq) : Bool := (objAt r.index r.sub).all fun o => o.ty = .blob || r.length ≤ o.size

/-- A request of the service chain or of a lane served (R361, R362): LENGTH from 1 to 4,096, and an object's size where it is no
BLOB; another CMD is answered PROTOCOL; a read of the flash window waits for the flash (R370). -/
def State.serveWide (s : State) (t : Nat) (r : DictReq) : State :=
  let ty := ((objAt r.index r.sub).map fun o => o.ty.code).getD 0
  if r.cmd = 0 || 3 < r.cmd then s.answer t r 7 ty []
  else if r.length = 0 || 4096 < r.length then s.answer t r 4 ty []
  else if r.cmd = 2 then
    (if r.data.length < r.length || !wholeLength r then s.answer t r 4 ty []
    else
      let w := s.dictWrite r.index r.sub r.offset (r.data.take r.length) r.stamp
      w.1.answer t r w.2 ty [])
  else
    let a := s.dictRead r.index r.sub r.offset r.length (r.cmd = 3)
    if r.index = 0xB001 && a.1 = 0 then s.flashAsk (.read t r) else s.answer t r a.1 a.2.1 a.2.2

/-! ## OPEN and the expedited requests (R353-R355) -/

/-- A KTP frame of client `c` is heeded: the port is active, the part operational, and `c` has a session (R351, R354). -/
def State.ktpHeeds (s : State) (c : Nat) : Bool := s.canActive && s.operational && (s.session c).isSome

/-- OPEN (R352, R354): naming the part's own ID it binds the client, which must be in the node table; naming another server or 0
it drops the session without an answer. -/
def execKtpOpen (c : Nat) (server : Nat) (serial : BitVec 48) (tag : Nat) (s : State) : Out :=
  .next (
    if !s.canActive || !s.operational || !(s.dict.nodes.any fun x => x.id = c) then s
    else
      let s1 := s.canHeard
      let others := s1.dict.sessions.filter fun x => x.client ≠ c
      if server ≠ 0 && server = s1.nat Obj.NODE_ID then
        let x : Session := { client := c, serial := serial }
        ({ s1 with dict := { s1.dict with sessions := others ++ [x] } }).ktpSend c
          [ktpByte 0 tag, 0, BitVec.ofNat 8 server, 0]
      else { s1 with dict := { s1.dict with sessions := others } })

/-- Byte 0 of a frame of client to part (R353): the CMD, with the TAG, the LAST and TOGGLE bits or the sequence. -/
def frameByte (r : DictReq) : Byte := BitVec.ofNat 8 (16 * r.cmd + r.tag % 64)

/-- A frame of client `c` joins the CAN FD queue of 16, or is answered BUSY with its byte 0 (R345, R353); the far side of a
transfer has been heard (R356). -/
def State.canRequest (s : State) (c : Nat) (r : DictReq) : State :=
  if !s.ktpHeeds c then s
  else
    let s1 := s.canHeard
    let s2 := s1.mapSession c fun y => { y with xfer := y.xfer.map fun x => if 6 ≤ r.cmd then { x with beat := s1.clk.beats } else x }
    let q := (s2.dict.queues.toList[0]?).getD []
    if 16 ≤ q.length then s2.ktpSend c [frameByte r, 6, 0, 0]
    else { s2 with dict := { s2.dict with queues := s2.dict.queues.set 0 (q ++ [{ r with client := c, stamp := s2.now }]) } }

/-- READ (R355). -/
def execKtpRead (c tag index sub : Nat) (s : State) : Out :=
  .next (s.canRequest c { cmd := 1, tag := tag % 16, index := index, sub := sub })

/-- WRITE (R355). -/
def execKtpWrite (c tag index sub : Nat) (data : List Byte) (s : State) : Out :=
  .next (s.canRequest c { cmd := 2, tag := tag % 16, index := index, sub := sub, data := data })

/-- READ_ACTIVE (R337, R355). -/
def execReadActive (c tag index sub : Nat) (s : State) : Out :=
  .next (s.canRequest c { cmd := 3, tag := tag % 16, index := index, sub := sub })

/-! ## Segmented and bulk transfers (R356) -/

/-- The data of a read transfer go out: a segment of up to 63 bytes, or a block of them; each frame spends a DICT stick of AC6
(R345). -/
def State.dataOut (s : State) (c : Nat) (x : Xfer) (bs : List Byte) : State :=
  let s1 := s.owe 145 6 ((bs.length + 62) / 63)
  if x.cmd = 4 then
    (s1.setXfer c (some x)).ktpSend c
      (BitVec.ofNat 8 (0x60 + (if x.moved + bs.length = x.length then 2 else 0) + if x.toggle then 1 else 0) :: bs)
  else
    (List.range ((bs.length + 62) / 63)).foldl (fun (t : State) i =>
      t.ktpSend c (BitVec.ofNat 8 (0xC0 + i + 1) :: (bs.drop (63 * i)).take 63))
      (s1.setXfer c (some { x with data := x.data.take x.moved ++ bs }))

/-- The next data of a read transfer; from the flash window they come once the flash has been read (R346, R370). -/
def State.sendData (s : State) (c : Nat) (x : Xfer) : State :=
  match objAt x.index x.sub with
  | none => s
  | some r =>
    let off := x.offset + x.moved
    let n := min (x.length - x.moved) (if x.cmd = 4 then 63 else 63 * x.block)
    if x.index = 0xB001 then
      (s.setXfer c (some x)).flashAsk (.read 0 { cmd := x.cmd, index := x.index, sub := x.sub, offset := off, length := n, client := c })
    else s.dataOut c x (s.objBytes x.index x.sub r false off n)

/-- The status of an initiating command (R342, R356): the object, its access right, and the offset and length. -/
def xferStatus (cmd index sub offset length : Nat) : Nat :=
  match objAt index sub with
  | none => 1
  | some r =>
    if (cmd = 5 || cmd = 8) && (r.acc = .ro || r.acc = .rl) then 2
    else if length = 0 || (cmd < 7 && 65536 < length) then 4
    else if r.ty = .blob then (if r.size < offset + length then 4 else 0)
    else if offset ≠ 0 || length ≠ r.size then 4 else 0

/-- AN INITIATING COMMAND (R354, R356): it ends a transfer in progress with ABORT ABORTED, is answered with the length granted,
and a read's first data follows. A segmented write is over once its last segment has been acknowledged. -/
def State.initiate (s1 : State) (c cmd tag index sub offset length : Nat) : State :=
  let old := ((s1.session c).bind (·.xfer)).any fun x => !(x.ended && x.cmd = 5)
  let s2 := (if old then s1.ktpAbort c 0x0B else s1).setXfer c none
  let st := xferStatus cmd index sub offset length
  let ty := ((objAt index sub).map fun r => r.ty.code).getD 0
  let block := s2.nat Obj.BULK_BLOCK
  let s3 := s2.ktpSend c ([ktpByte cmd tag, BitVec.ofNat 8 st, BitVec.ofNat 8 ty, BitVec.ofNat 8 (if cmd < 7 then 0 else block)] ++
    leBytes 4 (if st = 0 then length else 0))
  if st ≠ 0 then s3
  else
    let x : Xfer := { cmd := cmd, index := index, sub := sub, offset := offset, length := length, block := block, beat := s3.clk.beats }
    if cmd = 4 || cmd = 7 then (s3.setXfer c (some x)).sendData c x else s3.setXfer c (some x)

/-- A frame of a transfer: `f` on the transfer in progress; without one it is unexpected and is answered with ABORT PROTOCOL
(R357). -/
def State.xferFrame (s : State) (c : Nat) (f : State → Xfer → State) : State :=
  match (s.session c).bind (·.xfer) with
  | none => s.ktpAbort c 7
  | some x => f s x

/-- An unexpected command, sequence or toggle ends the transfer with ABORT PROTOCOL (R357). -/
def State.xferBad (s : State) (c : Nat) : State := (s.ktpAbort c 7).setXfer c none

/-- The bytes of an object's entry, which a transfer applies whole (R47, R82, R342, R390): stroke tables, sequences, Mallet
programs; an object that is no BLOB is written whole. -/
def entryBytes (index sub size : Nat) : Nat :=
  if (objAt index sub).any fun r => r.ty ≠ .blob then size
  else if 0x2200 ≤ index && index ≤ 0x2220 then 32
  else if index = 0x3031 then 2
  else if 0xA010 ≤ index && index < 0xA012 then 4
  else 1

/-- What has arrived of a write transfer is applied as far as whole entries go, and the rest with the last byte (R47, R356). -/
def State.applyXfer (s : State) (x : Xfer) (stamp : Dlt) : State × Nat × Xfer :=
  let top := x.offset + x.moved
  let e := if x.moved = x.length then x.moved else top - top % entryBytes x.index x.sub x.length - x.offset
  if e ≤ x.applied then (s, 0, x)
  else
    let w := s.dictWrite x.index x.sub (x.offset + x.applied) ((x.data.drop x.applied).take (e - x.applied)) stamp
    (w.1, w.2, { x with applied := e })

/-- A SEG_DATA frame served (R356): of a write, a segment, applied as it is acknowledged, and acknowledged again without effect
where it repeats the last toggle; of a read, the acknowledgement of a segment. -/
def State.serveSegData (s : State) (c : Nat) (last toggle : Bool) (data : List Byte) (stamp : Dlt) : State :=
  s.xferFrame c fun t x =>
    let b0 : Byte := BitVec.ofNat 8 (0x60 + (if last then 2 else 0) + if toggle then 1 else 0)
    let n := min 63 (x.length - x.moved)
    if x.cmd = 5 then
      (if toggle ≠ x.toggle then (if x.moved = 0 then t.xferBad c else t.ktpSend c [b0, 0])
      else if x.ended || last ≠ (x.moved + n = x.length) then t.xferBad c
      else if data.length < n then (t.ktpSend c [b0, 4]).setXfer c none
      else
        let y : Xfer := { x with
          moved := x.moved + n, toggle := !x.toggle, ended := x.moved + n = x.length, data := x.data ++ data.take n }
        let w := t.applyXfer y stamp
        if w.2.1 ≠ 0 then (w.1.ktpSend c [b0, BitVec.ofNat 8 w.2.1]).setXfer c none
        else (w.1.setXfer c (some w.2.2)).ktpSend c [b0, 0])
    else if x.cmd = 4 then
      (if toggle ≠ x.toggle || last ≠ (x.moved + n = x.length) then t.xferBad c
      else if data.headD 0 ≠ 0 || last then t.setXfer c none
      else t.sendData c { x with moved := x.moved + n, toggle := !x.toggle })
    else t.xferBad c

/-- A BULK_DATA frame served (R356): a segment in order is applied; after the last of the block or of the transfer the part
acknowledges the last one in order, and the next block is numbered from 1 again. -/
def State.serveBulkData (s : State) (c seq : Nat) (data : List Byte) (stamp : Dlt) : State :=
  s.xferFrame c fun t x =>
    let start := x.moved - 63 * x.seqN
    let n := min x.block ((x.length - start + 62) / 63)
    if x.cmd ≠ 8 || x.ended || seq = 0 || n < seq then t.xferBad c
    else
      let k := min 63 (x.length - x.moved)
      let ours := seq = x.seqN + 1 && k ≤ data.length
      let y : Xfer := { x with moved := x.moved + k, seqN := seq, data := x.data ++ data.take k }
      let w := if ours then t.applyXfer y stamp else (t, 0, x)
      if w.2.1 ≠ 0 then (w.1.ktpSend c [0x90, BitVec.ofNat 8 w.2.1, BitVec.ofNat 8 x.seqN, 0]).setXfer c none
      else if seq < n then w.1.setXfer c (some w.2.2)
      else
        let block := w.1.nat Obj.BULK_BLOCK
        (w.1.setXfer c (some { w.2.2 with seqN := 0, block := block, ended := w.2.2.moved = x.length })).ktpSend c
          [0x90, 0, BitVec.ofNat 8 w.2.2.seqN, BitVec.ofNat 8 block]

/-- A BULK_ACK frame served (R356): the client has taken the segments up to `lastSeq` in order; the part goes on from there with
the block size asked, and after the last acknowledgement sends BULK_END with the CRC-32 of R22. -/
def State.serveBulkAck (s : State) (c status lastSeq nextBlock : Nat) : State :=
  s.xferFrame c fun t x =>
    let sent := (min (x.length - x.moved) (63 * x.block) + 62) / 63
    if x.cmd ≠ 7 || x.ended || sent < lastSeq || nextBlock = 0 || 32 < nextBlock then t.xferBad c
    else if status ≠ 0 then t.setXfer c none
    else
      let moved := min x.length (x.moved + 63 * lastSeq)
      let y : Xfer := { x with moved := moved, block := nextBlock, data := x.data.take moved }
      if moved = x.length then
        (t.setXfer c (some { y with ended := true })).ktpSend c ([0xA0, 0, 0, 0] ++ leBytes 4 (crc32 y.data).toNat)
      else t.sendData c y

/-- A BULK_END frame served (R356): of a write, the CRC over all bytes is compared and answered, 0x0A for a mismatch; of a read,
the client's answer ends the transfer. -/
def State.serveBulkEnd (s : State) (c : Nat) (crc : Word) : State :=
  s.xferFrame c fun t x =>
    if x.cmd = 8 && x.ended then (t.setXfer c none).ktpSend c [0xA0, if crc32 x.data = crc then 0 else 0x0A]
    else if x.cmd = 7 && x.ended then t.setXfer c none
    else t.xferBad c

/-- SEG_READ (R345, R356). A frame of a transfer waits in the queue with its fields in those of a request: SEG_DATA's LAST and
TOGGLE bits and BULK_DATA's sequence in `tag`, the bytes of BULK_ACK and the CRC of BULK_END in `data`. -/
def execSegRead (c tag index sub offset length : Nat) (s : State) : Out :=
  .next (s.canRequest c { cmd := 4, tag := tag % 16, index := index, sub := sub, offset := offset, length := length })
/-- SEG_WRITE (R356). -/
def execSegWrite (c tag index sub offset length : Nat) (s : State) : Out :=
  .next (s.canRequest c { cmd := 5, tag := tag % 16, index := index, sub := sub, offset := offset, length := length })
/-- BULK_READ (R356). -/
def execBulkRead (c tag index sub offset length : Nat) (s : State) : Out :=
  .next (s.canRequest c { cmd := 7, tag := tag % 16, index := index, sub := sub, offset := offset, length := length })
/-- BULK_WRITE (R356). -/
def execBulkWrite (c tag index sub offset length : Nat) (s : State) : Out :=
  .next (s.canRequest c { cmd := 8, tag := tag % 16, index := index, sub := sub, offset := offset, length := length })
/-- SEG_DATA (R356). -/
def execSegData (c : Nat) (last toggle : Bool) (data : List Byte) (s : State) : Out :=
  .next (s.canRequest c { cmd := 6, tag := (if last then 2 else 0) + if toggle then 1 else 0, index := 0, sub := 0, data := data })
/-- BULK_DATA (R356). -/
def execBulkData (c seq : Nat) (data : List Byte) (s : State) : Out :=
  .next (s.canRequest c { cmd := 12, tag := seq % 64, index := 0, sub := 0, data := data })
/-- BULK_ACK (R356). -/
def execBulkAck (c status lastSeq nextBlock : Nat) (s : State) : Out :=
  .next (s.canRequest c { cmd := 9, index := 0, sub := 0, data := [status, lastSeq, nextBlock].map (BitVec.ofNat 8) })
/-- BULK_END (R356). -/
def execBulkEnd (c : Nat) (crc : Word) (s : State) : Out :=
  .next (s.canRequest c { cmd := 10, index := 0, sub := 0, data := leBytes 4 crc.toNat })

/-! ## Serving a request (R345, R355, R356) -/

/-- An expedited request served (R355): the TAG of the last expedited request is answered again and not executed; a BLOB, or an STR
over 60 bytes, needs a transfer. -/
def State.serveExpedited (s : State) (r : DictReq) : State :=
  match s.session r.client with
  | none => s
  | some x =>
    if (x.lastTag.map (·.1)) = some r.tag then s.ktpSend r.client ((x.lastTag.map (·.2)).getD [])
    else
      let row := objAt r.index r.sub
      let big := (row.map fun o => o.ty = .blob || (o.ty = .str && 60 < o.size)).getD false
      let head := ktpByte r.cmd r.tag
      let done (t : State) (bs : List Byte) : State := (t.mapSession r.client fun y => { y with lastTag := some (r.tag, bs) }).ktpSend r.client bs
      if r.cmd = 2 then
        let w := if big then (s, 9) else s.dictWrite r.index r.sub 0 r.data r.stamp
        done w.1 [head, BitVec.ofNat 8 w.2, 0, 0]
      else
        let a := if big then (9, (row.map fun o => o.ty.code).getD 0, [])
          else s.dictRead r.index r.sub 0 ((row.map (·.size)).getD 0) (r.cmd = 3)
        done s ([head, BitVec.ofNat 8 a.1, BitVec.ofNat 8 a.2.2.length, BitVec.ofNat 8 a.2.1] ++ a.2.2)

/-- A CAN FD frame served (R345, R353), by its CMD, where its client still has a session (R354). -/
def State.serveCan (s : State) (r : DictReq) : State :=
  let c := r.client
  let b (i : Nat) : Nat := (r.data.getD i 0).toNat
  if (s.session c).isNone then s
  else
    match r.cmd with
    | 6 => s.serveSegData c (r.tag.testBit 1) (r.tag.testBit 0) r.data r.stamp
    | 9 => s.serveBulkAck c (b 0) (b 1) (b 2)
    | 10 => s.serveBulkEnd c (BitVec.ofNat 32 (leVal r.data))
    | 12 => s.serveBulkData c r.tag r.data r.stamp
    | k => if k < 4 then s.serveExpedited r else s.initiate c k r.tag r.index r.sub r.offset r.length

/-- What a request at the head of transport `t`'s queue writes into INACTIVE_BANKS: offset and length. -/
def State.portWrite (s : State) (t : Nat) (r : DictReq) : Option (Nat × Nat) :=
  if t ≠ 0 then (if r.cmd = 2 && r.index = 0x6210 then some (r.offset, r.data.length) else none)
  else if r.cmd = 6 || r.cmd = 12 then
    ((s.session r.client).bind (·.xfer)).bind fun x =>
      if x.index = 0x6210 && (x.cmd = 5 || x.cmd = 8) then some (x.offset + x.moved, r.data.length) else none
  else none

/-- DICT_SERVE (R345): one request at a time, the transports in turn from the one after the last served, the oldest request of
each first; it spends DICT sticks of AC6, one for a CAN FD frame (R263). A read that waits for the flash, or a write that waits
for a coefficient write port, holds the server (R270). -/
def execDictServe (s : State) : Out :=
  .next (
    let order := (List.range 10).map fun i => (s.dict.nextQ + i) % 10
    let queue (t : Nat) : List DictReq := (s.dict.queues.toList[t]?).getD []
    if s.domain 1 ≠ 1 || s.flashReading then s
    else
      match order.find? fun t => !(queue t).isEmpty with
      | none => s
      | some t =>
        match queue t with
        | [] => s
        | r :: rest =>
          match (s.portWrite t r).bind fun w => s.portStall w.1 w.2 with
          | some g => s.stallRoll (64 + g) 3
          | none =>
          s.charge 145 6 (if t = 0 then 1 else dictSticks (max r.length r.data.length)) fun u =>
            let u1 : State := { u with dict := { u.dict with queues := u.dict.queues.setIfInBounds t rest, nextQ := (t + 1) % 10 } }
            if t = 0 then u1.serveCan r else u1.serveWide t r)

/-! ## Ends of transfers (R356, R357) -/

/-- The frames of client `c`'s transfer that wait in the CAN FD queue are gone. -/
def State.dropFrames (s : State) (c : Nat) : State :=
  { s with dict := { s.dict with
    queues := s.dict.queues.set 0 ((s.dict.queues[0]).filter fun r => r.client ≠ c || r.cmd < 4) } }

/-- ABORT (R357): the far side ends the transfer at once, with its frames that still wait (log entry 34); every abort received
counts. -/
def execAbort (c code : Nat) (s : State) : Out :=
  .next (if s.ktpHeeds c && code < 256 then ((s.canHeard.bump Obj.KTP_ABORTS).dropFrames c).setXfer c none else s)

/-- KTP_TIMEOUT (R356): the far side of a transfer has been silent for KTP_TIMEOUT. A segmented write whose last segment has been
acknowledged has ended and is only forgotten. -/
def execKtpTimeout (c : Nat) (s : State) : Out :=
  .next (
    match (s.session c).bind (·.xfer) with
    | none => s
    | some x =>
      if !s.passedMs x.beat (s.nat Obj.KTP_TIMEOUT) then s
      else if x.ended && x.cmd = 5 then s.setXfer c none
      else (s.ktpAbort c 8).setXfer c none)

/-! ## The flash window (R118, R370) -/

/-- FLASH_READ_COMPLETE (R118, R168, R370): the read in progress on FSPI ends, with the data for the stalled LDL of engine `p`
or for the dictionary read that waits; then the next command starts. -/
def execFlashReadComplete (p : Option (Fin 272)) (s : State) : Out :=
  .next (
    let idle : State := { s with ports := { s.ports with flashNow := none } }
    match p, s.ports.flashNow with
    | _, none => s.flashStart
    | some e, some (.engine q) => if q = e.val then (idle.flashData q).flashStart else s
    | none, some (.read t r) =>
      let bs := s.flashBytes r.offset r.length
      let u := idle.drawn r.length
      (if t ≠ 0 then u.answer t r 0 10 bs
      else
        match (u.session r.client).bind (·.xfer) with
        | some x => if x.index = 0xB001 && r.offset = x.offset + x.moved then u.dataOut r.client x bs else u
        | none => u).flashStart
    | _, _ => s)

end Sys2Proof.Machine
end

