-- ==== Sys2Proof/Machine/Startup.lean ====
section
/-! DEFINITION. Start-up stage 2 (15_power_startup_heat.md R424, R427, R428; 12_serial_ports_accessory_bus.md R365, R366): the
flash is discovered and the configuration block in it is applied. -/

namespace Sys2Proof.Machine

/-- The runs of correct reads over the delay taps (R366): the first tap and the length of the widest, the first of equals. -/
def widestRun : List Bool → Nat → Nat → Nat × Nat → Nat × Nat
  | [], _, _, best => best
  | b :: r, i, k, best =>
    let k' := if b then k + 1 else 0
    widestRun r (i + 1) k' (if best.2 < k' then (i + 1 - k', k') else best)

/-- DISCOVERY (R365, R366), after command 5Ah: what the device's SFDP tells and the middle of the widest run of taps, or the
fallback, limited to 16 MiB, where there is no signature. A device that reads right at no tap is an error, and there is no
flash (log entry 9). -/
def State.discover (s0 : State) (sfdp : Option Sfdp) : State :=
  let s := s0.send (.fspi 0x5A 0 [])
  match sfdp with
  | some d =>
    let run := widestRun (d.taps.take 32) 0 0 (0, 0)
    let s1 := (s.put Obj.FLASH_DENSITY d.density).putBytes Obj.SFDP_COPY 0 (sliceBytes d.copy 0 256)
    if run.2 = 0 then s1.put Obj.FSPI_STATE 4
    else
      let s2 := if d.fourByte then s1 else s1.send (.fspi 0xB7 0 [])
      ({ s2 with ports := { s2.ports with sfdp := some d } }.put Obj.FSPI_STATE 2).put Obj.FSPI_RX_DLY (run.1 + (run.2 - 1) / 2 : Nat)
  | none =>
    let d : Sfdp := { density := 16777216, fourByte := false, pageSize := 256, prog := (2500, 1), erase4 := some (1000000, 1) }
    let s1 : State := { s with ports := { s.ports with sfdp := some d } }
    ((s1.put Obj.FSPI_STATE 3).put Obj.FLASH_DENSITY d.density).bell 0x0B01

/-- A word of the configuration block in slot `i` (R427). -/
def State.cfgWord (s : State) (i w : Nat) : Nat := s.le (flashBase + 0x800000 * i + 4 * w) 4

/-- SEQ of the configuration block in slot `i` if it is valid (R427, R428): magic, VERSION, LENGTH and CRC check. -/
def State.cfgSeq (s : State) (i : Nat) : Option Nat :=
  let len := s.cfgWord i 2
  if s.cfgWord i 0 = 0x46434B48 && s.cfgWord i 1 % 65536 = 1 && 20 ≤ len && len ≤ 524288 && 0x800000 * i + len ≤ s.flashSize &&
      (crc32 (s.bytes (flashBase + 0x800000 * i + 20) (len - 20))).toNat = s.cfgWord i 4 then some (s.cfgWord i 3)
  else none

/-- The slot of the valid block with the larger SEQ (R428). -/
def State.cfgNewest (s : State) : Option Nat :=
  match s.cfgSeq 0, s.cfgSeq 1 with
  | some a, some b => some (if a < b then 1 else 0)
  | some _, none => some 0
  | none, some _ => some 1
  | none, none => none

/-- The entries of a block from offset `off`, each a dictionary write of R340 (R427, R428): a refused entry is counted. An index
of 0x0000, or the end of the block, ends it. -/
def State.cfgEntries : Nat → State → Nat → Nat → State
  | 0, s, _, _ => s
  | fuel + 1, s, off, stop =>
    let w0 := s.le (flashBase + off) 4
    let at' := s.le (flashBase + off + 4) 4
    let len := s.le (flashBase + off + 8) 4
    if stop < off + 12 || w0 % 65536 = 0 || stop < off + 12 + len then s
    else
      let w := s.dictWrite (w0 % 65536) (w0 / 65536 % 256) at' (s.bytes (flashBase + off + 12) len) s.now
      let t := if w.2 = 0 then w.1 else w.1.bump Obj.CFG_REFUSED
      State.cfgEntries fuel t (off + 12 + (len + 3) / 4 * 4) stop

/-- RWS values come into force directly at the end of stage 2 (R428); the engine clocks and ROLL_US with them. -/
def State.forceStaged (s : State) : State :=
  let s1 := s.shadow.staged.foldl (fun (t : State) (e : Nat × Int) => t.put e.1 e.2) s
  let s2 := (List.range 4).foldl (fun (t : State) q => t.put (Obj.F_ENG_ACTIVE q) (t.get (Obj.F_ENG q))) s1
  s2.put Obj.ROLL_ACTIVE_US (s2.get Obj.ROLL_US)

/-- STAGE_2_ENTRY (R365, R424, R427, R428): the Masol check has passed. `sfdp` is what the flash answers, `none` where the
signature is missing. Without a valid block the defaults stay, with CFG_STATE 3 and bell 0x0C01. -/
def execStage2Entry (sfdp : Option Sfdp) (s : State) : Out :=
  .next (
    if s.nat Obj.STARTUP_STAGE ≠ 1 || s.domain 1 ≠ 1 || s.nat Obj.MASOL_STATUS ≠ 0 then s
    else
      let s1 := (s.enterStage 2).discover sfdp
      match s1.cfgNewest with
      | some i =>
        let off := 0x800000 * i
        let len := s1.cfgWord i 2
        let s2 := ((s1.put Obj.CFG_STATE (i + 1 : Nat)).put Obj.CFG_SEQ (s1.cfgWord i 3)).cfgEntries (len / 12 + 1) (off + 20) (off + len)
        s2.forceStaged
      | none => (s1.put Obj.CFG_STATE 3).bell 0x0C01)

end Sys2Proof.Machine
end

