-- ==== Sys2Proof/Machine/Dispatch.lean ====
section
/-! DEFINITION. The dispatch of the commands: one arm per constructor of Instr, each one direct call of its meaning. -/

namespace Sys2Proof.Machine

def exec (i : Instr) (s : State) : Host.Outcome State Fault Refusal :=
  match i with
  | .aonPowerOn => Sys2Proof.Machine.execAonPowerOn s
  | .resetNLow ns => Sys2Proof.Machine.execResetNLow ns s
  | .stage1Entry => Sys2Proof.Machine.execStage1Entry s
  | .stage2Entry sfdp => Sys2Proof.Machine.execStage2Entry sfdp s
  | .stage3Entry => Sys2Proof.Machine.execStage3Entry s
  | .railGood r => Sys2Proof.Machine.execRailGood r s
  | .railLost r => Sys2Proof.Machine.execRailLost r s
  | .beat => Sys2Proof.Machine.execBeat s
  | .dltCopyCompare die found => Sys2Proof.Machine.execDltCopyCompare die found s
  | .dltCopyReload die => Sys2Proof.Machine.execDltCopyReload die s
  | .refInLoss => Sys2Proof.Machine.execRefInLoss s
  | .refInReturn => Sys2Proof.Machine.execRefInReturn s
  | .strokeEntryWrite sched off bytes => Sys2Proof.Machine.execStrokeEntryWrite sched off bytes s
  | .strokeForward e => Sys2Proof.Machine.execStrokeForward e s
  | .strokeFire sched e => Sys2Proof.Machine.execStrokeFire sched e s
  | .lateStrokeFire sched e => Sys2Proof.Machine.execLateStrokeFire sched e s
  | .rimshotGo v => Sys2Proof.Machine.execRimshotGo v s
  | .rimshotFire => Sys2Proof.Machine.execRimshotFire s
  | .syncInEdge falling stamp => Sys2Proof.Machine.execSyncInEdge falling stamp s
  | .sourceEventMissed src => Sys2Proof.Machine.execSourceEventMissed src s
  | .syncModeWrite v => Sys2Proof.Machine.execSyncModeWrite v s
  | .stepGo v => Sys2Proof.Machine.execStepGo v s
  | .dltStep => Sys2Proof.Machine.execDltStep s
  | .gong l => Sys2Proof.Machine.execGong l s
  | .gongLowEnd => Sys2Proof.Machine.execGongLowEnd s
  | .bell l => Sys2Proof.Machine.execBell l s
  | .commitShadow l => Sys2Proof.Machine.execCommitShadow l s
  | .swapBank l => Sys2Proof.Machine.execSwapBank l s
  | .swapProg l => Sys2Proof.Machine.execSwapProg l s
  | .frameStart l => Sys2Proof.Machine.execFrameStart l s
  | .frameEntryRun p => Sys2Proof.Machine.execFrameEntryRun p s
  | .slotEnd q samples => Sys2Proof.Machine.execSlotEnd q samples s
  | .frameGate temps => Sys2Proof.Machine.execFrameGate temps s
  | .inject l => Sys2Proof.Machine.execInject l s
  | .injTrigEdge => Sys2Proof.Machine.execInjTrigEdge s
  | .sunTrippedClear v => Sys2Proof.Machine.execSunTrippedClear v s
  | .mcStart l => Sys2Proof.Machine.execMcStart l s
  | .mcStop => Sys2Proof.Machine.execMcStop s
  | .mcOutput x ovr => Sys2Proof.Machine.execMcOutput x ovr s
  | .mcRdWrite v => Sys2Proof.Machine.execMcRdWrite v s
  | .mcFilterWrite which v => Sys2Proof.Machine.execMcFilterWrite which v s
  | .mcInjGo v => Sys2Proof.Machine.execMcInjGo v s
  | .mcCalZero => Sys2Proof.Machine.execMcCalZero s
  | .mcCalFullScale => Sys2Proof.Machine.execMcCalFullScale s
  | .mcCalStepDone => Sys2Proof.Machine.execMcCalStepDone s
  | .itemRelease g row => Sys2Proof.Machine.execItemRelease g row s
  | .itemClaim p => Sys2Proof.Machine.execItemClaim p s
  | .itemCommit p => Sys2Proof.Machine.execItemCommit p s
  | .endEntryRun p => Sys2Proof.Machine.execEndEntryRun p s
  | .claimTimeout p => Sys2Proof.Machine.execClaimTimeout p s
  | .checkCompare g row => Sys2Proof.Machine.execCheckCompare g row s
  | .engineFault p code => Sys2Proof.Machine.execEngineFault p code s
  | .haloArrival g row words => Sys2Proof.Machine.execHaloArrival g row words s
  | .seamBlockReceive link crcOk => Sys2Proof.Machine.execSeamBlockReceive link crcOk s
  | .progSlotWrite slot off bytes => Sys2Proof.Machine.execProgSlotWrite slot off bytes s
  | .tableAreaWrite off bytes => Sys2Proof.Machine.execTableAreaWrite off bytes s
  | .fEngWrite q v => Sys2Proof.Machine.execFEngWrite q v s
  | .enginePllLock q => Sys2Proof.Machine.execEnginePllLock q s
  | .vddeMeasure q mv => Sys2Proof.Machine.execVddeMeasure q mv s
  | .smov p f => Sys2Proof.Machine.execSmov p f s
  | .sadd p f => Sys2Proof.Machine.execSadd p f s
  | .ssub p f => Sys2Proof.Machine.execSsub p f s
  | .sand p f => Sys2Proof.Machine.execSand p f s
  | .sor p f => Sys2Proof.Machine.execSor p f s
  | .sshl p f => Sys2Proof.Machine.execSshl p f s
  | .sshr p f => Sys2Proof.Machine.execSshr p f s
  | .scmp p f => Sys2Proof.Machine.execScmp p f s
  | .sbr p f => Sys2Proof.Machine.execSbr p f s
  | .sloop p f => Sys2Proof.Machine.execSloop p f s
  | .scall p f => Sys2Proof.Machine.execScall p f s
  | .sret p f => Sys2Proof.Machine.execSret p f s
  | .pfx p f => Sys2Proof.Machine.execPfx p f s
  | .ldpx p f upset => Sys2Proof.Machine.execLdpx p f upset s
  | .ldcf p f upset => Sys2Proof.Machine.execLdcf p f upset s
  | .ldst p f upset => Sys2Proof.Machine.execLdst p f upset s
  | .stst p f => Sys2Proof.Machine.execStst p f s
  | .ldl p f upset => Sys2Proof.Machine.execLdl p f upset s
  | .stl p f => Sys2Proof.Machine.execStl p f s
  | .vadd p f => Sys2Proof.Machine.execVadd p f s
  | .vsub p f => Sys2Proof.Machine.execVsub p f s
  | .vmul p f => Sys2Proof.Machine.execVmul p f s
  | .vmac p f => Sys2Proof.Machine.execVmac p f s
  | .vshr p f => Sys2Proof.Machine.execVshr p f s
  | .vsat p f => Sys2Proof.Machine.execVsat p f s
  | .vmin p f => Sys2Proof.Machine.execVmin p f s
  | .vmax p f => Sys2Proof.Machine.execVmax p f s
  | .vabs p f => Sys2Proof.Machine.execVabs p f s
  | .vcmp p f => Sys2Proof.Machine.execVcmp p f s
  | .vsel p f => Sys2Proof.Machine.execVsel p f s
  | .vlut p f => Sys2Proof.Machine.execVlut p f s
  | .vtag p f => Sys2Proof.Machine.execVtag p f s
  | .vnbr p f => Sys2Proof.Machine.execVnbr p f s
  | .vhist p f upset => Sys2Proof.Machine.execVhist p f upset s
  | .vstat p f => Sys2Proof.Machine.execVstat p f s
  | .vmom p f => Sys2Proof.Machine.execVmom p f s
  | .emitLine p f => Sys2Proof.Machine.execEmitLine p f s
  | .emitRecord p f => Sys2Proof.Machine.execEmitRecord p f s
  | .emitRemote p f => Sys2Proof.Machine.execEmitRemote p f s
  | .waits p f => Sys2Proof.Machine.execWaits p f s
  | .waitsRelease p cause event => Sys2Proof.Machine.execWaitsRelease p cause event s
  | .engEvent l => Sys2Proof.Machine.execEngEvent l s
  | .lease p f => Sys2Proof.Machine.execLease p f s
  | .leaseGrant r => Sys2Proof.Machine.execLeaseGrant r s
  | .leaseWaitGiveUp p => Sys2Proof.Machine.execLeaseWaitGiveUp p s
  | .free p f => Sys2Proof.Machine.execFree p f s
  | .engineBell p f => Sys2Proof.Machine.execEngineBell p f s
  | .histogramMerge => Sys2Proof.Machine.execHistogramMerge s
  | .shadeGridWrite bytes => Sys2Proof.Machine.execShadeGridWrite bytes s
  | .gimbalRateWrite yaw pitch roll stamp => Sys2Proof.Machine.execGimbalRateWrite yaw pitch roll stamp s
  | .stdReload v => Sys2Proof.Machine.execStdReload v s
  | .calStart l => Sys2Proof.Machine.execCalStart l s
  | .calTwoPointZero => Sys2Proof.Machine.execCalTwoPointZero s
  | .calTwoPointFullScale => Sys2Proof.Machine.execCalTwoPointFullScale s
  | .calClapperRefresh => Sys2Proof.Machine.execCalClapperRefresh s
  | .calDriftPoint point => Sys2Proof.Machine.execCalDriftPoint point s
  | .calAbort => Sys2Proof.Machine.execCalAbort s
  | .calRunFinish readBackOk => Sys2Proof.Machine.execCalRunFinish readBackOk s
  | .clapRefreshTimeout => Sys2Proof.Machine.execClapRefreshTimeout s
  | .offsetUpdateWrite g => Sys2Proof.Machine.execOffsetUpdateWrite g s
  | .sceneUpdate => Sys2Proof.Machine.execSceneUpdate s
  | .imgSaveActive => Sys2Proof.Machine.execImgSaveActive s
  | .imgSaveInactive => Sys2Proof.Machine.execImgSaveInactive s
  | .imgSaveComplete => Sys2Proof.Machine.execImgSaveComplete s
  | .imgLoad => Sys2Proof.Machine.execImgLoad s
  | .imgLoadComplete => Sys2Proof.Machine.execImgLoadComplete s
  | .inactiveBanksWrite off bytes => Sys2Proof.Machine.execInactiveBanksWrite off bytes s
  | .commitGo v => Sys2Proof.Machine.execCommitGo v s
  | .commitCheckDone => Sys2Proof.Machine.execCommitCheckDone s
  | .rollBoundary => Sys2Proof.Machine.execRollBoundary s
  | .allocApply v => Sys2Proof.Machine.execAllocApply v s
  | .viewOpen l => Sys2Proof.Machine.execViewOpen l s
  | .viewClose l => Sys2Proof.Machine.execViewClose l s
  | .linePageWrite v line => Sys2Proof.Machine.execLinePageWrite v line s
  | .frameRecordWrite v => Sys2Proof.Machine.execFrameRecordWrite v s
  | .viewStallTimeout v => Sys2Proof.Machine.execViewStallTimeout v s
  | .creditGo v => Sys2Proof.Machine.execCreditGo v s
  | .recordPageFlush v => Sys2Proof.Machine.execRecordPageFlush v s
  | .laneEnableWrite n v => Sys2Proof.Machine.execLaneEnableWrite n v s
  | .laneRestart n v => Sys2Proof.Machine.execLaneRestart n v s
  | .codewordReceive n message parity reads => Sys2Proof.Machine.execCodewordReceive n message parity reads s
  | .hello n m => Sys2Proof.Machine.execHello n m s
  | .tapReq n tap op preset num => Sys2Proof.Machine.execTapReq n tap op preset num s
  | .tapResp n num status coefs => Sys2Proof.Machine.execTapResp n num status coefs s
  | .tapReqRetry n => Sys2Proof.Machine.execTapReqRetry n s
  | .trainDone n => Sys2Proof.Machine.execTrainDone n s
  | .trainLimitExpiry n => Sys2Proof.Machine.execTrainLimitExpiry n s
  | .helloTimeout n => Sys2Proof.Machine.execHelloTimeout n s
  | .holdoffExpiry n => Sys2Proof.Machine.execHoldoffExpiry n s
  | .pktReceive n p => Sys2Proof.Machine.execPktReceive n p s
  | .ack n seq => Sys2Proof.Machine.execAck n seq s
  | .nak n seq => Sys2Proof.Machine.execNak n seq s
  | .credit n seq view ring count => Sys2Proof.Machine.execCredit n seq view ring count s
  | .replayTimeout n => Sys2Proof.Machine.execReplayTimeout n s
  | .linkStallTimeout n => Sys2Proof.Machine.execLinkStallTimeout n s
  | .down n cause => Sys2Proof.Machine.execDown n cause s
  | .timeSyncSend n => Sys2Proof.Machine.execTimeSyncSend n s
  | .timeSync n t1 t2 t3 => Sys2Proof.Machine.execTimeSync n t1 t2 t3 s
  | .timeReq n t3 t4 => Sys2Proof.Machine.execTimeReq n t3 t4 s
  | .timeResp n t4 t3 => Sys2Proof.Machine.execTimeResp n t4 t3 s
  | .ttRoleReq n v => Sys2Proof.Machine.execTtRoleReq n v s
  | .roleReq n role num => Sys2Proof.Machine.execRoleReq n role num s
  | .roleResp n num status => Sys2Proof.Machine.execRoleResp n num status s
  | .roleReqRetry n => Sys2Proof.Machine.execRoleReqRetry n s
  | .eyeGo v => Sys2Proof.Machine.execEyeGo v s
  | .eyePointDone symbols errors => Sys2Proof.Machine.execEyePointDone symbols errors s
  | .dictServe => Sys2Proof.Machine.execDictServe s
  | .registerWrite r => Sys2Proof.Machine.execRegisterWrite r s
  | .claim n serial => Sys2Proof.Machine.execClaim n serial s
  | .heartbeat n serial state => Sys2Proof.Machine.execHeartbeat n serial state s
  | .heartbeatSend => Sys2Proof.Machine.execHeartbeatSend s
  | .nodeExpire n => Sys2Proof.Machine.execNodeExpire n s
  | .claimListenEnd => Sys2Proof.Machine.execClaimListenEnd s
  | .claimWaitEnd => Sys2Proof.Machine.execClaimWaitEnd s
  | .claimRetry => Sys2Proof.Machine.execClaimRetry s
  | .canBusOffRecovery => Sys2Proof.Machine.execCanBusOffRecovery s
  | .canClassicFrame => Sys2Proof.Machine.execCanClassicFrame s
  | .canApply v => Sys2Proof.Machine.execCanApply v s
  | .ktpOpen c server serial tag => Sys2Proof.Machine.execKtpOpen c server serial tag s
  | .ktpRead c tag index sub => Sys2Proof.Machine.execKtpRead c tag index sub s
  | .ktpWrite c tag index sub data => Sys2Proof.Machine.execKtpWrite c tag index sub data s
  | .readActive c tag index sub => Sys2Proof.Machine.execReadActive c tag index sub s
  | .segRead c tag index sub offset length => Sys2Proof.Machine.execSegRead c tag index sub offset length s
  | .segWrite c tag index sub offset length => Sys2Proof.Machine.execSegWrite c tag index sub offset length s
  | .segData c last toggle data => Sys2Proof.Machine.execSegData c last toggle data s
  | .bulkRead c tag index sub offset length => Sys2Proof.Machine.execBulkRead c tag index sub offset length s
  | .bulkWrite c tag index sub offset length => Sys2Proof.Machine.execBulkWrite c tag index sub offset length s
  | .bulkData c seq data => Sys2Proof.Machine.execBulkData c seq data s
  | .bulkAck c status lastSeq nextBlock => Sys2Proof.Machine.execBulkAck c status lastSeq nextBlock s
  | .bulkEnd c crc => Sys2Proof.Machine.execBulkEnd c crc s
  | .abort c code => Sys2Proof.Machine.execAbort c code s
  | .ktpTimeout c => Sys2Proof.Machine.execKtpTimeout c s
  | .bellAck seq => Sys2Proof.Machine.execBellAck seq s
  | .canBellSend => Sys2Proof.Machine.execCanBellSend s
  | .canTrackSend => Sys2Proof.Machine.execCanTrackSend s
  | .canFocusSend => Sys2Proof.Machine.execCanFocusSend s
  | .statusSend => Sys2Proof.Machine.execStatusSend s
  | .flashWindowWrite off bytes => Sys2Proof.Machine.execFlashWindowWrite off bytes s
  | .flashStatusPoll r => Sys2Proof.Machine.execFlashStatusPoll r s
  | .flashProgramTimeout => Sys2Proof.Machine.execFlashProgramTimeout s
  | .eraseGo v => Sys2Proof.Machine.execEraseGo v s
  | .eraseTimeout => Sys2Proof.Machine.execEraseTimeout s
  | .sspiFrame clocks input early => Sys2Proof.Machine.execSspiFrame clocks input early s
  | .sspiRequestTimeout => Sys2Proof.Machine.execSspiRequestTimeout s
  | .accEnable v toggles sdaHigh pulses => Sys2Proof.Machine.execAccEnable v toggles sdaHigh pulses s
  | .accStretchTimeout => Sys2Proof.Machine.execAccStretchTimeout s
  | .xferGo v r => Sys2Proof.Machine.execXferGo v r s
  | .accTargetWrite bytes => Sys2Proof.Machine.execAccTargetWrite bytes s
  | .accTargetRead n => Sys2Proof.Machine.execAccTargetRead n s
  | .lensPoll r => Sys2Proof.Machine.execLensPoll r s
  | .lensGridReadDone r => Sys2Proof.Machine.execLensGridReadDone r s
  | .clapper l => Sys2Proof.Machine.execClapper l s
  | .actStart l => Sys2Proof.Machine.execActStart l s
  | .malletStoreWrite b entries off bytes => Sys2Proof.Machine.execMalletStoreWrite b entries off bytes s
  | .malletEnd b => Sys2Proof.Machine.execMalletEnd b s
  | .target b => Sys2Proof.Machine.execTarget b s
  | .ramp b => Sys2Proof.Machine.execRamp b s
  | .waitPeak b => Sys2Proof.Machine.execWaitPeak b s
  | .peakReached b ma => Sys2Proof.Machine.execPeakReached b ma s
  | .waitPeakTimeout b => Sys2Proof.Machine.execWaitPeakTimeout b s
  | .hold b => Sys2Proof.Machine.execHold b s
  | .decayFast b => Sys2Proof.Machine.execDecayFast b s
  | .decaySlow b => Sys2Proof.Machine.execDecaySlow b s
  | .decayFloorReached b => Sys2Proof.Machine.execDecayFloorReached b s
  | .waitTime b => Sys2Proof.Machine.execWaitTime b s
  | .waitTimeEnd b => Sys2Proof.Machine.execWaitTimeEnd b s
  | .measureDip b => Sys2Proof.Machine.execMeasureDip b s
  | .measurePos b => Sys2Proof.Machine.execMeasurePos b s
  | .measureCurrent b ma => Sys2Proof.Machine.execMeasureCurrent b ma s
  | .branch b => Sys2Proof.Machine.execBranch b s
  | .dipDetected b ma us => Sys2Proof.Machine.execDipDetected b ma us s
  | .clapPosChange level => Sys2Proof.Machine.execClapPosChange level s
  | .driveStickWaitEnd b => Sys2Proof.Machine.execDriveStickWaitEnd b s
  | .malletTimeout b => Sys2Proof.Machine.execMalletTimeout b s
  | .overCurrent b ma => Sys2Proof.Machine.execOverCurrent b ma s
  | .vactUndervoltage mv => Sys2Proof.Machine.execVactUndervoltage mv s
  | .coilModelUpdate ma => Sys2Proof.Machine.execCoilModelUpdate ma s
  | .trip ns => Sys2Proof.Machine.execTrip ns s
  | .tripActiveClear v => Sys2Proof.Machine.execTripActiveClear v s
  | .syncOut l => Sys2Proof.Machine.execSyncOut l s
  | .syncOutPulseEnd => Sys2Proof.Machine.execSyncOutPulseEnd s
  | .timeMark l => Sys2Proof.Machine.execTimeMark l s
  | .ensEnableWrite v => Sys2Proof.Machine.execEnsEnableWrite v s
  | .drumSlot readBackOk => Sys2Proof.Machine.execDrumSlot readBackOk s
  | .masterBeacon r => Sys2Proof.Machine.execMasterBeacon r s
  | .memberBeacon r => Sys2Proof.Machine.execMemberBeacon r s
  | .slotClaim r => Sys2Proof.Machine.execSlotClaim r s
  | .masterClaim r => Sys2Proof.Machine.execMasterClaim r s
  | .leave r => Sys2Proof.Machine.execLeave r s
  | .drumCycle => Sys2Proof.Machine.execDrumCycle s
  | .mirrorApply => Sys2Proof.Machine.execMirrorApply s
  | .gongReceive ns stamp => Sys2Proof.Machine.execGongReceive ns stamp s
  | .powerModeRun => Sys2Proof.Machine.execPowerModeRun s
  | .powerModeRetain => Sys2Proof.Machine.execPowerModeRetain s
  | .powerModeSleep => Sys2Proof.Machine.execPowerModeSleep s
  | .powerModeStandby => Sys2Proof.Machine.execPowerModeStandby s
  | .wakeEdge ns ticks => Sys2Proof.Machine.execWakeEdge ns ticks s
  | .canRxWake ns ticks => Sys2Proof.Machine.execCanRxWake ns ticks s
  | .sleepTimerExpiry ticks => Sys2Proof.Machine.execSleepTimerExpiry ticks s
  | .aonWakeCommand ticks => Sys2Proof.Machine.execAonWakeCommand ticks s
  | .aonClearCommand cool => Sys2Proof.Machine.execAonClearCommand cool s
  | .sensorRead temps => Sys2Proof.Machine.execSensorRead temps s
  | .thermalShutdown sensor temp => Sys2Proof.Machine.execThermalShutdown sensor temp s
  | .referencesSettled readBack1 readBack2 => Sys2Proof.Machine.execReferencesSettled readBack1 readBack2 s
  | .trainDoneSend n ber1e9 => Sys2Proof.Machine.execTrainDoneSend n ber1e9 s
  | .rateSeekTimeout n => Sys2Proof.Machine.execRateSeekTimeout n s
  | .flashReadComplete p => Sys2Proof.Machine.execFlashReadComplete p s
  | .canBusError transmit delta => Sys2Proof.Machine.execCanBusError transmit delta s
  | .canIntegrationComplete => Sys2Proof.Machine.execCanIntegrationComplete s
  | .accStopCondition r => Sys2Proof.Machine.execAccStopCondition r s
  | .gongNRise => Sys2Proof.Machine.execGongNRise s
  | .railGoodTimeout d => Sys2Proof.Machine.execRailGoodTimeout d s
  | .vddAonRemoval => Sys2Proof.Machine.execVddAonRemoval s

end Sys2Proof.Machine
end

