-- ==== Sys2Proof/WellFormed.lean ====
section
/-! DEFINITION. Well-formed commands: the operands that can come from outside. A number written to an object fits the
object's type (11_kazluisk_dictionary.md R336); a row, a cluster, a CU, an entry, a TAG, a page or a point lies within its
range; the parts of a message fit the fields that carry them. No meaning rests on it: exec is total on every operand. -/

namespace Sys2Proof

/-- Entries of a scheduler or of a cluster's sequence (R46). -/
def Sched.entries : Sched → Nat
  | .package => 256
  | .die _ => 1024
  | .cluster => 30720

/-- The density, the page and the tap of a discovered flash (R365, R366). -/
def Sfdp.ok (f : Sfdp) : Bool := f.density < 2 ^ 64 && f.pageSize < 2 ^ 16 && f.taps.length = 32

/-- A dictionary request fits its fields (R345, R361, R362). -/
def DictReq.ok (r : DictReq) : Bool :=
  1 ≤ r.cmd && r.cmd ≤ 3 && r.tag < 2 ^ 8 && r.index < 2 ^ 16 && r.sub < 2 ^ 8 && r.offset < 2 ^ 32 && r.length < 2 ^ 32

/-- A packet fits its header (R318). -/
def RxPacket.ok (p : RxPacket) : Bool := p.seq < 2 ^ 16 && p.kind < 2 ^ 8

/-- A HELLO fits its control block (R317). -/
def HelloMsg.ok (m : HelloMsg) : Bool := m.version < 2 ^ 8 && m.rate < 2 ^ 8 && m.capacity < 2 ^ 16 && m.role < 4

/-- A transmission has the length of R404. -/
def DrumRx.ok (r : DrumRx) : Bool := r.bytes.length = 260

/-- The bytes read and the place of a loss fit a transfer (R379, R382). -/
def XferResult.ok : XferResult → Bool
  | .done bs => bs.length ≤ 8192
  | .dataNack k => k < 32
  | .arbLost k _ => k ≤ 8194
  | _ => true

/-- A session's client and TAG (R354, R355). -/
def ktpOk (c tag index sub : Nat) : Bool := c < 2 ^ 7 && tag < 2 ^ 4 && index < 2 ^ 16 && sub < 2 ^ 8

/-- A transfer's object and span (R356). -/
def spanOk (c tag index sub offset length : Nat) : Bool :=
  ktpOk c tag index sub && offset < 2 ^ 32 && length < 2 ^ 32

/-- WELL-FORMED: every operand can be sent. -/
def Instr.wellFormed : Instr → Bool
  | .aonPowerOn | .stage1Entry | .stage3Entry | .railGood _ | .railLost _ | .beat | .dltCopyCompare _ _ | .dltCopyReload _
  | .refInLoss | .refInReturn | .strokeForward _ | .rimshotFire | .syncInEdge _ _ | .sourceEventMissed _ | .dltStep
  | .gong _ | .gongLowEnd | .bell _ | .commitShadow _ | .swapBank _ | .swapProg _ | .frameStart _ | .frameEntryRun _
  | .inject _ | .injTrigEdge | .mcStart _ | .mcStop | .mcCalZero | .mcCalFullScale | .mcCalStepDone => true
  | .resetNLow ns => ns < 2 ^ 32
  | .stage2Entry f => f.all Sfdp.ok
  | .strokeEntryWrite sc off bytes => off + bytes.length ≤ 32 * sc.entries
  | .strokeFire sc e => e < sc.entries
  | .lateStrokeFire sc e => e < sc.entries
  | .rimshotGo v => v < 2 ^ 8
  | .syncModeWrite v => v < 2 ^ 8
  | .stepGo v => v < 2 ^ 8
  | .slotEnd _ xs => xs.all fun (x : Sample) => x.cu < 30720
  | .frameGate ts => ts.all fun (t : Nat × Nat) => t.1 < 1920 && t.2 < 2 ^ 20
  | .sunTrippedClear v => v < 2 ^ 8
  | .mcOutput raw _ => -(2 ^ 31) ≤ raw && raw < 2 ^ 31
  | .mcRdWrite v => v < 2 ^ 16
  | .mcFilterWrite _ v => v < 2 ^ 32
  | .mcInjGo v => v < 2 ^ 8
  | .itemClaim _ | .endEntryRun _ | .claimTimeout _ | .seamBlockReceive _ _ | .enginePllLock _ => true
  | .itemRelease _ row => row < 640
  | .checkCompare _ row => row < 640 || row = 0x3FF
  | .engineFault _ code => code < 2 ^ 8
  | .haloArrival _ _ ws => ws.all fun (w : Int × Word) => -8 ≤ w.1 && w.1 < 648
  | .progSlotWrite _ off bytes => off + bytes.length ≤ 2 ^ 15
  | .tableAreaWrite off bytes => off + bytes.length ≤ 2 ^ 17
  | .fEngWrite _ v => v < 2 ^ 16
  | .vddeMeasure _ mv => mv < 2 ^ 16
  | .smov _ _ | .sadd _ _ | .ssub _ _ | .sand _ _ | .sor _ _ | .sshl _ _ | .sshr _ _ | .scmp _ _ | .sbr _ _ | .sloop _ _
  | .scall _ _ | .sret _ _ | .pfx _ _ | .stst _ _ | .stl _ _ | .vadd _ _ | .vsub _ _ | .vmul _ _ | .vmac _ _ | .vshr _ _
  | .vsat _ _ | .vmin _ _ | .vmax _ _ | .vabs _ _ | .vcmp _ _ | .vsel _ _ | .vtag _ _ | .vstat _ _
  | .vmom _ _ | .emitLine _ _ | .emitRecord _ _ | .emitRemote _ _ | .waits _ _ | .waitsRelease _ _ _ | .engEvent _
  | .lease _ _ | .leaseGrant _ | .leaseWaitGiveUp _ | .free _ _ | .engineBell _ _ | .histogramMerge
  | .shadeGridWrite _ | .accTargetWrite _ => true
  | .itemCommit q => q.upset.all (· < 2 ^ 32)
  | .vlut q _ => q.upset.all (· < 2 ^ 32)
  | .vnbr q _ => q.upset.all (· < 2 ^ 32)
  | .ldpx _ _ up => up.all (· < 2 ^ 32)
  | .ldcf _ _ up => up.all (· < 2 ^ 32)
  | .ldst _ _ up => up.all (· < 2 ^ 32)
  | .ldl _ _ up => up.all (· < 2 ^ 32)
  | .vhist _ _ up => up.all (· < 2 ^ 32)
  | .gimbalRateWrite y p r _ =>
    [y, p, r].all fun (x : Option Int) => x.all fun v => -(2 ^ 31) ≤ v && v < 2 ^ 31
  | .stdReload v => v < 2 ^ 8
  | .calStart _ | .calTwoPointZero | .calTwoPointFullScale | .calClapperRefresh | .calAbort | .calRunFinish _
  | .clapRefreshTimeout | .offsetUpdateWrite _ | .sceneUpdate | .imgSaveActive | .imgSaveInactive | .imgSaveComplete
  | .imgLoad | .imgLoadComplete | .commitCheckDone | .rollBoundary | .viewOpen _ | .viewClose _ | .frameRecordWrite _
  | .viewStallTimeout _ | .recordPageFlush _ => true
  | .calDriftPoint point => 1 ≤ point && point ≤ 4
  | .inactiveBanksWrite off bytes => off + bytes.length ≤ 2 ^ 29
  | .commitGo v => v < 2 ^ 8
  | .allocApply v => v < 2 ^ 8
  | .linePageWrite _ line => line < 2 ^ 16
  | .creditGo v => v < 2 ^ 8
  | .laneEnableWrite _ v => v < 2
  | .laneRestart _ v => v < 2 ^ 8
  | .codewordReceive _ ms ps ks => ms.length = 514 && ps.length = 30 && (ms ++ ps).all (· < 1024) && ks.length ≤ 20 && ks.all (· ≤ 17)
  | .hello _ m => m.ok
  | .tapReq _ tap op preset num => tap < 2 ^ 8 && op < 2 ^ 8 && preset < 2 ^ 8 && num < 2 ^ 8
  | .tapResp _ num status _ => num < 2 ^ 8 && status < 2 ^ 8
  | .tapReqRetry _ | .trainDone _ | .trainLimitExpiry _ | .helloTimeout _ | .holdoffExpiry _ | .replayTimeout _
  | .linkStallTimeout _ | .timeSyncSend _ | .timeSync _ _ _ _ | .timeReq _ _ _ | .timeResp _ _ _ | .roleReqRetry _
  | .eyePointDone _ _ => true
  | .pktReceive _ p => p.ok
  | .ack _ seq => seq < 2 ^ 16
  | .nak _ seq => seq < 2 ^ 16
  | .credit _ seq _ _ _ => seq < 2 ^ 16
  | .down _ cause => cause < 2 ^ 8
  | .ttRoleReq _ v => v < 2 ^ 8
  | .roleReq _ role num => role < 2 ^ 8 && num < 2 ^ 8
  | .roleResp _ num status => num < 2 ^ 8 && status < 2 ^ 8
  | .eyeGo v => v < 2 ^ 8
  | .dictServe | .heartbeatSend | .claimListenEnd | .claimWaitEnd | .claimRetry | .canBusOffRecovery | .canClassicFrame
  | .canBellSend | .canTrackSend | .canFocusSend | .statusSend => true
  | .registerWrite r => r.ok && r.cmd = 2
  | .claim n _ => n < 2 ^ 7
  | .heartbeat n _ state => n < 2 ^ 7 && state < 2 ^ 8
  | .nodeExpire n => n < 2 ^ 7
  | .canApply v => v < 2 ^ 8
  | .ktpOpen c server _ tag => c < 2 ^ 7 && server < 2 ^ 8 && tag < 2 ^ 4
  | .ktpRead c tag index sub => ktpOk c tag index sub
  | .ktpWrite c tag index sub data => ktpOk c tag index sub && data.length ≤ 60
  | .readActive c tag index sub => ktpOk c tag index sub
  | .segRead c tag index sub off len => spanOk c tag index sub off len
  | .segWrite c tag index sub off len => spanOk c tag index sub off len
  | .segData c _ _ data => c < 2 ^ 7 && data.length ≤ 63
  | .bulkRead c tag index sub off len => spanOk c tag index sub off len
  | .bulkWrite c tag index sub off len => spanOk c tag index sub off len
  | .bulkData c seq data => c < 2 ^ 7 && seq < 2 ^ 6 && data.length ≤ 63
  | .bulkAck c status lastSeq next => c < 2 ^ 7 && status < 2 ^ 8 && lastSeq < 2 ^ 8 && next < 2 ^ 8
  | .bulkEnd c _ => c < 2 ^ 7
  | .abort c code => c < 2 ^ 7 && code < 2 ^ 8
  | .ktpTimeout c => c < 2 ^ 7
  | .bellAck seq => seq < 2 ^ 16
  | .flashWindowWrite off bytes => off + bytes.length ≤ 2 ^ 31
  | .flashStatusPoll _ | .flashProgramTimeout | .eraseTimeout | .sspiRequestTimeout | .accStretchTimeout => true
  | .eraseGo v => v < 2 ^ 8
  | .sspiFrame clocks _ _ => clocks < 2 ^ 16
  | .accEnable v _ _ pulses => v < 2 ^ 8 && pulses ≤ 9
  | .xferGo v r => v < 2 ^ 8 && r.ok
  | .accTargetRead n => n < 2 ^ 16
  | .lensPoll r => r.ok
  | .lensGridReadDone r => r.ok
  | .accStopCondition r => r.test.pulses ≤ 9 && r.res.ok
  | .clapper _ | .actStart _ | .malletEnd _ | .target _ | .ramp _ | .waitPeak _ | .waitPeakTimeout _ | .hold _
  | .decayFast _ | .decaySlow _ | .decayFloorReached _ | .waitTime _ | .waitTimeEnd _ | .measureDip _ | .measurePos _
  | .branch _ | .clapPosChange _ | .driveStickWaitEnd _ | .malletTimeout _ | .syncOut _ | .syncOutPulseEnd
  | .timeMark _ => true
  | .malletStoreWrite _ _ off bytes => off + bytes.length ≤ 2 ^ 16
  | .peakReached _ ma => ma < 2 ^ 16
  | .measureCurrent _ ma => ma < 2 ^ 16
  | .dipDetected _ ma us => ma < 2 ^ 16 && us < 2 ^ 32
  | .overCurrent _ ma => ma < 2 ^ 16
  | .vactUndervoltage mv => mv < 2 ^ 16
  | .coilModelUpdate ma => ma.length = 8
  | .trip ns => ns < 2 ^ 32
  | .tripActiveClear v => v < 2 ^ 8
  | .ensEnableWrite v => v < 2
  | .drumSlot _ | .drumCycle | .mirrorApply | .powerModeRun | .powerModeRetain | .powerModeSleep | .powerModeStandby
  | .gongNRise | .canIntegrationComplete | .flashReadComplete _ | .rateSeekTimeout _
  | .referencesSettled _ _ | .aonClearCommand _ | .railGoodTimeout _ | .vddAonRemoval => true
  | .masterBeacon r => r.ok
  | .memberBeacon r => r.ok
  | .slotClaim r => r.ok
  | .masterClaim r => r.ok
  | .leave r => r.ok
  | .gongReceive ns _ => ns < 2 ^ 32
  | .wakeEdge ns ticks => ns < 2 ^ 32 && ticks < 2 ^ 48
  | .canRxWake ns ticks => ns < 2 ^ 32 && ticks < 2 ^ 48
  | .sleepTimerExpiry ticks => ticks < 2 ^ 48
  | .aonWakeCommand ticks => ticks < 2 ^ 48
  | .sensorRead ts => ts.length = 40
  | .thermalShutdown _ temp => -(2 ^ 15) ≤ temp && temp < 2 ^ 15
  | .trainDoneSend _ ber => ber < 2 ^ 32
  | .canBusError _ delta => delta < 2 ^ 8

end Sys2Proof
end

