-- ==== Sys2Proof/Safety.lean ====
section
/-! DEFINITION. What the statements mean by a sound state: the stores of State in their one canonical form, and a queue of
bells no longer than R359 allows. -/

namespace Sys2Proof.Machine

/-- CANONICAL: the byte memory and the object store list rising keys, and no entry equal to what an unlisted key reads as, so
that equal contents are equal data (guide, Memory; R338 for the defaults). -/
abbrev State.Canonical (s : State) : Prop := Mem.Wf s.mem ∧ Cells.Wf objDefault s.obj

/-- The bell queue holds at most 64 records (R359). -/
abbrev State.BellsFit (s : State) : Prop := s.dict.bells.length ≤ 64

/-- A command answers a next state of which `P` holds. -/
abbrev Gives (c : Instr) (s : State) (P : State → Prop) : Prop := ∃ t, exec c s = .next t ∧ P t

/-- Every byte of the memory reads as before. -/
abbrev SameMem (s t : State) : Prop := ∀ a, t.byte a = s.byte a

/-- Every object but those of the keys listed reads as before. -/
abbrev SameObj (s t : State) (keys : List Nat) : Prop := ∀ k, k ∉ keys → t.get k = s.get k

/-- The 32-bit count at key `k` has risen by one, saturating (R453). -/
abbrev Counted (s t : State) (k : Nat) : Prop := t.get k = min (2 ^ 32 - 1) (s.get k + 1) % 2 ^ 32

/-- A bell has joined a queue that had room for it (R359, R360). -/
abbrev Rings (s t : State) (code arg : Nat) : Prop := s.dict.bells.length < 64 →
  t.dict.bells = s.dict.bells ++ [⟨BitVec.ofNat 16 (s.nat Obj.BELL_NEXT_SEQ), BitVec.ofNat 16 code, BitVec.ofNat 32 arg, s.now, false⟩]

/-- The state after a command in the state of a Lean test: the same state where it does not answer a next one. -/
def after (c : Instr) (s : State) : State :=
  match exec c s with
  | .next t => t
  | _ => s

end Sys2Proof.Machine
end

