-- ==== Sys2Proof/Certificates/Slice0/Obligations.lean ====
section
/-! DEFINITION. The statements for the provers. A command's statement says when it completes, what it changes and what it
leaves: a record equation { t with f := s.f } = s says that nothing but the field f has changed. -/

open Sys2Proof Sys2Proof.Machine

/-- For every command c and state s whose queue is c followed by rest, step s is exec c on s with the queue rest. On an
empty queue the block idles: step answers next s (the model's choice, log entry 1). -/
def Obligations.StepRunsTheFrontCommand : Prop :=
  (∀ (c : Instr) (rest : List Instr) (s : State), s.pending = c :: rest → step s = exec c { s with pending := rest }) ∧
  (∀ s : State, s.pending = [] → step s = .next s)

/-- At reset the byte memory and the object store are in their canonical form, every object reads its default (R338),
every byte reads what an unlisted byte reads as (log entry 6), the queue is empty and the core starts there. -/
def Obligations.CanonicalAtReset : Prop :=
  State.reset.Canonical ∧ (∀ k, State.reset.get k = objDefault k) ∧ (∀ a, State.reset.byte a = memDefault a) ∧
  State.reset.pending = [] ∧ Sys2Proof.core.reset = State.reset

/-- For every state whose byte memory and object store are canonical (keys rising, no entry equal to what an unlisted key
reads as), whatever command stands in front of the queue: if the step answers a next state, both are canonical there.
Equal contents are therefore equal data in every state that a run reaches. -/
def Obligations.StepKeepsCanonicalForm : Prop :=
  ∀ s t : State, s.Canonical → step s = .next t → t.Canonical

/-- For every state and every command: if the step answers a next state, the factory memory (the factory Masol table,
trims, dead CUs, serial number) is what it was, and the queue is the old queue without its front. Resets, power modes and
removal of VDD_AON are included. -/
def Obligations.StepKeepsTheFactoryMemory : Prop :=
  ∀ s t : State, step s = .next t → t.otp = s.otp ∧ t.pending = s.pending.tail

/-- exec never faults and never refuses: the part itself goes on after every command, whatever its operands and the state.
What each command changes is said by the other statements. -/
def Obligations.EveryCommandAnswersANextState : Prop :=
  ∀ (c : Instr) (s : State), ∃ t, exec c s = .next t

/-! ## Drumline time and strokes (02) -/

/-- No lane has anything to send of its own accord at a beat (R316). -/
def LanesQuiet (s : State) : Prop := ∀ n : Fin 8, s.laneState n ≠ 3 ∧ (s.laneState n = 2 → (s.laneRec n).sentDone = false)

/-- The state after `n` beats. -/
def beatsAfter : Nat → State → State
  | 0, s => s
  | n + 1, s => after .beat (beatsAfter n s)

/-- f is FREQ_ADJ. The increment is 320·|f|·10^-9 in units of 2^-32, rounded to nearest with halves upwards, taken anew
from FREQ_ADJ at every beat. With the drum domain on, a beat adds it to the accumulator; on overflow the advance is 321
LSB for a positive f and 319 for a negative one, else 320; DLT and every copy move by it. Nothing else changes but the
marks that the strokes of the beat have left, where no lane sends of its own accord and no low-power mode is being
entered. After n beats DLT has moved by 320 n plus or minus floor((acc + n·increment) / 2^32); at 100 ppm from an empty
accumulator that is one beat in 31.25: after 31,250 k beats, for every k up to 100,000, DLT has moved by 1,000 k LSB more
or less, so 640,000 LSB (10 µs) in 20,000,000 beats (0.1 s) and 64,000,000 LSB (1 ms) in 2·10^9 beats (10 s), each less
one LSB that the rounded increment still holds. With the drum domain off a beat changes nothing. -/
def Obligations.BeatsSlewDltByTheFractionalAccumulator : Prop :=
  (∀ f : Int, slewInc f = (2 * 320 * f.natAbs * 2 ^ 32 + 10 ^ 9) / (2 * 10 ^ 9)) ∧
  (∀ s : State, s.drumOn = true → s.power.entering = none → Gives .beat s fun t =>
    let sum := s.clk.acc.toNat + slewInc (s.get Obj.FREQ_ADJ)
    t.clk.acc = BitVec.ofNat 32 sum ∧
    t.clk.advance = (if 2 ^ 32 ≤ sum then (if 0 < s.get Obj.FREQ_ADJ then 321 else 319) else 320) ∧
    t.clk.dlt = s.clk.dlt + BitVec.ofNat 64 t.clk.advance ∧
    (∀ q : Fin 4, t.clk.copies[q] = s.clk.copies[q] + BitVec.ofNat 64 t.clk.advance) ∧
    t.clk.beats = s.clk.beats + 1 ∧ (LanesQuiet s → t.strokes = { s.strokes with replaced := [], landed := [] } ∧
      { t with clk := s.clk, strokes := s.strokes } = s)) ∧
  (∀ s : State, s.drumOn = false → exec .beat s = .next s) ∧
  (∀ (n : Nat) (s : State), s.drumOn = true → s.power.entering = none → -100000 ≤ s.get Obj.FREQ_ADJ → s.get Obj.FREQ_ADJ ≤ 100000 →
    let ovf : Nat := (s.clk.acc.toNat + n * slewInc (s.get Obj.FREQ_ADJ)) / 2 ^ 32
    (beatsAfter n s).clk.dlt = s.clk.dlt + BitVec.ofNat 64 (320 * n) +
      BitVec.ofInt 64 (if 0 < s.get Obj.FREQ_ADJ then (ovf : Int) else -(ovf : Int))) ∧
  (∀ (k : Nat) (s : State), s.drumOn = true → s.power.entering = none → s.get Obj.FREQ_ADJ = 100000 ∨ s.get Obj.FREQ_ADJ = -100000 → s.clk.acc = 0 →
    0 < k → k ≤ 100000 → ∃ moved : Nat, 1000 * k - 1 ≤ moved ∧ moved ≤ 1000 * k ∧
      (beatsAfter (31250 * k) s).clk.dlt = s.clk.dlt + BitVec.ofNat 64 (320 * (31250 * k)) +
        BitVec.ofInt 64 (if 0 < s.get Obj.FREQ_ADJ then (moved : Int) else -(moved : Int)))

/-- DLT_COPY_COMPARE: a copy found equal changes nothing else; one found different is due for a reload and GONG_N is
pulled with cause 0x0021. DLT_COPY_RELOAD: outside the slots of a frame the copy takes the control die's count; while
slots run it waits. REF_IN_LOSS rings bell 0x0201 with ARG 0 and DLT keeps its value; REF_IN_RETURN ends it. -/
def Obligations.CopiesComparedAndReloaded : Prop :=
  (∀ (q : Fin 4) (s : State), s.drumOn = true → exec (.dltCopyCompare q s.clk.dlt) s =
    .next { s with clk := { s.clk with copies := s.clk.copies.set q s.clk.dlt } }) ∧
  (∀ (q : Fin 4) (d : Dlt) (s : State), s.drumOn = true → d ≠ s.clk.dlt → Gives (.dltCopyCompare q d) s fun t =>
    t.clk.copies[q] = d ∧ t.clk.reloadDue[q] = true ∧ t.clk.dlt = s.clk.dlt ∧ t.lands.gongOwn = true ∧
    t.ens.gongCause = some 0x21 ∧ { t with clk := s.clk, lands := s.lands, ens := s.ens } = s) ∧
  (∀ (q : Fin 4) (s : State), s.clk.reloadDue[q] = true → s.slotsRunning = false → Gives (.dltCopyReload q) s fun t =>
    t.clk.copies[q] = s.clk.dlt ∧ t.clk.reloadDue[q] = false ∧ t.clk.dlt = s.clk.dlt ∧ { t with clk := s.clk } = s) ∧
  (∀ (q : Fin 4) (s : State), s.slotsRunning = true → exec (.dltCopyReload q) s = .next s) ∧
  (∀ s : State, s.clk.refLost = false → s.drumOn = true → s.dict.bells.length < 64 → Gives .refInLoss s fun t =>
    t.clk = { s.clk with refLost := true } ∧ t.mem = s.mem ∧
    t.dict.bells = s.dict.bells ++ [⟨BitVec.ofNat 16 (s.nat Obj.BELL_NEXT_SEQ), 0x0201, 0, s.now, false⟩]) ∧
  (∀ s : State, Gives .refInReturn s fun t => t.clk = { s.clk with refLost := false } ∧ { t with clk := s.clk } = s)

/-- For every scheduler, every entry of it and every 32 bytes: an accepted write puts the record there with the fields
that the words spell, FIRES 0, applying from the next beat (the content that it replaces decides until then), and leaves
every other entry, memory, frames and lanes; a refused one leaves every entry as it is and counts once in REFUSED,
saturating. A partial entry is always refused. -/
def Obligations.SchedulerEntryAcceptedOrRefusedAlone : Prop :=
  (∀ (sc : Sched) (e : Nat) (bs : List Byte) (s : State), e < sc.entries → bs.length = 32 →
    s.entryOk sc (32 * e) (Stroke.parse bs) = true → Gives (.strokeEntryWrite sc (32 * e) bs) s fun t =>
      (∃ x, t.strokes.at (schedKey sc e) = some x ∧ x.words = (Stroke.parse bs).words ∧ x.fires = 0 ∧
        (x.state = 1 ∨ x.state = 2 ∨ x.state = 5) ∧ (x.action = 0 → x.state = 5) ∧ x.applies = s.clk.beats + 1) ∧
      (∀ k, k ≠ schedKey sc e → t.strokes.at k = s.strokes.at k) ∧
      (∀ old, s.strokes.deciding (schedKey sc e) = some (old, false) → old.applies ≤ s.clk.beats → old.finished = false →
        t.strokes.deciding (schedKey sc e) = some (old, true)) ∧
      t.strokes.inflight = s.strokes.inflight ∧ t.strokes.rimshot = s.strokes.rimshot ∧
      { t with strokes := s.strokes, ens := s.ens } = s) ∧
  (∀ (sc : Sched) (e : Nat) (bs : List Byte) (s : State), e < sc.entries → 0 < bs.length → bs.length ≤ 32 →
    (bs.length < 32 ∨ s.entryOk sc (32 * e) (Stroke.parse bs) = false) → Gives (.strokeEntryWrite sc (32 * e) bs) s fun t =>
      t.strokes = s.strokes ∧ SameMem s t ∧ SameObj s t [Obj.STROKE_REFUSED] ∧
      t.get Obj.STROKE_REFUSED = min (2 ^ 32 - 1) (s.get Obj.STROKE_REFUSED + 1) % 2 ^ 32 ∧ { t with obj := s.obj } = s)

/-- STROKE_FIRE of a held entry whose launch time DLT has reached (and which is forwarded where it must be) with the
copies of the dies equal to it, or of the content that a write in this beat has replaced, which leaves the new content
alone, LATE_STROKE_FIRE of a late one, and RIMSHOT_FIRE each put exactly one stroke under way and leave memory. FIRES
counts one more, saturating at 65,535. A late firing reads STATE 4; a one-shot entry reads 3; LATE counts late firings.
RIMSHOT_GO of an admissible rimshot makes it pending and RS_GO busy; STROKE_FORWARD marks the occurrence as forwarded 400
beats ahead. -/
def Obligations.StrokesFireOnceAndCount : Prop :=
  (∀ (sc : Sched) (e : Nat) (x : Stroke) (s : State), s.strokes.deciding (schedKey sc e) = some (x, false) →
    s.power.trims = true → (∀ q : Fin 4, s.clk.copies[q] = s.clk.dlt) →
    x.finished = false → x.lateDue = false → x.applies ≤ s.clk.beats → Dlt.reached (s.schedNow sc e) x.next = true →
    (forwards sc x = true → x.forwarded = true) → s.slotMatches x = true → Gives (.strokeFire sc e) s fun t =>
      (∃ f, t.strokes.inflight = s.strokes.inflight ++ [f] ∧ f.action = x.action ∧ f.l.arg = x.arg ∧ f.beat = s.clk.beats) ∧
      (∃ y, t.strokes.at (schedKey sc e) = some y ∧ y.fires = min 0xFFFF (x.fires + 1) ∧ y.words = x.words ∧
        (x.period = 0 → y.state = 3)) ∧
      (∀ k, k ≠ schedKey sc e → t.strokes.at k = s.strokes.at k) ∧
      { t with strokes := s.strokes, clk := s.clk } = s ∧ t.clk = { s.clk with running := s.clk.running || x.action == 0x20 }) ∧
  (∀ (sc : Sched) (e : Nat) (x : Stroke) (s : State), s.strokes.deciding (schedKey sc e) = some (x, true) →
    s.power.trims = true → x.finished = false → x.lateDue = false → x.applies ≤ s.clk.beats → s.slotMatches x = true →
    (forwards sc x = true → x.forwarded = true) → Dlt.reached (s.schedNow sc e) x.next = true → Gives (.strokeFire sc e) s fun t =>
      (∃ f, t.strokes.inflight = s.strokes.inflight ++ [f] ∧ f.action = x.action ∧ f.l.arg = x.arg ∧ f.beat = s.clk.beats) ∧
      t.strokes.entries = s.strokes.entries ∧ { t with strokes := s.strokes, clk := s.clk } = s) ∧
  (∀ (sc : Sched) (e : Nat) (x : Stroke) (s : State), s.strokes.deciding (schedKey sc e) = some (x, false) → s.power.trims = true →
    x.finished = false → x.lateDue = true → x.applies ≤ s.clk.beats → s.slotMatches x = true →
    Gives (.lateStrokeFire sc e) s fun t =>
      (∃ f, t.strokes.inflight = s.strokes.inflight ++ [f] ∧ f.action = x.action ∧ f.beat = s.clk.beats) ∧
      (∃ y, t.strokes.at (schedKey sc e) = some y ∧ y.state = 4 ∧ y.fires = min 0xFFFF (x.fires + 1) ∧ y.lateDue = false) ∧
      t.mem = s.mem ∧ t.get Obj.STROKE_LATE = min (2 ^ 32 - 1) (s.get Obj.STROKE_LATE + 1) % 2 ^ 32) ∧
  (∀ (e : Fin 256) (x : Stroke) (s : State), s.strokes.at e.val = some x → x.finished = false → forwards .package x = true →
    s.power.trims = true → beatsTo s.now x.next ≤ 400 → Gives (.strokeForward e) s fun t =>
      t.strokes.at e.val = some { x with forwarded := true } ∧ { t with strokes := s.strokes } = s) ∧
  (∀ s : State, s.strokes.rimshot = none → entryForm .package 0 s.rimshotEntry = true →
    (s.power.trims = true ∨ forwards .package s.rimshotEntry = false) → Gives (.rimshotGo 1) s fun t =>
      t.get Obj.RS_GO = 3 ∧ (t.strokes.rimshot.map (·.action)) = some s.rimshotEntry.action ∧
      t.strokes.entries = s.strokes.entries ∧ SameMem s t ∧ SameObj s t [Obj.RS_GO]) ∧
  (∀ (f : Fired) (s : State), s.strokes.rimshot = some f → f.l.level ≠ 6 → Gives .rimshotFire s fun t =>
      t.strokes.rimshot = none ∧ t.strokes.inflight.length = s.strokes.inflight.length + 1 ∧ t.get Obj.RS_GO = 1 ∧
      t.get Obj.RS_FIRED_DLT = s.now.toNat ∧ SameMem s t ∧ SameObj s t [Obj.RS_GO, Obj.RS_FIRED_DLT])

/-- SYNC_IN: an edge that opens a run or lies in its window is stamped in LAST_EDGE_DLT; one outside every window counts
once in MISS_COUNT and changes nothing else. A missed event before qualification ends the run. A write of 1 or 2 to
SYNC_MODE with SYNC_IN in PRIORITY and no source qualified since reset makes LOCK_STATE read 1. STEP_GO: a relative step
of 0 reads status 3; a backward one of a running part without FORCE reads 2 and no step is due; else a step is due from
the next beat. DLT_STEP: DLT and all copies take the new value, LAST_STEP_DLT holds it and a backward step marks every
frame in progress TIME_STEP, a forward one none; the deadline of a frame follows the next occurrence of its repeating
entry, and nothing else of a frame changes. -/
def Obligations.TimeSourcesAndSteps : Prop :=
  (∀ (f : Bool) (d : Dlt) (s : State), s.nat Obj.SYNC_MODE ≠ 0 → (f = true ↔ s.nat Obj.SYNC_EDGE = 1) →
    ((s.clk.sources[sourceIdx .syncIn]).run = 0 ∨
      (s.clk.sources[sourceIdx .syncIn]).inWindow d (s.sourcePeriod .syncIn) = true) → Gives (.syncInEdge f d) s fun t =>
      t.get Obj.LAST_EDGE_DLT = d.toNat ∧ (t.clk.sources[sourceIdx .syncIn]).last = d ∧
      (t.clk.sources[sourceIdx .syncIn]).missed = 0 ∧ t.clk.dlt = s.clk.dlt ∧ SameMem s t) ∧
  (∀ (f : Bool) (d : Dlt) (s : State), s.nat Obj.SYNC_MODE ≠ 0 → (f = true ↔ s.nat Obj.SYNC_EDGE = 1) →
    (s.clk.sources[sourceIdx .syncIn]).run ≠ 0 →
    (s.clk.sources[sourceIdx .syncIn]).inWindow d (s.sourcePeriod .syncIn) = false → Gives (.syncInEdge f d) s fun t =>
      t.get Obj.MISS_COUNT = min (2 ^ 32 - 1) (s.get Obj.MISS_COUNT + 1) % 2 ^ 32 ∧ SameObj s t [Obj.MISS_COUNT] ∧
      { t with obj := s.obj } = s) ∧
  (∀ (src : TimeSource) (s : State), (s.clk.sources[sourceIdx src]).run ≠ 0 →
    (s.clk.sources[sourceIdx src]).qualified = false →
    (s.sourcePeriod src : Int) < 100 * Dlt.diff s.now ((s.clk.sources[sourceIdx src]).last +
      BitVec.ofNat 64 (((s.clk.sources[sourceIdx src]).missed + 1) * s.sourcePeriod src)) →
    Gives (.sourceEventMissed src) s fun t => (t.clk.sources[sourceIdx src]).run = 0 ∧ t.clk.dlt = s.clk.dlt ∧ SameMem s t) ∧
  (∀ (v : Nat) (s : State), v = 1 ∨ v = 2 → (priorityList (s.nat Obj.PRIORITY)).contains 3 = true →
    (∀ i : Fin 3, (s.clk.sources[i]).qualified = false ∧ (s.clk.sources[i]).everQual = false) →
    Gives (.syncModeWrite v) s fun t => t.get Obj.LOCK_STATE = 1 ∧ t.get Obj.SYNC_MODE = v ∧ t.clk = s.clk ∧ SameMem s t) ∧
  (∀ s : State, s.nat Obj.STEP_MODE ≠ 0 → s.get Obj.STEP_VALUE = 0 → Gives (.stepGo 1) s fun t =>
    t.get Obj.STEP_GO = 3 ∧ SameObj s t [Obj.STEP_GO] ∧ { t with obj := s.obj } = s) ∧
  (∀ s : State, s.nat Obj.STEP_MODE ≠ 0 → s.get Obj.STEP_VALUE < 0 → s.clk.running = true → s.nat Obj.FORCE = 0 →
    Gives (.stepGo 1) s fun t => t.get Obj.STEP_GO = 2 ∧ SameObj s t [Obj.STEP_GO] ∧ { t with obj := s.obj } = s) ∧
  (∀ s : State, s.nat Obj.STEP_MODE ≠ 0 → s.get Obj.STEP_VALUE ≠ 0 →
    (0 < s.get Obj.STEP_VALUE ∨ s.clk.running = false ∨ s.nat Obj.FORCE ≠ 0) → Gives (.stepGo 1) s fun t =>
      t.clk.stepDue = some (s.clk.beats + 1, false, s.get Obj.STEP_VALUE) ∧ t.clk.dlt = s.clk.dlt ∧ { t with clk := s.clk } = s) ∧
  (∀ (b : Nat) (v : Int) (s : State), s.clk.stepDue = some (b, false, v) → b ≤ s.clk.beats → Gives .dltStep s fun t =>
      t.clk.dlt = Dlt.add s.clk.dlt v ∧ (∀ q : Fin 4, t.clk.copies[q] = t.clk.dlt) ∧ t.clk.stepDue = none ∧
      t.get Obj.LAST_STEP_DLT = t.clk.dlt.toNat ∧ t.focal.frames.length = s.focal.frames.length ∧
      (v < 0 → ∀ f ∈ t.focal.frames, f.timeStep = true) ∧
      (∀ (i : Nat) (f g : Frame), s.focal.frames[i]? = some f → t.focal.frames[i]? = some g →
        { g with deadline := f.deadline, timeStep := f.timeStep } = f ∧ (0 ≤ v → g.timeStep = f.timeStep) ∧
        (f.entry = none → g.deadline = f.deadline) ∧
        (∀ k x, f.entry = some k → t.strokes.at k = some x → x.period ≠ 0 → x.state ≠ 3 → x.state ≠ 5 → g.deadline = x.next)) ∧
      { t.focal with frames := s.focal.frames } = s.focal ∧ SameMem s t)

/-- For a stroke that is under way and first at its beat (u is the state after it has left the strokes under way; GONG,
BELL and TIME_MARK leave their time in LANDING_DLT of the control domain): SYNC_OUT drives the pulse for ARG beats;
TIME_MARK copies DLT into mark slot ARG[2:0]; GONG pulls GONG_N low for 2,000 beats with cause ARG; BELL queues a record
with code ARG[15:0]. The pulse and the pull end at their beat. -/
def Obligations.ControlStrokesLand : Prop :=
  (∀ (l : Landing) (s u : State), (s.landing 0x01 l = some u ∨ s.landing 0x02 l = some u ∨ s.landing 0x61 l = some u) →
    u.get (Obj.LANDING_DLT 22) = s.now.toNat ∧ SameObj s u [Obj.LANDING_DLT 22] ∧
    u.strokes.inflight.length + 1 = s.strokes.inflight.length ∧ { u with strokes := s.strokes, obj := s.obj } = s) ∧
  (∀ (l : Landing) (s u : State), s.landing 0x60 l = some u → Gives (.syncOut l) s fun t =>
    t.clk = { u.clk with syncOut := true, syncOutEnd := u.clk.beats + l.arg.toNat } ∧ { t with clk := u.clk } = u) ∧
  (∀ s : State, s.clk.syncOut = true → s.clk.syncOutEnd ≤ s.clk.beats → Gives .syncOutPulseEnd s fun t =>
    t.clk = { s.clk with syncOut := false } ∧ { t with clk := s.clk } = s) ∧
  (∀ (l : Landing) (s u : State), s.landing 0x61 l = some u → Gives (.timeMark l) s fun t =>
    t.get (Obj.TIME_MARK (l.arg.toNat % 8)) = s.now.toNat ∧ SameObj u t [Obj.TIME_MARK (l.arg.toNat % 8)] ∧
    { t with obj := u.obj } = u) ∧
  (∀ (l : Landing) (s u : State), s.landing 0x01 l = some u → Gives (.gong l) s fun t =>
    t.lands = { u.lands with gongOwn := true, gongEnd := u.clk.beats + 2000 } ∧
    t.ens = { u.ens with gongCause := some (BitVec.ofNat 16 l.arg.toNat) } ∧
    { t with lands := u.lands, ens := u.ens } = u) ∧
  (∀ s : State, s.lands.gongOwn = true → s.lands.gongEnd ≤ s.clk.beats → Gives .gongLowEnd s fun t =>
    t.lands = { s.lands with gongOwn := false } ∧ { t with lands := s.lands } = s) ∧
  (∀ (l : Landing) (s u : State), s.landing 0x02 l = some u → u.dict.bells.length < 64 → Gives (.bell l) s fun t =>
    t.dict.bells = u.dict.bells ++ [⟨BitVec.ofNat 16 (u.nat Obj.BELL_NEXT_SEQ), BitVec.ofNat 16 l.arg.toNat, 0, u.now, false⟩] ∧
    SameObj u t [Obj.BELL_NEXT_SEQ] ∧ SameMem u t)

/-- For a stroke that lands (u is the state after it has left the strokes under way): COMMIT_SHADOW appends the staged
values that it covers to those captured, or, where SUB_SIZE 1 would stand beside an NBR_RADIUS other than 2, changes
nothing; without group 2 or 3 in its argument no other part of the state changes. SWAP_BANK makes each target region wait
for the named GEN, unless it is the active one already, and EXPECT_GEN holds it. SWAP_PROG does the same for the slot.
Other regions, banks, memory and the values in force per region stay. -/
def Obligations.ShadowsAndSwapsWaitForTheFrame : Prop :=
  (∀ (l : Landing) (s u : State), s.landing 0x10 l = some u → u.commitOk (u.captures l) = true → Gives (.commitShadow l) s fun t =>
    t.shadow.captured = u.shadow.captured ++ u.captures l ∧ t.shadow.region = u.shadow.region ∧
    t.shadow.staged = u.shadow.staged ∧ t.banks = u.banks ∧ t.focal = u.focal ∧ SameMem u t ∧
    (l.arg.getLsbD 2 = false → l.arg.getLsbD 3 = false → { t with shadow := u.shadow } = u)) ∧
  (∀ (l : Landing) (s u : State), s.landing 0x10 l = some u → u.commitOk (u.captures l) = false →
    exec (.commitShadow l) s = .next u) ∧
  (∀ (l : Landing) (s u : State), s.landing 0x11 l = some u → Gives (.swapBank l) s fun t =>
    (∀ g : Fin 64, (t.region g).swapBank = if l.hitsRegion g = true then
      (if (u.bank (u.bankNo g false)).gen = l.arg.toNat then none else some l.arg) else (u.region g).swapBank) ∧
    (∀ g : Fin 64, (t.region g).active = (u.region g).active ∧ (t.region g).swapProg = (u.region g).swapProg) ∧
    t.get Obj.EXPECT_GEN = l.arg.toNat ∧ SameObj u t [Obj.EXPECT_GEN, Obj.BANK_SWAP_PENDING, Obj.PROG_SWAP_PENDING] ∧
    { t with fab := u.fab, shadow := u.shadow, obj := u.obj } = u) ∧
  (∀ (l : Landing) (s u : State), s.landing 0x12 l = some u → Gives (.swapProg l) s fun t =>
    (∀ g : Fin 64, (t.region g).swapProg = if l.hitsRegion g = true then
      (if (u.region g).slot = l.arg.toNat % 2 then none else some (l.arg.toNat % 2)) else (u.region g).swapProg) ∧
    (∀ g : Fin 64, (t.region g).slot = (u.region g).slot ∧ (t.region g).swapBank = (u.region g).swapBank) ∧
    SameObj u t [Obj.BANK_SWAP_PENDING, Obj.PROG_SWAP_PENDING] ∧
    { t with fab := u.fab, shadow := u.shadow, obj := u.obj } = u)

/-! ## The scan and the monitor converter (03) -/

/-- What an urgent request for the channels `js` does in quadrant `q` of frame `f` (R80, R81): in the gap served at the next
modulator cycle or dropped for the deadline; dropped as busy while injected slots run; while a position is converted served
before what the quadrant still has to do, or dropped for the deadline. -/
def RequestedIn (f : Frame) (js : List Slot) (s t : State) (q : Fin 4) : Prop :=
  let c := s.focal.scans[q]
  let start := nextMod f c.start s.clk.beats
  let fits : Bool := Dlt.reached f.deadline (s.dltAt (start + (c.todo.length + js.length) * f.slotTenths))
  (c.todo = [] → fits = true → t.focal.scans[q] = { todo := js, start := start } ∧ Counted s t (Obj.INJ_SERVED q)) ∧
  (c.todo = [] → fits = false → t.focal.scans[q] = c ∧ Counted s t (Obj.INJ_DROP_DEADLINE q)) ∧
  (∀ k rest, c.todo = k :: rest → k.inj = true → t.focal.scans[q] = c ∧ Counted s t (Obj.INJ_DROP_BUSY q)) ∧
  (∀ k rest, c.todo = k :: rest → k.inj = false → k.isJ = false → fits = true →
    t.focal.scans[q] = { todo := js ++ k :: rest, start := start } ∧ Counted s t (Obj.INJ_SERVED q)) ∧
  (∀ k rest, c.todo = k :: rest → k.inj = false → k.isJ = false → fits = false →
    t.focal.scans[q] = c ∧ Counted s t (Obj.INJ_DROP_DEADLINE q))

/-- For a FRAME_START that lands after the trim-apply event (u: the state after it has left the strokes under way). While
slots remain (cause 1) or with an argument above 3 (cause 2) it is refused: FRAME_REFUSED counts, REFUSE_CAUSE holds the
cause, bell 0x0301 carries it, and no frame and no byte of memory changes. Suppressed at the throttle level in force, it
only counts in THROTTLE_SKIPS. Otherwise the newest frame has number FRAME_COUNT + 1 and the time of the landing, and the
first slot of a quadrant whose copy of the count agrees starts in the beat of the landing (in tenths of a beat). -/
def Obligations.FrameStartLaunchesOrIsRefused : Prop :=
  (∀ (l : Landing) (s u : State), s.landing 0x20 l = some u → u.power.trims = true → u.startCause l.arg.toNat ≠ 0 →
    Gives (.frameStart l) s fun t => Counted u t Obj.FRAME_REFUSED ∧ t.get Obj.REFUSE_CAUSE = u.startCause l.arg.toNat ∧
      (u.startCause l.arg.toNat = if u.slotsRunning then 1 else 2) ∧ t.focal = u.focal ∧ SameMem u t ∧
      SameObj u t [Obj.FRAME_REFUSED, Obj.REFUSE_CAUSE, Obj.BELL_NEXT_SEQ, Obj.BELL_LOST] ∧
      Rings u t 0x0301 (u.startCause l.arg.toNat)) ∧
  (∀ (l : Landing) (s u : State), s.landing 0x20 l = some u → u.power.trims = true → u.startCause l.arg.toNat = 0 →
    suppressed u.power.landings (u.nat Obj.THROTTLE_LEVEL) = true → Gives (.frameStart l) s fun t =>
      Counted u t Obj.THROTTLE_SKIPS ∧ SameObj u t [Obj.THROTTLE_SKIPS] ∧ t.power.landings = u.power.landings + 1 ∧
      { t with obj := u.obj, power := u.power } = u) ∧
  (∀ (l : Landing) (s u : State), s.landing 0x20 l = some u → u.power.trims = true → u.slotsRunning = false → l.arg.toNat ≤ 3 →
    suppressed u.power.landings (u.nat Obj.THROTTLE_LEVEL) = false → Gives (.frameStart l) s fun t =>
      ∃ f rest, t.focal.frames = f :: rest ∧ f.num = BitVec.ofNat 32 (u.nat Obj.FRAME_COUNT + 1) ∧ f.landing = u.now ∧
        f.profile = l.arg.toNat ∧ t.focal.started = true ∧
        ∀ q : Fin 4, u.clk.copies[q] = u.now → t.focal.scans[q].start = 10 * u.clk.beats)

/-- FRAME_ENTRY_RUN of a live idle member of region g for which the frame f is due: where the slot that the region runs
names a FRAME_ENTRY, the engine is in a run of that kind for row 0x3FE, its PC is the entry, S1 is the frame number, every
other scalar above is 0, EVP is kept, nothing is due any more; where the slot names none, only the mark is cleared. No
other engine and nothing outside the fabric changes. -/
def Obligations.FrameEntryRunsOnceForEachEngine : Prop :=
  (∀ (p : Fin 272) (g : Nat) (f : BitVec 32) (s : State), s.idleMember p = some g → (s.engine p).entryDue = some f →
    s.slotEntry (s.ranSlot g f) 2 ≠ 0 → Gives (.frameEntryRun p) s fun t =>
      (∃ x, (t.engine p).run = some x ∧ x.kind = .frameEntry ∧ x.item = { region := g, row := 0x3FE, frame := f } ∧
        x.slot = s.ranSlot g f ∧ x.writes = [] ∧ x.emits = [] ∧ x.fault = 0) ∧
      (t.engine p).pc = s.slotEntry (s.ranSlot g f) 2 ∧ (t.engine p).s[1] = f ∧
      (∀ i : Fin 16, 2 ≤ i.val → (t.engine p).s[i] = 0) ∧ (t.engine p).evp = (s.engine p).evp ∧
      (t.engine p).entryDue = none ∧ (∀ j, j ≠ p.val → t.engine j = s.engine j) ∧
      { t with fab := { t.fab with engines := s.fab.engines } } = s) ∧
  (∀ (p : Fin 272) (g : Nat) (f : BitVec 32) (s : State), s.idleMember p = some g → (s.engine p).entryDue = some f →
    s.slotEntry (s.ranSlot g f) 2 = 0 → Gives (.frameEntryRun p) s fun t =>
      t.engine p = { s.engine p with entryDue := none } ∧ (∀ j, j ≠ p.val → t.engine j = s.engine j) ∧
      { t with fab := { t.fab with engines := s.fab.engines } } = s)

/-- First the values: a steady input of a pixel or of J0 to J3 within 1.10 of the range in force converts to round(2^19 x)
clamped, without OVR; at 1.50 or beyond to the full-scale code of its sign with OVR; J4 reads its temperature, clamped
with OVR outside its range. SLOT_END of quadrant q, t_slot after the slot began, with one sample of a live CU, while slots
remain: the next slot starts one slot time later and the other scans stay. A J slot of channel n: the word INJ, frame
number mod 128, tag (OVR; SET under rules 2 and 3) and value stands at 32 CU + 4 n of J_RESULTS and at its place in the
frame-state store (the model's place, log entry 48), and no other byte and no object changes. A tile position that the
quadrant does not convert again, an input within 1.10: the word of the pixel in the row buffer that holds its row is
PRESENT with frame number, tag and value, and no other byte changes. -/
def Obligations.SlotEndStoresItsConversions : Prop :=
  (∀ (k : Slot) (x : Sample) (i : Nat) (s : State), (k.isJ = false ∨ k.n < 4) → x.runs = [] →
    let r := s.nat (Obj.RANGE_SEL (quadOfCu x.cu))
    (10 * x.x.natAbs ≤ 11 * 2 ^ (32 + r) →
      s.converted k x i = (clampInt (roundDiv x.x (8192 * 2 ^ r)) (-524288) 524287, false)) ∧
    (3 * 2 ^ (31 + r) ≤ x.x.natAbs → s.converted k x i = (if 0 < x.x then 524287 else -524288, true))) ∧
  (∀ (k : Slot) (x : Sample) (i : Nat) (s : State), k.isJ = true → k.n = 4 →
    s.converted k x i = (clampInt (roundDiv x.x 8192) (-524288) 524287,
      decide (524287 < roundDiv x.x 8192 ∨ roundDiv x.x 8192 < -524288))) ∧
  (∀ (q : Fin 4) (x : Sample) (k : Slot) (rest : List Slot) (f : Frame) (fs : List Frame) (s : State),
    s.focal.scans[q].todo = k :: rest → rest ≠ [] → s.focal.frames = f :: fs → k.isJ = true → k.n < 8 →
    x.cu < 30720 → quadOfCu x.cu = q.val → k.takes x.cu = true → s.otp.deadCus.contains x.cu = false →
    s.focal.scans[q].start + f.slotTenths ≤ 10 * s.clk.beats → Gives (.slotEnd q [x]) s fun t =>
      let r := s.converted k x 0
      let word := (if k.inj then 2 ^ 31 else 0) + f.num.toNat % 128 * 2 ^ 24 +
        ((if r.2 then 1 else 0) + (if f.set2.getLsbD q || f.set3 then 2 else 0)) * 2 ^ 20 + wrapNat 20 r.1
      t.focal.scans[q] = { todo := rest, start := s.focal.scans[q].start + f.slotTenths } ∧
      (∀ r : Fin 4, r ≠ q → t.focal.scans[r] = s.focal.scans[r]) ∧ t.focal.frames = s.focal.frames ∧
      t.le (jBase + 32 * x.cu + 4 * k.n) 4 = word ∧ t.le (jState x.cu k.n) 4 = word ∧
      (∀ a, (a < jBase + 32 * x.cu + 4 * k.n ∨ jBase + 32 * x.cu + 4 * k.n + 4 ≤ a) →
        (a < jState x.cu k.n ∨ jState x.cu k.n + 4 ≤ a) → t.byte a = s.byte a) ∧ t.obj = s.obj) ∧
  (∀ (q : Fin 4) (x : Sample) (k : Slot) (rest : List Slot) (f : Frame) (fs : List Frame) (b : Nat) (y : RFrame) (s : State),
    s.focal.scans[q].todo = k :: rest → rest ≠ [] → s.focal.frames = f :: fs → k.isJ = false → k.inj = false → k.n < 1024 →
    (∀ r ∈ rest, r.isJ = false → r.n ≠ k.n) → x.cu < 30720 → quadOfCu x.cu = q.val → x.runs = [] →
    10 * x.x.natAbs ≤ 11 * 2 ^ (32 + s.nat (Obj.RANGE_SEL q)) → s.otp.deadCus.contains x.cu = false →
    (s.region (regionOfCu x.cu)).rframe f.num = some y → y.discarded = false →
    s.rowBuf (regionOfCu x.cu) f.num ((32 * (x.cu / 192 % 20) + k.n / 32 : Nat) : Int) = some b →
    s.focal.scans[q].start + f.slotTenths ≤ 10 * s.clk.beats → Gives (.slotEnd q [x]) s fun t =>
      t.focal.scans[q] = { todo := rest, start := s.focal.scans[q].start + f.slotTenths } ∧
      (∀ r : Fin 4, r ≠ q → t.focal.scans[r] = s.focal.scans[r]) ∧ t.focal.frames = s.focal.frames ∧
      (let a := lineAddr (regionOfCu x.cu) b ((32 * (x.cu % 192 % 24) + k.n % 32 : Nat) : Int)
       t.le a 4 = 2 ^ 24 + f.num.toNat % 128 * 2 ^ 25 + (if f.set2.getLsbD q || f.set3 then 2 ^ 21 else 0) +
         wrapNat 20 (clampInt (roundDiv x.x (8192 * 2 ^ s.nat (Obj.RANGE_SEL q))) (-524288) 524287) ∧
       ∀ c, c < a ∨ a + 4 ≤ c → t.byte c = s.byte c) ∧ t.obj = s.obj)

/-- FRAME_GATE with a newest frame whose thermometers have not been converted, 100 us after its landing or with its slots
ended: that frame is past its gate afterwards, its page is the newest page and holds the thermometer readings of this
command, every region is either gated for the frame or may not yet be gated (an unended item of frame f - 2, or an offset
update still to be written there), and the frame count and the Drumline count are what they were. A FRAME_GATE for a frame
past its gate, one that comes earlier, or one with no frame, changes nothing. -/
def Obligations.GateIsPassedOnce : Prop :=
  (∀ (ts : List (Nat × Nat)) (f : Frame) (rest : List Frame) (s : State), s.focal.frames = f :: rest → f.gateDone = false →
    s.convertedOver f = true → Gives (.frameGate ts) s fun t =>
      (∃ f', t.frame? f.num = some f' ∧ f'.gateDone = true ∧
        ∀ g : Fin 64, f'.gated.getLsbD g = true ∨ t.mayGate g f.num = false) ∧
      (∃ p rest, t.pipe.pages = p :: rest ∧ p.frame = f.num ∧ p.clt = t.focal.clt ∧
        p.sites = BitVec.ofNat 64 (t.nat Obj.ACTIVE_SITES)) ∧
      (∀ c v : Nat, ts = [(c, v)] → c < 1920 → v < 2 ^ 20 → Cells.get t.focal.clt c 0 = v) ∧
      t.clk = s.clk ∧ t.get Obj.FRAME_COUNT = s.get Obj.FRAME_COUNT) ∧
  (∀ (ts : List (Nat × Nat)) (f : Frame) (rest : List Frame) (s : State), s.focal.frames = f :: rest →
    (f.gateDone = true ∨ (f.slotsEnd = none ∧ s.clk.beats < f.beat + 20000)) → exec (.frameGate ts) s = .next s) ∧
  (∀ (ts : List (Nat × Nat)) (s : State), s.focal.frames = [] → exec (.frameGate ts) s = .next s)

/-- With a frame in progress and no request of the same beat: an INJECT at level 5 with channels named, and a rising edge
of INJ_TRIG with a mask, each do in every quadrant (of an INJECT: every quadrant on whose die it lands) what R80 and R81
say. A quadrant that converts an injected slot drops the request as busy; an idle one, or one that converts a tile
position, either takes the J slots of the request, in ascending order, before its other slots at the next modulator cycle,
where the frame's deadline allows it, or drops it for the deadline; each outcome counts once. A write of 1 to SUN_TRIPPED
clears it; any other value changes nothing. -/
def Obligations.UrgentRequestsAreServedOrDropped : Prop :=
  (∀ (l : Landing) (f : Frame) (fs : List Frame) (s u : State), s.landing 0x22 l = some u → u.focal.frames = f :: fs →
    u.focal.inj = none → l.level = 5 → l.arg.toNat % 256 ≠ 0 → u.nat (Obj.P_SCAN_MODE f.profile) ≠ 1 →
    Gives (.inject l) s fun t => ∃ js : List Slot, js.map (·.n) = setBits 8 (l.arg.toNat % 256) ∧
      (∀ j ∈ js, j.isJ = true ∧ j.inj = true ∧ j.target.level = 5) ∧
      (∀ q : Fin 4, l.hitsQuad q = true → RequestedIn f js u t q) ∧
      (∀ q : Fin 4, l.hitsQuad q = false → t.focal.scans[q] = u.focal.scans[q]) ∧
      { t with focal := u.focal, obj := u.obj } = u ∧ t.focal.frames = u.focal.frames) ∧
  (∀ (f : Frame) (fs : List Frame) (s : State), s.focal.frames = f :: fs → s.focal.inj = none → s.nat Obj.INJ_TRIG_MASK ≠ 0 →
    s.nat Obj.INJ_TRIG_MASK < 256 → s.nat (Obj.P_SCAN_MODE f.profile) ≠ 1 → s.nat Obj.MC_INJ_SRC ≠ 1 →
    Gives .injTrigEdge s fun t => ∃ js : List Slot, js.map (·.n) = setBits 8 (s.nat Obj.INJ_TRIG_MASK) ∧
      (∀ j ∈ js, j.isJ = true ∧ j.inj = true ∧ j.target = {}) ∧ (∀ q : Fin 4, RequestedIn f js s t q) ∧
      { t with focal := s.focal, obj := s.obj } = s ∧ t.focal.frames = s.focal.frames) ∧
  (∀ s : State, Gives (.sunTrippedClear 1) s fun t => t.get Obj.SUN_TRIPPED = 0 ∧ SameObj s t [Obj.SUN_TRIPPED] ∧
    { t with obj := s.obj } = s) ∧
  (∀ (v : Nat) (s : State), v ≠ 1 → exec (.sunTrippedClear v) s = .next s)

/-- MC_START of a native scan with a mask of 1 to 0x3FFF runs the scan from its lowest channel; a mask of 0 or with bit 14
or 15 is refused and counted; in sequence mode it runs the regular sequence from its first entry. MC_STOP of a running
scan marks it to stop at the end of the conversion, of a scan suspended by a calibration stops it, and of a stopped one
changes nothing. An input of channels 0 to 3 reads as its part of the full scale at the gain, in 2^-23, clamped. MC_OUTPUT
of a running sequencer that stands on a channel, D cycles of its clock after the output before or the reset, with room in
the buffer, writes the record (channel, OVR, SET, INJ, result; DLT[47:16]) at MC_WR, moves MC_WR on, keeps it in MC_LAST
and changes no other byte; the last output of a conversion of a scan moves to the next channel, or stops a scan that is to
stop; with a full buffer only MC_LOST counts and memory stays. MC_RD takes a value that does not pass MC_WR and refuses
another. A permitted write of MC_K, MC_D or MC_GAIN_SEL takes effect and resets the decimator; another changes nothing. -/
def Obligations.MonitorScanStartsStopsAndRecords : Prop :=
  (∀ (l : Landing) (s u : State), s.landing 0x28 l = some u → u.nat Obj.MC_MODE ≠ 1 → 1 ≤ l.arg.toNat % 65536 →
    l.arg.toNat % 65536 < 16384 → u.mc.calStep = 0 → Gives (.mcStart l) s fun t =>
      t.mc = { u.mc with running := true, seqMode := false, stopping := false, inj := none, outs := 0, pos := lowestBit (l.arg.toNat % 65536), deadline := l.next, entry := l.repeating, since := 96 * u.clk.beats } ∧
      t.get Obj.MC_SCAN_MASK = l.arg.toNat % 65536 ∧ t.get Obj.MC_STATE = 1 ∧
      SameObj u t [Obj.MC_SCAN_MASK, Obj.MC_STATE] ∧ { t with mc := u.mc, obj := u.obj } = u) ∧
  (∀ (l : Landing) (s u : State), s.landing 0x28 l = some u → u.nat Obj.MC_MODE = 1 → 1 ≤ u.nat Obj.MC_SEQ_LEN →
    u.nat Obj.MC_SEQ < 14 → u.mc.calStep = 0 → Gives (.mcStart l) s fun t =>
      t.mc = { u.mc with running := true, seqMode := true, stopping := false, inj := none, outs := 0, pos := 0, deadline := l.next, entry := l.repeating, since := 96 * u.clk.beats } ∧
      t.get Obj.MC_STATE = 1 ∧ SameObj u t [Obj.MC_SCAN_MASK, Obj.MC_STATE] ∧ { t with mc := u.mc, obj := u.obj } = u) ∧
  (∀ (l : Landing) (s u : State), s.landing 0x28 l = some u → u.nat Obj.MC_MODE ≠ 1 →
    (l.arg.toNat % 65536 = 0 ∨ 16384 ≤ l.arg.toNat % 65536) → Gives (.mcStart l) s fun t =>
      Counted u t Obj.MC_REFUSED ∧ SameObj u t [Obj.MC_REFUSED] ∧ { t with obj := u.obj } = u) ∧
  (∀ (f : Fired) (s u : State), (s.strokes.inflight.find? fun f => f.action = 0x29) = some f → s.landing 0x29 f.l = some u →
    Gives .mcStop s fun t =>
      (u.mc.running = true → u.mc.calStep = 0 → t.mc = { u.mc with stopping := true } ∧ { t with mc := u.mc } = u) ∧
      (u.mc.running = true → u.mc.calStep ≠ 0 → t.mc.running = false ∧ t.mc.calStep = u.mc.calStep ∧
        t.get Obj.MC_SCAN_MASK = 0 ∧ t.get Obj.MC_STATE = 3) ∧
      (u.mc.running = false → t = u)) ∧
  (∀ (ch : Nat) (x : Int) (s : State), ch < 4 → s.mcRaw ch x =
    clampInt (roundDiv (x * 2 ^ 23) ((1250000000 / 2 ^ s.nat (Obj.MC_GAIN_SEL ch) : Nat) : Int)) (-8388608) 8388607) ∧
  (∀ (x : Int) (ovr : Bool) (s : State), s.mcDue = true → s.mc.running = true → s.mc.calStep = 0 → s.mcSettle = s →
    s.mc.outs + 1 < s.mcOutputs → s.mcChannel < 14 →
    (s.nat Obj.MC_WR + 512 - s.nat Obj.MC_RD) % 512 ≠ 511 → (∀ v : Fin 16, s.nat (Obj.VW_SOURCE v) ≠ 2) →
    Gives (.mcOutput x ovr) s fun t =>
      (let w0 := s.mcChannel * 2 ^ 28 + (if ovr then 2 ^ 27 else 0) + (if s.mc.outs + 1 < s.nat Obj.MC_K then 2 ^ 26 else 0) +
        (if s.mc.inj.isSome then 2 ^ 25 else 0) +
        wrapNat 24 (mcResult (s.mcRaw s.mcChannel x) (s.get (Obj.MC_OFFSET s.mcChannel)) (s.get (Obj.MC_GAINCOEF s.mcChannel)))
       t.bytes (mcBase + 8 * s.nat Obj.MC_WR) 8 = leBytes 4 w0 ++ leBytes 4 (s.now.toNat / 65536) ∧
       t.get (Obj.MC_LAST s.mcChannel) = w0) ∧
      (∀ a, a < mcBase + 8 * s.nat Obj.MC_WR ∨ mcBase + 8 * s.nat Obj.MC_WR + 8 ≤ a → t.byte a = s.byte a) ∧
      t.get Obj.MC_WR = ((s.nat Obj.MC_WR + 1) % 512 : Nat) ∧ t.mc = { s.mc with outs := s.mc.outs + 1, since := s.mc.since + 3125 * s.nat Obj.MC_D } ∧
      SameObj s t [Obj.MC_WR, Obj.MC_LAST s.mcChannel]) ∧
  (∀ (x : Int) (ovr : Bool) (s : State), s.mcDue = true → s.mc.running = true → s.mc.calStep = 0 → s.mc.seqMode = false → s.mc.inj = none →
    s.mcOutputs ≤ s.mc.outs + 1 → s.mcChannel < 14 → Gives (.mcOutput x ovr) s fun t =>
      (s.mc.stopping = false → t.mc = { s.mc with pos := nextChannel (s.nat Obj.MC_SCAN_MASK) s.mc.pos, outs := 0, since := s.mc.since + 3125 * s.nat Obj.MC_D }) ∧
      (s.mc.stopping = true → t.mc.running = false ∧ t.get Obj.MC_SCAN_MASK = 0 ∧ t.get Obj.MC_STATE = 0)) ∧
  (∀ (x : Int) (ovr : Bool) (s : State), s.mcDue = true → s.mc.running = true → s.mc.calStep = 0 → s.mcSettle = s → s.mcChannel < 14 →
    s.mc.outs + 1 < s.mcOutputs → (s.nat Obj.MC_WR + 512 - s.nat Obj.MC_RD) % 512 = 511 → Gives (.mcOutput x ovr) s fun t =>
      Counted s t Obj.MC_LOST ∧ SameMem s t ∧ SameObj s t [Obj.MC_LOST, Obj.MC_LAST s.mcChannel]) ∧
  (∀ (v : Nat) (s : State), v < 512 → (v + 512 - s.nat Obj.MC_RD) % 512 ≤ (s.nat Obj.MC_WR + 512 - s.nat Obj.MC_RD) % 512 →
    Gives (.mcRdWrite v) s fun t => t.get Obj.MC_RD = v ∧ SameObj s t [Obj.MC_RD] ∧ { t with obj := s.obj } = s) ∧
  (∀ (v : Nat) (s : State), (512 ≤ v ∨
    (s.nat Obj.MC_WR + 512 - s.nat Obj.MC_RD) % 512 < (v + 512 - s.nat Obj.MC_RD) % 512) → exec (.mcRdWrite v) s = .next s) ∧
  (∀ (w : McFilter) (v : Nat) (s : State), mcFilterOk w v = true → Gives (.mcFilterWrite w v) s fun t =>
    t.get (mcFilterKey w) = v ∧ SameObj s t [mcFilterKey w] ∧ t.mc = { s.mc with outs := 0, since := 96 * s.clk.beats } ∧
    { t with obj := s.obj, mc := s.mc } = s) ∧
  (∀ (w : McFilter) (v : Nat) (s : State), mcFilterOk w v = false → exec (.mcFilterWrite w v) s = .next s)

/-- MC_INJ_GO 1 while the regular sequence runs: during an injected sequence it is dropped as busy, counted and reads 2;
else it is served, counts and reads 1 where there is no deadline or the injected entries and the resumed entry end before
it, and is dropped for the deadline, counted and reads 2, where they do not (each entry takes MC_K - 1 + MC_DWELL outputs
of MC_D cycles: the model's count, log entry 48). Otherwise it changes nothing. MC_CAL_ZERO begins step 1 on MC_CAL_CH;
MC_CAL_FULL_SCALE begins step 2 after a step 1 on the same channel and else reads 4; neither has an effect while a step
runs. MC_CAL_STEP_DONE before MC_CAL_AVG outputs changes nothing. After them: with OVR the step reads 3 and no coefficient
changes; step 1 puts the rounded average into MC_OFFSET of the channel and reads 2; step 2 puts round(MC_FS_TARGET 2^22 /
(average - OFFSET)) into MC_GAINCOEF, counts in CALK_* 5 and reads 2 where it lies in 0x200000 to 0x7FFFFF, and reads 5
with no coefficient changed where it does not (the rounding is the model's, log entry 48). The sequencer then stands at
its first place. -/
def Obligations.MonitorInjectionAndCalibration : Prop :=
  (∀ s : State, s.mc.running = true → s.mc.seqMode = true → s.mc.calStep = 0 → s.mc.inj = none →
    1 ≤ s.nat Obj.MC_INJ_LEN → s.nat Obj.MC_INJ_SEQ < 14 → s.mc.pos < s.nat Obj.MC_SEQ_LEN → s.nat (Obj.MC_SEQ + s.mc.pos) < 14 →
    (∀ d, s.mc.deadline = some d →
      mcLsb ((s.nat Obj.MC_INJ_LEN + 1) * (s.nat Obj.MC_K - 1 + s.nat Obj.MC_DWELL) * s.nat Obj.MC_D) < (Dlt.diff d s.now : Rat)) →
    Gives (.mcInjGo 1) s fun t => t.mc = { s.mc with inj := some 0, outs := 0, since := 96 * s.clk.beats } ∧ Counted s t Obj.MC_INJ_SERVED ∧
      t.get Obj.MC_INJ_GO = 1 ∧ t.get Obj.MC_STATE = 2 ∧ SameObj s t [Obj.MC_INJ_SERVED, Obj.MC_INJ_GO, Obj.MC_STATE] ∧
      { t with mc := s.mc, obj := s.obj } = s) ∧
  (∀ (d : Dlt) (s : State), s.mc.running = true → s.mc.seqMode = true → s.mc.calStep = 0 → s.mc.inj = none →
    s.mc.deadline = some d → (Dlt.diff d s.now : Rat) ≤
      mcLsb ((s.nat Obj.MC_INJ_LEN + 1) * (s.nat Obj.MC_K - 1 + s.nat Obj.MC_DWELL) * s.nat Obj.MC_D) →
    Gives (.mcInjGo 1) s fun t => Counted s t Obj.MC_INJ_DROP_DEADLINE ∧ t.get Obj.MC_INJ_GO = 2 ∧
      SameObj s t [Obj.MC_INJ_DROP_DEADLINE, Obj.MC_INJ_GO] ∧ { t with obj := s.obj } = s) ∧
  (∀ (i : Nat) (s : State), s.mc.running = true → s.mc.seqMode = true → s.mc.calStep = 0 → s.mc.inj = some i →
    Gives (.mcInjGo 1) s fun t => Counted s t Obj.MC_INJ_DROP_BUSY ∧ t.get Obj.MC_INJ_GO = 2 ∧
      SameObj s t [Obj.MC_INJ_DROP_BUSY, Obj.MC_INJ_GO] ∧ { t with obj := s.obj } = s) ∧
  (∀ (v : Nat) (s : State), (v ≠ 1 ∨ s.mc.running = false ∨ s.mc.seqMode = false ∨ s.mc.calStep ≠ 0) →
    exec (.mcInjGo v) s = .next s) ∧
  (∀ s : State, s.mc.calStep = 0 → Gives .mcCalZero s fun t =>
    t.mc = { s.mc with calStep := 1, calCh := s.nat Obj.MC_CAL_CH % 16, calSum := 0, calCount := 0, calOvr := false, inj := none, outs := 0, since := 96 * s.clk.beats } ∧ t.get Obj.MC_CAL_STEP = 1 ∧ t.get Obj.MC_STATE = 3 ∧
      SameObj s t [Obj.MC_CAL_STEP, Obj.MC_STATE] ∧ { t with mc := s.mc, obj := s.obj } = s) ∧
  (∀ s : State, s.mc.calStep = 0 → s.mc.calZero = some (s.nat Obj.MC_CAL_CH % 16) → Gives .mcCalFullScale s fun t =>
    t.mc = { s.mc with calStep := 2, calCh := s.nat Obj.MC_CAL_CH % 16, calSum := 0, calCount := 0, calOvr := false, inj := none, outs := 0, since := 96 * s.clk.beats } ∧ t.get Obj.MC_CAL_STEP = 1 ∧ t.get Obj.MC_STATE = 3 ∧
    SameObj s t [Obj.MC_CAL_STEP, Obj.MC_STATE] ∧ { t with mc := s.mc, obj := s.obj } = s) ∧
  (∀ s : State, s.mc.calStep = 0 → s.mc.calZero ≠ some (s.nat Obj.MC_CAL_CH % 16) → Gives .mcCalFullScale s fun t =>
    t.get Obj.MC_CAL_STEP = 4 ∧ SameObj s t [Obj.MC_CAL_STEP] ∧ { t with obj := s.obj } = s) ∧
  (∀ s : State, s.mc.calStep ≠ 0 → exec .mcCalZero s = .next s ∧ exec .mcCalFullScale s = .next s) ∧
  (∀ s : State, (s.mc.calStep = 0 ∨ s.mc.calCount < s.nat Obj.MC_CAL_AVG) → exec .mcCalStepDone s = .next s) ∧
  (∀ s : State, s.mc.calStep = 1 → s.mc.calCh < 14 → 0 < s.mc.calCount → s.nat Obj.MC_CAL_AVG ≤ s.mc.calCount →
    s.mc.calOvr = false → -(2 ^ 31) ≤ roundDiv s.mc.calSum s.mc.calCount → roundDiv s.mc.calSum s.mc.calCount < 2 ^ 31 →
    Gives .mcCalStepDone s fun t =>
      t.get (Obj.MC_OFFSET s.mc.calCh) = roundDiv s.mc.calSum s.mc.calCount ∧ t.get Obj.MC_CAL_STEP = 2 ∧
      t.mc = { s.mc with calStep := 0, calZero := some s.mc.calCh, outs := 0, pos := s.mcFirst, since := 96 * s.clk.beats } ∧
      SameObj s t [Obj.MC_OFFSET s.mc.calCh, Obj.MC_CAL_STEP, Obj.MC_STATE] ∧ { t with mc := s.mc, obj := s.obj } = s) ∧
  (∀ s : State, s.mc.calStep ≠ 0 → s.nat Obj.MC_CAL_AVG ≤ s.mc.calCount → s.mc.calOvr = true → Gives .mcCalStepDone s fun t =>
    t.get Obj.MC_CAL_STEP = 3 ∧ t.mc = { s.mc with calStep := 0, outs := 0, pos := s.mcFirst, since := 96 * s.clk.beats } ∧
    SameObj s t [Obj.MC_CAL_STEP, Obj.MC_STATE] ∧ { t with mc := s.mc, obj := s.obj } = s) ∧
  (∀ s : State, s.mc.calStep = 2 → s.mc.calCh < 14 → 0 < s.mc.calCount → s.nat Obj.MC_CAL_AVG ≤ s.mc.calCount →
    s.mc.calOvr = false → Gives .mcCalStepDone s fun t =>
      let gain := roundDivS (s.get Obj.MC_FS_TARGET * 2 ^ 22)
        (roundDiv s.mc.calSum s.mc.calCount - s.get (Obj.MC_OFFSET s.mc.calCh))
      t.mc = { s.mc with calStep := 0, outs := 0, pos := s.mcFirst, since := 96 * s.clk.beats } ∧ { t with mc := s.mc, obj := s.obj } = s ∧
      (0x200000 ≤ gain ∧ gain ≤ 0x7FFFFF → t.get (Obj.MC_GAINCOEF s.mc.calCh) = gain ∧ Counted s t (Obj.CALK_COUNT 5) ∧
        t.get (Obj.CALK_LAST_DLT 5) = s.now.toNat ∧ t.get (Obj.CALK_LAST_RESULT 5) = 2 ∧ t.get Obj.MC_CAL_STEP = 2 ∧
        SameObj s t [Obj.MC_GAINCOEF s.mc.calCh, Obj.CALK_COUNT 5, Obj.CALK_LAST_DLT 5, Obj.CALK_LAST_RESULT 5,
          Obj.MC_CAL_STEP, Obj.MC_STATE]) ∧
      (gain < 0x200000 ∨ 0x7FFFFF < gain → t.get Obj.MC_CAL_STEP = 5 ∧ SameObj s t [Obj.MC_CAL_STEP, Obj.MC_STATE]))

/-! ## Work items and the fabric (04) -/

/-- A fresh run of engine `p` (R143): the program entry `k`, S0, S1 and nothing else, EVP kept; no other engine changes. -/
def StartsRun (s t : State) (p : Fin 272) (kind : RunKind) (it : Item) (slot k : Nat) : Prop :=
  (∃ x, (t.engine p).run = some x ∧ x.kind = kind ∧ x.item = it ∧ x.slot = slot ∧ x.writes = [] ∧ x.emits = [] ∧
    x.ended = false ∧ x.fault = 0 ∧ x.grant = s.nat Obj.ROLL_COUNT) ∧
  (t.engine p).pc = s.slotEntry slot k ∧ (t.engine p).s[1] = it.frame ∧ (∀ i : Fin 16, 2 ≤ i.val → (t.engine p).s[i] = 0) ∧
  (t.engine p).evp = (s.engine p).evp ∧ (t.engine p).icount = 0 ∧ (∀ j, j ≠ p.val → t.engine j = s.engine j) ∧
  { t with fab := s.fab } = s

/-- ITEM_RELEASE of a row whose rows and halo words are held for frame f (the oldest such frame): the item joins the end
of its region's queue and only the fabric changes; with no such frame nothing changes. ITEM_CLAIM of an idle live member
with no FRAME_ENTRY to run and no third or repeated run waiting: it starts the waiting check run of another engine's item
of its die; with none, the head of its region's queue; with that queue empty, the head of its partner's. The END_ENTRY of
a frame joins the end of the queue once nothing of the frame is left in the region (shown for a discarded frame), and
END_ENTRY_RUN starts the one at the head of the queue that the engine claims from. Each run starts at its entry with S1
the frame number and fresh registers. -/
def Obligations.ItemsAreReleasedAndClaimedInOrder : Prop :=
  (∀ (g : Fin 64) (row : Nat) (f : Frame) (s : State),
    (s.focal.frames.reverse.find? fun fr => s.releasable fr g row) = some f → Gives (.itemRelease g row) s fun t =>
      (t.region g).queue = (s.region g).queue ++ [{ region := g, row := row, frame := f.num }] ∧
      (t.region g).claimed = (s.region g).claimed ∧ (∀ h, h ≠ g.val → t.region h = s.region h) ∧
      { t with fab := { t.fab with regions := s.fab.regions } } = s) ∧
  (∀ (g : Fin 64) (row : Nat) (s : State), (s.focal.frames.reverse.find? fun fr => s.releasable fr g row) = none →
    exec (.itemRelease g row) s = .next s) ∧
  (∀ (p : Fin 272) (g : Nat) (it : Item) (p0 : Nat) (rest : List (Item × Nat)) (s : State), s.idleMember p = some g →
    s.entryWaits p g = false → s.fab.thirds = [] → s.fab.reruns = [] → s.fab.checks = (it, p0) :: rest → p0 ≠ p.val →
    quadOfRegion it.region = dieOfEngine p → it.row < 640 → s.ranItem p it = false → Gives (.itemClaim p) s fun t =>
      StartsRun s t p .check it (s.ranSlot it.region it.frame) 1 ∧ (t.engine p).s[0].getLsbD 31 = true ∧
      (∀ c ∈ t.fab.checks, c ∈ rest) ∧ t.fab.regions = s.fab.regions) ∧
  (∀ (p : Fin 272) (g : Nat) (it : Item) (rest : List Item) (s : State), s.idleMember p = some g → g < 64 →
    s.entryWaits p g = false → s.fab.thirds = [] → s.fab.reruns = [] → s.fab.checks = [] → (s.region g).queue = it :: rest →
    it.region = g → it.endEntry = false → s.ranItem p it = false → Gives (.itemClaim p) s fun t =>
      StartsRun s t p .item it (s.ranSlot g it.frame) 1 ∧ (t.region g).queue = rest ∧
      (t.region g).claimed = (s.region g).claimed ++ [(it, p.val)] ∧ (∀ h, h ≠ g → t.region h = s.region h) ∧
      (checkedItem it = false → t.fab.checks = []) ∧
      (checkedItem it = true → s.fab.done = [] → (∀ e : Fin 272, (s.engine e).run = none) → t.fab.checks = [(it, p.val)])) ∧
  (∀ (p : Fin 272) (g : Nat) (it : Item) (rest : List Item) (s : State), s.idleMember p = some g → g ^^^ 1 < 64 →
    s.entryWaits p g = false → s.fab.thirds = [] → s.fab.reruns = [] → s.fab.checks = [] → (s.region g).queue = [] →
    (s.region (g ^^^ 1)).queue = it :: rest → it.region = g ^^^ 1 → it.endEntry = false → s.ranItem p it = false → Gives (.itemClaim p) s fun t =>
      StartsRun s t p .item it (s.ranSlot (g ^^^ 1) it.frame) 1 ∧ (t.region (g ^^^ 1)).queue = rest) ∧
  (∀ (p : Fin 272) (g h : Nat) (it : Item) (rest : List Item) (s : State), s.idleMember p = some g → h < 64 →
    s.entryWaits p g = false → s.fab.thirds = [] → s.fab.reruns = [] → s.fab.checks = [] →
    (h = g ∨ (h = g ^^^ 1 ∧ (s.region g).queue = [])) → (s.region h).queue = it :: rest → it.endEntry = true → s.ranItem p it = false →
    Gives (.endEntryRun p) s fun t => StartsRun s t p .endEntry it (s.ranSlot h it.frame) 3 ∧ (t.region h).queue = rest ∧
      (t.region h).claimed = (s.region h).claimed ++ [(it, p.val)] ∧ (∀ k, k ≠ h → t.region k = s.region k)) ∧
  (∀ (f : Frame) (g : Fin 64) (x : RFrame) (s : State), (s.region g).rframe f.num = some x → x.endDone = false →
    x.discarded = true → s.openItems f g = [] → s.slotEntry (s.ranSlot g f.num) 3 ≠ 0 →
    (∀ it ∈ (s.region g).queue, it.endEntry = false) → (∀ c ∈ (s.region g).claimed, c.1.endEntry = false) →
    ((s.afterItem f g).region g).queue =
      (s.region g).queue ++ [{ region := g, row := 0x3FF, frame := f.num, endEntry := true }])

/-- ITEM_COMMIT of an engine whose FRAME_ENTRY run has ended: the engine is idle and nothing else changes; of an ended
first item run that has no check, while no later frame waits for its gate: the engine is idle and the byte of its write
buffer stands in the frame-state store. CHECK_COMPARE of two waiting runs of an item that has not ended: CHECK_RUNS
counts; a differing pair counts in CHECK_MISMATCH and a third run is due. ENGINE_FAULT of a first item run that met the
fault: the engine is idle with the code as its last fault, ENG_FAULTS counts, the item is back at the head of its queue,
due on another engine, and memory stays. CLAIM_TIMEOUT of a first item run granted CLAIM_ROLLS rolls ago does the same
with code 0x50 and CLAIM_TIMEOUTS. -/
def Obligations.RunsCommitCompareFaultAndTimeOut : Prop :=
  (∀ (p : Fin 272) (us : List Nat) (x : Run) (f : Frame) (s : State), (s.engine p).run = some x → x.kind = .frameEntry → x.fault = 0 →
    x.ended = true → x.leasing = none → s.frame? x.item.frame = some f → x.first = none → Gives (.itemCommit ⟨p, us⟩) s fun t =>
      t.engine p = { s.engine p with run := none } ∧ (∀ j, j ≠ p.val → t.engine j = s.engine j) ∧ { t with fab := s.fab } = s) ∧
  (∀ (p : Fin 272) (us : List Nat) (x : Run) (f : Frame) (o : Nat) (v : Byte) (s : State), (s.engine p).run = some x → x.kind = .item →
    x.fault = 0 → x.ended = true → x.leasing = none → s.frame? x.item.frame = some f → x.first = none → checkedItem x.item = false →
    s.frame? (f.num + 2) = none →
    x.writes = [(o, v)] → o < 0x400000 → x.emits = [] → x.item.region < 64 → Gives (.itemCommit ⟨p, us⟩) s fun t =>
      (t.engine p).run = none ∧ t.byte (fstBase x.item.region + o) = v) ∧
  (∀ (g : Fin 64) (row : Nat) (d c : DoneRun) (f : Frame) (s : State), s.fab.done = [d, c] → d.kind = .item → c.kind = .check →
    d.item = c.item → d.item.region = g.val → d.item.row = row → s.frame? d.item.frame = some f → d.sig ≠ c.sig → d.run.item = d.item → d.run.emits = [] →
    (((s.region g).rframe d.item.frame).any fun x => x.ended.contains row) = false → Gives (.checkCompare g row) s fun t =>
      Counted s t Obj.CHECK_RUNS ∧ Counted s t Obj.CHECK_MISMATCH ∧
      t.fab.thirds = s.fab.thirds ++ [(d.item, d.engine, c.engine)] ∧ t.fab.done = s.fab.done) ∧
  (∀ (g : Fin 64) (row : Nat) (d c : DoneRun) (f : Frame) (s : State), s.fab.done = [d, c] → d.kind = .item → c.kind = .check →
    d.item = c.item → d.item.region = g.val → d.item.row = row → s.frame? d.item.frame = some f → d.sig = c.sig → d.run.item = d.item → d.run.emits = [] →
    (((s.region g).rframe d.item.frame).any fun x => x.ended.contains row) = false → Gives (.checkCompare g row) s fun t =>
      Counted s t Obj.CHECK_RUNS ∧ t.get Obj.CHECK_MISMATCH = s.get Obj.CHECK_MISMATCH ∧ t.fab.thirds = s.fab.thirds ∧
      t.fab.done = []) ∧
  (∀ (p : Fin 272) (x : Run) (code : Nat) (s : State), (s.engine p).run = some x → x.kind = .item → x.fault = code → code ≠ 0 →
    x.first = none → Gives (.engineFault p code) s fun t =>
      (t.engine p).run = none ∧ (t.engine p).lastFault = code ∧ Counted s t Obj.ENG_FAULTS ∧
      t.fab.reruns = s.fab.reruns ++ [(x.item, p.val, .item)] ∧ (∀ j, j ≠ p.val → t.engine j = s.engine j) ∧
      (x.item.region < 64 → (t.region x.item.region).queue = x.item :: (s.region x.item.region).queue) ∧
      SameObj s t [Obj.ENG_FAULTS] ∧ { t with fab := s.fab, obj := s.obj } = s) ∧
  (∀ (p : Fin 272) (x : Run) (s : State), (s.engine p).run = some x → x.kind = .item → x.ended = false → x.first = none →
    x.grant + s.nat Obj.CLAIM_ROLLS ≤ s.nat Obj.ROLL_COUNT → Gives (.claimTimeout p) s fun t =>
      (t.engine p).run = none ∧ (t.engine p).lastFault = 0x50 ∧ Counted s t Obj.CLAIM_TIMEOUTS ∧
      t.fab.reruns = s.fab.reruns ++ [(x.item, p.val, .item)] ∧ SameObj s t [Obj.CLAIM_TIMEOUTS] ∧
      (x.item.region < 64 → (t.region x.item.region).queue = x.item :: (s.region x.item.region).queue) ∧
      { t with fab := s.fab, obj := s.obj } = s)

/-- HALO_ARRIVAL of a word that its source row holds, for a halo row that has its buffer: the word stands in its column of
that buffer and no other byte changes, where the frame path holds a stick of every seam that the word crosses; else it
waits. A good seam block zeroes the link's failures; a bad one counts in SEAM_RETRIES; the sixteenth in a row takes the
link down: SEAM_STATE reads 1, gong 0x0031 and bell 0x0417. PROG_SLOT_WRITE into a slot not in use stores the bytes
(reserved header bits zero) and SLOT_VALID shows the check; into a slot in use it only counts in PROG_REFUSED.
TABLE_AREA_WRITE stores its bytes and changes no other byte. -/
def Obligations.HalosSeamsAndProgramMemory : Prop :=
  (∀ (g : Fin 64) (row c : Int) (w : Word) (f : Frame) (x : RFrame) (h r k b : Nat) (s : State), s.focal.frames = [f] →
    (s.region g).rframe f.num = some x → x.discarded = false → (haloCols f.rho row).contains c = true →
    x.halos.contains (row, c) = false → s.haloComes f g row c = true → haloSource g row c = some (h, r, k) →
    s.rowHeld f h r = true → s.lineWord h f.num r k = w.toNat → s.rowBuf g f.num row = some b →
    (∀ e ∈ haloBlocks g row [(c, w)], s.maySpend (128 + e.1) 0 = true) → Gives (.haloArrival g row [(c, w)]) s fun t =>
      t.le (lineAddr g b c) 4 = w.toNat ∧ (∀ a, a < lineAddr g b c ∨ lineAddr g b c + 4 ≤ a → t.byte a = s.byte a) ∧
      (∃ y, (t.region g).rframe f.num = some y ∧ y.halos = (row, c) :: x.halos) ∧ (∀ j, j ≠ g.val → t.region j = s.region j) ∧
      (quadOfRegion h = quadOfRegion g → t.obj = s.obj)) ∧
  (∀ (g : Fin 64) (row c : Int) (w : Word) (f : Frame) (x : RFrame) (h r k : Nat) (s : State), s.focal.frames = [f] →
    (s.region g).rframe f.num = some x → (haloCols f.rho row).contains c = true →
    x.halos.contains (row, c) = false → s.haloComes f g row c = true → haloSource g row c = some (h, r, k) →
    s.rowHeld f h r = true → s.lineWord h f.num r k = w.toNat →
    (∃ e ∈ haloBlocks g row [(c, w)], s.maySpend (128 + e.1) 0 = false) →
    Gives (.haloArrival g row [(c, w)]) s fun t => SameMem s t ∧ t.fab = s.fab ∧ t.focal = s.focal) ∧
  (∀ (l : Fin 4) (s : State), s.fab.seamDown[l] = false → Gives (.seamBlockReceive l true) s fun t =>
    t.fab.seamFails[l] = 0 ∧ { t with fab := s.fab } = s) ∧
  (∀ (l : Fin 4) (s : State), s.fab.seamDown[l] = false → s.fab.seamFails[l] ≠ 15 → Gives (.seamBlockReceive l false) s fun t =>
    t.fab.seamFails[l] = s.fab.seamFails[l] + 1 ∧ t.fab.seamDown = s.fab.seamDown ∧ Counted s t (Obj.SEAM_RETRIES l) ∧
    SameObj s t [Obj.SEAM_RETRIES l] ∧ { t with fab := s.fab, obj := s.obj } = s) ∧
  (∀ (l : Fin 4) (s : State), s.fab.seamDown[l] = false → s.fab.seamFails[l] = 15 → Gives (.seamBlockReceive l false) s fun t =>
    t.fab.seamDown[l] = true ∧ (∀ k : Fin 4, k ≠ l → t.fab.seamDown[k] = s.fab.seamDown[k]) ∧ t.get (Obj.SEAM_STATE l) = 1 ∧
    t.lands.gongOwn = true ∧ t.ens.gongCause = some 0x31 ∧ SameMem s t ∧ Rings s t 0x0417 0) ∧
  (∀ (i : Fin 2) (off : Nat) (bs : List Byte) (s : State), off + bs.length ≤ 32768 → s.slotBusy i = false →
    Gives (.progSlotWrite i off bs) s fun t =>
      (∀ k, k < bs.length → t.byte (progBase i + off + k) = headerByte (off + k) (bs.getD k 0)) ∧
      (∀ a, a < progBase i + off ∨ progBase i + off + bs.length ≤ a → t.byte a = s.byte a) ∧
      t.slotValid i = t.slotCheck i ∧ SameObj s t [Obj.SLOT_VALID] ∧ t.fab = s.fab ∧ t.focal = s.focal) ∧
  (∀ (i : Fin 2) (off : Nat) (bs : List Byte) (s : State), off + bs.length ≤ 32768 → s.slotBusy i = true →
    Gives (.progSlotWrite i off bs) s fun t => Counted s t Obj.PROG_REFUSED ∧ SameObj s t [Obj.PROG_REFUSED] ∧
      { t with obj := s.obj } = s) ∧
  (∀ (off : Nat) (bs : List Byte) (s : State), off + bs.length ≤ 131072 → Gives (.tableAreaWrite off bs) s fun t =>
    (∀ k, k < bs.length → t.byte (tableBase + off + k) = bs.getD k 0) ∧
    (∀ a, a < tableBase + off ∨ tableBase + off + bs.length ≤ a → t.byte a = s.byte a) ∧
    { t with mem := s.mem, eccBad := s.eccBad } = s)

/-- F_ENG_WRITE of 50 to 400 MHz in steps of 5: the value is staged for its die, the die's READY bit clears, the clock in
force and every other object stay. Another value changes nothing. ENGINE_PLL_LOCK sets the READY bit of its die only.
VDDE_MEASURE no more than 20 mV below the minimum for the clock in force only records the voltage; further below, and at
least 550 mV, the clock in force becomes the highest of R140's table that the voltage allows and bell 0x0416 rings. -/
def Obligations.EngineClocksFollowPllAndVoltage : Prop :=
  (∀ (q : Fin 4) (v : Nat) (s : State), 50 ≤ v → v ≤ 400 → v % 5 = 0 → Gives (.fEngWrite q v) s fun t =>
    (t.shadow.staged.filter fun e => e.1 == Obj.F_ENG q) = [(Obj.F_ENG q, (v : Int))] ∧
    (∀ e : Nat × Int, e.1 ≠ Obj.F_ENG q → (e ∈ t.shadow.staged ↔ e ∈ s.shadow.staged)) ∧
    (t.nat Obj.F_ENG_READY).testBit q = false ∧
    (∀ r : Fin 4, r ≠ q → (t.nat Obj.F_ENG_READY).testBit r = (s.nat Obj.F_ENG_READY).testBit r) ∧
    SameObj s t [Obj.F_ENG_READY] ∧ { t with fab := s.fab, shadow := s.shadow, obj := s.obj } = s) ∧
  (∀ (q : Fin 4) (v : Nat) (s : State), (v < 50 ∨ 400 < v ∨ v % 5 ≠ 0) → exec (.fEngWrite q v) s = .next s) ∧
  (∀ (q : Fin 4) (s : State), Gives (.enginePllLock q) s fun t => (t.nat Obj.F_ENG_READY).testBit q = true ∧
    (∀ r : Fin 4, r ≠ q → (t.nat Obj.F_ENG_READY).testBit r = (s.nat Obj.F_ENG_READY).testBit r) ∧
    t.fab.pllReady[q] = true ∧ SameObj s t [Obj.F_ENG_READY] ∧ { t with fab := s.fab, obj := s.obj } = s) ∧
  (∀ (q : Fin 4) (mv : Nat) (s : State), mv < 65536 → vddeMin (s.fEng q) ≤ mv + 20 → Gives (.vddeMeasure q mv) s fun t =>
    t.get (Obj.VDDE_MEAS q) = mv ∧ SameObj s t [Obj.VDDE_MEAS q] ∧ { t with obj := s.obj } = s) ∧
  (∀ (q : Fin 4) (mv : Nat) (s : State), 550 ≤ mv → mv + 20 < vddeMin (s.fEng q) → Gives (.vddeMeasure q mv) s fun t =>
    (∃ f, t.get (Obj.F_ENG_ACTIVE q) = (f : Nat) ∧ f ∈ [100, 200, 250, 300, 350, 400] ∧ vddeMin f ≤ mv ∧
      ∀ f' ∈ [100, 200, 250, 300, 350, 400], vddeMin f' ≤ mv → f' ≤ f) ∧
    t.get (Obj.VDDE_MEAS q) = mv ∧ (∀ r : Fin 4, r ≠ q → t.get (Obj.F_ENG_ACTIVE r) = s.get (Obj.F_ENG_ACTIVE r)) ∧
    SameMem s t ∧ Rings s t 0x0416 0)

/-! ## Engine instructions (05) -/

/-- Engine `p` issues the word with opcode `op` and fields `f`, with registers `e` in run `x` (R144): its class holds a stick or
a PFX word has gone before (R270), and the address after it, with any loop it closes, is in the program. -/
def Issues (s : State) (p : Fin 272) (op : Nat) (f : BitVec 26) (e : Engine) (x : Run) : Prop :=
  s.issues p op f = some (e, x) ∧
  (x.pfx?.isSome = true ∨ s.maySpend ((s.regionOfEngine p).getD 0) x.kind.cls = true) ∧
  s.inProgram x.slot (e.advance e.pc).pc = true

/-- THE FRAME OF AN INSTRUCTION that goes on: engine `p` has the registers `e'` with the PC moved on, ICOUNT one more and its run
`x'` with the PFX word used up; no other engine changes. -/
def GoesOn (s t : State) (p : Fin 272) (e' : Engine) (x' : Run) : Prop :=
  t.engine p = { e'.advance e'.pc with icount := e'.icount + 1, run := some { x' with pfx? := none } } ∧
  ∀ j, j ≠ p.val → t.engine j = s.engine j

/-- Nothing but the engines and the budgets changes. -/
def RegistersOnly (s t : State) : Prop :=
  { t with fab := { t.fab with engines := s.fab.engines }, rolls := s.rolls } = s

/-- A scalar instruction's effect (R149, R160): register `d` takes `r`, Z and N follow it, C and V take `c` and `v` where they are
given, and every other register and flag stays. -/
def ScalarDone (s t : State) (p : Fin 272) (e : Engine) (x : Run) (d : Option Nat) (r : Word) (c v : Option Bool) : Prop :=
  ∃ e', GoesOn s t p e' x ∧ RegistersOnly s t ∧ { e' with s := e.s, fl := e.fl } = e ∧
    (∀ i, i < 16 → e'.sr i = if some i = d then r else e.sr i) ∧
    e'.flag 0 = decide (r = 0) ∧ e'.flag 1 = r.msb ∧ e'.flag 2 = c.getD (e.flag 2) ∧ e'.flag 3 = v.getD (e.flag 3) ∧
    ∀ i, 4 ≤ i → e'.flag i = e.flag i

/-- A vector instruction's effect on register `vd` (R148, R156, R159): active lanes take value and tag, the others keep theirs,
and a 32-bit result sets T[16] to T[31] to zero; every other register stays. -/
def LanesDone (s t : State) (p : Fin 272) (e : Engine) (x : Run) (vd : Nat) (w : Bool) (act : Nat → Bool) (val : Nat → Int)
    (tag : Nat → Nat) : Prop :=
  ∃ e', GoesOn s t p e' x ∧ RegistersOnly s t ∧ { e' with v := e.v } = e ∧ (∀ i, i ≠ vd → e'.vr i = e.vr i) ∧
    (∀ j, j < laneCount w → (e'.vr vd).lane w j = if act j then val j else (e.vr vd).lane w j) ∧
    (∀ j, j < laneCount w → (e'.vr vd).tag j = if act j then tag j else (e.vr vd).tag j) ∧
    (w = true → ∀ j, 16 ≤ j → j < 32 → (e'.vr vd).tag j = 0)

/-- For an issuing engine with Sa = a and operand b (register, signed immediate or prefixed immediate): SADD, SSUB, SAND,
SOR and the shifts by b[4:0] put their 32-bit result into Sd; SCMP writes no register. Z and N follow the result. SADD: C
the carry out, V the signed overflow; SSUB and SCMP: C no borrow, V the signed overflow; SAND and SOR leave C and V;
shifts: C the last bit shifted out (0 for a shift of 0), V stays; SSHR is logical when b[5] is 1. All other registers,
flags, engines, memory and objects stay, and the PC moves on. -/
def Obligations.ScalarArithmeticAndFlags : Prop :=
  ∀ (p : Fin 272) (f : BitVec 26) (e : Engine) (x : Run) (b : Word) (s : State), e.srOperand x f.toNat = some b →
    (bit f.toNat 25 = true ∨ x.pfx? = none) →
    let d := bits f.toNat 24 21
    let a := e.sr (bits f.toNat 20 17)
    let n := b.toNat % 32
    (Issues s p 0x01 f e x → Gives (.sadd p f) s fun t =>
      ScalarDone s t p e x (some d) (a + b) (some (decide (2 ^ 32 ≤ a.toNat + b.toNat))) (some (decide (a.toInt + b.toInt ≠ (a + b).toInt)))) ∧
    (Issues s p 0x02 f e x → Gives (.ssub p f) s fun t =>
      ScalarDone s t p e x (some d) (a - b) (some (decide (b.toNat ≤ a.toNat))) (some (decide (a.toInt - b.toInt ≠ (a - b).toInt)))) ∧
    (Issues s p 0x03 f e x → Gives (.sand p f) s fun t => ScalarDone s t p e x (some d) (a &&& b) none none) ∧
    (Issues s p 0x04 f e x → Gives (.sor p f) s fun t => ScalarDone s t p e x (some d) (a ||| b) none none) ∧
    (Issues s p 0x05 f e x → Gives (.sshl p f) s fun t =>
      ScalarDone s t p e x (some d) (a <<< n) (some (decide (n ≠ 0) && a.getLsbD (32 - n))) none) ∧
    (Issues s p 0x06 f e x → Gives (.sshr p f) s fun t =>
      ScalarDone s t p e x (some d) (if b.getLsbD 5 then a >>> n else a.sshiftRight n)
        (some (decide (n ≠ 0) && a.getLsbD (n - 1))) none) ∧
    (Issues s p 0x07 f e x → d = 0 → Gives (.scmp p f) s fun t =>
      ScalarDone s t p e x none (a - b) (some (decide (b.toNat ≤ a.toNat))) (some (decide (a.toInt - b.toInt ≠ (a - b).toInt))))

/-- SMOV with I = 1 puts the immediate into Sd; kind 0 copies Sa, kind 1 reads a special register (EVP for index 7), kind
5 reads a mask (M0 all ones), kind 6 writes one; flags stay. SBR taken: the PC is the target and the loops whose body it
leaves end; not taken: the PC moves on. SLOOP with a count: the loop is innermost and the PC moves into the body; with
count 0 the PC is END + 1. PFX waits for its second word and does not count in ICOUNT. -/
def Obligations.MovesAndControlFlow : Prop :=
  (∀ (p : Fin 272) (f : BitVec 26) (e : Engine) (x : Run) (v : Word) (s : State), Issues s p 0x00 f e x → bit f.toNat 25 = true →
    bits f.toNat 20 17 = 0 → srImm f.toNat x.pfx? = some v → Gives (.smov p f) s fun t => ∃ e', GoesOn s t p e' x ∧
      RegistersOnly s t ∧ { e' with s := e.s } = e ∧ ∀ i, i < 16 → e'.sr i = if i = bits f.toNat 24 21 then v else e.sr i) ∧
  (∀ (p : Fin 272) (f : BitVec 26) (e : Engine) (x : Run) (s : State), Issues s p 0x00 f e x → bit f.toNat 25 = false →
    x.pfx? = none → (∃ k, (k = 0 ∧ bits f.toNat 12 0 = 0 ∨ k = 1 ∧ bits f.toNat 12 0 = 0x70 ∨ k = 5 ∧ bits f.toNat 9 0 = 0) ∧
      bits f.toNat 16 13 = k) → Gives (.smov p f) s fun t => ∃ e', GoesOn s t p e' x ∧ RegistersOnly s t ∧
      { e' with s := e.s } = e ∧ ∀ i, i < 16 → e'.sr i = if i = bits f.toNat 24 21 then
        (if bits f.toNat 16 13 = 0 then e.sr (bits f.toNat 20 17) else if bits f.toNat 16 13 = 1 then e.evp
         else e.mask (bits f.toNat 12 10)) else e.sr i) ∧
  (∀ (p : Fin 272) (f : BitVec 26) (e : Engine) (x : Run) (s : State), Issues s p 0x00 f e x → bit f.toNat 25 = false →
    x.pfx? = none → bits f.toNat 16 13 = 6 → bits f.toNat 9 0 = 0 → Gives (.smov p f) s fun t => ∃ e', GoesOn s t p e' x ∧
      RegistersOnly s t ∧ { e' with m := e.m } = e ∧ ∀ k, k < 8 → e'.mask k =
        if k = 0 then 0xFFFFFFFF else if k = bits f.toNat 12 10 then e.sr (bits f.toNat 20 17) else e.mask k) ∧
  (∀ (p : Fin 272) (f : BitVec 26) (e : Engine) (x : Run) (s : State), s.issues p 0x08 f = some (e, x) → x.pfx? = none →
    s.maySpend ((s.regionOfEngine p).getD 0) x.kind.cls = true → bit f.toNat 13 = false → bits f.toNat 25 22 < 14 →
    (bits f.toNat 25 22 = 9 ∨ bits f.toNat 25 22 = 10 ∨ bits f.toNat 16 14 = 0) →
    (e.cond (bits f.toNat 25 22) (bits f.toNat 16 14) = some true →
      let target := if bit f.toNat 21 then (e.sr (bits f.toNat 20 17)).toNat % 8192 else bits f.toNat 12 0
      s.inProgram x.slot target = true → s.pairSecond x.slot target = false → Gives (.sbr p f) s fun t =>
        t.engine p = { e with pc := target, icount := e.icount + 1, loops := leaveLoops target e.loops } ∧
        (∀ j, j ≠ p.val → t.engine j = s.engine j) ∧ RegistersOnly s t) ∧
    (e.cond (bits f.toNat 25 22) (bits f.toNat 16 14) = some false → s.inProgram x.slot (e.advance e.pc).pc = true →
      Gives (.sbr p f) s fun t => GoesOn s t p e x ∧ RegistersOnly s t)) ∧
  (∀ (p : Fin 272) (f : BitVec 26) (e : Engine) (x : Run) (n : Nat) (s : State), s.issues p 0x09 f = some (e, x) →
    x.pfx? = none → s.maySpend ((s.regionOfEngine p).getD 0) x.kind.cls = true →
    (bit f.toNat 25 = true ∧ n = bits f.toNat 24 13 ∨ bit f.toNat 25 = false ∧ bits f.toNat 24 21 = 0 ∧ bits f.toNat 16 13 = 0 ∧
      n = (e.sr (bits f.toNat 20 17)).toNat % 65536) → e.pc < bits f.toNat 12 0 → s.inProgram x.slot (bits f.toNat 12 0) = true →
    s.progWord x.slot (bits f.toNat 12 0) / 2 ^ 26 ≠ 0x3F →
    (n ≠ 0 → e.loops.length < 4 → Gives (.sloop p f) s fun t =>
      t.engine p = { e with pc := e.pc + 1, icount := e.icount + 1, loops := ⟨e.pc + 1, bits f.toNat 12 0, n, e.calls.length⟩ :: e.loops } ∧ RegistersOnly s t) ∧
    (n = 0 → s.inProgram x.slot (bits f.toNat 12 0 + 1) = true → Gives (.sloop p f) s fun t =>
      t.engine p = { e with pc := bits f.toNat 12 0 + 1, icount := e.icount + 1 } ∧ RegistersOnly s t)) ∧
  (∀ (p : Fin 272) (f : BitVec 26) (e : Engine) (x : Run) (s : State), s.issues p 0x3F f = some (e, x) → x.pfx? = none →
    s.maySpend ((s.regionOfEngine p).getD 0) x.kind.cls = true → s.inProgram x.slot (e.advance e.pc).pc = true →
    Gives (.pfx p f) s fun t =>
      t.engine p = { e.advance e.pc with run := some { x with pfx? := some f } } ∧ RegistersOnly s t)

/-- With an address that passes the checks of R118 and no upset found. LDL from the table area and from the engine's own
scratch area puts the bytes there into its register (a vector load clears its tags). STL into the scratch area stores the
register's bytes at that offset and no other byte changes. LDST gives the bytes of the frame-state store with those of the
run's write buffer over them. STST of an item run changes only the write buffer, of an entry run only the store. LDPX and
LDCF change one vector register (LDPX also its presence mask) by the words of the line store and the records of the bank.
-/
def Obligations.LoadsAndStores : Prop :=
  (∀ (p : Fin 272) (f : BitVec 26) (e : Engine) (x : Run) (off : Nat) (s : State), Issues s p 0x14 f e x → MF.legal f = true →
    (∀ w : Window, w = .table ∨ w = .scratch → e.address x f (fun w => w = .table || w = .scratch || w = .hist || w = .regs || w = .flash) =
        .ok (w, off) → (w = .scratch → ∀ a ∈ s.eccBad, a / 2 ^ 40 ≠ 4) → Gives (.ldl p f []) s fun t =>
      GoesOn s t p (e.loaded (MF.of f) (s.bytes ((if w = .table then tableBase else scratchBase p) + off) (MF.of f).size)) x ∧
      RegistersOnly s t)) ∧
  (∀ (p : Fin 272) (f : BitVec 26) (e : Engine) (x : Run) (off : Nat) (s : State), Issues s p 0x15 f e x → MF.legal f = true →
    e.address x f (fun w => w = .scratch || (w = .inactive && !x.kind.isItem)) = .ok (.scratch, off) → Gives (.stl p f) s fun t =>
      (∀ i, i < (MF.of f).size → t.byte (scratchBase p + off + i) = (e.stored (MF.of f)).getD i 0) ∧
      (∀ a, a < scratchBase p + off ∨ scratchBase p + off + (MF.of f).size ≤ a → t.byte a = s.byte a) ∧ GoesOn s t p e x ∧
      t.obj = s.obj ∧ t.banks = s.banks) ∧
  (∀ (p : Fin 272) (f : BitVec 26) (e : Engine) (x : Run) (off : Nat) (s : State), Issues s p 0x12 f e x → MF.legal f = true →
    e.address x f (· = .fstate) = .ok (.fstate, off) → x.item.region < 64 → (∀ a ∈ s.eccBad, a / 2 ^ 40 ≠ 2) → Gives (.ldst p f []) s fun t =>
      GoesOn s t p (e.loaded (MF.of f) ((List.range (MF.of f).size).map fun i =>
        ((x.writes.find? fun c => c.1 = off + i).map (·.2)).getD (s.byte (fstBase x.item.region + off + i)))) x ∧
      RegistersOnly s t) ∧
  (∀ (p : Fin 272) (f : BitVec 26) (e : Engine) (x : Run) (off : Nat) (s : State), Issues s p 0x13 f e x → MF.legal f = true →
    e.address x f (· = .fstate) = .ok (.fstate, off) →
    (x.kind.isItem = true → x.blocks.length < 384 → Gives (.stst p f) s fun t => ∃ y, GoesOn s t p { e with run := some y } y ∧
      y.writes = writeBuffer x.writes off (e.stored (MF.of f)) ∧ { y with writes := x.writes, blocks := x.blocks, sig := x.sig } = x ∧
      SameMem s t ∧ t.obj = s.obj) ∧
    (x.kind.isItem = false → x.item.region < 64 → Gives (.stst p f) s fun t => GoesOn s t p e x ∧
      (∀ i, i < (MF.of f).size → t.byte (fstBase x.item.region + off + i) = (e.stored (MF.of f)).getD i 0) ∧
      (∀ a, a < fstBase x.item.region + off ∨ fstBase x.item.region + off + (MF.of f).size ≤ a → t.byte a = s.byte a) ∧
      t.obj = s.obj)) ∧
  (∀ (p : Fin 272) (f : BitVec 26) (e : Engine) (x : Run) (fr : Frame) (row : Int) (s : State), Issues s p 0x10 f e x →
    PX.legal f = true → x.pfx? = none → x.kind.isItem = true → s.frame? x.item.frame = some fr →
    (PX.of f).dy.natAbs ≤ s.rho x.item.frame → fr.neighbour x.item.region x.item.row (PX.of f).dy = some row →
    Gives (.ldpx p f []) s fun t => ∃ e', GoesOn s t p e' x ∧ RegistersOnly s t ∧ { e' with v := e.v, m := e.m } = e ∧
      (∀ i, i ≠ (PX.of f).vd → e'.vr i = e.vr i) ∧ (∀ k, k ≠ (PX.of f).pm → e'.mask k = e.mask k) ∧
      ∀ j, j < laneCount (PX.of f).w → e.active (PX.of f).msk j = true →
        let w := s.lineWord x.item.region x.item.frame row ((e.sr (PX.of f).sc).toInt + (PX.of f).dx + j)
        (e'.vr (PX.of f).vd).tag j = (if linePresent w then lineTag w else 0) ∧
        (e'.vr (PX.of f).vd).lane (PX.of f).w j = (if linePresent w then (PX.of f).value (lineValue w) else 0) ∧
        ((PX.of f).pm ≠ 0 → (e'.mask (PX.of f).pm).getLsbD j = linePresent w)) ∧
  (∀ (p : Fin 272) (f : BitVec 26) (e : Engine) (x : Run) (h : Bool) (get : Nat → Int) (s : State), Issues s p 0x11 f e x →
    ldcfLegal f = true → ldcfField (bits f.toNat 15 12) = some (h, get) → x.pfx? = none → x.kind.isItem = true →
    s.maySpend (64 + x.item.region) 0 = true → Gives (.ldcf p f []) s fun t => ∃ e', GoesOn s t p e' x ∧ RegistersOnly s t ∧
      { e' with v := e.v } = e ∧ (∀ i, i ≠ bits f.toNat 25 21 → e'.vr i = e.vr i) ∧
      ∀ j, j < laneCount (bit f.toNat 10) → e.active (bits f.toNat 6 4) j = true →
        (e'.vr (bits f.toNat 25 21)).tag j = 0 ∧
        (e'.vr (bits f.toNat 25 21)).laneU (bit f.toNat 10) j = wrapNat (laneBits (bit f.toNat 10))
          (get (s.ldcfRecord (s.bankFor x.item.region x.item.frame (bit f.toNat 16)) x.item.row ((e.sr (bits f.toNat 20 17)).toInt + j))))

/-- For an issuing engine and a legal word r of the form Vd, Va, b: active lanes of Vd take the value and TG's tag, the
others keep theirs. VADD and VSUB: the sum or difference modulo the lane, or saturated signed or unsigned with SUB[0].
VMUL: the product with the low 16 bits of b, rounded down by 0, 8, 14 or 15 bits and saturated. VMIN and VMAX: the smaller
or larger lane, unsigned with SUB[0]. VABS: the magnitude, or that of the difference, saturated. VSHR from a register by 0
to 31: the shifted value, rounded when SUB[1]. VSAT in saturate mode: the value clamped to its bits. No other register,
flag, byte or object changes. -/
def Obligations.VectorArithmetic : Prop :=
  ∀ (p : Fin 272) (f : BitVec 26) (e : Engine) (x : Run) (s : State),
    let r := VR.of f
    let done (t : State) (val : Nat → Int) : Prop := LanesDone s t p e x r.vd r.w (e.active r.msk) val (e.tgTag r)
    let a (j : Nat) : Int := (e.vr r.va).lane r.w j
    let b (j : Nat) : Int := e.bS r x.pfx? j
    r.bm ≠ 3 → (r.bm = 2 ∨ x.pfx? = none) →
    (Issues s p 0x20 f e x → (r.sub = 0 ∨ r.sub = 2) → Gives (.vadd p f) s fun t =>
      done t fun j => signedOf (laneBits r.w) (wrapNat (laneBits r.w) (a j + b j))) ∧
    (Issues s p 0x20 f e x → r.sub = 1 → Gives (.vadd p f) s fun t => done t fun j => satLane r.w false (a j + b j)) ∧
    (Issues s p 0x21 f e x → (r.sub = 0 ∨ r.sub = 2) → Gives (.vsub p f) s fun t =>
      done t fun j => signedOf (laneBits r.w) (wrapNat (laneBits r.w) (a j - b j))) ∧
    (Issues s p 0x21 f e x → r.sub = 3 → Gives (.vsub p f) s fun t => done t fun j =>
      signedOf (laneBits r.w) (satLane r.w true (((e.vr r.va).laneU r.w j : Int) - (e.bU r x.pfx? j : Int))).toNat) ∧
    (Issues s p 0x22 f e x → Gives (.vmul p f) s fun t => done t fun j =>
      satLane r.w false (roundDown (a j * (if r.sub / 4 = 1 then ((e.bU r x.pfx? j % 65536 : Nat) : Int)
        else signedOf 16 (e.bU r x.pfx? j))) ([0, 8, 14, 15].getD (r.sub % 4) 0))) ∧
    (Issues s p 0x26 f e x → r.sub % 2 = 0 → Gives (.vmin p f) s fun t => done t fun j => min (a j) (b j)) ∧
    (Issues s p 0x27 f e x → r.sub % 2 = 0 → Gives (.vmax p f) s fun t => done t fun j => max (a j) (b j)) ∧
    (Issues s p 0x27 f e x → r.sub % 2 = 1 → Gives (.vmax p f) s fun t => done t fun j =>
      signedOf (laneBits r.w) (max ((e.vr r.va).laneU r.w j) (e.bU r x.pfx? j))) ∧
    (Issues s p 0x28 f e x → r.sub < 2 → Gives (.vabs p f) s fun t => done t fun j =>
      satLane r.w false ((if r.sub = 1 then a j - b j else a j).natAbs : Int)) ∧
    (Issues s p 0x24 f e x → r.sub = 0 → (∀ j, j < laneCount r.w → 0 ≤ b j ∧ b j ≤ 31) → Gives (.vshr p f) s fun t =>
      done t fun j => (a j).fdiv (2 ^ (b j).toNat)) ∧
    (Issues s p 0x24 f e x → r.sub = 2 → (∀ j, j < laneCount r.w → 1 ≤ b j ∧ b j ≤ 31) → Gives (.vshr p f) s fun t =>
      done t fun j => (a j + 2 ^ ((b j).toNat - 1)).fdiv (2 ^ (b j).toNat)) ∧
    (Issues s p 0x25 f e x → r.sub = 0 → r.bm = 2 → x.pfx? = none → r.b + 1 ≤ laneBits r.w → Gives (.vsat p f) s fun t =>
      done t fun j => clampInt (a j) (-(2 ^ r.b)) (2 ^ r.b - 1))

/-- For an issuing engine and a legal word. VMAC: each active lane of A[n] takes its old value (0 with SUB[0], which
clears the whole accumulator first) plus or minus the product, limited to ±(2^47 - 1); other lanes stay (0 with SUB[0]),
and so do all vector registers. VCMP: each lane's bit of the mask is 1 exactly where the lane is active and the condition
holds; a write to M0 changes nothing. VSEL: active lanes come from Va with its tag, the others from b with its tag (0 for
a broadcast). VTAG 2 and 3 set and clear tag bits of Va's lanes in Vd; VTAG 0 writes the mask of lanes that carry a bit of
b. VLUT without interpolation gives the entry named by the low 16 bits, at most 4,095. -/
def Obligations.AccumulateCompareSelectTagAndLookUp : Prop :=
  ∀ (p : Fin 272) (f : BitVec 26) (e : Engine) (x : Run) (s : State),
    let r := VR.of f
    let a (j : Nat) : Int := (e.vr r.va).lane r.w j
    r.bm ≠ 3 → (r.bm = 2 ∨ x.pfx? = none) →
    (Issues s p 0x23 f e x → r.vd < 4 → Gives (.vmac p f) s fun t => ∃ e', GoesOn s t p e' x ∧ RegistersOnly s t ∧
      { e' with a := e.a } = e ∧ (∀ i, i ≠ r.vd → e'.acc i = e.acc i) ∧ ∀ j, j < 32 → (e'.acc r.vd).lane j =
        if j < laneCount r.w ∧ e.active r.msk j = true then
          clampInt ((if r.sub % 2 = 1 then 0 else (e.acc r.vd).lane j) +
            (if r.sub / 2 % 2 = 1 then -1 else 1) * (a j * e.factor x r j)) (-(2 ^ 47 - 1)) (2 ^ 47 - 1)
        else if r.sub % 2 = 1 then 0 else (e.acc r.vd).lane j) ∧
    (Issues s p 0x29 f e x → r.vd < 8 → Gives (.vcmp p f) s fun t => ∃ e', GoesOn s t p e' x ∧ RegistersOnly s t ∧
      { e' with m := e.m } = e ∧ (∀ k, k ≠ r.vd → e'.mask k = e.mask k) ∧ (r.vd = 0 → e' = e) ∧
      (r.vd ≠ 0 → ∀ j, j < 32 → (e'.mask r.vd).getLsbD j = (decide (j < laneCount r.w) && e.active r.msk j &&
        vcmpHolds r.sub (a j) (e.bS r x.pfx? j) ((e.vr r.va).laneU r.w j) (e.bU r x.pfx? j)))) ∧
    (Issues s p 0x2A f e x → Gives (.vsel p f) s fun t => LanesDone s t p e x r.vd r.w (fun _ => true)
      (fun j => if e.active r.msk j then a j else e.bS r x.pfx? j)
      (fun j => if e.active r.msk j then (e.vr r.va).tag j else e.bTag r j)) ∧
    (Issues s p 0x2D f e x → r.bm ≠ 0 → r.sub = 2 ∨ r.sub = 3 → Gives (.vtag p f) s fun t =>
      LanesDone s t p e x r.vd r.w (e.active r.msk) a fun j => if r.sub = 2 then (e.vr r.va).tag j ||| e.bU r x.pfx? 0 % 16
        else (e.vr r.va).tag j &&& (15 - e.bU r x.pfx? 0 % 16)) ∧
    (Issues s p 0x2D f e x → r.bm ≠ 0 → r.sub = 0 → 0 < r.vd → r.vd < 8 → Gives (.vtag p f) s fun t => ∃ e', GoesOn s t p e' x ∧
      RegistersOnly s t ∧ { e' with m := e.m } = e ∧ (∀ k, k ≠ r.vd → e'.mask k = e.mask k) ∧
      ∀ j, j < 32 → (e'.mask r.vd).getLsbD j = (decide (j < laneCount r.w) && e.active r.msk j &&
        decide ((e.vr r.va).tag j &&& (e.bU r x.pfx? 0 % 16) ≠ 0))) ∧
    (Issues s p 0x2C f e x → r.bm = 1 → r.sub = 0 → s.eccBad = [] →
      (e.sr (r.b % 16)).toNat % 64 = 0 → (e.sr (r.b % 16)).toNat + 4096 * (laneBits r.w / 8) ≤ 0x20000 →
      Gives (.vlut ⟨p, []⟩ f) s fun t => LanesDone s t p e x r.vd r.w (e.active r.msk)
        (fun j => signedOf (laneBits r.w) (s.le (tableBase + (e.sr (r.b % 16)).toNat +
          laneBits r.w / 8 * min 4095 ((e.vr r.va).laneU r.w j % 65536)) (laneBits r.w / 8)))
        (e.tgTag r))

/-- For an issuing engine. VNBR 3×3 of an item run: an active lane of the half whose pattern selects a usable neighbour
takes the rounded mean of their values with SUB (and SET if one had it); any other lane keeps its value. VHIST of an item
run whose engine holds the bank, with one lane that takes part: its bin of the region's bank rises by the weight,
saturating, and no other byte changes. VSTAT: STCNT rises by the number of lanes active without OVR and CHK, STMIN and
STMAX take them in, and SUB[0] begins anew. VMOM: the target's count rises by those of the lanes whose column lies in 0 to
767; no other target changes. -/
def Obligations.NeighboursHistogramsAndStatistics : Prop :=
  (∀ (p : Fin 272) (f : BitVec 26) (e : Engine) (x : Run) (fr : Frame) (s : State), Issues s p 0x2E f e x → x.pfx? = none →
    x.kind.isItem = true → bits f.toNat 9 8 = 0 → bit f.toNat 11 = false → s.frame? x.item.frame = some fr →
    Gives (.vnbr ⟨p, []⟩ f) s fun t => ∃ e', GoesOn s t p e' x ∧ RegistersOnly s t ∧ { e' with v := e.v } = e ∧
      (∀ i, i ≠ bits f.toNat 25 21 → e'.vr i = e.vr i) ∧ ∀ j, j < 16 →
        let half := if bit f.toNat 10 then 16 else 0
        let us := ((nbrSelected nbr3 ((e.vr (bits f.toNat 20 16)).laneU false (half + j) % 256)).filterMap
          (s.nbrValue x fr (bit f.toNat 0) ((e.sr (bits f.toNat 15 12)).toInt + half + j)))
        (e.active (bits f.toNat 7 5) (half + j) = false ∨ us = [] →
          (e'.vr (bits f.toNat 25 21)).lane true j = (e.vr (bits f.toNat 25 21)).lane true j ∧
          (e'.vr (bits f.toNat 25 21)).tag j = (e.vr (bits f.toNat 25 21)).tag j) ∧
        (e.active (bits f.toNat 7 5) (half + j) = true → us ≠ [] →
          (e'.vr (bits f.toNat 25 21)).laneU true j = wrapNat 32 (roundAway ((us.map (·.1)).sum) us.length) ∧
          (e'.vr (bits f.toNat 25 21)).tag j = (if us.any fun u => u.2.testBit 1 then 6 else 4))) ∧
  (∀ (p : Fin 272) (f : BitVec 26) (e : Engine) (x : Run) (j : Nat) (s : State), Issues s p 0x30 f e x → x.kind = .item →
    (VR.of f).bm = 2 → (VR.of f).vd < 4 → (VR.of f).sub = 0 → (VR.of f).w = false → x.pfx? = none → 1 ≤ (VR.of f).b →
    s.holds p (21 * x.item.region + (VR.of f).vd) = true → ((List.range 32).filter (e.counts (VR.of f))) = [j] →
    s.eccBad = [] → x.item.region < 64 → Gives (.vhist p f []) s fun t =>
      let a := histBase x.item.region + 16384 * (VR.of f).vd + 4 * min ((e.vr (VR.of f).va).laneU false j) 4095
      t.le a 4 = min 0xFFFFFFFF (s.le a 4 + (VR.of f).b) ∧ (∀ c, c < a ∨ a + 4 ≤ c → t.byte c = s.byte c) ∧
      (t.engine p).pc = (e.advance e.pc).pc ∧ (t.engine p).v = e.v ∧ t.obj = s.obj) ∧
  (∀ (p : Fin 272) (f : BitVec 26) (e : Engine) (x : Run) (s : State), Issues s p 0x31 f e x → x.pfx? = none →
    (VR.of f).bm = 0 → (VR.of f).b = 0 → (VR.of f).sub = 1 → Gives (.vstat p f) s fun t =>
      let vals := ((List.range (laneCount (VR.of f).w)).filter (e.counts (VR.of f))).map ((e.vr (VR.of f).va).lane (VR.of f).w)
      ∃ e', GoesOn s t p e' x ∧ RegistersOnly s t ∧
        { e' with stSum := e.stSum, stSq := e.stSq, stMin := e.stMin, stMax := e.stMax, stCnt := e.stCnt, stNew := e.stNew } = e ∧
        e'.stCnt.toNat = vals.length ∧ e'.stSum = vals.sum ∧ (∀ v ∈ vals, e'.stMin ≤ v ∧ v ≤ e'.stMax) ∧
        (vals ≠ [] → e'.stMin ∈ vals ∧ e'.stMax ∈ vals)) ∧
  (∀ (p : Fin 272) (f : BitVec 26) (e : Engine) (x : Run) (s : State), Issues s p 0x32 f e x → x.pfx? = none →
    (VR.of f).bm = 1 → (VR.of f).w = false → Gives (.vmom p f) s fun t => ∃ e', GoesOn s t p e' x ∧ RegistersOnly s t ∧
      { e' with mom := e.mom } = e ∧ (∀ i : Fin 32, i.val ≠ (VR.of f).vd → e'.mom[i] = e.mom[i]) ∧
      (e'.mom.toList.getD (VR.of f).vd {}).n % 2 ^ 32 = ((e.mom.toList.getD (VR.of f).vd {}).n +
        ((List.range 32).filter fun j => e.counts (VR.of f) j &&
          decide (0 ≤ (e.sr ((VR.of f).b % 16)).toInt + j ∧ (e.sr ((VR.of f).b % 16)).toInt + j ≤ 767)).length) % 2 ^ 32)

/-- For an issuing engine in an item run (holding the lease that a record or a remote write needs): EMIT LINE adds one
pixel for every active lane whose column lies in 0 to 767, EMIT RECORD one record, EMIT REMOTE one remote write, BELL one
code 0x0800 + CODE; memory, objects, views, lanes and the bell queue stay. In an entry run with the lease and the link up,
EMIT REMOTE stores its 64 bytes in the far frame-state store and changes no other byte where its class holds a stick of
that transmit slot and has no block waiting there, else the block joins those that wait; BELL rings 0x0800 + CODE at once.
-/
def Obligations.EmitsAndBellsWaitForTheCommit : Prop :=
  (∀ (p : Fin 272) (f : BitVec 26) (e : Engine) (x : Run) (s : State), Issues s p 0x38 f e x → x.pfx? = none →
    x.kind.isItem = true → (EM.of f).kind = 0 → bits f.toNat 4 0 = 0 → Gives (.emitLine p f) s fun t => ∃ y,
      GoesOn s t p { e with run := some y } y ∧ RegistersOnly s t ∧ { y with emits := x.emits, sig := x.sig } = x ∧
      y.emits.length = x.emits.length + ((List.range (laneCount (EM.of f).w)).filter fun (j : Nat) =>
        e.active (EM.of f).msk j && 0 ≤ (e.sr (EM.of f).sc).toInt + (j : Int) && (e.sr (EM.of f).sc).toInt + (j : Int) ≤ 767).length) ∧
  (∀ (p : Fin 272) (f : BitVec 26) (e : Engine) (x : Run) (s : State), Issues s p 0x38 f e x → x.pfx? = none →
    x.kind = .item → (EM.of f).kind = 1 → bits f.toNat 4 0 = 0 → (EM.of f).w = false → (EM.of f).dest % 4 = 0 →
    s.holds p (21 * x.item.region + 5 + (EM.of f).dest / 4) = true → Gives (.emitRecord p f) s fun t => ∃ y,
      GoesOn s t p { e with run := some y } y ∧ RegistersOnly s t ∧ { y with emits := x.emits, sig := x.sig, used := x.used } = x ∧
      y.emits = .record ((EM.of f).dest / 4) (leBytes 64 (e.vr (EM.of f).vs).lanes.toNat)
        (BitVec.ofNat 16 (e.sr (EM.of f).sc).toNat) :: x.emits) ∧
  (∀ (p : Fin 272) (f : BitVec 26) (e : Engine) (x : Run) (l : Nat) (s : State), Issues s p 0x38 f e x → x.pfx? = none →
    (EM.of f).kind = 2 → bits f.toNat 4 0 = 0 → (EM.of f).dest = 0 →
    let sc := (e.sr (EM.of f).sc).toNat
    let far := quadOfRegion (bits sc 29 24)
    let slot := 2 * l + (if dieOfEngine p < far then 0 else 1)
    seamBetween (dieOfEngine p) far = some l → bits sc 21 0 % 64 = 0 → s.holds p (1344 + slot) = true →
    (x.kind = .item → Gives (.emitRemote p f) s fun t => SameMem s t ∧ RegistersOnly s t ∧ ∃ y,
      GoesOn s t p { e with run := some y } y ∧
      y.emits = .remote (bits sc 29 24) (bits sc 21 0) (leBytes 64 (e.vr (EM.of f).vs).lanes.toNat) slot :: x.emits) ∧
    (x.kind.isItem = false → (s.maySpend (128 + slot) 1 && !s.rolls.seam.any fun q => q.slot = slot && q.cls = 1) = false →
      Gives (.emitRemote p f) s fun t => SameMem s t ∧
        t.rolls.seam = s.rolls.seam ++ [⟨slot, 1, bits sc 29 24, bits sc 21 0, leBytes 64 (e.vr (EM.of f).vs).lanes.toNat⟩]) ∧
    (x.kind.isItem = false → s.fab.seamDown.toList.getD l false = false → s.maySpend (128 + slot) 1 = true →
      (s.rolls.seam.any fun q => q.slot = slot && q.cls = 1) = false → Gives (.emitRemote p f) s fun t =>
      t.bytes (fstBase (bits sc 29 24) + bits sc 21 0) 64 = leBytes 64 (e.vr (EM.of f).vs).lanes.toNat ∧
      (∀ a, a < fstBase (bits sc 29 24) + bits sc 21 0 ∨ fstBase (bits sc 29 24) + bits sc 21 0 + 64 ≤ a → t.byte a = s.byte a) ∧
      t.obj = s.obj)) ∧
  (∀ (p : Fin 272) (f : BitVec 26) (e : Engine) (x : Run) (s : State), Issues s p 0x3C f e x → x.pfx? = none →
    bits f.toNat 24 21 = 0 → bits f.toNat 16 8 = 0 →
    let code := if bit f.toNat 25 then bits f.toNat 7 0 else (e.sr (bits f.toNat 20 17)).toNat % 256
    (x.kind.isItem = true → Gives (.engineBell p f) s fun t => ∃ y, GoesOn s t p { e with run := some y } y ∧ RegistersOnly s t ∧
      y = { x with bells := (0x0800 + code) :: x.bells }) ∧
    (x.kind.isItem = false → Gives (.engineBell p f) s fun t => GoesOn s t p e x ∧ Rings s t (0x0800 + code) 0 ∧ SameMem s t))

/-- WAITS of an entry run: with a pending event the hit goes to Sd and WREASON reads 0; with none the engine waits with
its registers unchanged. WAITS_RELEASE for a pending event writes the hit and the landing time of its stroke and ends the
wait; for a FRAME_START or a roll boundary that has landed since, and for a timeout that has passed in engine cycles, it
writes 0, the cause and its time, sets FL.TMO at the timeout and ends the wait. ENG_EVENT sets bit ARG[4:0] of EVP in
every engine of the targeted regions, at level 4 dies, and nothing else of any engine. LEASE of a resource that the engine
holds renews it to ROLL_COUNT + EXPIRY; of a free resource it makes the engine its holder to ROLL_COUNT + EXPIRY; of one
that another engine holds it joins the end of the queue and the engine waits. LEASE_GRANT of a free resource gives it to
the first that waits, which goes on. A wait of WAIT rolls gives up with FL.LF. -/
def Obligations.EventsAndLeases : Prop :=
  (∀ (p : Fin 272) (f : BitVec 26) (e : Engine) (x : Run) (s : State), Issues s p 0x39 f e x → x.pfx? = none →
    x.kind.isItem = false → bits f.toNat 10 0 = 0 →
    (e.evp &&& e.sr (bits f.toNat 21 18) ≠ 0 → Gives (.waits p f) s fun t => ∃ e', GoesOn s t p e' x ∧ RegistersOnly s t ∧
      e'.sr (bits f.toNat 25 22) = e.evp &&& e.sr (bits f.toNat 21 18) ∧ e'.wreason = 0 ∧ e'.fl = e.fl ∧ e'.v = e.v ∧
      e'.evp = (if bit f.toNat 13 then e.evp &&& ~~~(e.evp &&& e.sr (bits f.toNat 21 18)) else e.evp)) ∧
    (e.evp &&& e.sr (bits f.toNat 21 18) = 0 → Gives (.waits p f) s fun t => ∃ w : Wait, w.mask = e.sr (bits f.toNat 21 18) ∧
      w.beat = s.clk.beats ∧ GoesOn s t p { e with run := some { x with waiting := some w } } { x with waiting := some w } ∧ RegistersOnly s t)) ∧
  (∀ (p : Fin 272) (n : Fin 32) (x : Run) (w : Wait) (s : State), (s.engine p).run = some x → x.waiting = some w → w.sd < 16 →
    (w.fs = true → ∀ d, w.fsLand = some d → Gives (.waitsRelease p 1 n) s fun t =>
      (t.engine p).sr w.sd = 0 ∧ (t.engine p).wreason = 1 ∧ (t.engine p).land = d ∧ (t.engine p).evp = (s.engine p).evp ∧
      (t.engine p).run = some { x with waiting := none } ∧ { t with fab := s.fab } = s) ∧
    (w.rb = true → ∀ d, w.rbLand = some d → Gives (.waitsRelease p 2 n) s fun t =>
      (t.engine p).sr w.sd = 0 ∧ (t.engine p).wreason = 2 ∧ (t.engine p).land = d ∧ (t.engine p).evp = (s.engine p).evp ∧
      (t.engine p).run = some { x with waiting := none } ∧ { t with fab := s.fab } = s) ∧
    (w.limit ≠ 0 → w.limit * 200 ≤ (s.clk.beats - w.beat) * s.fEng (dieOfEngine p) → Gives (.waitsRelease p 3 n) s fun t =>
      (t.engine p).sr w.sd = 0 ∧ (t.engine p).wreason = 3 ∧ (t.engine p).land = s.now ∧ (t.engine p).flag 9 = true ∧
      (t.engine p).evp = (s.engine p).evp ∧ (t.engine p).run = some { x with waiting := none } ∧ { t with fab := s.fab } = s)) ∧
  (∀ (p : Fin 272) (n : Fin 32) (d : Dlt) (x : Run) (w : Wait) (s : State), (s.engine p).run = some x → x.waiting = some w →
    ((s.engine p).evp &&& w.mask).getLsbD n = true → (s.engine p).evLand = [(n.val, d)] → w.sd < 16 →
    Gives (.waitsRelease p 0 n) s fun t => (t.engine p).land = d ∧
      (t.engine p).sr w.sd = (s.engine p).evp &&& w.mask ∧ (t.engine p).run = some { x with waiting := none } ∧
      (t.engine p).pc = (s.engine p).pc ∧ (t.engine p).wreason = 0 ∧ (∀ j, j ≠ p.val → t.engine j = s.engine j) ∧
      { t with fab := s.fab } = s) ∧
  (∀ (l : Landing) (s u : State), s.landing 0x30 l = some u → Gives (.engEvent l) s fun t =>
    let hit (p : Fin 272) : Prop := if l.level = 4 then l.hits (dieOfEngine p) = true
      else ∃ g, u.regionOfEngine p = some g ∧ l.hitsRegion g = true
    (∀ p : Fin 272, hit p →
      (t.engine p).evp = (u.engine p).evp ||| BitVec.ofNat 32 (2 ^ (l.arg.toNat % 32)) ∧
      { t.engine p with evp := (u.engine p).evp, evLand := (u.engine p).evLand } = u.engine p) ∧
    (∀ p : Fin 272, ¬ hit p → t.engine p = u.engine p) ∧ { t with fab := u.fab } = u) ∧
  (∀ (p : Fin 272) (f : BitVec 26) (e : Engine) (x : Run) (r : Nat) (s : State), Issues s p 0x3A f e x → x.pfx? = none →
    x.kind.comparing = false → bits f.toNat 19 16 = 0 → bits f.toNat 7 0 ≠ 0 →
    leaseTarget p (s.leaseRegion p x) (bits f.toNat 25 24) (bits f.toNat 23 20) = some r →
    ((s.lease r).holder = p.val → Gives (.lease p f) s fun t =>
      (t.lease r).holder = p.val ∧ (t.lease r).expiry = s.nat Obj.ROLL_COUNT + bits f.toNat 7 0 ∧
      (t.lease r).waiting = (s.lease r).waiting ∧ (∀ j, j ≠ r → t.lease j = s.lease j) ∧ GoesOn s t p e x) ∧
    ((s.lease r).holder = 0xFFFF → (s.lease r).rolling = false → (s.lease r).waiting = [] → Gives (.lease p f) s fun t =>
      (t.lease r).holder = p.val ∧ (t.lease r).expiry = s.nat Obj.ROLL_COUNT + bits f.toNat 7 0 ∧
      (∀ j, j ≠ r → t.lease j = s.lease j) ∧ GoesOn s t p e x) ∧
    ((s.lease r).holder ≠ p.val → (s.lease r).holder ≠ 0xFFFF → Gives (.lease p f) s fun t =>
      t.lease r = { s.lease r with waiting := (s.lease r).waiting ++ [(p.val, bits f.toNat 7 0)] } ∧
      (∀ j, j ≠ r → t.lease j = s.lease j) ∧ ∃ y, (t.engine p).run = some y ∧ y.leasing.isSome = true)) ∧
  (∀ (r : Fin 1352) (h n : Nat) (rest : List (Nat × Nat)) (s : State), (s.lease r).holder = 0xFFFF → (s.lease r).waiting = (h, n) :: rest →
    Gives (.leaseGrant r) s fun t => (t.lease r).holder = h ∧ (t.lease r).waiting = rest ∧
      (t.lease r).expiry = s.nat Obj.ROLL_COUNT + n ∧ (∀ j, j ≠ r.val → t.lease j = s.lease j) ∧
      (∀ x, h < 272 → (s.engine h).run = some x → (t.engine h).run = some { x with leasing := none }) ∧
      (∀ j, j ≠ h → t.engine j = s.engine j) ∧ { t with fab := s.fab } = s) ∧
  (∀ (p : Fin 272) (x : Run) (r e w k : Nat) (s : State), (s.engine p).run = some x → x.leasing = some (r, e, w, k) → w ≠ 0 →
    k + w ≤ s.nat Obj.ROLL_COUNT → Gives (.leaseWaitGiveUp p) s fun t => (t.engine p).flag 10 = true ∧
      (t.engine p).run = some { x with leasing := none } ∧ (∀ q ∈ (t.lease r).waiting, q.1 ≠ p.val) ∧
      (t.lease r).holder = (s.lease r).holder ∧ (∀ j, j ≠ p.val → t.engine j = s.engine j) ∧ { t with fab := s.fab } = s)

/-- For every engine that issues a FREE naming resource r: where the engine holds r, r has no holder afterwards, its queue
and every other lease stay, and the engine goes on with its registers as they were; where it does not hold r, FL.LF (bit
10) is 1 afterwards and no other flag, register, lease, object or memory byte changes. In a comparing run (CHECK or third
run) it changes nothing but the PC. -/
def Obligations.FreeReleasesOrSetsLf : Prop :=
  ∀ (p : Fin 272) (f : BitVec 26) (e : Engine) (x : Run) (r : Nat) (s : State), Issues s p 0x3B f e x → x.pfx? = none →
    bits f.toNat 19 0 = 0 → leaseTarget p (s.leaseRegion p x) (bits f.toNat 25 24) (bits f.toNat 23 20) = some r →
    (x.kind.comparing = false → (s.lease r).holder = p.val → Gives (.free p f) s fun t =>
      t.lease r = { s.lease r with holder := 0xFFFF, bad := false } ∧ (∀ j, j ≠ r → t.lease j = s.lease j) ∧ GoesOn s t p e x ∧
      { t with fab := s.fab, rolls := s.rolls } = s) ∧
    (x.kind.comparing = false → (s.lease r).holder ≠ p.val → Gives (.free p f) s fun t => ∃ e', GoesOn s t p e' x ∧
      RegistersOnly s t ∧ e'.flag 10 = true ∧ { e' with fl := e.fl } = e ∧ ∀ i, i ≠ 10 → e'.flag i = e.flag i) ∧
    (x.kind.comparing = true → Gives (.free p f) s fun t => GoesOn s t p e x ∧ RegistersOnly s t)

/-- For every engine that issues SCALL: with at most 15 return addresses held, PC + 1 is pushed and the PC is TARGET; with
16 held the run faults with the call-stack overflow (code 0x20), the call stack as it was. For one that issues SRET: with
return addresses held, the newest is popped into the PC and exactly the loops that began at a call depth below the popped
one remain; with none held the run has ended, its effects applied as R115 says (ITEM_COMMIT). Every other register and
engine stays. -/
def Obligations.CallsPushAndReturnsPop : Prop :=
  (∀ (p : Fin 272) (f : BitVec 26) (e : Engine) (x : Run) (s : State), s.issues p 0x0A f = some (e, x) → x.pfx? = none →
    s.maySpend ((s.regionOfEngine p).getD 0) x.kind.cls = true → bits f.toNat 25 13 = 0 →
    (e.calls.length < 16 → s.inProgram x.slot (bits f.toNat 12 0) = true → s.pairSecond x.slot (bits f.toNat 12 0) = false →
      Gives (.scall p f) s fun t => RegistersOnly s t ∧ (∀ j, j ≠ p.val → t.engine j = s.engine j) ∧
        t.engine p = { e with pc := bits f.toNat 12 0, icount := e.icount + 1, calls := (e.pc + 1) :: e.calls }) ∧
    (16 ≤ e.calls.length → Gives (.scall p f) s fun t => RegistersOnly s t ∧ (∀ j, j ≠ p.val → t.engine j = s.engine j) ∧
        t.engine p = { e with lastFault := 0x20, run := some { x with fault := 0x20 } })) ∧
  (∀ (p : Fin 272) (e : Engine) (x : Run) (s : State), s.issues p 0x0B 0 = some (e, x) → x.pfx? = none →
    s.maySpend ((s.regionOfEngine p).getD 0) x.kind.cls = true →
    (∀ r rest, e.calls = r :: rest → s.inProgram x.slot r = true → s.pairSecond x.slot r = false → Gives (.sret p 0) s fun t =>
      RegistersOnly s t ∧ (∀ j, j ≠ p.val → t.engine j = s.engine j) ∧ (t.engine p).pc = r ∧ (t.engine p).calls = rest ∧
      (∀ l, l ∈ (t.engine p).loops ↔ l ∈ e.loops ∧ l.depth < e.calls.length) ∧ (t.engine p).icount = e.icount + 1 ∧
      (t.engine p).loops.Sublist e.loops ∧ { t.engine p with pc := e.pc, calls := e.calls, loops := e.loops, icount := e.icount } = e) ∧
    (e.calls = [] → Gives (.sret p 0) s fun t => RegistersOnly s t ∧ (∀ j, j ≠ p.val → t.engine j = s.engine j) ∧
      t.engine p = { e with icount := e.icount + 1, run := some { x with ended := true } }))

/-! ## Around the pipeline (06) -/

/-- HISTOGRAM_MERGE of the oldest frame that every region has done with: it becomes the merged frame, PKG_STATS names it,
and memory changes at most in that frame's tone buffer; with no such frame nothing changes. SHADE_GRID_WRITE into a
shading slot neither in force nor in use stores its bytes there and nothing else changes; else it is refused whole.
GIMBAL_RATE_WRITE puts the three rates and the arrival time. STD_RELOAD 1 or 2 puts the ROM image into a program slot not
in use, which is then valid; a slot in use only counts in PROG_REFUSED and STD_RELOAD reads 2. -/
def Obligations.MergeShadingGimbalAndRom : Prop :=
  (∀ (f : Frame) (s : State), s.mergeable = some f → Gives .histogramMerge s fun t => t.pipe.merged = some f.num ∧
    t.getLe Obj.PKG_STATS 0 4 = f.num.toNat ∧ t.focal = s.focal ∧ t.fab = s.fab ∧
    ∀ a, a < tableBase + 8192 * (f.num.toNat % 2) ∨ tableBase + 8192 * (f.num.toNat % 2) + 8192 ≤ a → t.byte a = s.byte a) ∧
  (∀ s : State, s.mergeable = none → exec .histogramMerge s = .next s) ∧
  (∀ (bs : List Byte) (s : State), bs.length ≤ 8192 → s.slotInForce (s.nat Obj.SHADE_WRITE_SLOT) = false →
    s.slotInUse (s.nat Obj.SHADE_WRITE_SLOT) = false → Gives (.shadeGridWrite bs) s fun t =>
      let a := tableBase + 0x4000 + 8192 * s.nat Obj.SHADE_WRITE_SLOT
      (∀ k, k < bs.length → t.byte (a + k) = bs.getD k 0) ∧ (∀ c, c < a ∨ a + bs.length ≤ c → t.byte c = s.byte c) ∧
      { t with mem := s.mem, eccBad := s.eccBad } = s) ∧
  (∀ (bs : List Byte) (s : State), (s.slotInForce (s.nat Obj.SHADE_WRITE_SLOT) = true ∨
    s.slotInUse (s.nat Obj.SHADE_WRITE_SLOT) = true) → exec (.shadeGridWrite bs) s = .next s) ∧
  (∀ (y p r : Int) (d : Dlt) (s : State), -(2 ^ 31) ≤ y → y < 2 ^ 31 → -(2 ^ 31) ≤ p → p < 2 ^ 31 → -(2 ^ 31) ≤ r → r < 2 ^ 31 →
    Gives (.gimbalRateWrite (some y) (some p) (some r) d) s fun t => t.get (Obj.GIMBAL_RATE 0) = y ∧ t.get (Obj.GIMBAL_RATE 1) = p ∧
      t.get (Obj.GIMBAL_RATE 2) = r ∧ t.get Obj.GIMBAL_DLT = d.toNat ∧
      SameObj s t [Obj.GIMBAL_RATE 0, Obj.GIMBAL_RATE 1, Obj.GIMBAL_RATE 2, Obj.GIMBAL_DLT] ∧ { t with obj := s.obj } = s) ∧
  (∀ (i : Fin 2) (s : State), s.slotBusy i = false → Gives (.stdReload (i.val + 1)) s fun t =>
    (∀ k, k < 32768 → t.byte (progBase i + k) = (wordsBytes romImage).getD k 0) ∧
    (∀ a, a < progBase i ∨ progBase i + 32768 ≤ a → t.byte a = s.byte a) ∧ t.slotValid i = true ∧ t.get Obj.STD_RELOAD = 1 ∧
    SameObj s t [Obj.SLOT_VALID, Obj.STD_RELOAD] ∧ t.fab = s.fab) ∧
  (∀ (i : Fin 2) (s : State), s.slotBusy i = true → Gives (.stdReload (i.val + 1)) s fun t => Counted s t Obj.PROG_REFUSED ∧
    t.get Obj.STD_RELOAD = 2 ∧ SameObj s t [Obj.PROG_REFUSED, Obj.STD_RELOAD] ∧ { t with obj := s.obj } = s)

/-! ## Calibration and images (07) -/

/-- The active banks are what they were, and each region's active bank is the same one. -/
def ActiveBanksKept (s t : State) : Prop :=
  ∀ g : Fin 64, t.bankNo g false = s.bankNo g false ∧ t.bank (s.bankNo g false) = s.bank (s.bankNo g false)

/-- The objects but those of the keys listed, and the counts of STALL_ROLLS (R271), read as before: a charge may find no stick. -/
def SameObjButStalls (s t : State) (keys : List Nat) : Prop :=
  ∀ k, k ∉ keys → k / 2 ^ 32 ≠ Obj.STALL_ROLLS / 2 ^ 32 → t.get k = s.get k

/-- A calibration run of a kind has been accepted (R231): it is in progress and has not begun, and the three objects show it. -/
def CalAccepted (u t : State) (kind point : Nat) : Prop :=
  (∃ r, t.cal.run = some r ∧ r.kind = kind ∧ r.point = point ∧ r.begun = false ∧ r.abort = false ∧ r.frames = 0) ∧
  t.get Obj.CAL_STATE = kind ∧ t.get Obj.CAL_RESULT = 1 ∧ t.get Obj.CAL_FRAMES = 0 ∧
  SameObj u t [Obj.CAL_STATE, Obj.CAL_RESULT, Obj.CAL_FRAMES] ∧ { t with cal := u.cal, obj := u.obj } = u

/-- A CAL_START of a kind from 1 to 4 has been refused with a code (R232, R248). -/
def CalRefused (u t : State) (kind : Nat) (code : Int) : Prop :=
  Counted u t Obj.CAL_REFUSED ∧ t.get Obj.CAL_RESULT = code ∧ t.get (Obj.CALK_LAST_RESULT (calKindOf kind)) = code ∧
  SameObj u t [Obj.CAL_REFUSED, Obj.CAL_RESULT, Obj.CALK_LAST_RESULT (calKindOf kind)] ∧ { t with obj := u.obj } = u

/-- The calibration sequencer can have the write port lease of every region: it holds it, or the lease is free. -/
def PortsFree (s : State) : Prop := ∀ g : Fin 64, (s.lease (21 * g + 4)).holder = 0x8000 ∨
  ((s.lease (21 * g + 4)).holder = 0xFFFF ∧ (s.lease (21 * g + 4)).waiting = [] ∧ (s.lease (21 * g + 4)).rolling = false)

/-- THE COPY of R237: every inactive bank has the records and J6F words of the active one, its own GEN, and no VERIFIED. -/
def BanksCopied (s t : State) : Prop :=
  t.cal.ownBanks = true ∧ t.get Obj.DRIFT_DONE = 0 ∧ ActiveBanksKept s t ∧ SameMem s t ∧
  ∀ g : Fin 64, (t.bank (s.bankNo g true)).verified = false ∧ (t.bank (s.bankNo g true)).gen = (s.bank (s.bankNo g true)).gen ∧
    (s.eccBad = [] → ∀ o, o < tailOff → (t.bank (s.bankNo g true)).byte o = (s.bank (s.bankNo g false)).byte o)

/-- The closing CLAPPER stroke has been fired and the run waits for SHUTTER (R240). -/
def CalCloses (s t : State) (r : CalRun) (need : Nat) : Prop :=
  (∃ f, t.strokes.inflight = s.strokes.inflight ++ [f] ∧ f.action = 0x50 ∧ f.beat = s.clk.beats ∧ f.l.level = 5 ∧
    f.l.arg = BitVec.ofNat 32 (s.nat Obj.CLAP_CLOSE_PROFILE)) ∧
  t.cal.run = some { r with begun := true, step := 2, closed := true, t0 := s.now, need := need }

/-- A CAL_START that lands (u: the state after it has left the strokes under way), by KIND. With a run in progress: KIND 5
only marks it to abort, KIND 1 to 4 is refused with 0x10, any other only counts in CAL_REFUSED and sets CAL_RESULT. With
none: KIND 1, 2 and 4 while a load or a save owns the banks are refused with 0x12; a zero run or the first drift point
with an unacceptable GEN with 0x13; a full-scale run without its zero run, or a drift point out of order, with 0x11;
otherwise the run of that kind is in progress. KIND 3 is accepted, or waits with CAL_STATE 6 while offset updates are
deferred. KIND 5 counts and gives the banks back. First steps, with the port leases to be had: of a zero run and of drift
point 0 copy every active bank into the inactive one (GEN stays, VERIFIED clears, active banks stay); a zero run, a full-
scale run and a drift point with an external source count CAL_NAVG frames; a clapper refresh, and a drift point with the
clapper as its source, fire CLAPPER with CLAP_CLOSE_PROFILE and wait for SHUTTER. Without the leases they wait: run and
banks stay. -/
def Obligations.CalibrationRunsAreAcceptedAndBegin : Prop :=
  (∀ (l : Landing) (s u : State), s.landing 0x70 l = some u → u.cal.run = none → Gives (.calStart l) s fun t =>
    let kind := bits l.arg.toNat 7 0
    let p := bits l.arg.toNat 15 8
    let inOrder := p = 0 ∨ (p < u.nat Obj.DRIFT_POINTS ∧ ∀ i, i < p → (u.nat Obj.DRIFT_DONE).testBit i = true)
    ((kind = 1 ∨ kind = 2 ∨ kind = 4) → u.banksTaken = true → CalRefused u t kind 0x12) ∧
    (kind = 1 → u.banksTaken = false → u.calGenBad = true → CalRefused u t 1 0x13) ∧
    (kind = 1 → u.banksTaken = false → u.calGenBad = false → CalAccepted u t 1 0) ∧
    (kind = 2 → u.banksTaken = false → u.cal.zeroDone = true → u.cal.zeroCommit = u.shadow.converterCommits → CalAccepted u t 2 0) ∧
    (kind = 2 → u.banksTaken = false → (u.cal.zeroDone = false ∨ u.cal.zeroCommit ≠ u.shadow.converterCommits) →
      CalRefused u t 2 0x11) ∧
    (kind = 3 → u.deferring = false → CalAccepted u t 3 0) ∧
    (kind = 3 → u.deferring = true → t.cal = { u.cal with deferred := true } ∧ t.get Obj.CAL_STATE = 6 ∧
      SameObj u t [Obj.CAL_STATE] ∧ { t with cal := u.cal, obj := u.obj } = u) ∧
    (kind = 4 → u.banksTaken = false → ¬ inOrder → CalRefused u t 4 0x11) ∧
    (kind = 4 → u.banksTaken = false → p = 0 → u.calGenBad = true → CalRefused u t 4 0x13) ∧
    (kind = 4 → u.banksTaken = false → inOrder → (p ≠ 0 ∨ u.calGenBad = false) → CalAccepted u t 4 p) ∧
    (kind = 5 → Counted u t Obj.CAL_REFUSED ∧ t.cal = { u.cal with zeroDone := false, ownBanks := false } ∧
      { t with cal := u.cal, obj := u.obj } = u) ∧
    ((kind = 0 ∨ 5 < kind) → Counted u t Obj.CAL_REFUSED ∧ SameObj u t [Obj.CAL_REFUSED] ∧ { t with obj := u.obj } = u)) ∧
  (∀ (l : Landing) (r : CalRun) (s u : State), s.landing 0x70 l = some u → u.cal.run = some r → Gives (.calStart l) s fun t =>
    let kind := bits l.arg.toNat 7 0
    (1 ≤ kind → kind ≤ 4 → CalRefused u t kind 0x10) ∧
    ((kind = 0 ∨ 5 < kind) → Counted u t Obj.CAL_REFUSED ∧ t.get Obj.CAL_RESULT = 0x10 ∧
      SameObj u t [Obj.CAL_REFUSED, Obj.CAL_RESULT] ∧ { t with obj := u.obj } = u) ∧
    (kind = 5 → t.cal = { u.cal with run := some { r with abort := true } } ∧ { t with cal := u.cal } = u)) ∧
  (∀ (r : CalRun) (s : State), s.calReady 1 = some r → PortsFree s → Gives .calTwoPointZero s fun t =>
    t.cal.run = some { r with begun := true, step := 4, need := s.nat Obj.CAL_NAVG } ∧ BanksCopied s t) ∧
  (∀ (r : CalRun) (s : State), s.calReady 2 = some r → PortsFree s → Gives .calTwoPointFullScale s fun t =>
    t.cal = { s.cal with run := some { r with begun := true, step := 4, need := s.nat Obj.CAL_NAVG } } ∧
    (∀ g : Fin 64, (t.lease (21 * g + 4)).holder = 0x8000) ∧
    { t with cal := s.cal, fab := { t.fab with leases := s.fab.leases } } = s) ∧
  (∀ (r : CalRun) (s : State), s.calReady 3 = some r → Gives .calClapperRefresh s fun t =>
    CalCloses s t r (s.nat Obj.CLAP_AVG) ∧ { t with cal := s.cal, strokes := s.strokes, clk := s.clk } = s ∧ t.clk.dlt = s.clk.dlt) ∧
  (∀ (r : CalRun) (s : State), s.calReady 4 = some r → PortsFree s → Gives (.calDriftPoint r.point) s fun t =>
    (r.point = 0 → BanksCopied s t) ∧
    (r.point ≠ 0 → t.banks = s.banks ∧ SameObj s t []) ∧
    (s.nat Obj.DRIFT_SRC = 0 → CalCloses s t r (s.nat Obj.CAL_NAVG)) ∧
    (s.nat Obj.DRIFT_SRC ≠ 0 → t.strokes = s.strokes ∧
      t.cal.run = some { r with begun := true, step := 4, need := s.nat Obj.CAL_NAVG })) ∧
  (∀ (k : Fin 3) (r : CalRun) (s : State), s.calReady ([1, 2, 4].getD k 0) = some r →
    (∃ g : Fin 64, (s.lease (21 * g + 4)).holder ≠ 0x8000 ∧ (s.lease (21 * g + 4)).holder ≠ 0xFFFF) →
    Gives ([.calTwoPointZero, .calTwoPointFullScale, .calDriftPoint r.point].getD k .calTwoPointZero) s fun t =>
      t.cal = s.cal ∧ t.banks = s.banks ∧ t.strokes = s.strokes ∧ SameMem s t ∧ SameObj s t [])

/-- CAL_ABORT of a run marked to abort: no run is in progress, CAL_RESULT reads 0x23, bell 0x0703 rings, memory stays.
CLAP_REFRESH_TIMEOUT once CLAP_TIMEOUT has passed without a SHUTTER frame: the same with 0x24. CAL_RUN_FINISH of a run
whose last counted frame is merged and whose bank writes have found their sticks: no run is in progress and CAL_RESULT
reads 2, 0x30, 0x31, 0x32 or 0x33. OFFSET_UPDATE_WRITE of a region still to be written with no gated frame open, its write
port and a stick to be had: it is no longer to be written, its one pending word stands in its record, every other bank
stays. SCENE_UPDATE when due: an update of all 64 regions is ready, SCENE_FRAMES reads 0, banks stay. -/
def Obligations.CalibrationRunsEndAndOffsetsApply : Prop :=
  (∀ (r : CalRun) (s : State), s.cal.run = some r → r.abort = true → Gives .calAbort s fun t => t.cal.run = none ∧
    t.get Obj.CAL_RESULT = 0x23 ∧ Rings s t 0x0703 0 ∧ SameMem s t ∧ t.banks = s.banks) ∧
  (∀ (r : CalRun) (s : State), s.cal.run = some r → r.step = 2 →
    s.nat Obj.CLAP_TIMEOUT * 64000000 ≤ (s.now - r.t0).toNat → Gives .clapRefreshTimeout s fun t => t.cal.run = none ∧
      t.get Obj.CAL_RESULT = 0x24 ∧ Rings s t 0x0703 0 ∧ SameMem s t ∧ t.banks = s.banks) ∧
  (∀ (r : CalRun) (m : BitVec 32) (ok : Bool) (s : State), s.cal.run = some r → r.step = 5 → s.pipe.merged = some m →
    (m - r.last).toNat < 2 ^ 31 → (r.kind = 3 ∨ s.portsPaid 2 = true) → Gives (.calRunFinish ok) s fun t => t.cal.run = none ∧
      (t.get Obj.CAL_RESULT = 2 ∨ t.get Obj.CAL_RESULT = 0x30 ∨ t.get Obj.CAL_RESULT = 0x31 ∨ t.get Obj.CAL_RESULT = 0x32 ∨
        t.get Obj.CAL_RESULT = 0x33)) ∧
  (∀ (g : Fin 64) (i : Nat) (w : Word) (gs : List Nat) (s : State), s.cal.update = some gs → g.val ∈ gs → i < 491520 →
    s.cal.uof = [(uofKey g i, (w.toNat : Int))] → s.recordBad (s.bankNo g false) (i % 768) (i / 768) = false →
    ((s.region g).frames.any fun x => !x.endDone && ((s.frame? x.num).map fun f => f.gated.getLsbD g).getD false) = false →
    ((s.lease (21 * g + 4)).holder = 0x8000 ∨ (s.lease (21 * g + 4)).holder = 0xFFFF ∧ (s.lease (21 * g + 4)).waiting = [] ∧
      (s.lease (21 * g + 4)).rolling = false) → s.maySpend (64 + g) 2 = true → Gives (.offsetUpdateWrite g) s fun t =>
      g.val ∉ t.cal.update.getD [] ∧ (t.bank (s.bankNo g false)).le (16 * i + 8) 4 = w.toNat ∧
      ∀ b, b ≠ s.bankNo g false → t.bank b = s.bank b) ∧
  (∀ (f m : BitVec 32) (s : State), s.cal.sceneDue = some f → s.pipe.merged = some m → (m - f).toNat < 2 ^ 31 →
    s.deferring = false → s.cal.update = none → s.cal.run = none → Gives .sceneUpdate s fun t =>
      t.cal.update = some (List.range 64) ∧ t.cal.applied = false ∧ t.cal.sceneDue = none ∧ t.get Obj.SCENE_FRAMES = 0 ∧
      t.banks = s.banks)

/-- IMG_SAVE_ACTIVE accepted: the save runs into the slot that is not the newest, whose first 64 KiB are erased, and no
other byte changes; without an external flash whose pages have 256 bytes it reads 3 and nothing else changes.
IMG_SAVE_INACTIVE accepted also takes the port lease of every region that is free. IMG_SAVE_COMPLETE, once the save holds
its leases and its accesses have found their sticks, ends the save (before, it changes nothing): status 4 and bell 0x0707
where a bank swapped during an active save, else 2 or 5; banks stay. IMG_LOAD with a valid image: the load runs, every
inactive bank loses VERIFIED, the active banks stay; with none it reads 4 with bell 0x0705. IMG_LOAD_COMPLETE, on the same
terms, of a good image verifies every inactive bank and reads 2; of a bad one, not at boot, it reads 4, no inactive bank
is verified and the active banks stay. -/
def Obligations.ImagesAreSavedAndLoaded : Prop :=
  (∀ s : State, s.cal.save = none → s.flashWritable = true → s.imgNextId ≠ 0xFFFFFFFF → s.cal.load = none →
    Gives .imgSaveActive s fun t =>
      let slot := match s.imgNewest with
        | none => 0
        | some k => 1 - k
      t.cal.save = some (1, slot) ∧ t.get Obj.IMG_SAVE = 1 ∧ t.get Obj.IMG_PROGRESS = 0 ∧ t.banks = s.banks ∧ t.fab = s.fab ∧
      (∀ a, flashBase + s.imgBase slot ≤ a → a < flashBase + s.imgBase slot + 65536 → t.byte a = memDefault a) ∧
      (∀ a, a < flashBase + s.imgBase slot ∨ flashBase + s.imgBase slot + 65536 ≤ a → t.byte a = s.byte a) ∧
      SameObjButStalls s t [Obj.IMG_SAVE, Obj.IMG_PROGRESS]) ∧
  (∀ s : State, s.cal.save = none → s.flashWritable = false → Gives .imgSaveActive s fun t => t.get Obj.IMG_SAVE = 3 ∧
    SameObj s t [Obj.IMG_SAVE] ∧ { t with obj := s.obj } = s) ∧
  (∀ s : State, s.cal.save = none → s.flashWritable = true → s.imgNextId ≠ 0xFFFFFFFF → s.cal.load = none →
    s.cal.ownBanks = false → (∀ g, g < 64 → (s.bank (s.bankNo g true)).verified = true) → Gives .imgSaveInactive s fun t =>
      (∃ slot, t.cal.save = some (2, slot)) ∧ t.get Obj.IMG_SAVE = 1 ∧ t.banks = s.banks ∧
      ∀ g : Fin 64, (s.lease (21 * g + 4)).holder = 0xFFFF → (s.lease (21 * g + 4)).waiting = [] →
        (s.lease (21 * g + 4)).rolling = false → (t.lease (21 * g + 4)).holder = 0x8002) ∧
  (∀ (mode slot : Nat) (s : State), s.cal.save = some (mode, slot) →
    (mode = 2 → s.portsHeld 0x8002 = true) → s.owing 144 4 = 0 → s.portsPaid 4 = true → Gives .imgSaveComplete s fun t => t.cal.save = none ∧
    t.banks = s.banks ∧ (mode = 1 → s.cal.saveSwap = true → t.get Obj.IMG_SAVE = 4 ∧ Rings s t 0x0707 0) ∧
    (mode ≠ 1 ∨ s.cal.saveSwap = false → t.get Obj.IMG_SAVE = 2 ∨ t.get Obj.IMG_SAVE = 5)) ∧
  (∀ (mode slot : Nat) (s : State), s.cal.save = some (mode, slot) →
    (mode = 2 ∧ s.portsHeld 0x8002 = false ∨ s.owing 144 4 ≠ 0 ∨ s.portsPaid 4 = false) → exec .imgSaveComplete s = .next s) ∧
  (∀ s : State, s.cal.load = none → s.cal.ownBanks = false → s.cal.save = none → s.ports.sfdp.isSome = true →
    Gives .imgLoad s fun t => SameMem s t ∧
    match s.imgNewest with
    | some i => (t.cal.load.map (·.slot)) = some i ∧ t.get Obj.IMG_LOAD = 1 ∧ ActiveBanksKept s t ∧
        ∀ g : Fin 64, (t.bank (s.bankNo g true)).verified = false
    | none => t.get Obj.IMG_LOAD = 4 ∧ Rings s t 0x0705 0 ∧ t.cal = s.cal ∧ t.banks = s.banks) ∧
  (∀ (x : Load) (s : State), s.cal.load = some x → s.portsHeld 0x8001 = true →
    s.owing 144 3 = 0 → s.portsPaid 3 = true → Gives .imgLoadComplete s fun t => SameMem s t ∧
    match s.loadImage x.slot with
    | some _ => t.cal.load = none ∧ t.get Obj.IMG_LOAD = 2 ∧ ActiveBanksKept s t ∧
        ∀ g : Fin 64, (t.bank (s.bankNo g true)).verified = true
    | none => x.boot = false → t.cal.load = none ∧ t.get Obj.IMG_LOAD = 4 ∧ Rings s t 0x0705 0 ∧ ActiveBanksKept s t ∧
        ∀ g : Fin 64, (t.bank (s.bankNo g true)).verified = false) ∧
  (∀ (x : Load) (s : State), s.cal.load = some x →
    (s.portsHeld 0x8001 = false ∨ s.owing 144 3 ≠ 0 ∨ s.portsPaid 3 = false) → exec .imgLoadComplete s = .next s)

/-- INACTIVE_BANKS_WRITE inside the records of one region while no run or save owns the banks: the bytes stand in its
inactive bank, which loses VERIFIED, and every other bank stays; without a stick of its port it waits; while the banks are
owned it is refused, with COMMIT_GO 4 unless a check runs. COMMIT_GO 1 for one region with no check running: the check has
the region, GEN and CRC of that moment and COMMIT_GO reads 1; while the banks are owned, or for a region that does not
exist, it reads 4; while a check runs it is refused and changes nothing. COMMIT_CHECK_DONE for one region with
LOAD_UOF_MODE 0: where the CRC matches the bank takes GEN and VERIFIED and COMMIT_GO reads 2; where it does not, the bank
keeps its content and is unverified, and it reads 3. -/
def Obligations.PartnerLoadsAreCheckedBeforeTheyCount : Prop :=
  (∀ (g : Fin 64) (o : Nat) (bs : List Byte) (s : State), bs ≠ [] → o + bs.length ≤ tailOff → s.banksOwned = false →
    s.maySpend (64 + g) 3 = true →
    Gives (.inactiveBanksWrite (g * 2 ^ 23 + o) bs) s fun t =>
      (∀ k, k < bs.length → (t.bank (s.bankNo g true)).byte (o + k) = bs.getD k 0) ∧
      (t.bank (s.bankNo g true)).verified = false ∧ (∀ b, b ≠ s.bankNo g true → t.bank b = s.bank b) ∧ SameMem s t ∧
      t.fab = s.fab ∧ t.cal = s.cal) ∧
  (∀ (g : Fin 64) (o : Nat) (bs : List Byte) (s : State), bs ≠ [] → o + bs.length ≤ tailOff → s.maySpend (64 + g) 3 = false →
    Gives (.inactiveBanksWrite (g * 2 ^ 23 + o) bs) s fun t => t.banks = s.banks ∧ SameMem s t ∧ SameObjButStalls s t []) ∧
  (∀ (off : Nat) (bs : List Byte) (s : State), bs ≠ [] → off + bs.length ≤ 536870912 → s.portStall off bs.length = none →
    s.banksOwned = true → Gives (.inactiveBanksWrite off bs) s fun t => { t with obj := s.obj } = s ∧
      (s.cal.partner = none → t.get Obj.COMMIT_GO = 4 ∧ SameObj s t [Obj.COMMIT_GO]) ∧ (s.cal.partner ≠ none → t = s)) ∧
  (∀ s : State, s.cal.partner = none → s.banksOwned = false → s.nat Obj.COMMIT_REGION < 64 → Gives (.commitGo 1) s fun t =>
    t.cal.partner = some ⟨s.nat Obj.COMMIT_REGION, BitVec.ofNat 32 (s.nat Obj.COMMIT_GEN), [BitVec.ofNat 32 (s.nat Obj.COMMIT_CRC)],
      s.nat Obj.LOAD_UOF_MODE⟩ ∧ t.get Obj.COMMIT_GO = 1 ∧ SameObjButStalls s t [Obj.COMMIT_GO] ∧
      { t with obj := s.obj, cal := s.cal, rolls := s.rolls } = s) ∧
  (∀ (v : Nat) (s : State), (v ≠ 1 ∨ s.cal.partner ≠ none) → exec (.commitGo v) s = .next s) ∧
  (∀ s : State, s.cal.partner = none →
    (s.banksOwned = true ∨ 64 ≤ s.nat Obj.COMMIT_REGION ∧ s.nat Obj.COMMIT_REGION ≠ 0xFF) → Gives (.commitGo 1) s fun t => t.get Obj.COMMIT_GO = 4 ∧
    SameObj s t [Obj.COMMIT_GO] ∧ { t with obj := s.obj } = s) ∧
  (∀ (g : Fin 64) (gen crc : BitVec 32) (s : State), s.cal.partner = some ⟨g, gen, [crc], 0⟩ →
    s.owing (64 + g) 3 = 0 →
    (rcrc (s.bankRecords (s.bankNo g true)) (s.bank (s.bankNo g true)).j6fBytes = crc.toNat → Gives .commitCheckDone s fun t =>
      t.cal.partner = none ∧ t.get Obj.COMMIT_GO = 2 ∧ (t.bank (s.bankNo g true)).verified = true ∧
      (t.bank (s.bankNo g true)).gen = gen.toNat ∧ (∀ b, b ≠ s.bankNo g true → t.bank b = s.bank b) ∧ SameMem s t) ∧
    (rcrc (s.bankRecords (s.bankNo g true)) (s.bank (s.bankNo g true)).j6fBytes ≠ crc.toNat → Gives .commitCheckDone s fun t =>
      t.cal.partner = none ∧ t.get Obj.COMMIT_GO = 3 ∧ (t.bank (s.bankNo g true)).verified = false ∧ SameMem s t ∧
      (∀ o, o < tailOff + 4 → (t.bank (s.bankNo g true)).byte o = (s.bank (s.bankNo g true)).byte o) ∧
      ∀ b, b ≠ s.bankNo g true → t.bank b = s.bank b))

/-- ROLL_BOUNDARY once 200 × ROLL_US beats have passed since the last: ROLL_COUNT rises by one, LAST_ROLL_DLT is the time
of the beat on which the boundary was due, an accepted table is in force, and, where no charge and no block waits from
before, each class of every instance holds floor(SHARE × capacity / 256) sticks (AC7 of an ACT bank less its debt; ENG
none in an idle roll); before that, or before the first roll, nothing changes. ALLOC_APPLY 1 with every sum at most 256
and every AC0 floor kept: it reads 1 and the table waits for the next boundary; with an instance at fault it reads 3 or 4
and ALLOC_BAD names the instance; any other value changes nothing. -/
def Obligations.RollsRefillAndTablesApply : Prop :=
  (∀ s : State, s.rolls.running = true → s.rolls.origin + 200 * s.nat Obj.ROLL_ACTIVE_US ≤ s.clk.beats → Gives .rollBoundary s fun t =>
    let due := s.rolls.origin + 200 * s.nat Obj.ROLL_ACTIVE_US
    t.get Obj.ROLL_COUNT = (s.get Obj.ROLL_COUNT + 1) % 2 ^ 64 ∧ t.get Obj.LAST_ROLL_DLT = (s.dltAt (10 * due)).toNat ∧
    t.rolls.origin = due ∧ t.rolls.applyDue = false ∧
    (s.rolls.applyDue = true → t.get Obj.ALLOC_APPLY = 2) ∧
    (s.rolls.owed = [] → s.rolls.seam = [] → ∀ b : Fin 2, t.sticksOf (146 + b) 7 = shareOf (t.alloc Obj.ALLOC_ACTIVE (146 + b) 7) *
      (Cells.get t.rolls.cap (146 + b) 0).toNat / 256 - s.getLe Obj.ACT_DEBT (4 * b) 4) ∧
    (s.rolls.owed = [] → s.rolls.seam = [] → ∀ i c, i < 148 → c < 16 → (i < 146 ∨ c ≠ 7) → (64 ≤ i ∨ t.rolls.idle = false) →
      t.sticksOf i c = shareOf (t.alloc Obj.ALLOC_ACTIVE i c) * (Cells.get t.rolls.cap i 0).toNat / 256)) ∧
  (∀ s : State, (s.rolls.running = false ∨ s.clk.beats < s.rolls.origin + 200 * s.nat Obj.ROLL_ACTIVE_US) →
    exec .rollBoundary s = .next s) ∧
  (∀ s : State, Gives (.allocApply 1) s fun t =>
    match s.allocFault with
    | none => t.get Obj.ALLOC_APPLY = 1 ∧ t.rolls = { s.rolls with applyDue := true, taken := s.stagedTable } ∧ SameObj s t [Obj.ALLOC_APPLY] ∧
        { t with obj := s.obj, rolls := s.rolls } = s
    | some (i, c) => t.get Obj.ALLOC_APPLY = c ∧ t.get Obj.ALLOC_BAD = i ∧
        (c = 3 ∧ 256 < s.stagedSum i ∨ c = 4 ∧ i < 136 ∧ shareOf (s.alloc Obj.ALLOC_STAGED i 0) < 128) ∧
        SameObj s t [Obj.ALLOC_APPLY, Obj.ALLOC_BAD] ∧ { t with obj := s.obj } = s) ∧
  (∀ (v : Nat) (s : State), v ≠ 1 → exec (.allocApply v) s = .next s)

/-! ## Views (09) and lanes (10) -/

/-- Of the lanes only lane `n` has changed. -/
def OnlyLane (n : Nat) (s t : State) : Prop := ∀ m, m ≠ n → t.laneRec m = s.laneRec m

/-- The part has sent something, and nothing else in its dictionary record has changed. -/
def OnlySent (s t : State) : Prop := ∃ m, t.dict = { s.dict with sent := s.dict.sent ++ m }

/-- The part has sent exactly `m` since, and nothing else in its dictionary record has changed. -/
def SendsOnly (s t : State) (m : Sent) : Prop := t.dict = { s.dict with sent := s.dict.sent ++ [m] }

/-- Lane `n` has taken packets that carry exactly the bytes `bs`, the first of them to address `a`, none across a 4 KiB
boundary (R318). -/
def CarriesOut (n : Nat) (s t : State) (a : Nat) (bs : List Byte) : Prop :=
  ∃ ps, (t.laneRec n).unacked = (s.laneRec n).unacked ++ ps ∧ ps.flatMap (·.data) = bs ∧ (ps.head?.map (·.addr)) = some a ∧
    ∀ p ∈ ps, p.kind = 0 ∧ p.addr % 4096 + p.data.length ≤ 4096

/-- VIEW_OPEN landing on a closed view: with a definition without fault VW_STATE reads 1, VW_ERROR 0 and the view names
its partner; with a fault VW_ERROR names it, bell 0x0791 rings and the view stays closed. VIEW_CLOSE of an open pixel view
with a frame in progress marks it closing; of one that drops, waits or has no frame it closes at once; of a closed view it
changes nothing. CREDIT_GO 1: the limit of the ring named rises by CREDIT_COUNT, or to what the ring holds beyond
OLDEST_OPEN (or REC_INDEX), when CREDIT_GO reads 2 and CREDIT_OVER counts; other values change nothing. -/
def Obligations.ViewsOpenCloseAndTakeCredit : Prop :=
  (∀ (l : Landing) (s u : State), s.landing 0x40 l = some u → u.nat (Obj.VW_STATE (l.arg.toNat % 16)) = 0 →
    let v := l.arg.toNat % 16
    (u.viewFault v = 0 → Gives (.viewOpen l) s fun t => t.get (Obj.VW_STATE v) = 1 ∧ t.get (Obj.VW_ERROR v) = 0 ∧
      t.nat (Obj.VW_PARTNER_UID v) = u.nat (Obj.PARTNER_UID ((u.viewSet v).headD 0)) % 2 ^ 64 ∧
      SameObj u t [Obj.VW_STATE v, Obj.VW_ERROR v, Obj.VW_PARTNER_UID v] ∧ { t with obj := u.obj } = u) ∧
    (u.viewFault v ≠ 0 → Gives (.viewOpen l) s fun t => t.get (Obj.VW_ERROR v) = u.viewFault v ∧ Rings u t 0x0791 0 ∧
      SameObj u t [Obj.VW_ERROR v, Obj.BELL_NEXT_SEQ, Obj.BELL_LOST] ∧ { t with obj := u.obj, dict := u.dict } = u)) ∧
  (∀ (l : Landing) (s u : State), s.landing 0x41 l = some u → u.nat (Obj.VW_STATE (l.arg.toNat % 16)) ≠ 0 →
    let v := l.arg.toNat % 16
    let busy := u.nat (Obj.VW_STATE v) = 2 ∧ (u.view v).frames ≠ [] ∧ u.nat (Obj.VW_SOURCE v) = 0
    (busy → Gives (.viewClose l) s fun t => t.view v = { u.view v with closing := true } ∧ { t with views := u.views } = u) ∧
    (¬ busy → Gives (.viewClose l) s fun t => t.get (Obj.VW_STATE v) = 0 ∧
      (u.nat (Obj.VW_SOURCE v) = 0 → (t.view v).frames = []) ∧
      SameObj u t [Obj.VW_STATE v] ∧ { t with obj := u.obj, views := u.views } = u)) ∧
  (∀ (l : Landing) (s u : State), s.landing 0x41 l = some u → u.nat (Obj.VW_STATE (l.arg.toNat % 16)) = 0 →
    exec (.viewClose l) s = .next u) ∧
  (∀ s : State, s.nat Obj.CREDIT_RING = 0 → Gives (.creditGo 1) s fun t =>
    let v := s.nat Obj.CREDIT_VIEW % 16
    let want := s.nat (Obj.CREDIT_LIMIT v) + s.nat Obj.CREDIT_COUNT
    let most := s.oldestOpen v + s.ringSize v / s.pageSize v
    t.nat (Obj.CREDIT_LIMIT v) = min want most % 2 ^ 64 ∧ t.get Obj.CREDIT_GO = (if most < want then 2 else 1) ∧
    (most < want → Counted s t (Obj.CREDIT_OVER v)) ∧ SameMem s t ∧
    ((s.view v).buffered = [] → (s.view v).pageN = 0 → SameObj s t [Obj.CREDIT_LIMIT v, Obj.CREDIT_OVER v, Obj.CREDIT_GO] ∧
      { t with obj := s.obj, views := s.views } = s)) ∧
  (∀ s : State, s.nat Obj.CREDIT_RING ≠ 0 → Gives (.creditGo 1) s fun t =>
    let v := s.nat Obj.CREDIT_VIEW % 16
    let want := s.nat (Obj.REC_CREDIT v) + s.nat Obj.CREDIT_COUNT
    let most := s.nat (Obj.REC_INDEX v) + s.recRing v / 64
    t.nat (Obj.REC_CREDIT v) = min want most % 2 ^ 64 ∧ t.get Obj.CREDIT_GO = (if most < want then 2 else 1) ∧
    (most < want → Counted s t (Obj.CREDIT_OVER v)) ∧
    SameObj s t [Obj.REC_CREDIT v, Obj.CREDIT_OVER v, Obj.CREDIT_GO] ∧ { t with obj := s.obj, views := s.views } = s) ∧
  (∀ (x : Nat) (s : State), x ≠ 1 → exec (.creditGo x) s = .next s)

/-- LINE_PAGE_WRITE of a complete line whose pages are credited and whose class may spend: its lane takes packets of
exactly the bytes of the line, the line is written and unacknowledged, and where it had waited the stall timer restarts or
stops; without credit, or without a stick of EGRESS, it waits and the stall timer runs. FRAME_RECORD_WRITE of a finished
frame with completion credit: the 64 bytes of its record go out at its place in the ring, REC_INDEX and VW_FRAMES rise,
the frame leaves. VIEW_STALL_TIMEOUT at the limit: a waiting record is lost; the oldest frame with a waiting line is cut
at its unbroken part, later ones drop, VW_STATE reads 3. RECORD_PAGE_FLUSH after VW_FLUSH_US with credit and sticks: the
open page goes out padded with zeros and closes. -/
def Obligations.LinesAndRecordsGoOutUnderCredit : Prop :=
  (∀ (v : Fin 16) (line : Nat) (x : VFrame) (f : Frame) (s : State), (s.view v).lineFrame line = some x →
    s.frame? x.num = some f →
    let rows := (s.viewRows v f.mask).getD []
    let cols := (s.viewCols v f.mask).getD []
    let n := x.stripe.getD (line % max 1 x.stripe.length) 8
    let y := rows.getD line 0
    let pieces := s.linePieces v f rows cols line
    (s.nat (Obj.VW_STATE v) = 2 ∨ s.nat (Obj.VW_STATE v) = 3) → s.nat (Obj.VW_SOURCE v) = 0 → n < 8 → s.laneUp n = true → s.lineDone f y cols = true →
    (s.credited v x.first pieces = true → s.maySpend (136 + n) (s.viewClass v) = true →
      (∀ e ∈ s.seamLoad v y cols (n / 2), s.maySpend e.1 (s.viewClass v) = true) →
      Gives (.linePageWrite v line) s fun t =>
        (∃ ps, (t.laneRec n).unacked = (s.laneRec n).unacked ++ ps ∧ ps.flatMap (·.data) = pieces.flatMap (·.2) ∧
          ∀ p ∈ ps, p.kind = 0 ∧ p.view = some v.val ∧ p.frame = x.num ∧ p.line = line) ∧ OnlyLane n s t ∧
        { x with written := line :: x.written, unacked := line :: x.unacked, waiting := x.waiting.filter (· ≠ line) } ∈
          (t.view v).frames ∧
        (t.view v).stallFrom = (if x.waiting.contains line then (if (t.view v).waits then some s.now else none)
          else (s.view v).stallFrom) ∧ OnlySent s t ∧ SameObjButStalls s t [] ∧
        { t with lanes := s.lanes, views := s.views, rolls := s.rolls, dict := s.dict, obj := s.obj } = s) ∧
    (s.credited v x.first pieces = true → s.maySpend (136 + n) (s.viewClass v) = false → Gives (.linePageWrite v line) s fun t =>
      (t.view v).stallFrom = some ((s.view v).stallFrom.getD s.now) ∧ (t.view v).waits = true ∧ SameObjButStalls s t [] ∧
      { t with views := s.views, rolls := s.rolls, obj := s.obj } = s) ∧
    (s.credited v x.first pieces = false → Gives (.linePageWrite v line) s fun t =>
      (t.view v).stallFrom = some ((s.view v).stallFrom.getD s.now) ∧ (t.view v).waits = true ∧ { t with views := s.views } = s)) ∧
  (∀ (v : Fin 16) (x : VFrame) (rest : List VFrame) (n : Nat) (ns : List Nat) (f : Frame) (s : State),
    (s.view v).frames = x :: rest → s.viewLive v = n :: ns → s.nat (Obj.VW_SOURCE v) = 0 → s.frame? x.num = some f →
    x.ready = true → s.nat (Obj.REC_INDEX v) < s.nat (Obj.REC_CREDIT v) → s.maySpend (136 + n) (s.viewClass v) = true →
    Gives (.frameRecordWrite v) s fun t =>
      CarriesOut n s t (s.nat (Obj.VW_REC_BASE v) + 64 * s.nat (Obj.REC_INDEX v) % s.recRing v)
        (wordsBytes (s.frameRecord v x f)) ∧ OnlyLane n s t ∧ (t.view v).frames = rest ∧ Counted s t (Obj.VW_FRAMES v) ∧
      t.nat (Obj.REC_INDEX v) = (s.nat (Obj.REC_INDEX v) + 1) % 2 ^ 64 ∧
      SameObjButStalls s t [Obj.REC_INDEX v, Obj.VW_FRAMES v, Obj.VW_STATE v] ∧ OnlySent s t ∧
      { t with lanes := s.lanes, views := s.views, rolls := s.rolls, dict := s.dict, obj := s.obj } = s) ∧
  (∀ (v : Fin 16) (x : VFrame) (s : State), (s.view v).frames = [x] → s.nat (Obj.VW_SOURCE v) = 0 → (s.view v).stallFrom.isSome = true →
    s.stallLimit v x ≤ (s.now - (s.view v).stallFrom.getD 0).toNat → x.ready = true → (s.view v).recWaits = true →
    x.waiting = [] →
    Gives (.viewStallTimeout v) s fun t => Counted s t (Obj.REC_LOST v) ∧ (t.view v).frames = [] ∧ (t.view v).stallFrom = none ∧
      SameObj s t [Obj.REC_LOST v, Obj.VW_STATE v] ∧ { t with views := s.views, obj := s.obj } = s) ∧
  (∀ (v : Fin 16) (x y : VFrame) (before after : List VFrame) (t0 : Dlt) (s : State),
    (s.view v).frames = before ++ y :: after → s.nat (Obj.VW_SOURCE v) = 0 → (s.view v).frames.head? = some x → (s.view v).recWaits = false →
    (∀ z ∈ before, z.waiting = []) → y.waiting ≠ [] →
    (s.view v).stallFrom = some t0 → s.stallLimit v x ≤ (s.now - t0).toNat →
    Gives (.viewStallTimeout v) s fun t => t.get (Obj.VW_STATE v) = 3 ∧ Counted s t (Obj.VW_TRUNC v) ∧
      t.nat (Obj.NEXT_PAGE v) = s.nat (Obj.CREDIT_LIMIT v) % 2 ^ 64 ∧
      t.get (Obj.VW_DROPPED v) = min (2 ^ 32 - 1) (s.get (Obj.VW_DROPPED v) + after.length) % 2 ^ 32 ∧
      (t.view v).frames = before ++
        [{ y with valid := some y.prefixLines, pages := s.nat (Obj.CREDIT_LIMIT v) - y.first, waiting := [] }] ∧
      SameMem s t ∧ SameObj s t [Obj.VW_STATE v, Obj.VW_TRUNC v, Obj.NEXT_PAGE v, Obj.VW_DROPPED v]) ∧
  (∀ (v : Fin 16) (n : Nat) (ns : List Nat) (s : State), (s.view v).pageN ≠ 0 →
    s.nat (Obj.VW_FLUSH_US v) * 64000 ≤ (s.now - (s.view v).pageT0).toNat → s.viewLive v = n :: ns →
    s.nat (Obj.NEXT_PAGE v) < s.nat (Obj.CREDIT_LIMIT v) → s.maySpend (136 + n) (s.viewClass v) = true → (s.view v).buffered = [] →
    Gives (.recordPageFlush v) s fun t =>
      (∃ ps, (t.laneRec n).unacked = (s.laneRec n).unacked ++ ps ∧ (∀ p ∈ ps, p.kind = 0 ∧ p.view = some v.val) ∧
        ps.flatMap (·.data) = (s.view v).page ++ List.replicate (s.pageSize v - (s.view v).page.length) 0) ∧ OnlyLane n s t ∧
      (t.view v).pageN = 0 ∧ (t.view v).page = [] ∧ t.nat (Obj.NEXT_PAGE v) = (s.nat (Obj.NEXT_PAGE v) + 1) % 2 ^ 64 ∧
      (∃ x, (t.view v).frames = (s.view v).frames ++ [x] ∧ x.first = s.nat (Obj.NEXT_PAGE v) ∧ x.pages = 1 ∧
        x.lines = (s.view v).pageN) ∧ SameObjButStalls s t [Obj.NEXT_PAGE v] ∧ OnlySent s t ∧
      { t with lanes := s.lanes, views := s.views, rolls := s.rolls, dict := s.dict, obj := s.obj } = s)

/-- Count `i` of lane `n` has risen by `k`, saturating (R334). -/
def LaneCounts (n i k : Nat) (s t : State) : Prop :=
  t.getLe (Obj.LANE_COUNTERS n) (8 * i) 8 = min (2 ^ 64 - 1) (s.getLe (Obj.LANE_COUNTERS n) (8 * i) 8 + k)

/-- The keys of the count bytes of lane `n`. -/
def laneKeys (n : Nat) : List Nat := (List.range 128).map (Obj.LANE_COUNTERS n + ·)

/-- A FILLER of lane `n` (R309, R317). -/
def filler (n : Nat) : Sent := .lane n true (ctrlBytes 0x00 [])

/-- What goes out on lane `n` with a control block of TYPE `ty`: a FILLER first where 2,047 blocks have gone out since the last
one (R309), then the block (R317). -/
def ctrlSent (n : Nat) (s : State) (ty : Nat) (fields : List Byte) : List Sent :=
  (if (s.laneRec n).sinceFiller < 2047 then [] else [filler n]) ++ [.lane n true (ctrlBytes ty fields)]

/-- Lane `n` has sent one control block, and nothing else in the dictionary's record has changed. -/
def SendsCtrl (n : Nat) (s t : State) (ty : Nat) (fields : List Byte) : Prop :=
  t.dict = { s.dict with sent := s.dict.sent ++ ctrlSent n s ty fields }

/-- What the part has sent since is these messages, and FILLERs of lane `n` between them. -/
def SendsBlocks (n : Nat) (s t : State) (ms : List Sent) : Prop :=
  ∃ m, t.dict.sent = s.dict.sent ++ m ∧ m.filter (· ≠ filler n) = ms

/-- The record of lane `n` is `l`, but for the count of blocks since its last FILLER. -/
def LaneIs (n : Nat) (t : State) (l : Lane) : Prop := { t.laneRec n with sinceFiller := l.sinceFiller } = l

/-- The fields of a HELLO of lane `n` (R317, R323), `seen` for bit [2]. -/
def helloFields (n : Nat) (s : State) (seen : Nat) : List Byte :=
  leBytes 8 s.ownUid ++ [1, BitVec.ofNat 8 (s.nat (Obj.RATE_ACTIVE n)),
    BitVec.ofNat 8 (s.nat (Obj.TT_ROLE_ALLOW n) % 4 + 4 * seen)] ++ leBytes 2 2048 ++ [BitVec.ofNat 8 (s.nat (Obj.TT_ROLE n))]

/-- Lane `n` was declared down with this cause (R325): HOLDOFF, no role, nothing to replay, its dictionary requests gone and
nobody waiting for its flash reads, the other lanes and queues as they were. -/
def GoesDown (n cause : Nat) (s t : State) : Prop :=
  t.get (Obj.LANE_STATE n) = 5 ∧ t.get (Obj.DOWN_CAUSE n) = cause ∧ t.nat (Obj.TT_ROLE n) = 0 ∧ (t.laneRec n).unacked = [] ∧
  LaneCounts n 11 1 s t ∧ OnlyLane n s t ∧
  (∃ m bells, t.dict = { s.dict with queues := s.dict.queues.setIfInBounds (2 + n) [], sent := s.dict.sent ++ m, bells := bells }) ∧
  t.ports = { s.ports with flashQ := s.ports.flashQ.map (FlashOp.forget (2 + n)), flashNow := s.ports.flashNow.map (FlashOp.forget (2 + n)) } ∧
  { t with lanes := s.lanes, views := s.views, obj := s.obj, dict := s.dict, ports := s.ports, clk := s.clk, eye := s.eye } = s

/-- Lane `n` is in LOCK at rate code `r`, its transmitter at its initial preset and sending FILLER; nothing but the lane and an
eye scan on it has changed. -/
def InLock (n r : Nat) (s t : State) : Prop :=
  t.get (Obj.LANE_STATE n) = 1 ∧ t.nat (Obj.RATE_ACTIVE n) = r % 256 ∧ (t.laneRec n).rate = r ∧ OnlyLane n s t ∧
  SendsOnly s t (filler n) ∧ (t.laneRec n).sinceFiller = 0 ∧ (t.laneRec n).coefs = presetCoefs (s.nat (Obj.TX_INIT_PRESET n)) ∧
  t.get (Obj.TX_COEFS n) = (presetCoefs (s.nat (Obj.TX_INIT_PRESET n))).toNat ∧
  SameObj s t [Obj.LANE_ENABLE n, Obj.LANE_STATE n, Obj.RATE_ACTIVE n, Obj.TX_COEFS n, Obj.EYE_STATE] ∧
  { t with lanes := s.lanes, obj := s.obj, dict := s.dict, eye := s.eye, power := s.power } = s

/-- The codeword `ws` decodes with `k` symbols corrected, and its blocks are of the kinds `bs` (R306, R307, R317). -/
def Decodes (n : Nat) (s : State) (ws : List Nat) (k : Nat) (bs : List RxBlock) : Prop :=
  ∃ msg, rsDecode ws = some (k, msg) ∧ bs = (blocksOf 20 (symbolBits msg) (s.laneRec n).rxScr).1.map Block.kind

/-- The counts of a codeword of lane `n` that needed `k` corrections (R334). -/
def Corrected (n k : Nat) (s t : State) : Prop :=
  LaneCounts n 0 1 s t ∧ (k ≠ 0 → LaneCounts n 1 1 s t ∧ LaneCounts n 2 k s t)

/-- The counts of the blocks of a codeword of lane `n` that pass its elastic buffer (R310, R317, R334). -/
def BlockCounts (n : Nat) (bs : List RxBlock) (e : Elastic) (s t : State) : Prop :=
  LaneCounts n 9 e.del s t ∧ LaneCounts n 10 e.ins s t ∧ LaneCounts n 4 (bs.count .badCrc) s t ∧
  LaneCounts n 13 (bs.count .unknownType) s t

/-- LANE_ENABLE 1 of a lane that is off, its domain turned on and trims applied: LOCK at LANE_RATE (112 Gbit/s for
automatic), TX_INIT_PRESET, FILLER. LANE_ENABLE 0: off, RATE_ACTIVE 0, domain off; a lane that is UP sends DOWN eight
times first. LANE_RESTART 1 of a lane that is UP sends them too and declares it down with cause 4. The sixteenth good
codeword leads from LOCK to TRAIN with FILLER and a TAP_REQ for P0; in TRAIN, HELLO and UP the blocks of a good one pass
the elastic buffer and are counted, and a buffer that overflows or runs dry declares an UP lane down with cause 2; the
eighth uncorrectable one in a row leads from TRAIN back to LOCK and declares an UP lane down with cause 1. TRAIN_LIMIT:
back to LOCK, the other rate once, or FAILED with bell 0x0E81; RATE_SEEK changes the rate; HELLO_TIMEOUT leads to HOLDOFF,
HOLDOFF_EXPIRY to LOCK. -/
def Obligations.LanesComeUpAndFallBack : Prop :=
  (∀ (n : Fin 8) (s : State), s.laneAbsent n = false → s.laneState n = 0 → s.power.trims = true →
    (s.turnOn (laneDomain n)).domain (laneDomain n) = 1 → Gives (.laneEnableWrite n 1) s fun t =>
      t.get (Obj.LANE_ENABLE n) = 1 ∧ t.domain (laneDomain n) = 1 ∧
      InLock n (if s.nat (Obj.LANE_RATE n) = 0 then 2 else s.nat (Obj.LANE_RATE n)) s t) ∧
  (∀ (n : Fin 8) (s : State), s.laneAbsent n = false → s.laneState n ≠ 4 → Gives (.laneEnableWrite n 0) s fun t =>
    t.get (Obj.LANE_ENABLE n) = 0 ∧ t.get (Obj.LANE_STATE n) = 0 ∧ t.get (Obj.RATE_ACTIVE n) = 0 ∧
    t.domain (laneDomain n) = 0 ∧ OnlyLane n s t ∧
    SameObj s t [Obj.LANE_ENABLE n, Obj.LANE_STATE n, Obj.RATE_ACTIVE n, Obj.EYE_STATE] ∧
    { t with lanes := s.lanes, obj := s.obj, eye := s.eye, power := s.power } = s) ∧
  (∀ (n : Fin 8) (s : State), s.laneAbsent n = false → s.laneState n = 4 → Gives (.laneEnableWrite n 0) s fun t =>
    t.get (Obj.LANE_ENABLE n) = 0 ∧ t.get (Obj.LANE_STATE n) = 0 ∧ t.get (Obj.DOWN_CAUSE n) = 4 ∧ LaneCounts n 11 1 s t ∧
    t.get (Obj.RATE_ACTIVE n) = 0 ∧ t.domain (laneDomain n) = 0 ∧ OnlyLane n s t ∧
    SendsBlocks n s t (List.replicate 8 (.lane n true (ctrlBytes 0x60 [4])))) ∧
  (∀ (n : Fin 8) (s : State), s.laneAbsent n = false → s.laneState n = 4 → Gives (.laneRestart n 1) s fun t =>
    GoesDown n 4 s t ∧ SendsBlocks n s t (List.replicate 8 (.lane n true (ctrlBytes 0x60 [4])))) ∧
  (∀ (n : Fin 8) (k : Nat) (ws ps reads : List Nat) (bs : List RxBlock) (s : State), s.laneState n = 1 →
    15 ≤ (s.laneRec n).goodRun → s.nat (Obj.TX_FIXED n) = 0 → Decodes n s (ws ++ ps) k bs →
    Gives (.codewordReceive n ws ps reads) s fun t => t.get (Obj.LANE_STATE n) = 2 ∧ (t.laneRec n).reqOpen = true ∧
      t.dict = { s.dict with sent := s.dict.sent ++ [filler n,
        .lane n true (ctrlBytes 0x02 [0x0C, BitVec.ofNat 8 ((s.laneRec n).reqNum + 1)])] } ∧
      Corrected n k s t ∧ LaneCounts n 12 1 s t ∧ OnlyLane n s t) ∧
  (∀ (n : Fin 8) (k : Nat) (ws ps reads : List Nat) (bs : List RxBlock) (s : State), Decodes n s (ws ++ ps) k bs →
    let e := elastic bs reads { fill := (s.laneRec n).fill }
    (s.laneState n = 2 → Gives (.codewordReceive n ws ps reads) s fun t => Corrected n k s t ∧ BlockCounts n bs e s t ∧
      t.get (Obj.LANE_STATE n) = 2 ∧ (t.laneRec n).fill = (if e.out then 8 else e.fill) ∧ (t.laneRec n).badRun = 0 ∧
      OnlyLane n s t ∧ SameObj s t (laneKeys n)) ∧
    (s.laneState n = 3 ∨ s.laneState n = 4 ∧ e.out = false → Gives (.codewordReceive n ws ps reads) s fun t =>
      Corrected n k s t ∧ BlockCounts n bs e s t ∧ (t.laneRec n).fill = (if e.out then 8 else e.fill) ∧
      (t.laneRec n).badRun = 0 ∧ OnlyLane n s t ∧ SameObj s t (laneKeys n) ∧ { t with lanes := s.lanes, obj := s.obj } = s) ∧
    (s.laneState n = 4 → e.out = true → Gives (.codewordReceive n ws ps reads) s fun t =>
      Corrected n k s t ∧ BlockCounts n bs e s t ∧ GoesDown n 2 s t)) ∧
  (∀ (n : Fin 8) (ws ps reads : List Nat) (s : State), rsDecode (ws ++ ps) = none → 7 ≤ (s.laneRec n).badRun →
    (s.laneState n = 4 → Gives (.codewordReceive n ws ps reads) s fun t => GoesDown n 1 s t ∧ LaneCounts n 3 1 s t) ∧
    (s.laneState n = 2 → Gives (.codewordReceive n ws ps reads) s fun t => t.get (Obj.LANE_STATE n) = 1 ∧
      LaneCounts n 3 1 s t ∧ (t.laneRec n).coefs = presetCoefs (s.nat (Obj.TX_INIT_PRESET n)) ∧ OnlyLane n s t)) ∧
  (∀ (n : Fin 8) (s : State), s.laneState n = 2 → s.passedUs (s.laneRec n).since (1000 * s.nat (Obj.TRAIN_LIMIT n)) = true →
    ((s.laneRec n).attempts < 2 → Gives (.trainLimitExpiry n) s fun t =>
      (t.laneRec n).attempts = (s.laneRec n).attempts + 1 ∧
      InLock n (if s.nat (Obj.LANE_RATE n) ≠ 0 then s.nat (Obj.LANE_RATE n) else if (s.laneRec n).rate = 0 then 2
        else (s.laneRec n).rate) s t) ∧
    (2 ≤ (s.laneRec n).attempts → (s.laneRec n).auto = true → (s.laneRec n).ratesFailed = 0 → s.nat (Obj.LANE_RATE n) = 0 →
      (s.laneRec n).rate = 1 ∨ (s.laneRec n).rate = 2 → Gives (.trainLimitExpiry n) s fun t =>
        InLock n (3 - (s.laneRec n).rate) s t ∧ (t.laneRec n).attempts = 0 ∧ (t.laneRec n).ratesFailed = 1) ∧
    (2 ≤ (s.laneRec n).attempts → (s.laneRec n).auto = false ∨ (s.laneRec n).ratesFailed ≠ 0 →
      Gives (.trainLimitExpiry n) s fun t => t.get (Obj.LANE_STATE n) = 6 ∧ t.dict.sent = s.dict.sent ++ [filler n] ∧ Rings s t 0x0E81 0 ∧ OnlyLane n s t)) ∧
  (∀ (n : Fin 8) (s : State), s.laneState n = 1 → (s.laneRec n).auto = true → (s.laneRec n).held = false →
    s.passedUs (s.laneRec n).since (1000 * s.nat (Obj.TRAIN_LIMIT n)) = true → s.nat (Obj.LANE_RATE n) = 0 →
    (s.laneRec n).rate = 1 ∨ (s.laneRec n).rate = 2 → Gives (.rateSeekTimeout n) s fun t =>
      InLock n (3 - (s.laneRec n).rate) s t) ∧
  (∀ (n : Fin 8) (s : State), s.laneState n = 3 → s.passedUs (s.laneRec n).since 1000 = true →
    Gives (.helloTimeout n) s fun t => t.get (Obj.LANE_STATE n) = 5 ∧ (t.laneRec n).since = s.clk.beats ∧ OnlyLane n s t ∧
      SendsOnly s t (filler n) ∧ SameObj s t [Obj.LANE_STATE n, Obj.EYE_STATE] ∧
      { t with lanes := s.lanes, obj := s.obj, dict := s.dict, eye := s.eye } = s) ∧
  (∀ (n : Fin 8) (s : State), s.laneState n = 5 → s.passedUs (s.laneRec n).since 1000 = true →
    Gives (.holdoffExpiry n) s fun t =>
      InLock n (if s.nat (Obj.LANE_RATE n) = 0 then 2 else s.nat (Obj.LANE_RATE n)) s t)

/-- TAP_REQ with a new number: the answer carries its status and the coefficients, which are TX_COEFS: outside TRAIN or
with TX_FIXED REFUSED and unchanged, a preset as named, a step that keeps the ranges and the sum UPDATED, another AT_LIMIT
and unchanged; a repeated number is answered again and nothing changes. TAP_RESP to the open request closes it and shows
the far coefficients; a change that was made is measured, and a preset that was not made is followed by the next. A
codeword adds its corrections to the measurement; after 1 ms of a preset the next one is asked for, and the best so far is
remembered. TAP_REQ_RETRY after 10 µs repeats a request. TRAIN_DONE goes out when the search has ended and at least 10^9
bits have shown a BER of at most 10^-6; sent and received: HELLO state with a HELLO. HELLO of version 1: seen and
answered, and with bit [2] set the lane is UP with PARTNER_UID, LAST_UP_DLT, packets from 0 and bell 0x0E83; another
version rings 0x0E82. -/
def Obligations.TapRequestsAreAnsweredAndHelloBringsUp : Prop :=
  (∀ (n : Fin 8) (tap op preset num : Nat) (s : State), s.laneState n ≠ 0 → ((s.laneRec n).lastReq.map (·.1)) ≠ some num →
    let a := s.tapAnswer n tap (op % 4) preset
    let w := (s.laneRec n).coefs
    (s.laneState n ≠ 2 ∨ s.nat (Obj.TX_FIXED n) = 1 → a = (2, w)) ∧
    (s.laneState n = 2 → s.nat (Obj.TX_FIXED n) ≠ 1 → (op % 4 = 0 → a = (0, w)) ∧
      (op % 4 = 3 → a = (0, presetCoefs (preset % 8))) ∧
      (op % 4 = 1 ∨ op % 4 = 2 → a = (1, w) ∨ a.1 = 0 ∧ coefsOk a.2 = true ∧
        a.2 = stepTap w (tap % 4) (if op % 4 = 1 then 1 else -1))) ∧
    Gives (.tapReq n tap op preset num) s fun t => SendsCtrl n s t 0x03 ([BitVec.ofNat 8 num, BitVec.ofNat 8 a.1] ++ leBytes 4 a.2.toNat) ∧
      LaneIs n t { s.laneRec n with coefs := a.2, lastReq := some (num, a.1) } ∧ t.get (Obj.TX_COEFS n) = a.2.toNat ∧
      OnlyLane n s t ∧ SameObj s t [Obj.TX_COEFS n] ∧ { t with lanes := s.lanes, obj := s.obj, dict := s.dict } = s) ∧
  (∀ (n : Fin 8) (tap op preset num st : Nat) (s : State), s.laneState n ≠ 0 → (s.laneRec n).lastReq = some (num, st) →
    Gives (.tapReq n tap op preset num) s fun t =>
      SendsCtrl n s t 0x03 ([BitVec.ofNat 8 num, BitVec.ofNat 8 st] ++ leBytes 4 (s.laneRec n).coefs.toNat) ∧
      LaneIs n t (s.laneRec n) ∧ OnlyLane n s t ∧ { t with lanes := s.lanes, dict := s.dict } = s) ∧
  (∀ (n : Fin 8) (num st : Nat) (c : Word) (s : State), s.laneState n = 2 → (s.laneRec n).reqOpen = true →
    (s.laneRec n).reqNum = num → st ≤ 2 → Gives (.tapResp n num st c) s fun t => t.get (Obj.FAR_TX_COEFS n) = c.toNat ∧
      ((s.laneRec n).search = 25 → t.laneRec n = { s.laneRec n with reqOpen := false } ∧ t.dict = s.dict) ∧
      (st = 0 → (s.laneRec n).search < 25 → (s.laneRec n).search < 8 ∨ (s.laneRec n).search % 2 = 1 →
        t.laneRec n = { s.laneRec n with reqOpen := false, meas := some (s.clk.beats, 0) } ∧ t.dict = s.dict) ∧
      (st ≠ 0 → (s.laneRec n).search < 7 → (t.laneRec n).search = (s.laneRec n).search + 1 ∧ (t.laneRec n).reqOpen = true ∧
        (t.laneRec n).reqNum = (num + 1) % 256 ∧
        SendsCtrl n s t 0x02 [BitVec.ofNat 8 (0x0C + 16 * ((s.laneRec n).search + 1)), BitVec.ofNat 8 (num + 1)]) ∧
      OnlyLane n s t ∧ SameObj s t [Obj.FAR_TX_COEFS n] ∧ { t with lanes := s.lanes, obj := s.obj, dict := s.dict } = s) ∧
  (∀ (n : Fin 8) (k t0 c : Nat) (ws ps reads : List Nat) (bs : List RxBlock) (s : State), s.laneState n = 2 → Decodes n s (ws ++ ps) k bs →
    (s.laneRec n).search < 7 → (s.laneRec n).meas = some (t0, c) → Gives (.codewordReceive n ws ps reads) s fun t =>
      (s.passedUs t0 1000 = false → (t.laneRec n).meas = some (t0, c + k) ∧ t.dict = s.dict) ∧
      (s.passedUs t0 1000 = true → (t.laneRec n).search = (s.laneRec n).search + 1 ∧ (t.laneRec n).meas = none ∧
        SendsCtrl n s t 0x02 [BitVec.ofNat 8 (0x0C + 16 * ((s.laneRec n).search + 1)),
          BitVec.ofNat 8 ((s.laneRec n).reqNum + 1)] ∧
        (((s.laneRec n).base = none ∨ ∃ b, (s.laneRec n).base = some b ∧ c + k < b) →
          (t.laneRec n).best = (s.laneRec n).search ∧ (t.laneRec n).base = some (c + k)) ∧
        (∀ b, (s.laneRec n).base = some b → b ≤ c + k →
          (t.laneRec n).best = (s.laneRec n).best ∧ (t.laneRec n).base = some b))) ∧
  (∀ (n : Fin 8) (s : State), s.laneState n = 2 → (s.laneRec n).reqOpen = true →
    s.passedUs (s.laneRec n).reqAt 10 = true → Gives (.tapReqRetry n) s fun t =>
      SendsCtrl n s t 0x02 [BitVec.ofNat 8 (s.laneRec n).reqBody, BitVec.ofNat 8 (s.laneRec n).reqNum] ∧
      LaneIs n t { s.laneRec n with reqAt := s.clk.beats } ∧ OnlyLane n s t ∧
      { t with lanes := s.lanes, dict := s.dict } = s) ∧
  (∀ (n : Fin 8) (ber : Nat) (s : State), s.laneState n = 2 → (s.laneRec n).search = 25 →
    10 ^ 9 ≤ 5440 * (s.laneRec n).berCw → ber ≤ 1000 → Gives (.trainDoneSend n ber) s fun t =>
    ((s.laneRec n).rcvdDone = false → SendsCtrl n s t 0x04 [] ∧
      LaneIs n t { s.laneRec n with sentDone := true, doneAt := s.clk.beats } ∧ { t with lanes := s.lanes, dict := s.dict } = s) ∧
    ((s.laneRec n).rcvdDone = true → t.get (Obj.LANE_STATE n) = 3 ∧
      SendsBlocks n s t [.lane n true (ctrlBytes 0x04 []), .lane n true (ctrlBytes 0x01 (helloFields n s 0))]) ∧ OnlyLane n s t) ∧
  (∀ (n : Fin 8) (s : State), s.laneState n = 2 → Gives (.trainDone n) s fun t =>
    ((s.laneRec n).sentDone = false → t.laneRec n = { s.laneRec n with rcvdDone := true } ∧ { t with lanes := s.lanes } = s) ∧
    ((s.laneRec n).sentDone = true → t.get (Obj.LANE_STATE n) = 3 ∧
      SendsCtrl n s t 0x01 (helloFields n s 0)) ∧ OnlyLane n s t) ∧
  (∀ (n : Fin 8) (m : HelloMsg) (s : State), s.laneState n = 3 → m.version = 1 → Gives (.hello n m) s fun t =>
    (t.laneRec n).seen = true ∧ t.dict.sent = s.dict.sent ++ ctrlSent n s 0x01 (helloFields n s 1) ∧ OnlyLane n s t ∧ SameMem s t ∧
    (m.seen = false → t.get (Obj.LANE_STATE n) = s.get (Obj.LANE_STATE n)) ∧
    (m.seen = true → t.get (Obj.LANE_STATE n) = 4 ∧ t.get (Obj.PARTNER_UID n) = m.uid.toNat ∧
      t.get (Obj.LAST_UP_DLT n) = s.now.toNat ∧ (t.laneRec n).txSeq = 0 ∧ (t.laneRec n).rxSeq = 0 ∧ Rings s t 0x0E83 0)) ∧
  (∀ (n : Fin 8) (m : HelloMsg) (s : State), s.laneState n = 3 → m.version ≠ 1 → Gives (.hello n m) s fun t =>
    LaneCounts n 13 1 s t ∧ Rings s t 0x0E82 0 ∧ { t with obj := s.obj, dict := s.dict } = s)

/-- On a lane that is UP. PKT_RECEIVE, whole, CRC matching and of the expected SEQ: ACK, SEQ advances; a WRITE or
DICT_RESP counts as discarded, a DICT_REQ joins the queue or is answered BUSY when it holds 16. Any other packet: the SEQ
does not move, and one NAK goes out. CREDIT of the expected SEQ raises the limit of a view that the lane serves. ACK of a
SEQ in the window removes packets up to it; outside the window it counts as discarded. NAK in the window replays from
there; REPLAY_TIMEOUT replays the window; the 65th replay without an advance declares the lane down with cause 6,
LINK_STALL_TIMEOUT with 3 and DOWN with 4, which ring bell 0x0E84. -/
def Obligations.PacketsAreAcceptedInOrderAndReplayed : Prop :=
  (∀ (n : Fin 8) (p : RxPacket) (s : State), s.laneUp n = true → p.whole = true → p.crcOk = true → p.seq = (s.laneRec n).rxSeq →
    p.kind ≤ 2 → let ack := ctrlSent n s 0x20 (leBytes 2 p.seq); Gives (.pktReceive n p) s fun t => (t.laneRec n).rxSeq = (p.seq + 1) % 4096 ∧ OnlyLane n s t ∧ SameMem s t ∧
      (p.kind ≠ 1 → t.dict = { s.dict with sent := s.dict.sent ++ ack } ∧ LaneCounts n 14 1 s t) ∧
      (∀ q, p.kind = 1 → s.dict.queues.toList[2 + n.val]? = some q → q.length < 16 →
        t.dict.queues.toList[2 + n.val]? = some (q ++ [{ p.req with stamp := s.now }]) ∧
        t.dict.sent = s.dict.sent ++ ack) ∧
      (∀ q, p.kind = 1 → s.dict.queues.toList[2 + n.val]? = some q → 16 ≤ q.length → t.dict.queues = s.dict.queues ∧
        (∃ pk, (t.laneRec n).unacked = (s.laneRec n).unacked ++ [pk] ∧ pk.kind = 2 ∧ pk.header = transportHeader p.req 6 0 0) ∧
        ∃ m, t.dict.sent = s.dict.sent ++ ack ++ m ++ [.reply (2 + n.val) p.req.tag 6 []])) ∧
  (∀ (n : Fin 8) (p : RxPacket) (s : State), s.laneUp n = true →
    p.whole = false ∨ p.crcOk = false ∨ p.seq ≠ (s.laneRec n).rxSeq ∨ 2 < p.kind → Gives (.pktReceive n p) s fun t =>
      (t.laneRec n).rxSeq = (s.laneRec n).rxSeq ∧ OnlyLane n s t ∧ SameObj s t (laneKeys n) ∧
      ((s.laneRec n).nakSent = false ∨ s.passedUs (s.laneRec n).nakAt (s.nat Obj.REPLAY_TIMEOUT) = true →
        SendsCtrl n s t 0x21 (leBytes 2 (s.laneRec n).rxSeq) ∧ LaneCounts n 5 1 s t) ∧
      ((s.laneRec n).nakSent = true → s.passedUs (s.laneRec n).nakAt (s.nat Obj.REPLAY_TIMEOUT) = false → t.dict = s.dict) ∧
      (p.whole = true → p.crcOk = false → LaneCounts n 4 1 s t) ∧
      (p.whole = true → p.crcOk = true → p.seq = (s.laneRec n).rxSeq → LaneCounts n 13 1 s t) ∧
      { t with lanes := s.lanes, obj := s.obj, dict := s.dict } = s) ∧
  (∀ (n : Fin 8) (v : Fin 16) (ring : Fin 2) (c : Word) (s : State), s.laneUp n = true → n.val ∈ s.viewSet v →
    Gives (.credit n (s.laneRec n).rxSeq v ring c) s fun t => (t.laneRec n).rxSeq = ((s.laneRec n).rxSeq + 1) % 4096 ∧
      (∃ m, t.dict.sent = s.dict.sent ++ ctrlSent n s 0x20 (leBytes 2 (s.laneRec n).rxSeq) ++ m) ∧ SameMem s t ∧
      (ring = 0 → t.nat (Obj.CREDIT_LIMIT v) =
        min (s.nat (Obj.CREDIT_LIMIT v) + c.toNat) (s.oldestOpen v + s.ringSize v / s.pageSize v) % 2 ^ 64) ∧
      (ring = 1 → t.nat (Obj.REC_CREDIT v) =
        min (s.nat (Obj.REC_CREDIT v) + c.toNat) (s.nat (Obj.REC_INDEX v) + s.recRing v / 64) % 2 ^ 64)) ∧
  (∀ (n : Fin 8) (v : Fin 16) (ring : Fin 2) (c : Word) (s : State), s.laneUp n = true → n.val ∉ s.viewSet v →
    Gives (.credit n (s.laneRec n).rxSeq v ring c) s fun t => LaneCounts n 14 1 s t ∧ SameObj s t (laneKeys n) ∧
      (t.laneRec n).rxSeq = ((s.laneRec n).rxSeq + 1) % 4096 ∧ SendsCtrl n s t 0x20 (leBytes 2 (s.laneRec n).rxSeq) ∧
      OnlyLane n s t ∧ { t with lanes := s.lanes, obj := s.obj, dict := s.dict } = s) ∧
  (∀ (n : Fin 8) (seq i : Nat) (s : State), s.laneUp n = true →
    ((s.laneRec n).window.findIdx? fun p => p.seq = seq) = some i → Gives (.ack n seq) s fun t =>
      (t.laneRec n).unacked = (s.laneRec n).unacked.drop (i + 1) ∧ (t.laneRec n).replays = 0 ∧ OnlyLane n s t ∧
      (t.laneRec n).sentN = (t.laneRec n).window.length ∧ OnlySent s t ∧
      { t with lanes := s.lanes, views := s.views, dict := s.dict } = s) ∧
  (∀ (n : Fin 8) (seq : Nat) (s : State), s.laneUp n = true →
    ((s.laneRec n).window.findIdx? fun p => p.seq = seq) = none → Gives (.ack n seq) s fun t => LaneCounts n 14 1 s t ∧
      SameObj s t (laneKeys n) ∧ { t with obj := s.obj } = s) ∧
  (∀ (n : Fin 8) (seq i : Nat) (s : State), s.laneUp n = true →
    ((s.laneRec n).window.findIdx? fun p => p.seq = seq) = some i →
    ((s.laneRec n).replays < 64 → Gives (.nak n seq) s fun t => LaneCounts n 6 1 s t ∧
      LaneCounts n 7 ((s.laneRec n).window.length - i) s t ∧ (t.laneRec n).unacked = (s.laneRec n).unacked ∧
      SendsBlocks n s t (((s.laneRec n).window.drop i).flatMap fun p => (packetBlocks p).map fun b => .lane n b.ctrl b.bytes) ∧
      (t.laneRec n).replays = (s.laneRec n).replays + 1 ∧ OnlySent s t ∧ OnlyLane n s t ∧
      { t with lanes := s.lanes, obj := s.obj, dict := s.dict } = s) ∧
    (64 ≤ (s.laneRec n).replays → Gives (.nak n seq) s fun t => GoesDown n 6 s t)) ∧
  (∀ (n : Fin 8) (s : State), s.laneUp n = true → (s.laneRec n).unacked ≠ [] → (s.laneRec n).replays < 64 →
    s.passedUs (max (s.laneRec n).ackAt (s.laneRec n).replayAt) (s.nat Obj.REPLAY_TIMEOUT) = true →
    Gives (.replayTimeout n) s fun t => LaneCounts n 8 1 s t ∧ LaneCounts n 7 (s.laneRec n).window.length s t ∧
      SendsBlocks n s t ((s.laneRec n).window.flatMap fun p => (packetBlocks p).map fun b => .lane n b.ctrl b.bytes) ∧
      (t.laneRec n).replays = (s.laneRec n).replays + 1 ∧ (t.laneRec n).unacked = (s.laneRec n).unacked ∧ OnlySent s t ∧
      OnlyLane n s t ∧ { t with lanes := s.lanes, obj := s.obj, dict := s.dict } = s) ∧
  (∀ (n : Fin 8) (s : State), s.laneUp n = true → (s.laneRec n).unacked ≠ [] →
    s.passedUs (s.laneRec n).ackAt (s.nat Obj.LINK_STALL_US) = true → Gives (.linkStallTimeout n) s fun t =>
      GoesDown n 3 s t ∧ (s.nat (Obj.TT_ROLE n) = 0 → Rings s t 0x0E84 0)) ∧
  (∀ (n : Fin 8) (cause : Nat) (s : State), s.laneUp n = true → cause < 256 → Gives (.down n cause) s fun t =>
    GoesDown n 4 s t ∧ (s.nat (Obj.TT_ROLE n) = 0 → Rings s t 0x0E84 0))

/-- On a lane that is UP. As reference TIME_SYNC_SEND sends the count every TT_PERIOD_US and TIME_REQ is answered with
TIME_RESP; as follower TIME_SYNC is stamped and answered, and TIME_RESP gives TT_DELAY, half the sum of both differences
plus LANE_ASYM. TT_ROLE_REQ asks with a new number and reads 1; ROLE_REQ with no own request is granted with the
complementary role where allowed, else refused; against an own one the lower UID64 answers COLLISION, the higher gives up
its own (reads 4), equal ones ring 0x0E85. ROLE_RESP ends the request, GRANTED sets the role; ROLE_REQ_RETRY repeats, and
after 8 tries reads 5. EYE_GO starts one scan or reads 4; EYE_POINT_DONE stores each point and ends after the last. -/
def Obligations.TimeTransfersRolesAndEyes : Prop :=
  (∀ (n : Fin 8) (s : State), s.laneUp n = true → s.nat (Obj.TT_ROLE n) = 1 →
    (∀ b, (s.laneRec n).ttAt = some b → s.passedUs b (s.nat Obj.TT_PERIOD_US) = true) → Gives (.timeSyncSend n) s fun t =>
      SendsCtrl n s t 0x40 (leBytes 8 s.now.toNat) ∧ LaneIs n t { s.laneRec n with ttAt := some s.clk.beats } ∧
      OnlyLane n s t ∧ { t with lanes := s.lanes, dict := s.dict } = s) ∧
  (∀ (n : Fin 8) (t1 t2 t3 : Dlt) (s : State), s.laneUp n = true → s.nat (Obj.TT_ROLE n) = 2 →
    Gives (.timeSync n t1 t2 t3) s fun t => SendsCtrl n s t 0x41 (leBytes 8 t3.toNat) ∧
      LaneIs n t { s.laneRec n with ttT1 := t1, ttT2 := t2, ttT3 := t3, ttOpen := true } ∧
      OnlyLane n s t ∧ { t with lanes := s.lanes, dict := s.dict } = s) ∧
  (∀ (n : Fin 8) (t3 t4 : Dlt) (s : State), s.laneUp n = true → s.nat (Obj.TT_ROLE n) = 1 → Gives (.timeReq n t3 t4) s fun t =>
    SendsCtrl n s t 0x42 (leBytes 8 t4.toNat ++ leBytes 8 t3.toNat) ∧ LaneCounts n 15 1 s t ∧ SameObj s t (laneKeys n) ∧
    LaneIs n t (s.laneRec n) ∧ OnlyLane n s t ∧ { t with lanes := s.lanes, obj := s.obj, dict := s.dict } = s) ∧
  (∀ (n : Fin 8) (t4 t3 : Dlt) (s : State), s.laneUp n = true → s.nat (Obj.TT_ROLE n) = 2 → (s.laneRec n).ttOpen = true →
    (s.laneRec n).ttT3 = t3 → Gives (.timeResp n t4 t3) s fun t =>
      t.get (Obj.TT_DELAY n) = clampInt (roundDiv (Dlt.diff (s.laneRec n).ttT2 (s.laneRec n).ttT1 + Dlt.diff t4 t3) 2 +
        s.get (Obj.LANE_ASYM n)) (-2147483648) 2147483647 ∧ LaneCounts n 15 1 s t ∧
      t.laneRec n = { s.laneRec n with ttOpen := false } ∧ OnlyLane n s t ∧ SameMem s t ∧
      (s.nat Obj.TIME_LANE ≠ n → SameObj s t (Obj.TT_DELAY n :: laneKeys n) ∧ { t with lanes := s.lanes, obj := s.obj } = s)) ∧
  (∀ (n : Fin 8) (v : Nat) (s : State), v ≤ 2 → s.laneAbsent n = false → Gives (.ttRoleReq n v) s fun t =>
    t.get (Obj.TT_ROLE_REQ n) = 1 ∧ (t.laneRec n).roleReq = some (v, ((s.laneRec n).roleNum + 1) % 256, 1) ∧
    (s.laneUp n = true → SendsCtrl n s t 0x50 [BitVec.ofNat 8 v, BitVec.ofNat 8 ((s.laneRec n).roleNum + 1)]) ∧
    (s.laneUp n = false → t.dict = s.dict) ∧ OnlyLane n s t ∧ SameObj s t [Obj.TT_ROLE_REQ n] ∧
    { t with lanes := s.lanes, obj := s.obj, dict := s.dict } = s) ∧
  (∀ (n : Fin 8) (role num : Nat) (s : State), s.laneUp n = true → ((s.laneRec n).lastRole.map (·.1)) ≠ some num →
    (s.laneRec n).roleReq = none → role ≤ 2 →
    let own := if role = 1 then 2 else if role = 2 then 1 else 0
    let may := own = 0 ∨ (s.nat (Obj.TT_ROLE_ALLOW n)).testBit (own - 1) = true
    (may → Gives (.roleReq n role num) s fun t => t.nat (Obj.TT_ROLE n) = own ∧ OnlyLane n s t ∧ SameMem s t ∧
      t.dict.sent = s.dict.sent ++ ctrlSent n s 0x51 [BitVec.ofNat 8 num, 0]) ∧
    (¬ may → Gives (.roleReq n role num) s fun t => SendsCtrl n s t 0x51 [BitVec.ofNat 8 num, 1] ∧
      LaneIs n t { s.laneRec n with lastRole := some (num, 1) } ∧ OnlyLane n s t ∧
      { t with lanes := s.lanes, dict := s.dict } = s)) ∧
  (∀ (n : Fin 8) (role num : Nat) (r : Nat × Nat × Nat) (s : State), s.laneUp n = true →
    ((s.laneRec n).lastRole.map (·.1)) ≠ some num → (s.laneRec n).roleReq = some r → Gives (.roleReq n role num) s fun t =>
      (s.ownUid < s.nat (Obj.PARTNER_UID n) → SendsCtrl n s t 0x51 [BitVec.ofNat 8 num, 2] ∧ (t.laneRec n).roleReq = some r) ∧
      (s.nat (Obj.PARTNER_UID n) < s.ownUid → t.get (Obj.TT_ROLE_REQ n) = 4 ∧ (t.laneRec n).roleReq = none ∧
        ∃ st : Byte, st.toNat < 2 ∧ t.dict.sent = s.dict.sent ++ ctrlSent n s 0x51 [BitVec.ofNat 8 num, st]) ∧
      (s.ownUid = s.nat (Obj.PARTNER_UID n) → Rings s t 0x0E85 0 ∧
        t.dict.sent = s.dict.sent ++ ctrlSent n s 0x51 [BitVec.ofNat 8 num, 2])) ∧
  (∀ (n : Fin 8) (role num tries status : Nat) (s : State), s.laneUp n = true →
    (s.laneRec n).roleReq = some (role, num, tries) → role ≤ 2 → status ≤ 2 → Gives (.roleResp n num status) s fun t =>
      t.get (Obj.TT_ROLE_REQ n) = 2 + status ∧ (t.laneRec n).roleReq = none ∧ OnlyLane n s t ∧
      (status = 0 → t.nat (Obj.TT_ROLE n) = role) ∧ (status ≠ 0 → SameObj s t [Obj.TT_ROLE_REQ n] ∧
        { t with lanes := s.lanes, obj := s.obj } = s)) ∧
  (∀ (n : Fin 8) (role num tries : Nat) (s : State), (s.laneRec n).roleReq = some (role, num, tries) →
    s.passedUs (s.laneRec n).roleAt 100 = true →
    (tries < 8 → s.laneUp n = true → Gives (.roleReqRetry n) s fun t => SendsCtrl n s t 0x50 [BitVec.ofNat 8 role, BitVec.ofNat 8 num] ∧
      (t.laneRec n).roleReq = some (role, num, tries + 1) ∧ OnlyLane n s t ∧
      { t with lanes := s.lanes, dict := s.dict } = s) ∧
    (8 ≤ tries → Gives (.roleReqRetry n) s fun t => t.get (Obj.TT_ROLE_REQ n) = 5 ∧ (t.laneRec n).roleReq = none ∧
      OnlyLane n s t ∧ SameObj s t [Obj.TT_ROLE_REQ n] ∧ { t with lanes := s.lanes, obj := s.obj } = s)) ∧
  (∀ s : State, s.eye = none → (s.laneState (s.nat Obj.EYE_LANE) = 2 ∨ s.laneState (s.nat Obj.EYE_LANE) = 4) →
    s.nat Obj.EYE_MASK % 8 ≠ 0 → Gives (.eyeGo 1) s fun t => t.eye = some (s.nat Obj.EYE_LANE, s.nat Obj.EYE_MASK % 8) ∧
      t.get Obj.EYE_STATE = 1 ∧ t.get Obj.EYE_POINT = 0 ∧ SameObj s t [Obj.EYE_STATE, Obj.EYE_POINT] ∧
      { t with obj := s.obj, eye := s.eye } = s) ∧
  (∀ s : State, s.eye ≠ none ∨ s.laneState (s.nat Obj.EYE_LANE) ≠ 2 ∧ s.laneState (s.nat Obj.EYE_LANE) ≠ 4 →
    Gives (.eyeGo 1) s fun t => t.get Obj.EYE_STATE = 4 ∧ SameObj s t [Obj.EYE_STATE] ∧ { t with obj := s.obj } = s) ∧
  (∀ (n eyes : Nat) (sym err : Word) (s : State), s.eye = some (n, eyes) → Gives (.eyePointDone sym err) s fun t =>
    let p := s.nat Obj.EYE_POINT
    t.getLe Obj.EYE_RESULT (eyeOffset eyes p) 4 = sym.toNat ∧ t.getLe Obj.EYE_RESULT (eyeOffset eyes p + 4) 4 = err.toNat ∧
    t.nat Obj.EYE_POINT = (p + 1) % 2 ^ 16 ∧
    (8192 * (setBits 3 eyes).length ≤ p + 1 → t.eye = none ∧ t.get Obj.EYE_STATE = 2) ∧
    (p + 1 < 8192 * (setBits 3 eyes).length → t.eye = s.eye ∧ t.get Obj.EYE_STATE = s.get Obj.EYE_STATE) ∧
    { t with obj := s.obj, eye := s.eye } = s)

/-! ## The dictionary and CAN FD (11) -/

/-- The serial number and two bytes, as CLAIM and HEARTBEAT carry them. -/
def idFrame (s : State) (a b : Nat) : List Byte := leBytes 6 s.otp.serial48.toNat ++ [BitVec.ofNat 8 a, BitVec.ofNat 8 b]

/-- A CAN FD frame of the part with the bytes `bs`: padded (R348), and with BRS where the data rate in force exceeds the nominal
one (R347). -/
def canMsg (s : State) (id : Nat) (bs : List Byte) : Sent := .can id (nomRate s.dict.canNom < dataRate s.dict.canData) (canPad bs)

/-- The part has sent exactly one CAN FD frame since. -/
def SendsCan (s t : State) (id : Nat) (bs : List Byte) : Prop := t.dict.sent = s.dict.sent ++ [canMsg s id bs]

/-- The objects that a frame sent may change: the port's state and the measured transmitter delay (R347). -/
def canKeys : List Nat := [Obj.CAN_STATE, Obj.BUS_OFF_COUNT, Obj.CAN_TDC_MEAS]

/-- Client `c` is heeded, and the port is not about to go bus-off. -/
def Heeds (s : State) (c : Nat) : Prop := s.ktpHeeds c = true ∧ s.dict.traErr < 256

/-- The server's next request is `r`, a frame of a client with a session; nothing holds the server, and AC6 may spend on DICT
(R345, R354, R370). -/
def Serves (s : State) (r : DictReq) (rest : List DictReq) : Prop :=
  Heeds s r.client ∧ s.flashReading = false ∧ s.dict.nextQ = 0 ∧ s.dict.queues[0] = r :: rest ∧ s.maySpend 145 6 = true ∧
  ((s.portWrite 0 r).bind fun w => s.portStall w.1 w.2) = none

/-- The request served has left its queue, the next transport is next in turn, and no byte of memory has changed. -/
def Served (s t : State) (rest : List DictReq) : Prop :=
  t.dict.queues = s.dict.queues.set 0 rest ∧ t.dict.nextQ = 1 ∧ SameMem s t

/-- The transfer of client `c`. -/
def transfer (s : State) (c : Nat) : Option Xfer := (s.session c).bind (·.xfer)

/-- CAN_APPLY 1 puts the rates in force and integrates again, or reads 2 with a data rate below the nominal one.
CAN_INTEGRATION_COMPLETE: error-active, counts 0, an idle part listens. CAN_BUS_ERROR raises a count: error-passive from
128, bus-off from a transmit count of 256; a claim waits for its backoff. CAN_BUS_OFF_RECOVERY: error-active, bell 0x0B81,
an operational part claims its ID again. CLAIM_LISTEN_END claims a free ID (the preferred one if free), CLAIM_WAIT_END
makes it the NODE_ID with a heartbeat, CLAIM_RETRY sends it again. CLAIM for its own ID: a lower own serial defends, a
higher one gives the ID up with bell 0x0B82. Heartbeats enter, replace or leave the node table; a node expires. -/
def Obligations.NodeIdsAreClaimedDefendedAndGivenUp : Prop :=
  (∀ s : State, s.canActive = true → Gives .canClassicFrame s fun t => Counted s t Obj.CAN_CLASSIC ∧
    SameObj s t [Obj.CAN_CLASSIC] ∧ { t with obj := s.obj } = s) ∧
  (∀ s : State, Gives (.canApply 1) s fun t =>
    (nomRate (s.nat Obj.CAN_NOM_RATE) ≤ dataRate (s.nat Obj.CAN_DATA_RATE) → t.get Obj.CAN_APPLY = 1 ∧
      t.get Obj.CAN_STATE = (if s.nat Obj.CAN_ENABLE = 1 ∧ s.domain 1 = 1 then 1 else 0)) ∧
    (dataRate (s.nat Obj.CAN_DATA_RATE) < nomRate (s.nat Obj.CAN_NOM_RATE) → t.get Obj.CAN_APPLY = 2 ∧
      t.get Obj.CAN_STATE = s.get Obj.CAN_STATE) ∧
    (nomRate (s.nat Obj.CAN_NOM_RATE) ≤ dataRate (s.nat Obj.CAN_DATA_RATE) →
      t.dict = { s.dict with canNom := s.nat Obj.CAN_NOM_RATE, canData := s.nat Obj.CAN_DATA_RATE }) ∧
    (dataRate (s.nat Obj.CAN_DATA_RATE) < nomRate (s.nat Obj.CAN_NOM_RATE) → t.dict = s.dict) ∧
    SameObj s t [Obj.CAN_APPLY, Obj.CAN_STATE] ∧ { t with obj := s.obj, dict := s.dict } = s) ∧
  (∀ s : State, s.domain 1 = 1 → s.nat Obj.CAN_ENABLE = 1 → s.nat Obj.CAN_STATE = 1 →
    Gives .canIntegrationComplete s fun t => t.get Obj.CAN_STATE = 2 ∧ t.dict.recErr = 0 ∧ t.dict.traErr = 0 ∧
      (s.nat Obj.CLAIM_STATE < 2 → t.get Obj.CLAIM_STATE = 0 ∧ t.dict.heard = [] ∧ t.dict.listenAt = s.clk.beats) ∧
      SameObj s t [Obj.CAN_STATE, Obj.CLAIM_STATE] ∧ { t with obj := s.obj, dict := s.dict } = s) ∧
  (∀ (tx : Bool) (d : Nat) (s : State), s.canActive = true → s.dict.traErr < 256 → Gives (.canBusError tx d) s fun t =>
    t.dict.traErr = (if tx then s.dict.traErr + d else s.dict.traErr) ∧
    t.dict.recErr = (if tx then s.dict.recErr else min 255 (s.dict.recErr + d)) ∧
    t.get Obj.CAN_STATE = (if 256 ≤ t.dict.traErr then 4 else if 128 ≤ t.dict.traErr ∨ 128 ≤ t.dict.recErr then 3 else 2) ∧
    (256 ≤ t.dict.traErr → Counted s t Obj.BUS_OFF_COUNT) ∧
    (tx = true → s.nat Obj.CLAIM_STATE = 1 → s.dict.retryAt = none → t.dict.retryAt =
      some (s.clk.beats + 200000 * claimBackoff s.otp.serial48 s.dict.claimTry)) ∧
    SameObj s t [Obj.CAN_STATE, Obj.BUS_OFF_COUNT] ∧ { t with obj := s.obj, dict := s.dict } = s) ∧
  (∀ s : State, s.domain 1 = 1 → s.nat Obj.CAN_ENABLE = 1 → s.nat Obj.CAN_STATE = 4 → s.nat Obj.CAN_AUTO_RECOVER = 1 →
    Gives .canBusOffRecovery s fun t => t.get Obj.CAN_STATE = 2 ∧ t.dict.recErr = 0 ∧ t.dict.traErr = 0 ∧
      Rings s t 0x0B81 0 ∧ (s.operational = true → SendsCan s t (s.nat Obj.NODE_ID) (idFrame s 0 0)) ∧
      SameObj s t [Obj.CAN_STATE, Obj.CAN_TDC_MEAS, Obj.BELL_NEXT_SEQ, Obj.BELL_LOST] ∧ { t with obj := s.obj, dict := s.dict } = s) ∧
  (∀ (heard : List Nat) (n : Nat), 1 ≤ n → n ≤ 127 → (n ∉ heard → freeId heard n = n) ∧
    ((∃ k, 1 ≤ k ∧ k ≤ 127 ∧ k ∉ heard) → freeId heard n ∉ heard ∧ 1 ≤ freeId heard n ∧ freeId heard n ≤ 127)) ∧
  (∀ s : State, s.canActive = true → s.nat Obj.CLAIM_STATE = 0 ∨ s.nat Obj.CLAIM_STATE = 3 →
    s.passedMs s.dict.listenAt (s.nat Obj.HB_EXPIRE) = true → Gives .claimListenEnd s fun t =>
      let n := freeId s.dict.heard (s.nat Obj.NODE_ID_PREF)
      t.get Obj.CLAIM_STATE = 1 ∧ t.dict.claimId = n ∧ t.dict.claimAt = s.clk.beats ∧ Counted s t Obj.CLAIM_COUNT ∧
      SendsCan s t n (idFrame s 0 0)) ∧
  (∀ s : State, s.canActive = true → s.nat Obj.CLAIM_STATE = 1 → s.dict.retryAt = none →
    s.passedMs s.dict.claimAt 50 = true → s.dict.claimId ≤ 127 → Gives .claimWaitEnd s fun t =>
      t.get Obj.NODE_ID = s.dict.claimId ∧ t.get Obj.CLAIM_STATE = 2 ∧
      SendsCan s t (0x700 + s.dict.claimId) (idFrame s 1 s.dict.hbCount) ∧ t.dict.hbAt = s.clk.beats) ∧
  (∀ (b : Nat) (s : State), s.dict.retryAt = some b → s.canActive = true → s.nat Obj.CLAIM_STATE = 1 → b ≤ s.clk.beats →
    Gives .claimRetry s fun t => SendsCan s t s.dict.claimId (idFrame s 0 0) ∧ t.dict.retryAt = none ∧
      t.dict.claimAt = s.clk.beats) ∧
  (∀ (n : Nat) (serial : BitVec 48) (s : State), s.canActive = true → 1 ≤ n → n ≤ 127 →
    (s.operational = true → n = s.nat Obj.NODE_ID → s.otp.serial48 < serial → Gives (.claim n serial) s fun t =>
      SendsCan s t n (idFrame s 0 0) ∧ t.get Obj.NODE_ID = s.get Obj.NODE_ID) ∧
    (s.operational = true → n = s.nat Obj.NODE_ID → serial < s.otp.serial48 → Gives (.claim n serial) s fun t =>
      t.get Obj.NODE_ID = 0 ∧ t.get Obj.CLAIM_STATE = 3 ∧ t.dict.sessions = [] ∧ Rings s t 0x0B82 0 ∧
      t.dict.sent = s.dict.sent) ∧
    (s.operational = false → s.nat Obj.CLAIM_STATE ≠ 1 → Gives (.claim n serial) s fun t => n ∈ t.dict.heard ∧
      (∀ k, k ∈ t.dict.heard ↔ k = n ∨ k ∈ s.dict.heard) ∧ t.dict.sent = s.dict.sent)) ∧
  (∀ (n : Nat) (serial : BitVec 48) (st : Nat) (s : State), s.canActive = true → 1 ≤ n → n ≤ 127 → st ≤ 2 →
    s.operational = true → n ≠ s.nat Obj.NODE_ID → Gives (.heartbeat n serial st) s fun t =>
      let x : Node := ⟨n, serial, st, s.now, s.clk.beats⟩
      (st = 2 → t.dict.nodes = (s.dict.nodes.filter fun y => y.id ≠ n) ∧
        t.dict.sessions = s.dict.sessions.filter fun y => y.client ≠ n) ∧
      (st ≠ 2 → (∃ y ∈ s.dict.nodes, y.id = n) → t.dict.nodes = s.dict.nodes.map fun y => if y.id = n then x else y) ∧
      (st ≠ 2 → (∀ y ∈ s.dict.nodes, y.id ≠ n) → s.dict.nodes.length < 64 → t.dict.nodes = s.dict.nodes ++ [x]) ∧
      (st ≠ 2 → (∀ y ∈ s.dict.nodes, y.id ≠ n) → 64 ≤ s.dict.nodes.length → t.dict.nodes = s.dict.nodes ∧
        Counted s t Obj.NODES_REFUSED) ∧ SameMem s t) ∧
  (∀ s : State, s.canActive = true → s.operational = true → s.passedMs s.dict.hbAt (s.nat Obj.HB_PERIOD) = true →
    Gives .heartbeatSend s fun t => SendsCan s t (0x700 + s.nat Obj.NODE_ID) (idFrame s 1 s.dict.hbCount) ∧
      t.dict.hbAt = s.clk.beats ∧ t.dict.hbCount = (s.dict.hbCount + 1) % 256) ∧
  (∀ (n : Nat) (x : Node) (s : State), (s.dict.nodes.find? fun y => y.id = n) = some x → s.domain 1 = 1 →
    s.passedMs x.beat (s.nat Obj.HB_EXPIRE) = true → Gives (.nodeExpire n) s fun t =>
      t.dict = { s.dict with nodes := s.dict.nodes.filter fun y => y.id ≠ n, sessions := s.dict.sessions.filter fun y => y.client ≠ n } ∧
      { t with dict := s.dict } = s)

/-- KTP_OPEN from a node in the table: naming the own ID it opens a session without transfer and is answered, naming
another it drops the session. READ, WRITE, READ_ACTIVE and every frame of a segmented or bulk transfer of a client with a
session join the queue with their arrival time, or with 16 waiting are answered BUSY with their byte 0. DICT_SERVE of a
READ from a lane: the request leaves, the next transport is next in turn, one reply goes out, NO_OBJECT for a missing
object and otherwise the little-endian value; no object and no byte changes. REGISTER_WRITE: no object or a read-only one
changes nothing; a value in range is stored (RW), staged (RWS) or clears its count (RWC). BELL_ACK empties the queue up to
its record. -/
def Obligations.DictionaryRequestsAreQueuedServedAndChecked : Prop :=
  (∀ (c server tag : Nat) (serial : BitVec 48) (s : State), s.canActive = true → s.operational = true → s.dict.traErr < 256 →
    (∃ x ∈ s.dict.nodes, x.id = c) →
    (server ≠ 0 → server = s.nat Obj.NODE_ID → Gives (.ktpOpen c server serial tag) s fun t =>
      t.session c = some { client := c, serial := serial } ∧
      SendsCan s t (0x480 + c) [ktpByte 0 tag, 0, BitVec.ofNat 8 server, 0] ∧ SameMem s t) ∧
    (server = 0 ∨ server ≠ s.nat Obj.NODE_ID → Gives (.ktpOpen c server serial tag) s fun t =>
      t.session c = none ∧ t.dict.sent = s.dict.sent ∧ SameMem s t)) ∧
  (∀ (c tag index sub offset length : Nat) (last toggle : Bool) (seq status lastSeq nextBlock : Nat) (crc : Word)
    (data : List Byte) (s : State), Heeds s c →
    let q := s.dict.queues[0]
    let joins (r : DictReq) (t : State) : Prop := SameMem s t ∧ SameObj s t canKeys ∧
      (q.length < 16 → t.dict.queues = s.dict.queues.set 0 (q ++ [{ r with client := c, stamp := s.now }]) ∧ t.dict.sent = s.dict.sent) ∧
      (16 ≤ q.length → t.dict.queues = s.dict.queues ∧ SendsCan s t (0x480 + c) [BitVec.ofNat 8 (16 * r.cmd + r.tag % 64), 6, 0, 0])
    let one (cmd : Nat) : DictReq := { cmd := cmd, tag := tag % 16, index := index, sub := sub }
    let many (cmd : Nat) : DictReq := { one cmd with offset := offset, length := length }
    let frame (cmd n : Nat) (bs : List Byte) : DictReq := { cmd := cmd, tag := n, index := 0, sub := 0, data := bs }
    Gives (.ktpRead c tag index sub) s (joins (one 1)) ∧ Gives (.ktpWrite c tag index sub data) s (joins { one 2 with data := data }) ∧
    Gives (.readActive c tag index sub) s (joins (one 3)) ∧
    Gives (.segRead c tag index sub offset length) s (joins (many 4)) ∧
    Gives (.segWrite c tag index sub offset length) s (joins (many 5)) ∧
    Gives (.bulkRead c tag index sub offset length) s (joins (many 7)) ∧
    Gives (.bulkWrite c tag index sub offset length) s (joins (many 8)) ∧
    Gives (.segData c last toggle data) s (joins (frame 6 ((if last then 2 else 0) + if toggle then 1 else 0) data)) ∧
    Gives (.bulkData c seq data) s (joins (frame 12 (seq % 64) data)) ∧
    Gives (.bulkAck c status lastSeq nextBlock) s
      (joins (frame 9 0 [BitVec.ofNat 8 status, BitVec.ofNat 8 lastSeq, BitVec.ofNat 8 nextBlock])) ∧
    Gives (.bulkEnd c crc) s (joins (frame 10 0 (leBytes 4 crc.toNat)))) ∧
  (∀ (n : Fin 8) (r : DictReq) (rest : List DictReq) (s : State), s.domain 1 = 1 → s.flashReading = false →
    s.dict.nextQ = 2 + n.val → s.dict.queues.toList[2 + n.val]? = some (r :: rest) → s.maySpend 145 6 = true → r.cmd = 1 →
    1 ≤ r.length → r.length ≤ 4096 → r.index ≠ 0xB001 → s.laneUp n = true → Gives .dictServe s fun t =>
      t.dict.queues.toList[2 + n.val]? = some rest ∧ t.dict.nextQ = (3 + n.val) % 10 ∧ SameMem s t ∧ SameObjButStalls s t [] ∧
      ∃ st data blocks, t.dict.sent = s.dict.sent ++ blocks ++ [.reply (2 + n.val) r.tag st data] ∧
        (objAt r.index r.sub = none → st = 1 ∧ data = []) ∧
        (∀ o, objAt r.index r.sub = some o → o.ty ≠ .blob → r.offset ≠ 0 ∨ r.length ≠ o.size → st = 4 ∧ data = []) ∧
        (∀ o, objAt r.index r.sub = some o → o.ty ≠ .blob → o.ty ≠ .str → r.offset = 0 → r.length = o.size →
          s.absentObject r.index = false → s.liveScalar r.index r.sub = none →
          st = 0 ∧ data = leBytes o.size (wrapNat (8 * o.size) (s.stagedGet (objKey r.index r.sub))))) ∧
  (∀ (r : DictReq) (s : State), (∀ o, objAt r.index r.sub = some o → o.acc = .ro ∨ o.acc = .rl) →
    exec (.registerWrite r) s = .next s) ∧
  (∀ (r : DictReq) (o : ObjRow) (s : State), objAt r.index r.sub = some o → o.ty ≠ .blob → o.ty ≠ .str → r.offset = 0 →
    r.data.length = o.size → s.absentObject r.index = false →
    let v := o.ty.ofBytes r.data
    let k := objKey r.index r.sub
    rangeOk r.index r.sub o v = true → objMask r.index r.sub = none → s.writeSpecial r.index r.sub v s.now = none →
    r.index < 0x5100 ∨ 0x5108 ≤ r.index →
    (o.acc = .rw → Gives (.registerWrite r) s fun t => t.get k = objWrap k v ∧ SameObj s t [k] ∧ { t with obj := s.obj } = s) ∧
    (o.acc = .rws → Gives (.registerWrite r) s fun t => t.stagedGet k = v ∧ SameObj s t [] ∧ { t with shadow := s.shadow } = s) ∧
    (o.acc = .rwc → o.count = true → v ≠ 0 → Gives (.registerWrite r) s fun t => t.get k = 0 ∧ SameObj s t [k] ∧
      { t with obj := s.obj } = s)) ∧
  (∀ (r : DictReq) (o : ObjRow) (s : State), objAt r.index r.sub = some o → o.ty ≠ .blob → r.data.length = o.size →
    rangeOk r.index r.sub o (o.ty.ofBytes r.data) = false → exec (.registerWrite r) s = .next s) ∧
  (∀ (seq i : Nat) (s : State), (s.dict.bells.findIdx? fun b => b.seq.toNat = seq) = some i → Gives (.bellAck seq) s fun t =>
    t.dict = { s.dict with bells := s.dict.bells.drop (i + 1) } ∧ t.get Obj.BELL_ACK = seq ∧ SameObj s t [Obj.BELL_ACK] ∧
    { t with obj := s.obj, dict := s.dict } = s) ∧
  (∀ (seq : Nat) (s : State), (∀ b ∈ s.dict.bells, b.seq.toNat ≠ seq) → exec (.bellAck seq) s = .next s)

/-- The server takes the frame at the front of the CAN FD queue; its client has a session. SEG_READ, SEG_WRITE, BULK_READ
and BULK_WRITE with no transfer in progress: the answer carries the status and the length granted; a granted one begins at
0 bytes, and a read sends its first segment or block. SEG_DATA of a write into COMMIT_CRCS with the right toggle: its
bytes are stored, the toggle turns and it is acknowledged; with the old toggle it is only acknowledged again; of a read,
the next segment goes out until the last has been acknowledged. BULK_DATA in order is stored; the last of a block is
acknowledged. BULK_ACK of everything sends BULK_END with the CRC-32. BULK_END of a write answers 0 or 0x0A. ABORT and
KTP_TIMEOUT end the transfer and count; a frame without a transfer is answered ABORT PROTOCOL. -/
def Obligations.TransfersMoveInOrderAndEndChecked : Prop :=
  (∀ (r : DictReq) (rest : List DictReq) (s : State), Serves s r rest → transfer s r.client = none → r.index ≠ 0xB001 →
    r.cmd = 4 ∨ r.cmd = 5 ∨ r.cmd = 7 ∨ r.cmd = 8 → Gives .dictServe s fun t =>
    let st := xferStatus r.cmd r.index r.sub r.offset r.length
    let ty := ((objAt r.index r.sub).map fun o => o.ty.code).getD 0
    let bb := s.nat Obj.BULK_BLOCK
    let head := canMsg s (0x480 + r.client) ([ktpByte r.cmd r.tag, BitVec.ofNat 8 st, BitVec.ofNat 8 ty,
      BitVec.ofNat 8 (if r.cmd < 7 then 0 else bb)] ++ leBytes 4 (if st = 0 then r.length else 0))
    Served s t rest ∧ SameObjButStalls s t canKeys ∧
    (st ≠ 0 → transfer t r.client = none ∧ t.dict.sent = s.dict.sent ++ [head]) ∧
    (st = 0 → (∃ x, transfer t r.client = some x ∧ x.cmd = r.cmd ∧ x.index = r.index ∧ x.sub = r.sub ∧ x.offset = r.offset ∧
        x.length = r.length ∧ x.moved = 0 ∧ x.applied = 0 ∧ x.toggle = false ∧ x.seqN = 0 ∧ x.block = bb ∧ x.ended = false) ∧
      (r.cmd = 5 ∨ r.cmd = 8 → t.dict.sent = s.dict.sent ++ [head]) ∧
      (r.cmd = 4 → ∃ bs, bs.length = min 63 r.length ∧ t.dict.sent = s.dict.sent ++
        [head, canMsg s (0x480 + r.client) (BitVec.ofNat 8 (0x60 + if r.length ≤ 63 then 2 else 0) :: bs)]) ∧
      (r.cmd = 7 → ∃ ms, t.dict.sent = s.dict.sent ++ head :: ms ∧ ms.length = (min r.length (63 * bb) + 62) / 63))) ∧
  (∀ (last toggle : Bool) (x : Xfer) (r : DictReq) (rest : List DictReq) (s : State), Serves s r rest →
    transfer s r.client = some x → r.cmd = 6 → r.tag = (if last then 2 else 0) + (if toggle then 1 else 0) →
    let n := min 63 (x.length - x.moved)
    let b0 : Byte := BitVec.ofNat 8 (0x60 + (if last then 2 else 0) + if toggle then 1 else 0)
    (x.cmd = 5 → x.index = 0x6211 → x.sub = 5 → x.offset + x.length ≤ 256 → x.moved < x.length → x.ended = false →
      x.applied = x.moved → x.data.length = x.moved → toggle = x.toggle → (last = true ↔ x.moved + n = x.length) →
      n ≤ r.data.length → Gives .dictServe s fun t => Served s t rest ∧
        transfer t r.client = some { x with
          moved := x.moved + n, applied := x.moved + n, toggle := !x.toggle, ended := last, data := x.data ++ r.data.take n } ∧
        SendsCan s t (0x480 + r.client) [b0, 0] ∧
        (∀ i, i < n → t.get (Obj.COMMIT_CRCS + (x.offset + x.moved + i)) = (r.data.getD i 0).toNat) ∧
        SameObjButStalls s t (canKeys ++ (List.range n).map fun i => Obj.COMMIT_CRCS + (x.offset + x.moved + i))) ∧
    (x.cmd = 5 → x.moved ≠ 0 → toggle ≠ x.toggle → Gives .dictServe s fun t => Served s t rest ∧
      transfer t r.client = some x ∧ SendsCan s t (0x480 + r.client) [b0, 0] ∧ SameObjButStalls s t canKeys) ∧
    (x.cmd = 4 → x.index ≠ 0xB001 → (objAt x.index x.sub).isSome = true → toggle = x.toggle → last = false →
      x.moved < x.length → x.moved + n ≠ x.length → r.data.headD 0 = 0 → Gives .dictServe s fun t => Served s t rest ∧
        transfer t r.client = some { x with moved := x.moved + n, toggle := !x.toggle } ∧ SameObjButStalls s t canKeys ∧
        ∃ bs, bs.length = min 63 (x.length - (x.moved + n)) ∧ SendsCan s t (0x480 + r.client) (BitVec.ofNat 8
          (0x60 + (if x.length ≤ x.moved + n + 63 then 2 else 0) + if toggle then 0 else 1) :: bs)) ∧
    (x.cmd = 4 → toggle = x.toggle → last = true → x.moved + n = x.length → Gives .dictServe s fun t => Served s t rest ∧
      transfer t r.client = none ∧ t.dict.sent = s.dict.sent ∧ SameObjButStalls s t [])) ∧
  (∀ (x : Xfer) (r : DictReq) (rest : List DictReq) (s : State), Serves s r rest → transfer s r.client = some x → r.cmd = 12 →
    x.cmd = 8 → x.index = 0x6211 → x.sub = 5 → x.offset + x.length ≤ 256 → x.moved < x.length → x.ended = false →
    x.applied = x.moved → x.data.length = x.moved →
    let k := min 63 (x.length - x.moved)
    let n := min x.block ((x.length - (x.moved - 63 * x.seqN) + 62) / 63)
    r.tag = x.seqN + 1 → r.tag ≤ n → k ≤ r.data.length → Gives .dictServe s fun t => Served s t rest ∧
      (∀ i, i < k → t.get (Obj.COMMIT_CRCS + (x.offset + x.moved + i)) = (r.data.getD i 0).toNat) ∧
      (r.tag < n → t.dict.sent = s.dict.sent ∧ transfer t r.client = some { x with
        moved := x.moved + k, applied := x.moved + k, seqN := r.tag, data := x.data ++ r.data.take k }) ∧
      (r.tag = n → transfer t r.client = some { x with
          moved := x.moved + k, applied := x.moved + k, seqN := 0, block := s.nat Obj.BULK_BLOCK, data := x.data ++ r.data.take k
          ended := decide (x.moved + k = x.length) } ∧
        SendsCan s t (0x480 + r.client) [0x90, 0, BitVec.ofNat 8 r.tag, BitVec.ofNat 8 (s.nat Obj.BULK_BLOCK)])) ∧
  (∀ (lastSeq nextBlock : Nat) (x : Xfer) (r : DictReq) (rest : List DictReq) (s : State), Serves s r rest →
    transfer s r.client = some x → r.cmd = 9 → r.data = [0, BitVec.ofNat 8 lastSeq, BitVec.ofNat 8 nextBlock] → lastSeq < 256 →
    x.cmd = 7 → x.ended = false → lastSeq ≤ (min (x.length - x.moved) (63 * x.block) + 62) / 63 → 1 ≤ nextBlock →
    nextBlock ≤ 32 → x.length ≤ x.moved + 63 * lastSeq → Gives .dictServe s fun t => Served s t rest ∧
      (∃ y, transfer t r.client = some y ∧ y.ended = true ∧ y.moved = x.length) ∧
      SendsCan s t (0x480 + r.client) ([0xA0, 0, 0, 0] ++ leBytes 4 (crc32 (x.data.take x.length)).toNat)) ∧
  (∀ (crc : Word) (x : Xfer) (r : DictReq) (rest : List DictReq) (s : State), Serves s r rest →
    transfer s r.client = some x → r.cmd = 10 → r.data = leBytes 4 crc.toNat → x.ended = true →
    (x.cmd = 8 → Gives .dictServe s fun t => Served s t rest ∧ transfer t r.client = none ∧
      SendsCan s t (0x480 + r.client) [0xA0, if crc32 x.data = crc then 0 else 0x0A]) ∧
    (x.cmd = 7 → Gives .dictServe s fun t => Served s t rest ∧ transfer t r.client = none ∧ t.dict.sent = s.dict.sent)) ∧
  (∀ (r : DictReq) (rest : List DictReq) (s : State), Serves s r rest → transfer s r.client = none → r.cmd ∈ [6, 9, 10, 12] →
    Gives .dictServe s fun t => Served s t rest ∧ Counted s t Obj.KTP_ABORTS ∧ SendsCan s t (0x480 + r.client) [0xB0, 7]) ∧
  (∀ (c code : Nat) (s : State), Heeds s c → code < 256 → Gives (.abort c code) s fun t => transfer t c = none ∧
    t.dict.queues = s.dict.queues.set 0 ((s.dict.queues[0]).filter fun r => r.client ≠ c || r.cmd < 4) ∧
    Counted s t Obj.KTP_ABORTS ∧ t.dict.sent = s.dict.sent ∧ SameMem s t) ∧
  (∀ (c : Nat) (x : Xfer) (s : State), Heeds s c → transfer s c = some x →
    s.passedMs x.beat (s.nat Obj.KTP_TIMEOUT) = true → ¬ (x.ended = true ∧ x.cmd = 5) → Gives (.ktpTimeout c) s fun t =>
      transfer t c = none ∧ Counted s t Obj.KTP_ABORTS ∧ SendsCan s t (0x480 + c) [0xB0, 8] ∧ SameMem s t)

/-- On an active port of an operational part whose DICT class AC5 may spend. CAN_BELL_SEND: the records of the four oldest
bells not yet sent go out on 0x080 + NODE_ID and are marked sent; no bell leaves the queue. CAN_TRACK_SEND and
CAN_FOCUS_SEND: the first four results due go out in ascending order on 0x100 and 0x180 + NODE_ID and are no longer due.
STATUS_SEND: the 24 bytes of STATUS go out on 0x200 + NODE_ID and the period starts again. No byte of memory changes; of
the objects only CAN_STATE, BUS_OFF_COUNT, CAN_TDC_MEAS and STALL_ROLLS may. -/
def Obligations.BroadcastsCarryWhatIsDue : Prop :=
  ∀ s : State, s.canActive = true → s.operational = true → s.maySpend 145 5 = true →
    let id := s.nat Obj.NODE_ID
    let quiet (t : State) : Prop := SameMem s t ∧ SameObjButStalls s t canKeys
    let four (l : List (Nat × List Byte)) : List Byte := ((l.take 4).mergeSort fun a b => a.1 ≤ b.1).flatMap (·.2)
    (let next := (s.dict.bells.filter fun b => !b.sent).take 4
     s.nat Obj.BELL_CAN = 1 → next ≠ [] → Gives .canBellSend s fun t =>
      SendsCan s t (0x080 + id) (next.flatMap Bell.bytes) ∧ t.dict.bells.map (·.seq) = s.dict.bells.map (·.seq) ∧
      (∀ b ∈ t.dict.bells, (∃ c ∈ next, c.seq = b.seq) → b.sent = true) ∧ quiet t) ∧
    (s.nat Obj.TRACK_EN = 1 → s.pipe.trackDue ≠ [] → Gives .canTrackSend s fun t =>
      SendsCan s t (0x100 + id) (four s.pipe.trackDue) ∧
      t.pipe = { s.pipe with trackDue := s.pipe.trackDue.drop 4 } ∧ quiet t) ∧
    (s.nat Obj.FOCUS_EN = 1 → s.pipe.focusDue ≠ [] → Gives .canFocusSend s fun t =>
      SendsCan s t (0x180 + id) (four s.pipe.focusDue) ∧
      t.pipe = { s.pipe with focusDue := s.pipe.focusDue.drop 4 } ∧ quiet t) ∧
    (s.nat Obj.STATUS_PERIOD ≠ 0 → s.passedMs s.dict.statusAt (s.nat Obj.STATUS_PERIOD) = true → Gives .statusSend s fun t =>
      SendsCan s t (0x200 + id) s.statusBytes ∧ s.statusBytes.length = 24 ∧ t.dict.statusAt = s.clk.beats ∧ quiet t)

/-- FLASH_WINDOW_WRITE accepted on an idle flash: FLASH_QUEUE counts its bytes, the segment up to the next 256-byte
boundary is in progress; write-enable 06h and the program have gone out; refused or too long, nothing changes.
FLASH_STATUS_POLL: before FSPI_POLL_US nothing; else 05h goes out, with WIP 1 nothing else; a programmed segment holds old
AND new, no other byte changes, FLASH_PAGES counts and a finished write reads 2; a mismatch under FLASH_VERIFY reads 4
with bell 0x0B02 and its address; an erased sector reads 0xFF and ERASE_GO 2. FLASH_PROGRAM_TIMEOUT and ERASE_TIMEOUT
count, ring 0x0B02 and leave bytes outside untouched. ERASE_GO 1 starts an aligned erase that the flash has or reads 3; on
an image slot in use it is refused. FLASH_READ_COMPLETE answers the waiting read with the flash bytes, or loads the
stalled engine. -/
def Obligations.FlashIsWrittenInSegmentsAndErased : Prop :=
  (∀ (off : Nat) (bs : List Byte) (s : State), bs ≠ [] → off + bs.length ≤ 268435456 → s.flashWritable = true →
    off + bs.length ≤ s.flashSize → s.touchesImage off (off + bs.length) = false → s.nat Obj.FLASH_QUEUE + bs.length ≤ 65536 →
    s.flashIdle = true → s.maySpend 144 6 = true → Gives (.flashWindowWrite off bs) s fun t =>
      t.get Obj.FLASH_QUEUE = (s.nat Obj.FLASH_QUEUE + bs.length : Nat) ∧ t.get Obj.FLASH_WR_STATE = 1 ∧
      t.ports.flashNow = some (.program off (bs.take (256 - off % 256))) ∧ t.ports.flashQ = [] ∧
      flashSegments (bs.length + 1) off bs = .program off (bs.take (256 - off % 256)) :: t.ports.flashRest ∧
      t.dict.sent = s.dict.sent ++
        [.fspi 0x06 0 [], .fspi (if s.flashFallback then 0x02 else 0x12) off (bs.take (256 - off % 256))] ∧
      SameObjButStalls s t [Obj.FLASH_QUEUE, Obj.FLASH_WR_STATE] ∧
      { t with obj := s.obj, ports := s.ports, dict := s.dict, rolls := s.rolls } = s) ∧
  (∀ (off : Nat) (bs : List Byte) (s : State), 268435456 < off + bs.length ∨ s.flashWritable = false ∨
    s.flashSize < off + bs.length ∨ s.touchesImage off (off + bs.length) = true ∨ 65536 < s.nat Obj.FLASH_QUEUE + bs.length →
    exec (.flashWindowWrite off bs) s = .next s) ∧
  (∀ (a n : Nat) (bs : List Byte) (r : FlashPoll) (s : State),
    s.ports.flashNow = some (.program a bs) ∨ s.ports.flashNow = some (.erase a n) →
    (s.clk.beats < s.ports.pollAt + 200 * s.nat Obj.FSPI_POLL_US → exec (.flashStatusPoll r) s = .next s) ∧
    (s.pollDue = true → r.wip = true → Gives (.flashStatusPoll r) s fun t => SendsOnly s t (.fspi 0x05 0 []) ∧
      t.ports = { s.ports with pollAt := s.clk.beats } ∧ { t with ports := s.ports, dict := s.dict } = s)) ∧
  (∀ (a : Nat) (bs : List Byte) (s : State), s.ports.flashNow = some (.program a bs) →
    s.pollDue = true → s.nat Obj.FLASH_VERIFY ≠ 1 ∨ s.programmed a bs = bs → Gives (.flashStatusPoll ⟨false, true⟩) s fun t =>
      (∀ i, i < bs.length → t.byte (flashBase + a + i) = bs.getD i 0 &&& s.byte (flashBase + a + i)) ∧
      (∀ b, b < flashBase + a ∨ flashBase + a + bs.length ≤ b → t.byte b = s.byte b) ∧ Counted s t Obj.FLASH_PAGES ∧
      t.nat Obj.FLASH_QUEUE = (s.nat Obj.FLASH_QUEUE - bs.length) % 2 ^ 32 ∧
      (s.ports.flashRest = [] → s.ports.flashQ = [] → t.get Obj.FLASH_WR_STATE = 2 ∧ t.ports.flashNow = none) ∧
      (∀ op rest, s.ports.flashRest = op :: rest → s.nat Obj.FLASH_VERIFY ≠ 1 → s.maySpend 144 (s.flashCost op).1 = true →
        t.ports.flashNow = some op ∧ t.ports.flashRest = rest)) ∧
  (∀ (a : Nat) (bs : List Byte) (v : Bool) (s : State), s.ports.flashNow = some (.program a bs) → s.pollDue = true →
    s.nat Obj.FLASH_VERIFY = 1 → v = false ∨ s.programmed a bs ≠ bs → s.ports.flashQ = [] → bs ≠ [] →
    Gives (.flashStatusPoll ⟨false, v⟩) s fun t =>
      t.get Obj.FLASH_WR_STATE = 4 ∧ t.nat Obj.FLASH_WR_FAIL_ADDR = a % 2 ^ 32 ∧ Rings s t 0x0B02 0 ∧
      t.ports.flashNow = none ∧ t.ports.flashRest = [] ∧
      (∀ b, b < flashBase + a ∨ flashBase + a + bs.length ≤ b → t.byte b = s.byte b)) ∧
  (∀ (a size : Nat) (v : Bool) (s : State), s.ports.flashNow = some (.erase a size) → s.pollDue = true → a + size ≤ 268435456 →
    Gives (.flashStatusPoll ⟨false, v⟩) s fun t => t.get Obj.ERASE_GO = 2 ∧
      (∀ i, i < size → t.byte (flashBase + a + i) = 0xFF) ∧
      (∀ b, b < flashBase + a ∨ flashBase + a + size ≤ b → t.byte b = s.byte b)) ∧
  (∀ (a : Nat) (bs : List Byte) (s : State), s.ports.flashNow = some (.program a bs) → bs ≠ [] →
    s.ports.flashAt + 200 * (2 * ((s.ports.sfdp.map fun d => d.prog.1 * d.prog.2).getD 2500)) ≤ s.clk.beats →
    Gives .flashProgramTimeout s fun t => Counted s t Obj.FLASH_TIMEOUTS ∧ t.nat Obj.FLASH_WR_FAIL_ADDR = a % 2 ^ 32 ∧
      Rings s t 0x0B02 0 ∧ (s.ports.flashQ = [] → t.get Obj.FLASH_WR_STATE = 3) ∧
      (∀ b, b < flashBase + a ∨ flashBase + a + bs.length ≤ b → t.byte b = s.byte b) ∧
      ∀ b, t.byte b &&& s.byte b = t.byte b) ∧
  (∀ s : State,
    let a := s.nat Obj.ERASE_ADDR
    let size := if s.nat Obj.ERASE_SIZE = 0 then 4096 else 65536
    let types := s.ports.sfdp.bind fun d => if size = 4096 then d.erase4 else d.erase64
    (s.touchesImage a (a + size) = true → exec (.eraseGo 1) s = .next s) ∧
    (s.touchesImage a (a + size) = false → s.flashWritable = true → a % size = 0 → a + size ≤ min s.flashSize 268435456 →
      types.isSome = true → s.flashIdle = true → s.maySpend 144 6 = true → Gives (.eraseGo 1) s fun t => t.get Obj.ERASE_GO = 1 ∧
        t.ports.flashNow = some (.erase a size) ∧ t.ports.flashQ = [] ∧ SameObj s t [Obj.ERASE_GO] ∧ SameMem s t ∧
        t.dict.sent = s.dict.sent ++
          [.fspi 0x06 0 [], .fspi (if s.flashFallback then 0x20 else if size = 4096 then 0x21 else 0xDC) a []]) ∧
    (s.touchesImage a (a + size) = false →
      s.flashWritable = false ∨ a % size ≠ 0 ∨ min s.flashSize 268435456 < a + size ∨ types = none → Gives (.eraseGo 1) s fun t =>
      t.get Obj.ERASE_GO = 3 ∧ SameObj s t [Obj.ERASE_GO] ∧ { t with obj := s.obj } = s)) ∧
  (∀ (a size : Nat) (s : State), s.ports.flashNow = some (.erase a size) → 0 < size →
    s.ports.flashAt + 200 * (2 * (((s.ports.sfdp.bind fun d => if size = 4096 then d.erase4 else d.erase64).map fun e => e.1 * e.2).getD 1000000)) ≤ s.clk.beats →
    Gives .eraseTimeout s fun t => t.get Obj.ERASE_GO = 4 ∧ Counted s t Obj.FLASH_TIMEOUTS ∧ Rings s t 0x0B02 0 ∧
      (∀ b, b < flashBase + a ∨ flashBase + a + size ≤ b → t.byte b = s.byte b)) ∧
  (∀ (r : DictReq) (s : State), s.ports.flashNow = some (.read 1 r) → s.ports.flashQ = [] → s.ports.flashRest = [] →
    s.domain 1 = 1 → r.offset + r.length ≤ s.flashSize → Gives (.flashReadComplete none) s fun t =>
      t.ports.flashNow = none ∧ SameMem s t ∧ SameObj s t [] ∧ t.dict.sent = s.dict.sent ++
        [.reply 1 r.tag 0 ((List.range r.length).map fun i => s.byte (flashBase + r.offset + i))]) ∧
  (∀ (p : Fin 272) (x : Run) (off : Nat) (d : Fin 32) (s : State), s.ports.flashNow = some (.engine p) → s.ports.flashQ = [] →
    s.ports.flashRest = [] → (s.engine p).run = some x → x.flash = some (off, false, d.val) → off + 4 ≤ s.flashSize →
    Gives (.flashReadComplete (some p)) s fun t => t.ports.flashNow = none ∧ ((t.engine p).run.map (·.flash)) = some none ∧
      ((t.engine p).sr d).toNat = s.le (flashBase + off) 4 ∧ SameMem s t ∧ SameObj s t [])

/-- SSPI_FRAME: an early one is an underrun that sends the previous word again, a count that is no multiple of 32 only an
error; else the input word starts or continues a request, a whole one joins the queue or fails its CRC, and a response
goes on; with CTRL off AON shifts out its status word. SSPI_REQUEST_TIMEOUT discards a request. ACC_ENABLE finds the bus
idle, clocks it free, waits, or finds it stuck with cause 1 and bell 0x0B21; 0 ends what runs; SCL low for ACC_STRETCH_MS
gives cause 2. XFER_GO on a free bus sends START, address, bytes and STOP and ends with 2, 3, 4 or 6, or waits for a STOP
after lost arbitration; on a busy bus it waits its turn; the fourth lost arbitration reads 5 with bell 0x0B22; a disabled
or stuck bus reads 7 or 6. A target write fills MBX_IN from its pointer with bell 0x0B25, a target read sends MBX_OUT.
LENS_POLL when due: no answer 0, invalid 3, valid 2, or 1 while its grid is read; LENS_GRID_READ_DONE: 2 or 3. -/
def Obligations.ServiceChainAndAccessoryBus : Prop :=
  (∀ (clocks : Nat) (w : Word) (s : State), s.nat Obj.SSPI_ENABLE ≠ 0 → s.power.domains[1] = 1 →
    (Gives (.sspiFrame clocks w true) s fun t => Counted s t Obj.SSPI_UNDR_COUNT ∧ t.ports.ssIn = [] ∧ t.ports.ssNeed = 0 ∧
      t.ports.ssResp = [] ∧ t.ports.ssReady = s.ports.ssReady ∧ t.ports.ssOut.getLsbD 0 = true ∧ t.ports.ssStat = true ∧
      SendsOnly s t (.sspi s.ports.ssPrev) ∧ SameObj s t [Obj.SSPI_UNDR_COUNT] ∧
      { t with obj := s.obj, ports := s.ports, dict := s.dict } = s) ∧
    (clocks % 32 ≠ 0 → Gives (.sspiFrame clocks w false) s fun t => Counted s t Obj.SSPI_FRAME_ERR ∧
      SameObj s t [Obj.SSPI_FRAME_ERR] ∧ { t with obj := s.obj } = s) ∧
    (clocks % 32 = 0 → clocks ≠ 0 → Gives (.sspiFrame clocks w false) s fun t =>
      (∃ m, t.dict.sent = s.dict.sent ++ .sspi s.ports.ssOut :: m) ∧ t.ports.ssPrev = s.ports.ssOut ∧
      (s.ports.ssStat = true → t.get Obj.SSPI_LAST_STATUS = s.ports.ssOut.toNat) ∧
      (s.ports.ssNeed = 0 → w.toNat / 65536 = 0xA5C3 → w.toNat % 65536 ≠ 0 →
        t.ports.ssIn = [w] ∧ t.ports.ssNeed = w.toNat % 65536) ∧
      (2 ≤ s.ports.ssNeed → t.ports.ssIn = s.ports.ssIn ++ [w] ∧ t.ports.ssNeed = s.ports.ssNeed - 1) ∧
      (∀ r, s.ports.ssNeed = 1 → svcParse (s.ports.ssIn ++ [w]) = some r → s.dict.queues[1].length < 4 →
        t.dict.queues[1] = s.dict.queues[1] ++ [{ r with stamp := s.now }] ∧ t.ports.ssIn = []) ∧
      (s.ports.ssNeed = 1 → svcParse (s.ports.ssIn ++ [w]) = none → Counted s t Obj.SSPI_CRC_ERR ∧ t.ports.ssIn = []) ∧
      (∀ v rest, s.ports.ssResp = v :: rest → t.ports.ssOut = v ∧ t.ports.ssResp = rest) ∧
      (∀ v rest more, s.ports.ssResp = [] → s.ports.ssReady = (v :: rest) :: more → s.ports.ssStat = true →
        s.ports.ssOut.getLsbD 1 = true → t.ports.ssOut = v ∧ t.ports.ssResp = rest) ∧ SameMem s t)) ∧
  (∀ (n : Nat) (w : Word) (e : Bool) (s : State), s.power.domains[0] = 1 → s.power.domains[1] ≠ 1 → s.power.rails[1] = true →
    Gives (.sspiFrame (32 * (n + 1)) w e) s fun t => SendsOnly s t (.sspi s.ports.ssOut) ∧ { t with dict := s.dict } = s) ∧
  (∀ s : State, s.ports.ssNeed ≠ 0 → s.ports.ssAt + 200000 * s.nat Obj.SSPI_TIMEOUT_MS < s.clk.beats →
    Gives .sspiRequestTimeout s fun t => Counted s t Obj.SSPI_CRC_ERR ∧
      t.ports = { s.ports with ssIn := [], ssNeed := 0 } ∧ SameObj s t [Obj.SSPI_CRC_ERR] ∧
      { t with obj := s.obj, ports := s.ports } = s) ∧
  (∀ (b : BusTest) (s : State),
    (Gives (.accEnable 0 b.toggles b.sdaHigh b.pulses) s fun t => t.get Obj.ACC_ENABLE = 0 ∧ t.ports.accQ = [] ∧ t.ports.accChecked = false ∧
      (s.nat Obj.XFER_GO = 1 → t.get Obj.XFER_GO = 7) ∧ SameObj s t [Obj.ACC_ENABLE, Obj.XFER_GO, Obj.LENS_STATE] ∧
      { t with obj := s.obj, ports := s.ports } = s) ∧
    (b.toggles = true → Gives (.accEnable 1 b.toggles b.sdaHigh b.pulses) s fun t => t.ports = { s.ports with accWait := true, accChecked := false, accAt := s.clk.beats } ∧
      { t with ports := s.ports } = s) ∧
    (b.toggles = false → s.ports.accQ = [] → b.sdaHigh = true ∨ 1 ≤ b.pulses ∧ b.pulses ≤ 9 → Gives (.accEnable 1 b.toggles b.sdaHigh b.pulses) s fun t =>
      t.get Obj.ACC_ENABLE = 1 ∧ t.get Obj.ACC_STUCK_CAUSE = 0 ∧
      t.ports = { s.ports with accWait := false, accChecked := true, lensAt := none, accAt := s.clk.beats } ∧
      (b.sdaHigh = true → t.dict = s.dict) ∧
      (b.sdaHigh = false → SendsOnly s t (.acc (List.replicate b.pulses .pulse ++ [.stop]))) ∧
      SameObj s t [Obj.ACC_ENABLE, Obj.ACC_STUCK_CAUSE] ∧ { t with obj := s.obj, ports := s.ports, dict := s.dict } = s) ∧
    (b.toggles = false → b.sdaHigh = false → b.pulses = 0 ∨ 9 < b.pulses → Gives (.accEnable 1 b.toggles b.sdaHigh b.pulses) s fun t =>
      t.get Obj.ACC_ENABLE = 2 ∧ t.get Obj.ACC_STUCK_CAUSE = 1 ∧ Rings s t 0x0B21 0 ∧ t.ports.accQ = [] ∧
      t.dict.sent = s.dict.sent ++ [.acc (List.replicate 9 .pulse)] ∧ SameMem s t)) ∧
  (∀ s : State, s.power.domains[1] = 1 → s.nat Obj.ACC_ENABLE = 1 ∨ s.ports.accWait = true →
    (s.ports.accAt + 200000 * s.nat Obj.ACC_STRETCH_MS ≤ s.clk.beats → Gives .accStretchTimeout s fun t =>
      t.get Obj.ACC_ENABLE = 2 ∧ t.get Obj.ACC_STUCK_CAUSE = 2 ∧ Rings s t 0x0B21 0 ∧ t.ports.accQ = [] ∧
      (s.nat Obj.XFER_GO = 1 → t.get Obj.XFER_GO = 6) ∧ SameMem s t) ∧
    (s.clk.beats < s.ports.accAt + 200000 * s.nat Obj.ACC_STRETCH_MS → exec .accStretchTimeout s = .next s)) ∧
  (∀ s : State, s.nat Obj.XFER_WR_LEN ≠ 0 ∨ s.nat Obj.XFER_RD_LEN ≠ 0 →
    let a : Byte := BitVec.ofNat 8 (2 * s.nat Obj.XFER_ADDR)
    let wr := s.getBytes Obj.XFER_WR_DATA 0 (s.nat Obj.XFER_WR_LEN)
    let rd := s.nat Obj.XFER_RD_LEN
    let out : List AccSym := [.start, .byte a] ++ wr.map .byte
    (∀ r, s.nat Obj.ACC_ENABLE = 0 → Gives (.xferGo 1 r) s fun t => t.get Obj.XFER_GO = 7 ∧ SameObj s t [Obj.XFER_GO] ∧
      { t with obj := s.obj } = s) ∧
    (∀ r, s.nat Obj.ACC_ENABLE = 2 → Gives (.xferGo 1 r) s fun t => t.get Obj.XFER_GO = 6 ∧ SameObj s t [Obj.XFER_GO] ∧
      { t with obj := s.obj } = s) ∧
    (∀ r, s.nat Obj.ACC_ENABLE = 1 → s.ports.accBusy = true ∨ s.ports.gridBusy = true → Gives (.xferGo 1 r) s fun t =>
      t.get Obj.XFER_GO = 1 ∧ t.ports = { s.ports with accQ := s.ports.accQ ++ [⟨false, false, s.nat Obj.XFER_ADDR, wr, rd, r⟩] } ∧
      SameObj s t [Obj.XFER_GO] ∧ { t with obj := s.obj, ports := s.ports } = s) ∧
    (s.nat Obj.ACC_ENABLE = 1 → s.ports.accChecked = true → s.ports.accBusy = false → s.ports.gridBusy = false →
      s.ports.accQ = [] → s.ports.accRetry < 3 →
      (∀ bytes, rd ≤ 32 → Gives (.xferGo 1 (.done bytes)) s fun t =>
        t.get Obj.XFER_GO = 2 ∧ t.ports.accQ = [] ∧ SameMem s t ∧
        SendsOnly s t (.acc (out ++ (if rd = 0 then [] else [.start, .byte (a + 1)]) ++ [.stop])) ∧
        ∀ i, i < rd → t.get (Obj.XFER_RD_DATA + i) = (bytes.getD i 0xFF).toNat) ∧
      (Gives (.xferGo 1 .addrNack) s fun t => t.get Obj.XFER_GO = 3 ∧ SendsOnly s t (.acc [.start, .byte a, .stop]) ∧
        t.ports.accQ = [] ∧ SameObj s t [Obj.XFER_GO] ∧ SameMem s t) ∧
      (∀ k, Gives (.xferGo 1 (.dataNack k)) s fun t => t.get Obj.XFER_GO = 4 ∧
        SendsOnly s t (.acc ([.start, .byte a] ++ (wr.map .byte).take (k + 1) ++ [.stop])) ∧
        t.ports.accQ = [] ∧ SameObj s t [Obj.XFER_GO] ∧ SameMem s t) ∧
      (∀ k own, Gives (.xferGo 1 (.arbLost k own)) s fun t => t.get Obj.XFER_GO = 1 ∧ t.ports.accBusy = true ∧
        t.ports.accRetry = s.ports.accRetry + 1 ∧ t.ports.accQ.length = 1 ∧ Counted s t Obj.ACC_ARB_LOST ∧ SameMem s t ∧
        ∃ m, t.dict.sent = s.dict.sent ++ .acc (out.take (k + 1)) :: m) ∧
      (Gives (.xferGo 1 .sclLow) s fun t => t.get Obj.XFER_GO = 6 ∧ t.get Obj.ACC_ENABLE = 2 ∧ t.get Obj.ACC_STUCK_CAUSE = 2 ∧
        t.ports.accQ = [] ∧ Rings s t 0x0B21 0 ∧ t.dict.sent = s.dict.sent ++ [.acc [.start, .byte a]] ∧ SameMem s t))) ∧
  (∀ (r : XferResult) (s : State), s.nat Obj.XFER_WR_LEN = 0 → s.nat Obj.XFER_RD_LEN = 0 → exec (.xferGo 1 r) s = .next s) ∧
  (∀ (b : BusTest) (r : XferResult) (s : State), s.power.domains[1] = 1 → s.ports.accWait = true →
    exec (.accStopCondition ⟨b, r⟩) s = exec (.accEnable 1 b.toggles b.sdaHigh b.pulses) s ∧
    (b.toggles = false → b.sdaHigh = true → s.ports.accQ = [] → Gives (.accStopCondition ⟨b, r⟩) s fun t =>
      t.get Obj.ACC_ENABLE = 1 ∧ t.get Obj.ACC_STUCK_CAUSE = 0 ∧
      t.ports = { s.ports with accWait := false, accChecked := true, lensAt := none, accAt := s.clk.beats } ∧
      SameObj s t [Obj.ACC_ENABLE, Obj.ACC_STUCK_CAUSE] ∧ { t with obj := s.obj, ports := s.ports } = s)) ∧
  (∀ (b : BusTest) (q : AccReq) (s : State), s.power.domains[1] = 1 → s.ports.accWait = false → s.ports.accBusy = true →
    s.nat Obj.ACC_ENABLE = 1 → s.ports.accQ = [q] → q.lens = false → q.grid = false →
    (∀ bytes, q.rdLen ≤ 32 → Gives (.accStopCondition ⟨b, .done bytes⟩) s fun t => t.get Obj.XFER_GO = 2 ∧ SameMem s t ∧
      t.ports = { s.ports with accQ := [], accBusy := false, accRetry := 0, gridBusy := false, accAt := s.clk.beats } ∧
      ∀ i, i < q.rdLen → t.get (Obj.XFER_RD_DATA + i) = (bytes.getD i 0xFF).toNat) ∧
    (∀ k, Gives (.accStopCondition ⟨b, .arbLost k none⟩) s fun t => Counted s t Obj.ACC_ARB_LOST ∧ SameMem s t ∧
      (s.ports.accRetry < 3 → t.get Obj.XFER_GO = s.get Obj.XFER_GO ∧ t.ports = { s.ports with accRetry := s.ports.accRetry + 1, accAt := s.clk.beats }) ∧
      (3 ≤ s.ports.accRetry → t.get Obj.XFER_GO = 5 ∧ Rings s t 0x0B22 0 ∧
        t.ports = { s.ports with accQ := [], accBusy := false, accRetry := 0, gridBusy := false, accAt := s.clk.beats }))) ∧
  (∀ (p : Byte) (data : List Byte) (s : State), s.accTarget = true → data.length ≤ 64 →
    Gives (.accTargetWrite (p :: data)) s fun t => Counted s t Obj.MBX_WRITES ∧ Rings s t 0x0B25 0 ∧
      t.ports = { s.ports with accPtr := p.toNat % 64 } ∧ SameMem s t ∧
      ∀ i, i < data.length → t.get (Obj.MBX_IN + (p.toNat % 64 + i) % 64) = (data.getD i 0).toNat) ∧
  (∀ (n : Nat) (s : State), s.accTarget = true → Gives (.accTargetRead n) s fun t => { t with dict := s.dict } = s ∧
    SendsOnly s t (.acc ((List.range n).map fun i => .byte (BitVec.ofNat 8 (s.nat (Obj.MBX_OUT + (s.ports.accPtr + i) % 64)))))) ∧
  (∀ s : State, s.power.domains[1] = 1 → s.nat Obj.ACC_ENABLE = 1 → s.ports.accChecked = true → s.ports.accQ = [] →
    s.ports.accBusy = false → s.ports.gridBusy = false →
    (s.ports.lensAt = none ∨ ∃ b, s.ports.lensAt = some b ∧ s.nat Obj.LENS_POLL_MS ≠ 0 ∧
      b + 200000 * s.nat Obj.LENS_POLL_MS ≤ s.clk.beats) →
    (Gives (.lensPoll .addrNack) s fun t => t.get Obj.LENS_STATE = 0 ∧ (s.nat Obj.LENS_STATE = 2 → Rings s t 0x0B24 0) ∧
      t.ports.lensAt = some s.clk.beats ∧ t.ports.accQ = [] ∧
      SameObj s t [Obj.LENS_STATE, Obj.BELL_NEXT_SEQ, Obj.BELL_LOST] ∧ SameMem s t) ∧
    (∀ b : List Byte, b.length = 64 → lensValid b = false → Gives (.lensPoll (.done b)) s fun t => t.get Obj.LENS_STATE = 3 ∧
      (s.nat Obj.LENS_STATE = 2 → Rings s t 0x0B24 0) ∧ SameMem s t) ∧
    (∀ b : List Byte, b.length = 64 → lensValid b = true → Gives (.lensPoll (.done b)) s fun t =>
      (∀ i, i < 64 → t.get (Obj.LENS_HEADER + i) = (b.getD i 0).toNat) ∧ SameMem s t ∧
      ((b.getD 6 0).getLsbD 0 = true → s.pipe.lensCrc ≠ some (lensKey b) → t.get Obj.LENS_STATE = 1 ∧
        t.ports.gridBusy = true ∧ t.ports.gridHdr = b) ∧
      ((b.getD 6 0).getLsbD 0 = false ∨ s.pipe.lensCrc = some (lensKey b) → t.get Obj.LENS_STATE = 2 ∧
        t.pipe = { s.pipe with lensCrc := some (lensKey b) } ∧ t.ports.gridBusy = false ∧ t.ports.accQ = []))) ∧
  (∀ (g : List Byte) (q : AccReq) (s : State), s.ports.gridBusy = true → s.ports.accBusy = false → s.ports.accQ = [q] →
    q.grid = true → g.length = 8192 → Gives (.lensGridReadDone (.done g)) s fun t =>
    t.ports = { s.ports with accQ := [], accRetry := 0, gridBusy := false, accAt := s.clk.beats } ∧
    (crc32 g = (lensKey s.ports.gridHdr).2 → t.get Obj.LENS_STATE = 2 ∧ Counted s t Obj.LENS_READS ∧
      t.pipe.lensCrc = some (lensKey s.ports.gridHdr)) ∧
    (crc32 g ≠ (lensKey s.ports.gridHdr).2 → t.get Obj.LENS_STATE = 3 ∧ SameMem s t ∧ SameObj s t [Obj.LENS_STATE]))

/-! ## The actuator drive (13) -/

/-- The objects that follow bank `b`: BANK_STATE, RUN_INFO and QUEUE. -/
def actKeys (b : Nat) : List Nat := Obj.BANK_STATE b :: Obj.RUN_INFO b :: (List.range 8).map (Obj.QUEUE b + ·)

/-- Bank `b` runs profile `p`; its queue, currents and temperatures, the other bank and everything else are as they were. -/
def BankRuns (b : Nat) (p : Profile) (s t : State) : Prop :=
  t.actBank b = { s.actBank b with run := some p } ∧ (∀ k, k ≠ b → t.actBank k = s.actBank k) ∧ t.act.done = s.act.done ∧
  t.act.closeEnded = s.act.closeEnded ∧ SameObj s t (actKeys b) ∧ { t with act := s.act, obj := s.obj } = s

/-- Bank `b` waits for ACT sticks with the profile `p`: as BankRuns, but the roll may count as stalled (R271, R391). -/
def BankWaits (b : Nat) (p : Profile) (s t : State) : Prop :=
  t.actBank b = { s.actBank b with run := some p } ∧ (∀ k, k ≠ b → t.actBank k = s.actBank k) ∧ t.act.done = s.act.done ∧
  t.act.closeEnded = s.act.closeEnded ∧ SameObjButStalls s t (actKeys b) ∧
  { t with act := s.act, obj := s.obj, rolls := s.rolls } = s

/-- Count `i` of the channel of a request on bank `b` has risen by one, saturating. -/
def CoilCounts (b c i : Nat) (s t : State) : Prop :=
  t.getLe (Obj.COIL_COUNTERS (coilNo b c)) (4 * i) 4 = min (2 ^ 32 - 1) (s.getLe (Obj.COIL_COUNTERS (coilNo b c)) (4 * i) 4 + 1)

/-- Bank `b` has begun anew with the request `q` (R386), whose queue a closing of the sun guard empties: a new profile at the entry address, RESTARTS one more, no completion or
abort counted or kept, and no bell. -/
def BankRestarts (b : Nat) (q : ActReq) (u t : State) : Prop :=
  t.actBank b = { u.actBank b with run := some { req := q, pc := u.nat (Obj.MALLET_ENTRIES b + q.entry), t0 := u.clk.beats }, queue := if q.sun then [] else (u.actBank b).queue, fading := none } ∧
  CoilCounts b q.chan 2 u t ∧ (∀ i, i < 14 → i ≠ 0 → i ≠ 2 → t.getLe (Obj.COIL_COUNTERS (coilNo b q.chan)) (4 * i) 4 =
    u.getLe (Obj.COIL_COUNTERS (coilNo b q.chan)) (4 * i) 4 % 2 ^ 32) ∧ t.act.done = u.act.done ∧
  t.get (Obj.LAST_ABORT b) = u.get (Obj.LAST_ABORT b) ∧ { t with act := u.act, obj := u.obj } = u

/-- The channel of a profile carries current: it drives, or has not decayed to a floor of 0. -/
def Carries (p : Profile) : Prop := p.drive = true ∨ p.decay ≠ 0

/-- The profile `p` of bank `b`, whose queue is empty, has been aborted with this cause, and its current decays (R395, R396). -/
def Aborts (b cause : Nat) (p : Profile) (s t : State) : Prop :=
  t.actBank b = { s.actBank b with run := none, fading := if p.drive || p.decay ≠ 0 then some p.req.chan else none } ∧
  t.get (Obj.LAST_ABORT b) = cause ∧ CoilCounts b p.req.chan (3 + cause) s t ∧
  (∀ k, k ≠ b → t.actBank k = s.actBank k) ∧ SameMem s t ∧
  (p.req.close = true ∨ cause = 4 → t.get Obj.CLAP_STATE = 0) ∧
  (p.req.close = false → Rings s t (abortBell cause) (coilNo b p.req.chan))

/-- The profile `p` of bank `b`, whose queue is empty, has completed with its energy kept (R389, R398, R399). -/
def Completes (b : Nat) (p : Profile) (s t : State) : Prop :=
  t.actBank b = { s.actBank b with run := none } ∧ CoilCounts b p.req.chan 1 s t ∧
  t.act.done.toList.getD (coilNo b p.req.chan) false = true ∧
  t.get (Obj.ENERGY_LAST (coilNo b p.req.chan)) = objWrap (Obj.ENERGY_LAST (coilNo b p.req.chan)) (roundRat p.energy) ∧
  (∀ k, k ≠ b → t.actBank k = s.actBank k) ∧ SameMem s t

/-- A close profile has closed the flag, another has left its state (R396). -/
def FlagFollows (p : Profile) (s t : State) : Prop :=
  (p.req.close = true → t.get Obj.CLAP_STATE = 1 ∧ t.get Obj.CLAP_CLOSED_DLT = s.now.toNat) ∧
  (p.req.close = false → t.get Obj.CLAP_STATE = s.get Obj.CLAP_STATE)

/-- Bank `b` runs `p` on one of its four channels, and nothing is queued. -/
def Alone (s : State) (b : Nat) (p : Profile) : Prop :=
  (s.actBank b).run = some p ∧ p.req.chan < 4 ∧ (s.actBank b).queue = []

/-- The next word of the profile of bank `b` is `w`, of this opcode, nothing is waited for, and VACT is not below 8.5 V. -/
def MalletIssues (s : State) (b op : Nat) (p : Profile) (w : Nat) : Prop :=
  (s.actBank b).run = some p ∧ p.wait = .none ∧ 8500 ≤ s.power.vactMv ∧ p.pc < 256 ∧ s.malletWord b p.pc = w ∧ bits w 31 28 = op

/-- The profile after its drive phase TARGET (1), RAMP (2) or HOLD (4) has issued at this beat. -/
def driven (op w beat : Nat) (p : Profile) : Profile :=
  let q : Profile := { p with drive := true, decay := 0, turned := if p.decay = 2 then some beat else p.turned }
  if op = 1 then { q with pc := p.pc + 1, wait := .none, target := bits w 11 0, ramp := none, peakMa := bits w 11 0, peakT0 := beat, peakUs := none }
  else if op = 2 then { q with target := bits w 27 16, ramp := some ((p.targetAt beat).floor.toNat, beat, bits w 15 0), wait := .time, waitT0 := beat, waitUs := bits w 15 0 }
  else { q with pc := p.pc + 1, wait := .none, target := bits w 11 0, ramp := none }

/-- A drive phase has issued on bank `b`: the profile is `p`, and on a channel that opens the flag the flag counts as open. -/
def Drives (b : Nat) (p : Profile) (s t : State) : Prop :=
  (s.opensFlag b p.req.chan = false → BankRuns b p s t) ∧
  (s.opensFlag b p.req.chan = true → t.actBank b = { s.actBank b with run := some p } ∧ t.get Obj.CLAP_STATE = 0)

/-- The temperature rise of a channel 10 µs later (R398). -/
def heated (s : State) (b c ma : Nat) : Rat :=
  let th := (s.actBank b).theta.toList.getD c 0
  th + coilEnergy ma (s.nat (Obj.COIL_RES (coilNo b c))) (s.coilTemp b c) / (1000 * s.nat (Obj.C_TH (coilNo b c))) -
    th / (100 * s.nat (Obj.TAU_TH (coilNo b c)))

/-- ACT_START landing (u: the state after it has left the strokes under way). With no cause against it: on a free bank its
profile stands at its entry address and counts in RUNS; a restart on its own running channel leaves RUNS (the model reads
R386 so, log entry 40); behind another channel, or its decaying current, it joins the queue or replaces the request of its
channel. With a cause: LAST_REFUSE, the REFUSED count and bell 0x0A09, and nothing else. CLAPPER does the same for its
table entry on BANK0. MALLET_STORE_WRITE is stored, words without their reserved bits, and sets STORE_VALID, or is refused
while the bank is busy. TRIP above 40 ns stops both banks, empties the queues and sets TRIP_ACTIVE; up to 20 ns it does
nothing. TRIP_ACTIVE clears only with TRIP_N high. -/
def Obligations.ActuatorCommandsStartRestartQueueOrAreRefused : Prop :=
  (∀ (l : Landing) (s u : State), s.landing 0x51 l = some u →
    let a := l.arg.toNat
    let b := bits a 8 8
    let q : ActReq := { chan := bits a 7 6, entry := bits a 5 0 }
    let p : Profile := { req := q, pc := u.nat (Obj.MALLET_ENTRIES b + q.entry), t0 := u.clk.beats }
    (u.actCause b q false = 0 → u.nat (Obj.STORE_VALID b) ≠ 0 ∧ u.nat (Obj.MALLET_ENTRIES b + q.entry) ≠ 0xFF ∧
      u.nat Obj.TRIP_ACTIVE ≠ 1 ∧ u.nat Obj.ACT_ENABLE ≠ 0 ∧ u.tooHot b q.chan = false) ∧
    (u.actCause b q false = 0 → (u.actBank b).run = none → (u.actBank b).fading = none ∨ (u.actBank b).fading = some q.chan →
      Gives (.actStart l) s fun t => t.actBank b = { u.actBank b with run := some p, fading := none } ∧ CoilCounts b q.chan 0 u t ∧ SameMem u t ∧
      { t with act := u.act, obj := u.obj } = u) ∧
    (∀ r, u.actCause b q false = 0 → (u.actBank b).run = some r → r.req.chan = q.chan → Gives (.actStart l) s fun t =>
      t.getLe (Obj.COIL_COUNTERS (coilNo b q.chan)) 0 4 = u.getLe (Obj.COIL_COUNTERS (coilNo b q.chan)) 0 4 % 2 ^ 32) ∧
    (u.actCause b q false = 0 → (∃ r, (u.actBank b).run = some r ∧ r.req.chan ≠ q.chan) ∨
        (u.actBank b).run = none ∧ (∃ c, (u.actBank b).fading = some c ∧ c ≠ q.chan) → Gives (.actStart l) s fun t =>
      (t.actBank b).run = (u.actBank b).run ∧ (t.actBank b).queue = (if ∃ x ∈ (u.actBank b).queue, x.chan = q.chan then
        (u.actBank b).queue.map fun x => if x.chan = q.chan then q else x else (u.actBank b).queue ++ [q]) ∧
      SameObj u t (actKeys b) ∧ { t with act := u.act, obj := u.obj } = u) ∧
    (u.actCause b q false ≠ 0 → Gives (.actStart l) s fun t => t.get (Obj.LAST_REFUSE b) = u.actCause b q false ∧
      CoilCounts b q.chan 3 u t ∧ Rings u t 0x0A09 0 ∧ { t with obj := u.obj, dict := u.dict } = u)) ∧
  (∀ (l : Landing) (s u : State), s.landing 0x50 l = some u →
    let i := l.arg.toNat % 256
    let e := u.clapEntry (i % 16)
    let q : ActReq := { chan := e.1, entry := e.2.1, close := !e.2.2.2, sun := l.src = .sunGuard }
    let bad := 16 ≤ i || !e.2.2.1
    (u.actCause 0 q bad = 0 → (u.actBank 0).run = none → (u.actBank 0).fading = none ∨ (u.actBank 0).fading = some q.chan →
      bad = false ∧ Gives (.clapper l) s fun t => t.actBank 0 = { u.actBank 0 with
        run := some { req := q, pc := u.nat (Obj.MALLET_ENTRIES 0 + q.entry), t0 := u.clk.beats }, fading := none
        queue := if q.sun then [] else (u.actBank 0).queue } ∧
      CoilCounts 0 q.chan 0 u t ∧ { t with act := u.act, obj := u.obj } = u) ∧
    (u.actCause 0 q bad ≠ 0 → Gives (.clapper l) s fun t => t.get (Obj.LAST_REFUSE 0) = u.actCause 0 q bad ∧
      Rings u t 0x0A09 0 ∧ (i < 16 → CoilCounts 0 q.chan 3 u t) ∧ { t with obj := u.obj, dict := u.dict } = u)) ∧
  (∀ (b : Fin 2) (en : Bool) (off : Nat) (bs : List Byte) (s : State), off + bs.length ≤ (if en then 64 else 1024) →
    (s.actBank b).run = none → (s.actBank b).queue = [] → Gives (.malletStoreWrite b en off bs) s fun t =>
      (en = true → ∀ i, i < bs.length → t.get (Obj.MALLET_ENTRIES b + off + i) = (bs.getD i 0).toNat) ∧
      (en = false → ∀ i, i < 256 → t.malletWord b i = if 4 * i + 4 ≤ off ∨ off + bs.length ≤ 4 * i then s.malletWord b i
        else malletWordKept (leVal ((List.range 4).map fun j =>
          if off ≤ 4 * i + j ∧ 4 * i + j < off + bs.length then bs.getD (4 * i + j - off) 0
          else BitVec.ofNat 8 (s.malletWord b i / 256 ^ j)))) ∧
      (t.get (Obj.STORE_VALID b) = 1 ∧ t.malletValid b = true ∨ t.get (Obj.STORE_VALID b) = 0 ∧ t.malletValid b = false) ∧
      { t with obj := s.obj } = s) ∧
  (∀ (b : Fin 2) (en : Bool) (off : Nat) (bs : List Byte) (s : State), (s.actBank b).run ≠ none ∨ (s.actBank b).queue ≠ [] →
    exec (.malletStoreWrite b en off bs) s = .next s) ∧
  (∀ (ns : Nat) (s : State), (40 < ns → Gives (.trip ns) s fun t => t.get Obj.TRIP_ACTIVE = 1 ∧ Counted s t Obj.TRIP_COUNT ∧
      t.get Obj.TRIP_DLT = s.now.toNat ∧ t.get Obj.CLAP_STATE = 0 ∧ t.lands = { s.lands with tripN := false } ∧ SameMem s t ∧
      ((s.actBank 0).run = none → (s.actBank 1).run = none → Rings s t 0x0A05 0) ∧
      ∀ b : Fin 2, (t.actBank b).run = none ∧ (t.actBank b).queue = []) ∧
    (1 ≤ ns → ns ≤ 20 → exec (.trip ns) s = .next s) ∧ (20 < ns → ns ≤ 40 → Gives (.trip ns) s fun t => t.free = s.free + 1)) ∧
  (∀ s : State, Gives (.trip 0) s fun t => t.lands = { s.lands with tripN := true } ∧ { t with lands := s.lands } = s) ∧
  (∀ s : State, s.lands.tripN = true → Gives (.tripActiveClear 1) s fun t => t.get Obj.TRIP_ACTIVE = 0 ∧
    SameObj s t [Obj.TRIP_ACTIVE] ∧ { t with obj := s.obj } = s) ∧
  (∀ s : State, s.lands.tripN = false → Gives (.tripActiveClear 1) s fun t => Counted s t Obj.TRIP_CLEAR_REFUSED ∧
    Rings s t 0x0A08 0 ∧ t.get Obj.TRIP_ACTIVE = s.get Obj.TRIP_ACTIVE ∧ { t with obj := s.obj, dict := s.dict } = s)

/-- ACT_START and CLAPPER landing (u: the state after the command has left the strokes under way) for the channel whose
profile runs, with no cause of refusal against it: the running profile is gone, with no decay phase and no END, and in its
place stands the commanded profile at its entry address with every timer, dip count, window and wait as a new profile has
them; RESTARTS has risen by one; COMPLETED and every abort count stay, no completion and no abort is recorded, no bell is
raised, and nothing but the bank and its objects changes. -/
def Obligations.CommandForTheRunningChannelRestarts : Prop :=
  (∀ (l : Landing) (s u : State) (r : Profile), s.landing 0x51 l = some u →
    let a := l.arg.toNat
    let b := bits a 8 8
    let q : ActReq := { chan := bits a 7 6, entry := bits a 5 0 }
    u.actCause b q false = 0 → (u.actBank b).run = some r → r.req.chan = q.chan → Gives (.actStart l) s fun t =>
      BankRestarts b q u t) ∧
  (∀ (l : Landing) (s u : State) (r : Profile), s.landing 0x50 l = some u → l.arg.toNat % 256 < 16 →
    let e := u.clapEntry (l.arg.toNat % 16)
    let q : ActReq := { chan := e.1, entry := e.2.1, close := !e.2.2.2, sun := l.src = .sunGuard }
    e.2.2.1 = true → u.actCause 0 q false = 0 → (u.actBank 0).run = some r → r.req.chan = q.chan → Gives (.clapper l) s fun t =>
      BankRestarts 0 q u t)

/-- An instruction issues when it is the next word of its bank and nothing is waited for. TARGET, RAMP and HOLD drive
while the bank holds ACT sticks, and otherwise wait in slow decay; DRIVE_STICK_WAIT_END lets them go on. WAIT_PEAK opens
its window; PEAK_REACHED, at a current that is not below the target, inside it goes on and keeps the time, before t_short
it is SHORT, before t_min JAM, after t_max OPEN, as is WAIT_PEAK_TIMEOUT. DECAY_FAST and DECAY_SLOW wait for their floor,
WAIT_TIME for its time. MEASURE arms the dip counter or the CLAP_POS watch, or copies the current. BRANCH jumps when its
condition holds. END closes the flag for a close profile, CLAP_STATE 1 with its time, and completes once no current flows:
at once, or as DECAY_FLOOR_REACHED tells; COMPLETED counts. A profile that completes while CLAP_POS reads open and the
flag counts as closed is followed by BOUNCE. A profile past word 255 aborts as FAULT, and one that is to go on with VACT
below 8.5 V as UV. -/
def Obligations.MalletInstructionsRunTheirProfile : Prop :=
  (∀ (b : Fin 2) (p : Profile) (w : Nat) (s : State),
    (s.actSticks b = true → p.pc < 255 → (MalletIssues s b 1 p w → Gives (.target b) s (Drives b (driven 1 w s.clk.beats p) s)) ∧
      (MalletIssues s b 2 p w → Gives (.ramp b) s (Drives b (driven 2 w s.clk.beats p) s)) ∧
      (MalletIssues s b 4 p w → Gives (.hold b) s (Drives b (driven 4 w s.clk.beats p) s))) ∧
    (s.actSticks b = false →
      let q : Profile := { p with drive := false, wait := .sticks, waitT0 := s.clk.beats, decay := if p.drive || p.decay ≠ 0 then 2 else 0, turned := if p.drive then some s.clk.beats else p.turned }
      (MalletIssues s b 1 p w → Gives (.target b) s (BankWaits b q s)) ∧ (MalletIssues s b 2 p w → Gives (.ramp b) s (BankWaits b q s)) ∧
      (MalletIssues s b 4 p w → Gives (.hold b) s (BankWaits b q s))) ∧
    (MalletIssues s b 3 p w → p.peakUs = none → Gives (.waitPeak b) s (BankRuns b { p with wait := .peak, tShort := 20 * bits w 23 16, tMin := 20 * bits w 15 8, tMax := 20 * bits w 7 0 } s)) ∧
    (MalletIssues s b 5 p w → Gives (.decayFast b) s (BankRuns b { p with drive := false, decay := 1, floorMa := bits w 11 0, wait := .floor, waitT0 := s.clk.beats } s)) ∧
    (MalletIssues s b 6 p w → Gives (.decaySlow b) s (BankRuns b { p with drive := false, decay := 2, turned := if p.drive then some s.clk.beats else p.turned, floorMa := bits w 11 0, wait := .floor, waitT0 := s.clk.beats } s)) ∧
    (MalletIssues s b 7 p w → Gives (.waitTime b) s (BankRuns b { p with wait := .time, waitT0 := s.clk.beats, waitUs := bits w 19 0 } s)) ∧
    (MalletIssues s b 8 p w → p.pc < 255 → bits w 27 24 = 0 → Gives (.measureDip b) s
      (BankRuns b { p with pc := p.pc + 1, dipArm := some (bits w 11 0), dips := 0 } s)) ∧
    (MalletIssues s b 8 p w → p.pc < 255 → bits w 27 24 = 1 → s.posOpen = false → Gives (.measurePos b) s
      (BankRuns b { p with pc := p.pc + 1, posArm := true } s)) ∧
    (MalletIssues s b 8 p w → p.pc < 255 → bits w 27 24 = 1 → s.posOpen = true → Alone s b p → Gives (.measurePos b) s (Aborts b 4 p s)) ∧
    (∀ ma, MalletIssues s b 8 p w → p.pc < 255 → bits w 27 24 = 2 → p.req.chan < 4 → Gives (.measureCurrent b ma) s fun t =>
      t.nat (Obj.MEAS_MA (coilNo b p.req.chan)) = ma % 2 ^ 16 ∧ (t.actBank b).run = some { p with pc := p.pc + 1 } ∧
      SameObj s t (Obj.MEAS_MA (coilNo b p.req.chan) :: actKeys b) ∧ { t with act := s.act, obj := s.obj } = s) ∧
    (MalletIssues s b 9 p w → s.malletCond b p.req.chan (bits w 27 24) = true → Gives (.branch b) s
      (BankRuns b { p with pc := bits w 7 0 } s)) ∧
    (MalletIssues s b 9 p w → p.pc < 255 → s.malletCond b p.req.chan (bits w 27 24) = false → Gives (.branch b) s
      (BankRuns b { p with pc := p.pc + 1 } s)) ∧
    (MalletIssues s b 0 p w → Alone s b p → ¬ Carries p → s.posOpen = false → Gives (.malletEnd b) s fun t => Completes b p s t ∧ FlagFollows p s t) ∧
    (MalletIssues s b 0 p w → Alone s b p → Carries p → Gives (.malletEnd b) s fun t => FlagFollows p s t ∧ SameMem s t ∧
      t.actBank b = { s.actBank b with run := some { p with
        drive := false, decay := if bits w 0 0 = 1 then 2 else 1
        turned := if p.drive && bits w 0 0 = 1 then some s.clk.beats else p.turned
        ending := true, floorMa := 0, wait := .floor, waitT0 := s.clk.beats } } ∧ ∀ k, k ≠ b.val → t.actBank k = s.actBank k) ∧
    (Alone s b p → p.wait = .none → (s.power.vactMv < 8500 → Gives (.target b) s (Aborts b 10 p s)) ∧
      (8500 ≤ s.power.vactMv → 256 ≤ p.pc → Gives (.target b) s (Aborts b 9 p s)))) ∧
  (∀ (b : Fin 2) (p : Profile) (s : State), (s.actBank b).run = some p → p.wait = .sticks → s.actSticks b = true → p.pc < 255 →
    bits (s.malletWord b p.pc) 31 28 = 1 → Gives (.driveStickWaitEnd b) s
      (Drives b (driven 1 (s.malletWord b p.pc) s.clk.beats { p with wait := .none }) s)) ∧
  (∀ (b : Fin 2) (ma : Nat) (p : Profile) (s : State), (s.actBank b).run = some p → ma < p.peakMa → exec (.peakReached b ma) s = .next s) ∧
  (∀ (b : Fin 2) (ma : Nat) (p : Profile) (s : State), Alone s b p → p.wait = .peak → p.drive = true → p.peakUs = none → p.peakMa ≤ ma →
    p.pc < 255 → p.tShort ≤ p.tMin →
    let us := (s.clk.beats - p.peakT0) / 200
    (p.tMin ≤ us → us ≤ p.tMax → Gives (.peakReached b ma) s fun t => t.nat (Obj.T_PEAK_LAST (coilNo b p.req.chan)) = us % 2 ^ 16 ∧
      (t.actBank b).run = some { p with pc := p.pc + 1, wait := .none, peakUs := some us } ∧
      SameObj s t (Obj.T_PEAK_LAST (coilNo b p.req.chan) :: actKeys b) ∧ { t with act := s.act, obj := s.obj } = s) ∧
    (us < p.tShort → Gives (.peakReached b ma) s (Aborts b 3 p s)) ∧
    (p.tShort ≤ us → us < p.tMin → Gives (.peakReached b ma) s (Aborts b 1 p s)) ∧
    (p.tMin ≤ us → p.tMax < us → Gives (.peakReached b ma) s (Aborts b 2 p s))) ∧
  (∀ (b : Fin 2) (p : Profile) (s : State), Alone s b p → p.wait = .peak → p.tMax * 200 < s.clk.beats - p.peakT0 →
    Gives (.waitPeakTimeout b) s (Aborts b 2 p s)) ∧
  (∀ (b : Fin 2) (p : Profile) (s : State), (s.actBank b).run = some p → p.pc < 255 →
    (p.wait = .floor → p.ending = false → Gives (.decayFloorReached b) s
      (BankRuns b { p with pc := p.pc + 1, wait := .none, decay := if p.floorMa = 0 then 0 else p.decay } s)) ∧
    (p.wait = .floor → p.ending = true → Alone s b p → s.posOpen = false → Gives (.decayFloorReached b) s (Completes b p s)) ∧
    (∀ n : Fin 8, p.wait = .floor → p.ending = true → Alone s b p → s.posOpen = true → s.nat Obj.CLAP_STATE = 1 →
      s.act.closeEnded = some n.val → (∀ k : Fin 2, k ≠ b → (s.actBank k).run = none) → (s.cal.run.map (·.closed)).getD false = false →
      Gives (.decayFloorReached b) s fun t => (t.actBank b).run = none ∧ t.get Obj.CLAP_STATE = 0 ∧ t.get (Obj.LAST_ABORT (n / 4)) = 4 ∧
        Rings s t 0x0A04 n) ∧
    (p.wait = .time → p.waitUs * 200 ≤ s.clk.beats - p.waitT0 → Gives (.waitTimeEnd b) s
      (BankRuns b { p with pc := p.pc + 1, wait := .none } s))) ∧
  (∀ (b : Fin 2) (s : State), (s.actBank b).run = none → (s.actBank b).fading.isSome = true →
    ((s.actBank b).queue = [] → Gives (.decayFloorReached b) s fun t => t.actBank b = { s.actBank b with fading := none } ∧
      SameObj s t (actKeys b) ∧ { t with act := s.act, obj := s.obj } = s) ∧
    (∀ q rest, (s.actBank b).queue = q :: rest → Gives (.decayFloorReached b) s fun t => (t.actBank b).queue = rest ∧
      (t.actBank b).fading = none ∧
      (t.actBank b).run = some { req := q, pc := s.nat (Obj.MALLET_ENTRIES b + q.entry), t0 := s.clk.beats }))

/-- DIP_DETECTED while the profile drives, at least the threshold below its target for 20 µs: the first counts, the second
aborts as BOUNCE. CLAP_POS_CHANGE that does not read open only sets the level; reading open it is BOUNCE for a profile
that watches it, and while CLAP_STATE is 1 and no close profile runs: CLAP_STATE 0, cause 4. MALLET_TIMEOUT: cause 7 after
ACT_WAIT_MS without sticks, 8 after 10 ms of decay or MALLET_MAX_MS. OVER_CURRENT above 3,500 mA: cause 3; a queued
request starts at once where no current flows, and waits for its decay otherwise. VACT_UNDERVOLTAGE below 8.5 V: no
profile runs, cause 10. COIL_MODEL_UPDATE: every channel takes its measured current and the temperature rise of R398, a
profile whose coil reaches T_LIMIT is shortened (cause 6), any other keeps running with its energy added. -/
def Obligations.DiagnosticsAbortAndCoilsHeat : Prop :=
  (∀ (b : Fin 2) (p : Profile) (th ma us : Nat) (s : State), Alone s b p → p.dipArm = some th → p.drive = true →
    ((ma + th : Nat) : Rat) ≤ p.targetAt s.clk.beats → 20 ≤ us →
    (p.dips = 0 → Gives (.dipDetected b ma us) s (BankRuns b { p with dips := 1 } s)) ∧
    (p.dips ≠ 0 → Gives (.dipDetected b ma us) s (Aborts b 4 p s))) ∧
  (∀ (level : Bool) (s : State), State.posOpen { s with lands := { s.lands with clapPos := level } } = false →
    exec (.clapPosChange level) s = .next { s with lands := { s.lands with clapPos := level } }) ∧
  (∀ (level : Bool) (n : Fin 8) (s : State), State.posOpen { s with lands := { s.lands with clapPos := level } } = true →
    s.nat Obj.CLAP_STATE = 1 → s.act.closeEnded = some n.val → (∀ b : Fin 2, ((s.actBank b).run.map fun p => p.posArm || p.req.close).getD false = false) →
    ((s.cal.run.map (·.closed)).getD false) = false → Gives (.clapPosChange level) s fun t => t.get Obj.CLAP_STATE = 0 ∧
      t.get (Obj.LAST_ABORT (n / 4)) = 4 ∧ CoilCounts (n / 4) (n % 4) 7 s t ∧ Rings s t 0x0A04 n ∧ SameMem s t ∧ t.act = s.act) ∧
  (∀ (level : Bool) (b : Fin 2) (p : Profile) (s : State), State.posOpen { s with lands := { s.lands with clapPos := level } } = true →
    Alone s b p → p.posArm = true → (∀ k : Fin 2, k ≠ b → (s.actBank k).run = none) →
    Gives (.clapPosChange level) s fun t => t.get Obj.CLAP_STATE = 0 ∧ Aborts b 4 p s t) ∧
  (∀ (b : Fin 2) (p : Profile) (s : State), Alone s b p →
    (p.wait = .sticks → s.nat Obj.ACT_WAIT_MS * 200000 < s.clk.beats - p.waitT0 → Gives (.malletTimeout b) s (Aborts b 7 p s)) ∧
    (p.wait = .floor → 2000000 < s.clk.beats - p.waitT0 → Gives (.malletTimeout b) s (Aborts b 8 p s)) ∧
    (p.wait ≠ .sticks → s.nat Obj.MALLET_MAX_MS * 200000 < s.clk.beats - p.t0 → Gives (.malletTimeout b) s (Aborts b 8 p s)) ∧
    (∀ ma, 3500 < ma → Gives (.overCurrent b ma) s (Aborts b 3 p s))) ∧
  (∀ (b : Fin 2) (p : Profile) (q : ActReq) (rest : List ActReq) (ma : Nat) (s : State), (s.actBank b).run = some p →
    (s.actBank b).queue = q :: rest → q.entry < 64 → 3500 < ma →
    (¬ Carries p → Gives (.overCurrent b ma) s fun t => (t.actBank b).queue = rest ∧
      (t.actBank b).run = some { req := q, pc := s.nat (Obj.MALLET_ENTRIES b + q.entry), t0 := s.clk.beats }) ∧
    (Carries p → Gives (.overCurrent b ma) s fun t => (t.actBank b).queue = q :: rest ∧ (t.actBank b).run = none ∧
      (t.actBank b).fading = some p.req.chan)) ∧
  (∀ (mv : Nat) (s : State), mv < 8500 → (∀ b : Fin 2, (s.actBank b).queue = []) → Gives (.vactUndervoltage mv) s fun t =>
    t.power = { s.power with vactMv := mv } ∧ SameMem s t ∧ ∀ b : Fin 2, (t.actBank b).run = none ∧
      ((s.actBank b).run ≠ none → t.get (Obj.LAST_ABORT b) = 10)) ∧
  (∀ (mv : Nat) (s : State), 8500 ≤ mv → Gives (.vactUndervoltage mv) s fun t => t.power = { s.power with vactMv := mv } ∧
    { t with power := s.power } = s) ∧
  (∀ (ma : List Nat) (s : State), Gives (.coilModelUpdate ma) s fun t => SameMem s t ∧ ∀ b : Fin 2,
    (∀ c : Fin 4, (t.actBank b).theta.toList.getD c 0 = heated s b c (ma.getD (coilNo b c) 0) ∧
      (t.actBank b).amps.toList.getD c 0 = ma.getD (coilNo b c) 0) ∧
    ∀ p, Alone s b p →
      let rise := heated s b p.req.chan (ma.getD (coilNo b p.req.chan) 0)
      ((s.get (Obj.T_LIMIT (coilNo b p.req.chan)) : Rat) ≤ (s.get Obj.COIL_AMBIENT : Rat) + rise →
        (t.actBank b).run = none ∧ t.get (Obj.LAST_ABORT b) = 6) ∧
      ((s.get Obj.COIL_AMBIENT : Rat) + rise < (s.get (Obj.T_LIMIT (coilNo b p.req.chan)) : Rat) →
        (t.actBank b).run = some { p with energy := p.energy + coilEnergy (ma.getD (coilNo b p.req.chan) 0) (s.nat (Obj.COIL_RES (coilNo b p.req.chan))) (s.coilTemp b p.req.chan) }))

/-! ## Ensembles (14) -/

/-- The package takes part and its bus is on (R407). -/
def Hears (s : State) : Prop := s.nat Obj.ENS_ENABLE = 1 ∧ s.ensState ≠ 0 ∧ s.drumOn = true

/-- A transmission of the drum bus is taken: the package takes part, its CRC matches, its TYPE is `ty`, and its preamble lies
in the window where that applies (R405, R406). -/
def Admitted (s : State) (ty : Nat) (r : DrumRx) : Prop :=
  Hears s ∧ drumCrcOk r = true ∧ drumTy r = ty ∧ (s.windowed = true → (drumFields r).early.natAbs ≤ 240000)

/-- Every command that brings a reception `r` from the bus does `P` with it. -/
def EachReception (r : DrumRx) (s : State) (P : State → Prop) : Prop :=
  Gives (.masterBeacon r) s P ∧ Gives (.memberBeacon r) s P ∧ Gives (.slotClaim r) s P ∧ Gives (.masterClaim r) s P ∧
    Gives (.leave r) s P

/-- The timestamp point of slot `k` has come in a cycle in which the package has not sent yet (R404, R405). -/
def SlotTime (s : State) (k : Nat) : Prop :=
  4000000 * k + 301440 ≤ s.now.toNat % 64000000 ∧ s.now.toNat % 64000000 < 4000000 * (k + 1) ∧ s.ens.sentAt ≠ some (s.now.toNat / 64000000)

/-- The owner of slot `k` in a master's beacon. -/
def ownerOf (b : Beacon) (k : Nat) : BitVec 64 := b.owner.getD (k - 1) 0

/-- ENS_ENABLE 1 listens, 0 makes a member or master send two leaves and others fall silent. DRUM_SLOT, once in each cycle
at the timestamp point of the own slot, sends what the state sends: master beacon, member beacon, slot claim, master
claim, leave; a wrong read-back counts, and the eighth claim in a row makes the package master. A transmission with a bad
CRC or an unknown TYPE, or outside the window, only counts. MEMBER_BEACON records the row of its slot; SLOT_CLAIM takes a
free slot of the master; MASTER_CLAIM and MASTER_BEACON of a lower UID64 make a claimant or master listen, others change
nothing. A beacon that confirms a claim makes a member, and an exchange gives ENS_DELAY and ENS_OFFSET. LEAVE frees the
slot; members elect when slot 0 leaves. DRUM_CYCLE at a cycle start ages the slots; 3 cycles without a beacon unsync a
member, 8 elect. -/
def Obligations.PackagesJoinElectAndLeave : Prop :=
  (∀ s : State, s.nat Obj.ENS_ENABLE ≠ 1 → Gives (.ensEnableWrite 1) s fun t => t.get Obj.ENS_ENABLE = 1 ∧ t.get Obj.ENS_STATE = 1 ∧
    t.get Obj.ENS_SLOT = 0xFF ∧ t.get Obj.DISSENT = 0 ∧ t.ens.leaving = 0 ∧ t.ens.slots = s.ens.slots ∧
    { t with obj := s.obj, ens := s.ens, dict := s.dict } = s) ∧
  (∀ s : State, s.nat Obj.ENS_ENABLE ≠ 0 → Gives (.ensEnableWrite 0) s fun t => t.get Obj.ENS_ENABLE = 0 ∧
    (s.ensState = 3 ∨ s.ensState = 4 → t.ens.leaving = 2 ∧ t.get Obj.ENS_STATE = s.get Obj.ENS_STATE) ∧
    (s.ensState ≠ 3 → s.ensState ≠ 4 → t.get Obj.ENS_STATE = 0 ∧ t.get Obj.MASTER_UID = 0) ∧
    { t with obj := s.obj, ens := s.ens, dict := s.dict, clk := s.clk } = s) ∧
  (∀ (v : Nat) (s : State), 1 < v → exec (.ensEnableWrite v) s = .next s) ∧
  (∀ (ok : Bool) (s : State), ¬ SlotTime s s.ownSlot → exec (.drumSlot ok) s = .next s) ∧
  (∀ (ok : Bool) (s : State), s.ens.leaving = 0 → SlotTime s (if s.ensState = 3 then s.nat Obj.ENS_SLOT else if s.ensState = 2 then s.ens.claimSlot else 0) →
    Gives (.drumSlot ok) s fun t => t.ens.sentAt = some (s.now.toNat / 64000000) ∧
    (s.ensState = 4 → t.dict.sent = s.dict.sent ++ [.drum (drumFrame (s.masterPayload 1 s.stateWord s.mirrorPick.1))] ∧ t.ens.gongCause = none) ∧
    (s.ensState = 3 → t.dict.sent = s.dict.sent ++ [.drum (drumFrame (s.memberPayload 2 (s.nat Obj.ENS_SLOT) s.stateWord))] ∧
      t.ens.t3 = some s.now ∧ t.ens.gongCause = none) ∧
    (s.ensState = 2 → s.ens.backoff = 0 → t.ens.claimSent = true ∧
      t.dict.sent = s.dict.sent ++ [.drum (drumFrame (s.memberPayload 3 s.ens.claimSlot s.stateWord))]) ∧
    (s.ensState = 5 → s.ens.backoff = 0 → t.dict.sent = s.dict.sent ++ [.drum (drumFrame (s.masterPayload 4 s.stateWord 0))] ∧
      (ok = true → s.ens.claims < 7 → t.ens.claims = s.ens.claims + 1 ∧ t.get Obj.ENS_STATE = s.get Obj.ENS_STATE) ∧
      (ok = true → 7 ≤ s.ens.claims → t.get Obj.ENS_STATE = 4 ∧ t.get Obj.ENS_SLOT = 0 ∧ t.get Obj.MASTER_UID = s.uid.toNat ∧
        Counted s t Obj.ELECTIONS) ∧
      (ok = false → t.ens.claims = 0 ∧ t.ens.backoff = ensBackoff s.uid s.ens.attempt)) ∧
    (ok = false → 3 ≤ s.ensState → s.ensState ≤ 4 → Counted s t Obj.COLLISIONS) ∧ SameMem s t) ∧
  (∀ (ok : Bool) (s : State), s.ens.leaving = 1 → s.ensState = 3 → SlotTime s (s.nat Obj.ENS_SLOT) → Gives (.drumSlot ok) s fun t => t.get Obj.ENS_STATE = 0 ∧
    t.dict.sent = s.dict.sent ++ [.drum (drumFrame (s.memberPayload 5 (s.nat Obj.ENS_SLOT) (s.stateWord + 128)))]) ∧
  (∀ (r : DrumRx) (s : State), Hears s →
    let only (k : Nat) (t : State) : Prop := Counted s t k ∧ SameObj s t [k] ∧ { t with obj := s.obj } = s
    (drumCrcOk r = false ∨ drumTy r = 0 ∨ 5 < drumTy r → EachReception r s (only Obj.DRUM_CRC_ERR)) ∧
    (drumCrcOk r = true → 1 ≤ drumTy r → drumTy r ≤ 5 → s.windowed = true → 240000 < (drumFields r).early.natAbs →
      EachReception r s (only Obj.SLOT_EDGE))) ∧
  (∀ (r : DrumRx) (s : State),
    let b := drumFields r
    let k := b.slot % 16
    (Admitted s 2 r → Gives (.memberBeacon r) s fun t => (t.drumSlotOf k).heard = true ∧ (t.drumSlotOf k).silent = 0 ∧
      (t.drumSlotOf k).arrival = b.arrival.truncate 32 ∧ t.getLe Obj.MEMBERS (16 * k) 8 = b.uid.toNat ∧
      (s.ensState ≠ 4 ∨ (s.drumSlotOf k).uid = 0 → (t.drumSlotOf k).uid = b.uid) ∧
      (b.flags.getLsbD 0 = true → t.get Obj.GONG_LAST_CAUSE = b.gong.toNat) ∧
      (∀ j, j ≠ k → t.drumSlotOf j = s.drumSlotOf j) ∧ { t with obj := s.obj, ens := s.ens } = s) ∧
    (Admitted s 3 r → Gives (.slotClaim r) s fun t => (s.ensState = 4 → (t.drumSlotOf k).uid =
      if (s.drumSlotOf k).uid = 0 then b.uid else (s.drumSlotOf k).uid) ∧
      (s.ensState ≠ 4 → (t.drumSlotOf k).uid = (s.drumSlotOf k).uid) ∧ { t with obj := s.obj, ens := s.ens } = s) ∧
    (b.slot ≠ 0 → Admitted s 5 r → Gives (.leave r) s fun t => (t.drumSlotOf k).uid = 0 ∧ (t.drumSlotOf k).heard = true ∧
      { t with obj := s.obj, ens := s.ens } = s) ∧
    (b.slot = 0 → Admitted s 5 r → s.ensState = 3 → Gives (.leave r) s fun t =>
      t.get Obj.ENS_STATE = (if s.nat Obj.ENS_MASTER_CAP = 1 then 5 else 1) ∧ { t with obj := s.obj, ens := s.ens } = s)) ∧
  (∀ (r : DrumRx) (s : State), Admitted s 4 r →
    let b := drumFields r
    (s.ensState = 5 → b.uid < s.uid → Gives (.masterClaim r) s fun t =>
      t.get Obj.ENS_STATE = 1 ∧ t.get Obj.ENS_SLOT = 0xFF ∧ { t with obj := s.obj, ens := s.ens } = s) ∧
    (s.ensState ≠ 5 ∨ ¬ b.uid < s.uid → exec (.masterClaim r) s = .next s)) ∧
  (∀ (r : DrumRx) (s : State), Admitted s 1 r → s.ensState = 4 ∨ s.ensState = 5 →
    let b := drumFields r
    (b.uid < s.uid → Gives (.masterBeacon r) s fun t => t.get Obj.ENS_STATE = 1 ∧ t.get Obj.MASTER_UID = b.uid.toNat ∧
      (s.nat Obj.MASTER_UID ≠ 0 → s.nat Obj.MASTER_UID ≠ b.uid.toNat → Counted s t Obj.ELECTIONS)) ∧
    (¬ b.uid < s.uid → exec (.masterBeacon r) s = .next s)) ∧
  (∀ (r : DrumRx) (s : State), Admitted s 1 r →
    let b := drumFields r
    b.state.getLsbD 7 = false → s.ensState = 2 → s.ens.claimSent = true →
    1 ≤ s.ens.claimSlot → s.ens.claimSlot ≤ 15 → ownerOf b s.ens.claimSlot = s.uid → Gives (.masterBeacon r) s fun t =>
      t.get Obj.ENS_STATE = 3 ∧ t.get Obj.ENS_SLOT = s.ens.claimSlot ∧ t.get Obj.MASTER_UID = b.uid.toNat ∧
      t.ens.noBeacon = 0 ∧ t.ens.t1 = b.tTx ∧ t.ens.t2 = b.arrival) ∧
  (∀ (r : DrumRx) (t3 : Dlt) (s : State), Admitted s 1 r →
    let b := drumFields r
    b.state.getLsbD 7 = false → s.ensState = 3 → s.ens.pair = true →
    s.ens.t3 = some t3 → 1 ≤ s.nat Obj.ENS_SLOT → s.nat Obj.ENS_SLOT ≤ 15 → ownerOf b (s.nat Obj.ENS_SLOT) = s.uid →
    b.tRx.getD (s.nat Obj.ENS_SLOT - 1) 0 ≠ 0 → Gives (.masterBeacon r) s fun t =>
      let delay := roundDiv (Dlt.diff s.ens.t2 s.ens.t1 + Dlt.diff (extendDlt (b.tRx.getD (s.nat Obj.ENS_SLOT - 1) 0) s.now) t3) 2 +
        s.get Obj.DRUM_ASYM
      t.get Obj.ENS_DELAY = clampInt delay (-2147483648) 2147483647 ∧
      t.get Obj.ENS_OFFSET = clampInt (Dlt.diff s.ens.t2 s.ens.t1 - delay) (-2147483648) 2147483647 ∧ SameMem s t) ∧
  (∀ s : State, s.ens.cycleAt = some (s.now.toNat / 64000000) → exec .drumCycle s = .next s) ∧
  (∀ s : State, s.ensState ≠ 0 → s.ens.cycleAt ≠ some (s.now.toNat / 64000000) → Gives .drumCycle s fun t =>
    (∀ k : Fin 16, (t.drumSlotOf k).heard = false ∧ (t.nat Obj.SLOT_MAP).testBit k = (s.drumSlotOf k).heard ∧
      (t.drumSlotOf k).silent = if (s.drumSlotOf k).heard then 0 else min 8 ((s.drumSlotOf k).silent + 1)) ∧
    (s.ensState = 3 → s.ens.leaving = 0 → s.ens.beaconNow = false → 2 ≤ s.ens.noBeacon → s.ens.noBeacon < 7 →
      t.ens.unsynced = true ∧ t.get Obj.ENS_STATE = s.get Obj.ENS_STATE) ∧
    (s.ensState = 3 → s.ens.leaving = 0 → s.ens.beaconNow = false → 7 ≤ s.ens.noBeacon →
      t.get Obj.ENS_STATE = if s.nat Obj.ENS_MASTER_CAP = 1 then 5 else 1) ∧
    (s.ens.beaconNow = true → t.ens.noBeacon = 0 ∧ t.get Obj.ENS_STATE = s.get Obj.ENS_STATE) ∧ SameMem s t)

/-- MIRROR_APPLY of a member without dissent: a record whose mask holds its slot and whose words differ becomes the entry
of its number from the next beat on; an identical one changes no entry; a one-shot one whose LAUNCH has passed counts in
MIRROR_LATE and changes no entry; every other entry stays. GONG_RECEIVE of a low over 1 µs that neither this part nor an
earlier low holds: GONG_IN counts, GONG_LAST_DLT is the stamp, bell 0x0D10 rings, and with GONG_ACTION 1 a CLAPPER stroke
with GONG_PROFILE is under way; up to 1 µs, or while the part pulls the line, nothing changes. GONG_N_RISE ends the low.
-/
def Obligations.MirrorsApplyAndGongsAreHeard : Prop :=
  (∀ (k : Nat) (mask : BitVec 16) (ws : List Word) (s : State), s.ens.mirrorIn = some (k, mask, ws) → s.ensState = 3 →
    s.nat Obj.DISSENT = 0 → ws.length = 7 → mask.getLsbD (s.nat Obj.ENS_SLOT) = true →
    let e := Stroke.parse (wordsBytes (ws ++ [0]))
    Gives .mirrorApply s fun t => t.ens = { s.ens with mirrorIn := none } ∧ (∀ j, j ≠ k → t.strokes.at j = s.strokes.at j) ∧
      SameMem s t ∧
      ((s.heldWords k = e.words ∨ s.mirrorLate e = true) → t.strokes = s.strokes) ∧
      (s.heldWords k ≠ e.words → s.mirrorLate e = true → Counted s t Obj.MIRROR_LATE) ∧
      (s.heldWords k ≠ e.words → s.mirrorLate e = false →
        ∃ y, t.strokes.at k = some y ∧ y.words = e.words ∧ y.fires = 0 ∧ y.applies = s.clk.beats + 1)) ∧
  (∀ (ns : Nat) (d : Dlt) (s : State), 1000 < ns → s.lands.gongOwn = false → s.lands.gongOther = false →
    s.power.domains[1] = 1 → Gives (.gongReceive ns d) s fun t => Counted s t Obj.GONG_IN ∧ t.get Obj.GONG_LAST_DLT = d.toNat ∧
      Rings s t 0x0D10 0 ∧ t.lands = { s.lands with gongOther := true } ∧ SameMem s t ∧
      (s.nat Obj.GONG_ACTION = 1 → ∃ f, t.strokes.inflight = s.strokes.inflight ++ [f] ∧ f.action = 0x50 ∧
        f.l.arg = BitVec.ofNat 32 (s.nat Obj.GONG_PROFILE) ∧ f.beat = s.clk.beats) ∧
      (s.nat Obj.GONG_ACTION ≠ 1 → t.strokes = s.strokes)) ∧
  (∀ (ns : Nat) (d : Dlt) (s : State), ns ≤ 1000 ∨ s.lands.gongOwn = true ∨ s.lands.gongOther = true →
    exec (.gongReceive ns d) s = .next s) ∧
  (∀ s : State, Gives .gongNRise s fun t => t.lands = { s.lands with gongOther := false } ∧ { t with lands := s.lands } = s)

/-! ## Power, start-up and heat (15) -/

/-- The part is back at stage 0 (R423, R424, R429): AON and NVM alone are on, every object reads its default but RESET_CAUSE and
WAKE_CAUSE, no bell waits, every memory but the flash and the event store reads as at reset; the factory memory, the rails and
the queue of commands stay. -/
def BackToStage0 (cause wake : Nat) (s t : State) : Prop :=
  t.get Obj.RESET_CAUSE = cause ∧ t.get Obj.WAKE_CAUSE = wake ∧
  (∀ k, k ≠ Obj.RESET_CAUSE → k ≠ Obj.WAKE_CAUSE → t.get k = objDefault k) ∧ t.power.domains = aonOnly ∧
  t.power.trims = false ∧ t.otp = s.otp ∧ t.pending = s.pending ∧ t.clk.beats = s.clk.beats ∧ t.dict.bells = [] ∧
  t.strokes.inflight = [] ∧ t.focal.frames = [] ∧ ∀ a, a / 2 ^ 40 ≠ 9 → a / 2 ^ 40 ≠ 11 → t.byte a = memDefault a

/-- The flash device's bytes stay. -/
def SameFlash (s t : State) : Prop := ∀ a, a / 2 ^ 40 = 9 → t.byte a = s.byte a

/-- The bytes of the event store stay. -/
def SameEvents (s t : State) : Prop := ∀ a, a / 2 ^ 40 = 11 → t.byte a = s.byte a

/-- Nothing is being written to the flash: no program, erase or image save is under way. -/
def FlashRests (s : State) : Prop := s.ports.flashNow = none ∧ s.cal.save = none

/-- The mode of this code may be asked for: CTRL runs, the part is not in retain already, and it enters no mode yet. -/
def MayAsk (s : State) (code : Nat) : Prop := s.domain 1 = 1 ∧ (s.power.mode = .retain → code ≠ 1) ∧ s.power.entering = none

/-- Once every view has been told to close, none of them has a record to come (R430 step 1). -/
def ViewsClosed (s : State) : Prop := ((List.range 16).foldl State.closeForPower s).viewsOut = true

/-- The state after the entry of retain (R429): what is kept and what is off. -/
def Retained (s t : State) : Prop :=
  t.get Obj.POWER_MODE = 1 ∧ t.power.mode = .retain ∧ t.power.entering = none ∧ t.power.trims = false ∧
  (∀ d, 4 ≤ d → d < 30 → d ≠ 5 → t.domain d = if 6 ≤ d ∧ d % 6 = 3 then 2 else 0) ∧ t.focal.frames = [] ∧
  t.rolls.running = false ∧ SameMem s t ∧ t.banks = s.banks ∧ t.otp = s.otp ∧ t.fab.fences = s.fab.fences ∧
  t.mc.calZero = s.mc.calZero

/-- The command that asks for the low-power mode of this code (R429). -/
def modeCmd (code : Nat) : Instr := if code = 1 then .powerModeRetain else if code = 2 then .powerModeSleep else .powerModeStandby

/-- AON_POWER_ON: AON and NVM on, RESET_CAUSE 1, the slot of the next event record erased. STAGE_1_ENTRY with VDDM and VIO
good: CTRL on, DLT at 0 (or R430), MASOL_STATUS is the check of R20. STAGE_2_ENTRY: the flash, asked with 5Ah, is
discovered (2), its tap the middle of the widest run, or without a signature in fallback (3), or reads at no tap (4);
without a block CFG_STATE reads 3, with one its slot. STAGE_3_ENTRY: with a good trim CRC the active banks are neutral,
TRIM_STATE 0, references settle; with a bad one TRIM_STATE 2 and bell 0x0701. REFERENCES_SETTLED: trims in force with
their time and the first roll, or after two differences TRIM_STATE 3 and every quadrant off. RAIL_GOOD turns on a due
domain that waits; RAIL_GOOD_TIMEOUT rings 0x0C02. -/
def Obligations.StartUpGoesThroughItsStages : Prop :=
  (∀ s : State, s.domain 0 ≠ 1 → Gives .aonPowerOn s fun t => t.power.domains = aonOnly ∧ t.rail 0 = true ∧
    t.get Obj.RESET_CAUSE = 1 ∧ SameObj s t [Obj.RESET_CAUSE] ∧
    (∀ i, i < 32 → t.byte (nvmBase + 32 * s.nvmNext + i) = 0xFF) ∧
    ∀ a, a < nvmBase + 32 * s.nvmNext ∨ nvmBase + 32 * s.nvmNext + 32 ≤ a → t.byte a = s.byte a) ∧
  (∀ s : State, s.nat Obj.STARTUP_STAGE = 0 → s.domain 0 = 1 → s.power.mode = .run → s.domain 1 ≠ 1 → s.rail 8 = true →
    s.rail 1 = true → Gives .stage1Entry s fun t => t.get Obj.STARTUP_STAGE = 1 ∧ t.domain 1 = 1 ∧
      t.clk.dlt = (if s.nat Obj.RESET_CAUSE = 3 then s.power.sleepDlt else 0) ∧ t.lands = { s.lands with resetN := true } ∧
      t.nat Obj.MASOL_STATUS = Masol.check s.otp.masol % 256 ∧
      (Masol.check s.otp.masol = 0 → t.dict.bells = s.dict.bells ∧ SameMem s t)) ∧
  (∀ (f : Option Sfdp) (s : State), s.nat Obj.STARTUP_STAGE = 1 → s.domain 1 = 1 → s.nat Obj.MASOL_STATUS = 0 →
    (s.cfgWord 0 0 ≠ 0x46434B48 → s.cfgWord 1 0 ≠ 0x46434B48 → Gives (.stage2Entry f) s fun t =>
      t.get Obj.STARTUP_STAGE = 2 ∧ t.get Obj.CFG_STATE = 3 ∧ SameMem s t ∧
      (∀ d, f = some d →
        let run := widestRun (d.taps.take 32) 0 0 (0, 0)
        (run.2 ≠ 0 → t.get Obj.FSPI_STATE = 2 ∧ t.ports.sfdp = some d ∧ t.nat Obj.FSPI_RX_DLY = run.1 + (run.2 - 1) / 2 ∧
          t.dict.sent = s.dict.sent ++ .fspi 0x5A 0 [] :: if d.fourByte then [] else [.fspi 0xB7 0 []]) ∧
        (run.2 = 0 → t.get Obj.FSPI_STATE = 4 ∧ t.ports.sfdp = s.ports.sfdp ∧ t.dict.sent = s.dict.sent ++ [.fspi 0x5A 0 []]) ∧
        Rings s t 0x0C01 0) ∧
      (f = none → t.get Obj.FSPI_STATE = 3 ∧ t.get Obj.FLASH_DENSITY = 16777216 ∧
        t.dict.sent = s.dict.sent ++ [.fspi 0x5A 0 []])) ∧
    (∀ i, i < 2 → State.cfgNewest ((s.enterStage 2).discover f) = some i → s.shadow.staged = [] →
      s.le (flashBase + 0x800000 * i + 20) 4 % 65536 = 0 → Gives (.stage2Entry f) s fun t =>
        t.get Obj.STARTUP_STAGE = 2 ∧ t.get Obj.CFG_STATE = i + 1 ∧ t.get Obj.CFG_SEQ = s.cfgWord i 3 ∧ SameMem s t)) ∧
  (∀ s : State, s.nat Obj.STARTUP_STAGE = 2 → s.nat Obj.CFG_STATE ≠ 0 → s.domain 1 = 1 →
    (crc32 s.otp.trimBlock = s.otp.trimCrc → Gives .stage3Entry s fun t => t.get Obj.STARTUP_STAGE = 3 ∧
      t.get Obj.TRIM_STATE = 0 ∧ t.power.settling = true ∧
      ∀ g : Fin 64, (t.bank (s.bankNo g false)).fill = .neutral ∧ (t.bank (s.bankNo g false)).cells = []) ∧
    (crc32 s.otp.trimBlock ≠ s.otp.trimCrc → Gives .stage3Entry s fun t => t.get Obj.STARTUP_STAGE = 3 ∧
      t.get Obj.TRIM_STATE = 2 ∧ Rings s t 0x0701 0 ∧ t.banks = s.banks ∧ t.power = s.power)) ∧
  (∀ (a b : Bool) (s : State), s.power.settling = true → s.quadrantsOn = true →
    (a = true ∨ b = true → Gives (.referencesSettled a b) s fun t => t.get Obj.TRIM_STATE = 1 ∧
      t.get Obj.TRIM_APPLY_DLT = s.now.toNat ∧ t.power.trims = true ∧ t.power.settling = false ∧ t.rolls.running = true ∧
      t.rolls.origin = s.clk.beats) ∧
    (a = false → b = false → Gives (.referencesSettled a b) s fun t => t.get Obj.TRIM_STATE = 3 ∧ Rings s t 0x0701 0 ∧
      t.power.trims = s.power.trims ∧ t.power.settling = false ∧ ∀ d, 6 ≤ d → d < 30 → t.domain d = 0)) ∧
  (∀ (r : Fin 12) (s : State), s.domain 1 ≠ 1 → r.val ≠ 1 → Gives (.railGood r) s fun t =>
    t.power = { s.power with rails := s.power.rails.set r true } ∧ { t with power := s.power } = s) ∧
  (∀ (r : Fin 12) (d : Nat) (s : State), s.domain 1 = 1 → d ∈ onOrder → s.domain d = 3 → s.dueOn d = true →
    s.domain (domainParent d) = 1 → ((domainLane d).map s.laneAbsent).getD false = false →
    State.railsFor { s with power := { s.power with rails := s.power.rails.set r true } } d = true →
    Gives (.railGood r) s fun t => t.rail r = true ∧ t.domain d = 1 ∧ SameMem s t) ∧
  (∀ (d : Fin 30) (s : State), (s.domain d = 3 → Gives (.railGoodTimeout d) s fun t => Rings s t 0x0C02 0 ∧
      SameObj s t [Obj.BELL_NEXT_SEQ, Obj.BELL_LOST] ∧ { t with obj := s.obj, dict := s.dict } = s) ∧
    (s.domain d ≠ 3 → exec (.railGoodTimeout d) s = .next s))

/-- RESET_N_LOW for 1 µs with VIO good, not in a thermal shutdown: stage 0 with RESET_CAUSE 2; flash and event store stay;
shorter, or in a shutdown, nothing changes. RAIL_LOST of a used rail other than VDD_AON and VACT, or of VIO in run mode:
stage 0 with cause 5; of any other rail only the rail changes. THERMAL_SHUTDOWN in every mode but standby: mode shutdown,
AON and NVM alone on, GONG_N pulled, RESET_CAUSE kept, SHUTDOWN_COUNT up by one. AON_CLEAR_COMMAND: with COOL stage 0 with
cause 6, without it the shutdown stays. VDD_AON_REMOVAL: every domain off, every object at its default, flash and event
store as they were (no program, erase or save in progress; a cut-off one leaves free bits, log entry 9). -/
def Obligations.RestartsLeaveFlashAndEvents : Prop :=
  (∀ (ns : Nat) (s : State), s.domain 0 = 1 → s.rail 1 = true →
    (1000 ≤ ns → s.power.mode ≠ .shutdown → Gives (.resetNLow ns) s fun t => BackToStage0 2 0 s t ∧ t.power.mode = .run ∧
      t.power.rails = s.power.rails ∧ t.lands = { s.lands with gongOwn := false, resetN := false } ∧
      (FlashRests s → SameFlash s t ∧ SameEvents s t)) ∧
    (ns < 1000 ∨ s.power.mode = .shutdown → exec (.resetNLow ns) s = .next s)) ∧
  (∀ (r : Fin 12) (s : State), s.rail r = true → r.val ≠ 0 → r.val ≠ 11 → s.power.mode ≠ .shutdown →
    (r.val ≠ 1 → s.railUsed r = true) → (r.val = 1 → s.power.mode = .run ∧ s.domain 1 = 1) → Gives (.railLost r) s fun t =>
      BackToStage0 5 0 s t ∧ t.power.rails = s.power.rails.set r false ∧ (FlashRests s → SameFlash s t)) ∧
  (∀ (r : Fin 12) (s : State), r.val ≠ 0 → (r.val = 11 ∨ r.val ≠ 1 ∧ s.railUsed r = false ∨ r.val = 1 ∧ s.power.mode ≠ .run) →
    Gives (.railLost r) s fun t => t.power = { s.power with rails := s.power.rails.set r false } ∧ { t with power := s.power } = s) ∧
  (∀ (q : Fin 40) (temp : Int) (s : State), s.domain 0 = 1 → s.power.mode ≠ .standby → s.power.mode ≠ .shutdown →
    s.nat Obj.RESET_CAUSE < 256 → FlashRests s → s.shutdowns < 2 ^ 32 - 1 → Gives (.thermalShutdown q temp) s fun t =>
      BackToStage0 (s.nat Obj.RESET_CAUSE) 0 s t ∧ t.power.mode = .shutdown ∧ t.lands.gongOwn = true ∧ SameFlash s t ∧
      t.shutdowns = s.shutdowns + 1 ∧ t.ports.ssOut = aonStatus 1 false) ∧
  (∀ s : State, s.power.mode = .standby ∨ s.power.mode = .shutdown → ∀ (q : Fin 40) (temp : Int),
    exec (.thermalShutdown q temp) s = .next s) ∧
  (∀ s : State, s.power.mode = .shutdown → s.rail 1 = true →
    (Gives (.aonClearCommand true) s fun t => BackToStage0 6 0 s t ∧ t.power.mode = .run ∧ SameFlash s t) ∧
    (Gives (.aonClearCommand false) s fun t => t.power = { s.power with cool := false } ∧ t.ports.ssOut = aonStatus 1 false ∧
      SendsOnly s t (.sspi s.ports.ssOut) ∧ { t with power := s.power, ports := s.ports, dict := s.dict } = s)) ∧
  (∀ s : State, FlashRests s → Gives .vddAonRemoval s fun t => (∀ d, t.domain d = 0) ∧ t.rail 0 = false ∧
    (∀ k, t.get k = objDefault k) ∧ t.otp = s.otp ∧ t.pending = s.pending ∧ t.dict.bells = [] ∧ SameFlash s t ∧ SameEvents s t ∧
    ∀ a, a / 2 ^ 40 ≠ 9 → a / 2 ^ 40 ≠ 11 → t.byte a = memDefault a)

/-- POWER_MODE 1, not refused, with no record of a view to come: mode retain, MEM in retention, REF and the other quadrant
domains off, no frames; memories, banks, fences and a calibrated zero stay. With records to come POWER_MODE reads 4, every
further write is refused, and BEAT enters retain once they are out. POWER_MODE 2 and 3, also from retain: AON alone, the
AON objects and RESET_CAUSE kept, DLT kept for sleep. A write while work forbids it reads 5 and changes nothing else.
POWER_MODE 0 leaves retain with RESET_CAUSE 7 into stage 3, or stays in an earlier stage. WAKE_EDGE, CAN_RX_WAKE,
SLEEP_TIMER_EXPIRY and AON_WAKE_COMMAND, if enabled in WAKE_SRC_EN, lead from sleep (RESET_CAUSE 3, DLT advanced by the
ticks) and from standby (4) to stage 0 with their WAKE_CAUSE; not enabled they do nothing but send the AON status word on
the service chain. SENSOR_READ: TJMAX is the highest reading, and from THROTTLE_C on THROTTLE_LEVEL steps up with bell
0x0C03. -/
def Obligations.PowerModesAreEnteredAndLeft : Prop :=
  (∀ s : State, s.powerRefused = false → ViewsClosed s →
    (MayAsk s 1 → Gives .powerModeRetain s (Retained s)) ∧
    (∀ (c : Instr) (code : Nat) (m : Mode), MayAsk s code → (c = .powerModeSleep ∧ code = 2 ∧ m = .sleep ∨ c = .powerModeStandby ∧ code = 3 ∧ m = .standby) →
      Gives c s fun t => t.get Obj.POWER_MODE = code ∧ t.power.mode = m ∧ t.power.sleepDlt = s.now ∧ t.power.domains = aonOnly.set 5 0 ∧
        (∀ k, k ∈ [Obj.WAKE_SRC_EN, Obj.SLEEP_TICKS, Obj.AON_CLOCK] → t.get k = objWrap k (s.get k)) ∧
        t.nat Obj.RESET_CAUSE = s.nat Obj.RESET_CAUSE % 256 ∧ t.dict.bells = [] ∧ SameFlash s t ∧ SameEvents s t ∧
        ∀ a, a / 2 ^ 40 ≠ 9 → a / 2 ^ 40 ≠ 11 → t.byte a = memDefault a)) ∧
  (∀ (code : Nat) (s : State), 1 ≤ code → code ≤ 3 →
    (MayAsk s code → s.powerRefused = false → ¬ ViewsClosed s → Gives (modeCmd code) s fun t => t.get Obj.POWER_MODE = 4 ∧
      t.power = { s.power with entering := some code } ∧ SameMem s t ∧ t.banks = s.banks ∧ t.fab = s.fab) ∧
    (MayAsk s code → s.powerRefused = true → Gives (modeCmd code) s fun t => t.get Obj.POWER_MODE = 5 ∧
      SameObj s t [Obj.POWER_MODE] ∧ { t with obj := s.obj } = s) ∧
    (s.power.entering.isSome → exec (modeCmd code) s = .next s ∧ exec .powerModeRun s = .next s)) ∧
  (∀ s : State, s.drumOn = true → s.power.entering = some 1 →
    let u := s.oneBeat.lanesTick
    (u.viewsOut = true → Gives .beat s (Retained s)) ∧
    (u.viewsOut = false → Gives .beat s fun t => t.power = s.power ∧ t.get Obj.POWER_MODE = s.get Obj.POWER_MODE)) ∧
  (∀ s : State, s.domain 1 = 1 → s.power.entering = none → (s.power.mode = .retain → Gives .powerModeRun s fun t =>
      t.power.mode = .run ∧ t.get Obj.POWER_MODE = 0 ∧ t.get Obj.RESET_CAUSE = 7 ∧ t.get Obj.WAKE_CAUSE = 0 ∧
      t.get Obj.STARTUP_STAGE = (if 3 ≤ s.nat Obj.STARTUP_STAGE then 3 else s.get Obj.STARTUP_STAGE) ∧ t.banks = s.banks ∧
      t.otp = s.otp) ∧
    (s.power.mode ≠ .retain → Gives .powerModeRun s fun t => t.get Obj.POWER_MODE = 0 ∧ SameObj s t [Obj.POWER_MODE] ∧
      { t with obj := s.obj } = s)) ∧
  (∀ (ns ticks : Nat) (s : State), s.rail 1 = true → s.domain 0 = 1 → s.domain 1 ≠ 1 →
    let wakes (c : Instr) (src : Nat) : Prop :=
      ((s.nat Obj.WAKE_SRC_EN).testBit src = true → s.power.mode = .sleep → Gives c s fun t => BackToStage0 3 (src + 1) s t ∧
        t.power.mode = .run ∧ t.power.sleepDlt = s.power.sleepDlt + BitVec.ofNat 64 (1953125 * ticks) ∧ SameFlash s t ∧
        SameEvents s t) ∧
      ((s.nat Obj.WAKE_SRC_EN).testBit src = true → s.power.mode = .standby → src ≠ 2 → Gives c s fun t =>
        BackToStage0 4 (src + 1) s t ∧ t.power.mode = .run) ∧
      ((s.nat Obj.WAKE_SRC_EN).testBit src = false → if src = 3 then Gives c s fun t => SendsOnly s t (.sspi s.ports.ssOut) ∧ { t with dict := s.dict } = s
        else exec c s = .next s)
    (1000 ≤ ns → wakes (.wakeEdge ns ticks) 0) ∧ (5000 ≤ ns → wakes (.canRxWake ns ticks) 1) ∧
    (s.nat Obj.SLEEP_TICKS ≠ 0 → s.nat Obj.SLEEP_TICKS ≤ ticks → wakes (.sleepTimerExpiry ticks) 2) ∧
    wakes (.aonWakeCommand ticks) 3) ∧
  (∀ (temps : List Int) (s : State), s.domain 1 = 1 → temps.length = 40 → (∀ x ∈ temps, -32768 ≤ x ∧ x < 32768) →
    Gives (.sensorRead temps) s fun t => t.power.temps.toList = temps ∧ t.get Obj.TJMAX ∈ temps ∧
      (∀ x ∈ temps, x ≤ t.get Obj.TJMAX) ∧ t.power.mode = s.power.mode ∧ SameMem s t ∧
      (s.get Obj.THROTTLE_C ≤ t.get Obj.TJMAX → s.nat Obj.THROTTLE_LEVEL < 7 → s.power.levelBeat = none →
        t.get Obj.THROTTLE_LEVEL = s.nat Obj.THROTTLE_LEVEL + 1 ∧ Rings s t 0x0C03 0) ∧
      (t.get Obj.TJMAX < s.get Obj.THROTTLE_C → s.get Obj.THROTTLE_C - 50 < t.get Obj.TJMAX →
        SameObj s t [Obj.TJMAX, Obj.TJMAX_SENSOR]))
end

