-- ==== Sys2Proof/Laws/Cells.lean ====
section
/-! SUPPORT. The laws of the sparse stores: what a key reads as after an erase, an insert and a set, and that each keeps the
canonical form. -/

namespace Sys2Proof.Machine

variable {α : Type}

theorem Cells.get_erase_same (l : List (Nat × α)) (k : Nat) (d : α) : Cells.get (Cells.erase l k) k d = d := by
  induction l with
  | nil => rfl
  | cons c r ih =>
    by_cases h : c.1 = k
    · simpa [Cells.erase, h] using ih
    · simpa [Cells.erase, Cells.get, h] using ih

theorem Cells.get_erase_other (l : List (Nat × α)) {k j : Nat} (h : j ≠ k) (d : α) :
    Cells.get (Cells.erase l k) j d = Cells.get l j d := by
  induction l with
  | nil => rfl
  | cons c r ih =>
    by_cases hc : c.1 = k
    · have : c.1 ≠ j := fun e => h (e.symm.trans hc)
      simpa [Cells.erase, Cells.get, hc, this, Ne.symm h] using ih
    · by_cases hj : c.1 = j <;> simp_all [Cells.erase, Cells.get]

theorem Cells.get_insert_same (l : List (Nat × α)) (k : Nat) (v d : α) (h : ∀ c ∈ l, c.1 ≠ k) :
    Cells.get (Cells.insert l k v) k d = v := by
  induction l with
  | nil => simp [Cells.insert, Cells.get]
  | cons c r ih =>
    have hc := h c (by simp)
    by_cases hk : k < c.1
    · simp [Cells.insert, Cells.get, hk]
    · simpa [Cells.insert, Cells.get, hk, hc] using ih fun e he => h e (by simp [he])

theorem Cells.get_insert_other (l : List (Nat × α)) {k j : Nat} (h : j ≠ k) (v d : α) :
    Cells.get (Cells.insert l k v) j d = Cells.get l j d := by
  induction l with
  | nil => simp [Cells.insert, Cells.get, Ne.symm h]
  | cons c r ih =>
    by_cases hk : k < c.1
    · simp [Cells.insert, Cells.get, hk, Ne.symm h]
    · simp only [Cells.insert, if_neg hk, Cells.get, ih]

theorem Cells.mem_erase {l : List (Nat × α)} {k : Nat} {c : Nat × α} : c ∈ Cells.erase l k ↔ c ∈ l ∧ c.1 ≠ k := by
  simp [Cells.erase]

theorem Cells.mem_insert {l : List (Nat × α)} {k : Nat} {v : α} {c : Nat × α} :
    c ∈ Cells.insert l k v ↔ c = (k, v) ∨ c ∈ l := by
  induction l with
  | nil => simp [Cells.insert]
  | cons e r ih =>
    by_cases hk : k < e.1
    · simp [Cells.insert, hk]
    · simp [Cells.insert, hk, ih, or_left_comm]

/-- WHAT A SET DOES, at its own key. -/
@[simp] theorem Cells.get_set_same [DecidableEq α] (l : List (Nat × α)) (k : Nat) (v d : α) :
    Cells.get (Cells.set l k v d) k d = v := by
  unfold Cells.set
  split
  · simp_all [Cells.get_erase_same]
  · exact Cells.get_insert_same _ _ _ _ fun c hc => (Cells.mem_erase.1 hc).2

/-- WHAT A SET DOES, at every other key. -/
theorem Cells.get_set_other [DecidableEq α] (l : List (Nat × α)) {k j : Nat} (h : j ≠ k) (v d e : α) :
    Cells.get (Cells.set l k v d) j e = Cells.get l j e := by
  unfold Cells.set
  split
  · exact Cells.get_erase_other l h e
  · rw [Cells.get_insert_other _ h, Cells.get_erase_other l h]

theorem Cells.wf_filter {dflt : Nat → α} {l : List (Nat × α)} (p : Nat × α → Bool) (h : Cells.Wf dflt l) :
    Cells.Wf dflt (l.filter p) :=
  ⟨h.1.sublist (List.filter_sublist.map _), fun c hc => h.2 c (List.mem_filter.1 hc).1⟩

theorem Cells.wf_insert {dflt : Nat → α} {l : List (Nat × α)} {k : Nat} {v : α} (h : Cells.Wf dflt l)
    (hk : ∀ c ∈ l, c.1 ≠ k) (hv : v ≠ dflt k) : Cells.Wf dflt (Cells.insert l k v) := by
  refine ⟨?_, fun c hc => ?_⟩
  · induction l with
    | nil => simp [Cells.insert]
    | cons e r ih =>
      have hr : Cells.Wf dflt r := ⟨(List.pairwise_cons.1 h.1).2, fun c hc => h.2 c (by simp [hc])⟩
      have hlt := (List.pairwise_cons.1 h.1).1
      have hke := hk e (by simp)
      by_cases hlt' : k < e.1
      · simp only [Cells.insert, hlt', if_true, List.map_cons, List.pairwise_cons]
        refine ⟨fun a ha => ?_, hlt, hr.1⟩
        rcases List.mem_cons.1 ha with rfl | ha
        · exact hlt'
        · exact hlt'.trans (hlt a ha)
      · simp only [Cells.insert, hlt', if_false, List.map_cons, List.pairwise_cons]
        refine ⟨fun a ha => ?_, ih hr fun c hc => hk c (by simp [hc])⟩
        obtain ⟨c, hc, rfl⟩ := List.mem_map.1 ha
        rcases Cells.mem_insert.1 hc with rfl | hc
        · show e.1 < k
          omega
        · exact hlt _ (List.mem_map_of_mem hc)
  · rcases Cells.mem_insert.1 hc with rfl | hc
    · exact hv
    · exact h.2 c hc

/-- A SET KEEPS THE CANONICAL FORM. -/
theorem Cells.wf_set [DecidableEq α] {dflt : Nat → α} {l : List (Nat × α)} (k : Nat) (v : α) (h : Cells.Wf dflt l) :
    Cells.Wf dflt (Cells.set l k v (dflt k)) := by
  unfold Cells.set
  have he : Cells.Wf dflt (Cells.erase l k) := Cells.wf_filter _ h
  split
  · exact he
  · exact Cells.wf_insert he (fun c hc => (Cells.mem_erase.1 hc).2) ‹_›

end Sys2Proof.Machine
end

