-- ==== Sys2Proof/Laws/Memory.lean ====
section
/-! SUPPORT. The laws of the byte memory: what a byte reads as after a write and a clear, and that both keep the canonical
form. -/

namespace Sys2Proof.Machine

variable {α : Type}

theorem Cells.get_append (l r : List (Nat × α)) (k : Nat) (d : α) :
    Cells.get (l ++ r) k d = Cells.get l k (Cells.get r k d) := by
  induction l with
  | nil => rfl
  | cons c l ih => simp [Cells.get, ih]

theorem Cells.get_filter (l : List (Nat × α)) (q : Nat → Bool) (k : Nat) (d : α) :
    Cells.get (l.filter fun c => q c.1) k d = if q k then Cells.get l k d else d := by
  induction l with
  | nil => simp [Cells.get]
  | cons c r ih =>
    by_cases hq : q c.1 <;> by_cases hk : c.1 = k
    · subst hk; simp [Cells.get, hq]
    · simp [Cells.get, hq, hk, ih]
    · subst hk; simp_all
    · simp [Cells.get, hq, hk, ih]

/-- The cells of a run of bytes. -/
def newCells (a : Nat) (bs : List Byte) : Mem := (bs.zipIdx.map fun e => (a + e.2, e.1)).filter fun c => c.2 ≠ memDefault c.1

theorem Mem.write_eq (m : Mem) (a : Nat) (bs : List Byte) :
    Mem.write m a bs = (m.filter fun c => c.1 < a) ++ newCells a bs ++ (m.filter fun c => a + bs.length ≤ c.1) := rfl

theorem get_newCells (bs : List Byte) (a i k : Nat) :
    Cells.get (((bs.zipIdx i).map fun e => (a + e.2, e.1)).filter fun c => c.2 ≠ memDefault c.1) k (memDefault k) =
      if a + i ≤ k ∧ k < a + i + bs.length then bs.getD (k - (a + i)) 0 else memDefault k := by
  induction bs generalizing i with
  | nil => simp [Cells.get]
  | cons b r ih =>
    have e : Cells.get ((((b :: r).zipIdx i).map fun e => (a + e.2, e.1)).filter fun c => c.2 ≠ memDefault c.1) k
        (memDefault k) = if a + i = k then b else
          Cells.get (((r.zipIdx (i + 1)).map fun e => (a + e.2, e.1)).filter fun c => c.2 ≠ memDefault c.1) k
            (memDefault k) := by
      by_cases hb : b = memDefault (a + i)
      · by_cases hk : a + i = k
        · subst hk
          rw [if_pos rfl, List.zipIdx_cons, List.map_cons, List.filter_cons_of_neg (by simp [hb]), ih]
          rw [if_neg (by omega), hb]
        · simp [List.zipIdx_cons, hb, hk]
      · simp [List.zipIdx_cons, Cells.get, hb]
    rw [e, ih]
    by_cases hk : a + i = k
    · subst hk; simp
    · rw [if_neg hk]
      by_cases h1 : a + (i + 1) ≤ k ∧ k < a + (i + 1) + r.length
      · rw [if_pos h1, if_pos (by simp; omega)]
        have : k - (a + i) = (k - (a + (i + 1))) + 1 := by omega
        rw [this]; simp
      · rw [if_neg h1, if_neg (by simp; omega)]

/-- WHAT A WRITE DOES: the bytes it stores read back, and every other byte reads as before. -/
theorem Mem.byte_write (m : Mem) (a : Nat) (bs : List Byte) (k : Nat) :
    Mem.byte (Mem.write m a bs) k = if a ≤ k ∧ k < a + bs.length then bs.getD (k - a) 0 else Mem.byte m k := by
  unfold Mem.byte
  rw [Mem.write_eq, Cells.get_append, Cells.get_append, newCells,
    Cells.get_filter m (fun x => decide (x < a)), Cells.get_filter m (fun x => decide (a + bs.length ≤ x))]
  by_cases h1 : k < a
  · have : ¬ (a ≤ k ∧ k < a + bs.length) := by omega
    have h3 : ¬ a + bs.length ≤ k := by omega
    simp only [h1, h3, this, decide_true, decide_false, if_true, if_false, Bool.false_eq_true]
    have := get_newCells bs a 0 k
    rw [this, if_neg (by omega)]
  · by_cases h2 : a + bs.length ≤ k
    · have h3 : ¬ (a ≤ k ∧ k < a + bs.length) := by omega
      simp only [h1, h2, h3, decide_true, decide_false, if_true, if_false, Bool.false_eq_true]
      rw [← List.filterMap_eq_filter]
      have key : ∀ (l : Mem) (d : Byte), (∀ c ∈ l, c.1 ≠ k) → Cells.get l k d = d := by
        intro l d h
        induction l with
        | nil => rfl
        | cons c l ih => simp [Cells.get, h c (by simp), ih fun e he => h e (by simp [he])]
      refine key _ _ fun c hc => ?_
      rw [List.filterMap_eq_filter] at hc
      obtain ⟨⟨x, i⟩, he, rfl⟩ := List.mem_map.1 (List.mem_filter.1 hc).1
      have := (List.mem_zipIdx he).2.1
      simp at this ⊢
      omega
    · have h3 : a ≤ k ∧ k < a + bs.length := by omega
      simp only [h1, h2, h3, decide_false, if_false, Bool.false_eq_true, and_self, if_true]
      have := get_newCells bs a 0 k
      rw [this, if_pos (by omega)]; simp

/-- WHAT A CLEAR DOES. -/
theorem Mem.byte_clear (m : Mem) (lo hi k : Nat) :
    Mem.byte (Mem.clear m lo hi) k = if lo ≤ k ∧ k < hi then memDefault k else Mem.byte m k := by
  unfold Mem.byte Mem.clear
  rw [Cells.get_filter m (fun x => x < lo || hi ≤ x)]
  by_cases h : lo ≤ k ∧ k < hi
  · rw [if_pos h, if_neg (by simp; omega)]
  · rw [if_neg h, if_pos (by simp; omega)]

theorem newCells_keys (bs : List Byte) (a i : Nat) :
    (((bs.zipIdx i).map fun e => (a + e.2, e.1)).map (·.1)).Pairwise (· < ·) := by
  induction bs generalizing i with
  | nil => simp
  | cons b r ih =>
    simp only [List.zipIdx_cons, List.map_cons, List.pairwise_cons]
    refine ⟨fun x hx => ?_, ih (i + 1)⟩
    obtain ⟨c, hc, rfl⟩ := List.mem_map.1 hx
    obtain ⟨⟨y, j⟩, he, rfl⟩ := List.mem_map.1 hc
    have := (List.mem_zipIdx he).1
    simp
    omega

/-- A WRITE KEEPS THE CANONICAL FORM. -/
theorem Mem.wf_write {m : Mem} (a : Nat) (bs : List Byte) (h : Mem.Wf m) : Mem.Wf (Mem.write m a bs) := by
  have hn : Mem.Wf (newCells a bs) :=
    ⟨(newCells_keys bs a 0).sublist (List.filter_sublist.map _), fun c hc => by simpa using (List.mem_filter.1 hc).2⟩
  have hin : ∀ c ∈ newCells a bs, a ≤ c.1 ∧ c.1 < a + bs.length := by
    intro c hc
    obtain ⟨⟨x, i⟩, he, rfl⟩ := List.mem_map.1 (List.mem_filter.1 hc).1
    have := (List.mem_zipIdx he)
    simp at this ⊢
    omega
  rw [Mem.write_eq]
  refine ⟨?_, fun c hc => ?_⟩
  · rw [List.map_append, List.map_append, List.pairwise_append, List.pairwise_append]
    refine ⟨⟨(Cells.wf_filter _ h).1, hn.1, ?_⟩, (Cells.wf_filter _ h).1, ?_⟩
    · intro x hx y hy
      obtain ⟨c, hc, rfl⟩ := List.mem_map.1 hx
      obtain ⟨e, he, rfl⟩ := List.mem_map.1 hy
      have h1 := (List.mem_filter.1 hc).2
      have h2 := hin e he
      simp at h1
      omega
    · intro x hx y hy
      obtain ⟨e, he, rfl⟩ := List.mem_map.1 hy
      have h1 := (List.mem_filter.1 he).2
      simp at h1
      rw [← List.map_append] at hx
      obtain ⟨c, hc, rfl⟩ := List.mem_map.1 hx
      rcases List.mem_append.1 hc with hc | hc
      · have h2 := (List.mem_filter.1 hc).2
        simp at h2
        omega
      · have h2 := hin c hc
        omega
  · rcases List.mem_append.1 hc with hc | hc
    · rcases List.mem_append.1 hc with hc | hc
      · exact h.2 c (List.mem_filter.1 hc).1
      · exact hn.2 c hc
    · exact h.2 c (List.mem_filter.1 hc).1

/-- A CLEAR KEEPS THE CANONICAL FORM. -/
theorem Mem.wf_clear {m : Mem} (lo hi : Nat) (h : Mem.Wf m) : Mem.Wf (Mem.clear m lo hi) := Cells.wf_filter _ h

end Sys2Proof.Machine
end

