-- ==== Sys2Proof/Laws/State.lean ====
section
/-! SUPPORT. One lemma for each field and each plain update of State, true by rfl, so that no later proof unfolds a record
update. -/

namespace Sys2Proof.Machine

variable (s : State)

/-! ## State.put -/

@[simp] theorem State.put_pending (k : Nat) (v : Int) : (s.put k v).pending = s.pending := rfl
@[simp] theorem State.put_free (k : Nat) (v : Int) : (s.put k v).free = s.free := rfl
@[simp] theorem State.put_otp (k : Nat) (v : Int) : (s.put k v).otp = s.otp := rfl
@[simp] theorem State.put_mem (k : Nat) (v : Int) : (s.put k v).mem = s.mem := rfl
@[simp] theorem State.put_banks (k : Nat) (v : Int) : (s.put k v).banks = s.banks := rfl
@[simp] theorem State.put_eccBad (k : Nat) (v : Int) : (s.put k v).eccBad = s.eccBad := rfl
@[simp] theorem State.put_clk (k : Nat) (v : Int) : (s.put k v).clk = s.clk := rfl
@[simp] theorem State.put_strokes (k : Nat) (v : Int) : (s.put k v).strokes = s.strokes := rfl
@[simp] theorem State.put_focal (k : Nat) (v : Int) : (s.put k v).focal = s.focal := rfl
@[simp] theorem State.put_mc (k : Nat) (v : Int) : (s.put k v).mc = s.mc := rfl
@[simp] theorem State.put_fab (k : Nat) (v : Int) : (s.put k v).fab = s.fab := rfl
@[simp] theorem State.put_pix (k : Nat) (v : Int) : (s.put k v).pix = s.pix := rfl
@[simp] theorem State.put_shadow (k : Nat) (v : Int) : (s.put k v).shadow = s.shadow := rfl
@[simp] theorem State.put_pipe (k : Nat) (v : Int) : (s.put k v).pipe = s.pipe := rfl
@[simp] theorem State.put_cal (k : Nat) (v : Int) : (s.put k v).cal = s.cal := rfl
@[simp] theorem State.put_rolls (k : Nat) (v : Int) : (s.put k v).rolls = s.rolls := rfl
@[simp] theorem State.put_views (k : Nat) (v : Int) : (s.put k v).views = s.views := rfl
@[simp] theorem State.put_lanes (k : Nat) (v : Int) : (s.put k v).lanes = s.lanes := rfl
@[simp] theorem State.put_eye (k : Nat) (v : Int) : (s.put k v).eye = s.eye := rfl
@[simp] theorem State.put_dict (k : Nat) (v : Int) : (s.put k v).dict = s.dict := rfl
@[simp] theorem State.put_ports (k : Nat) (v : Int) : (s.put k v).ports = s.ports := rfl
@[simp] theorem State.put_act (k : Nat) (v : Int) : (s.put k v).act = s.act := rfl
@[simp] theorem State.put_ens (k : Nat) (v : Int) : (s.put k v).ens = s.ens := rfl
@[simp] theorem State.put_lands (k : Nat) (v : Int) : (s.put k v).lands = s.lands := rfl
@[simp] theorem State.put_power (k : Nat) (v : Int) : (s.put k v).power = s.power := rfl

/-! ## State.poke -/

@[simp] theorem State.poke_pending (a : Nat) (bs : List Byte) : (s.poke a bs).pending = s.pending := rfl
@[simp] theorem State.poke_free (a : Nat) (bs : List Byte) : (s.poke a bs).free = s.free := rfl
@[simp] theorem State.poke_otp (a : Nat) (bs : List Byte) : (s.poke a bs).otp = s.otp := rfl
@[simp] theorem State.poke_obj (a : Nat) (bs : List Byte) : (s.poke a bs).obj = s.obj := rfl
@[simp] theorem State.poke_banks (a : Nat) (bs : List Byte) : (s.poke a bs).banks = s.banks := rfl
@[simp] theorem State.poke_clk (a : Nat) (bs : List Byte) : (s.poke a bs).clk = s.clk := rfl
@[simp] theorem State.poke_strokes (a : Nat) (bs : List Byte) : (s.poke a bs).strokes = s.strokes := rfl
@[simp] theorem State.poke_focal (a : Nat) (bs : List Byte) : (s.poke a bs).focal = s.focal := rfl
@[simp] theorem State.poke_mc (a : Nat) (bs : List Byte) : (s.poke a bs).mc = s.mc := rfl
@[simp] theorem State.poke_fab (a : Nat) (bs : List Byte) : (s.poke a bs).fab = s.fab := rfl
@[simp] theorem State.poke_pix (a : Nat) (bs : List Byte) : (s.poke a bs).pix = s.pix := rfl
@[simp] theorem State.poke_shadow (a : Nat) (bs : List Byte) : (s.poke a bs).shadow = s.shadow := rfl
@[simp] theorem State.poke_pipe (a : Nat) (bs : List Byte) : (s.poke a bs).pipe = s.pipe := rfl
@[simp] theorem State.poke_cal (a : Nat) (bs : List Byte) : (s.poke a bs).cal = s.cal := rfl
@[simp] theorem State.poke_rolls (a : Nat) (bs : List Byte) : (s.poke a bs).rolls = s.rolls := rfl
@[simp] theorem State.poke_views (a : Nat) (bs : List Byte) : (s.poke a bs).views = s.views := rfl
@[simp] theorem State.poke_lanes (a : Nat) (bs : List Byte) : (s.poke a bs).lanes = s.lanes := rfl
@[simp] theorem State.poke_eye (a : Nat) (bs : List Byte) : (s.poke a bs).eye = s.eye := rfl
@[simp] theorem State.poke_dict (a : Nat) (bs : List Byte) : (s.poke a bs).dict = s.dict := rfl
@[simp] theorem State.poke_ports (a : Nat) (bs : List Byte) : (s.poke a bs).ports = s.ports := rfl
@[simp] theorem State.poke_act (a : Nat) (bs : List Byte) : (s.poke a bs).act = s.act := rfl
@[simp] theorem State.poke_ens (a : Nat) (bs : List Byte) : (s.poke a bs).ens = s.ens := rfl
@[simp] theorem State.poke_lands (a : Nat) (bs : List Byte) : (s.poke a bs).lands = s.lands := rfl
@[simp] theorem State.poke_power (a : Nat) (bs : List Byte) : (s.poke a bs).power = s.power := rfl

/-! ## State.wipe -/

@[simp] theorem State.wipe_pending (lo hi : Nat) : (s.wipe lo hi).pending = s.pending := rfl
@[simp] theorem State.wipe_free (lo hi : Nat) : (s.wipe lo hi).free = s.free := rfl
@[simp] theorem State.wipe_otp (lo hi : Nat) : (s.wipe lo hi).otp = s.otp := rfl
@[simp] theorem State.wipe_obj (lo hi : Nat) : (s.wipe lo hi).obj = s.obj := rfl
@[simp] theorem State.wipe_banks (lo hi : Nat) : (s.wipe lo hi).banks = s.banks := rfl
@[simp] theorem State.wipe_clk (lo hi : Nat) : (s.wipe lo hi).clk = s.clk := rfl
@[simp] theorem State.wipe_strokes (lo hi : Nat) : (s.wipe lo hi).strokes = s.strokes := rfl
@[simp] theorem State.wipe_focal (lo hi : Nat) : (s.wipe lo hi).focal = s.focal := rfl
@[simp] theorem State.wipe_mc (lo hi : Nat) : (s.wipe lo hi).mc = s.mc := rfl
@[simp] theorem State.wipe_fab (lo hi : Nat) : (s.wipe lo hi).fab = s.fab := rfl
@[simp] theorem State.wipe_pix (lo hi : Nat) : (s.wipe lo hi).pix = s.pix := rfl
@[simp] theorem State.wipe_shadow (lo hi : Nat) : (s.wipe lo hi).shadow = s.shadow := rfl
@[simp] theorem State.wipe_pipe (lo hi : Nat) : (s.wipe lo hi).pipe = s.pipe := rfl
@[simp] theorem State.wipe_cal (lo hi : Nat) : (s.wipe lo hi).cal = s.cal := rfl
@[simp] theorem State.wipe_rolls (lo hi : Nat) : (s.wipe lo hi).rolls = s.rolls := rfl
@[simp] theorem State.wipe_views (lo hi : Nat) : (s.wipe lo hi).views = s.views := rfl
@[simp] theorem State.wipe_lanes (lo hi : Nat) : (s.wipe lo hi).lanes = s.lanes := rfl
@[simp] theorem State.wipe_eye (lo hi : Nat) : (s.wipe lo hi).eye = s.eye := rfl
@[simp] theorem State.wipe_dict (lo hi : Nat) : (s.wipe lo hi).dict = s.dict := rfl
@[simp] theorem State.wipe_ports (lo hi : Nat) : (s.wipe lo hi).ports = s.ports := rfl
@[simp] theorem State.wipe_act (lo hi : Nat) : (s.wipe lo hi).act = s.act := rfl
@[simp] theorem State.wipe_ens (lo hi : Nat) : (s.wipe lo hi).ens = s.ens := rfl
@[simp] theorem State.wipe_lands (lo hi : Nat) : (s.wipe lo hi).lands = s.lands := rfl
@[simp] theorem State.wipe_power (lo hi : Nat) : (s.wipe lo hi).power = s.power := rfl

/-! ## State.drawn -/

@[simp] theorem State.drawn_pending (n : Nat) : (s.drawn n).pending = s.pending := rfl
@[simp] theorem State.drawn_otp (n : Nat) : (s.drawn n).otp = s.otp := rfl
@[simp] theorem State.drawn_obj (n : Nat) : (s.drawn n).obj = s.obj := rfl
@[simp] theorem State.drawn_mem (n : Nat) : (s.drawn n).mem = s.mem := rfl
@[simp] theorem State.drawn_banks (n : Nat) : (s.drawn n).banks = s.banks := rfl
@[simp] theorem State.drawn_eccBad (n : Nat) : (s.drawn n).eccBad = s.eccBad := rfl
@[simp] theorem State.drawn_clk (n : Nat) : (s.drawn n).clk = s.clk := rfl
@[simp] theorem State.drawn_strokes (n : Nat) : (s.drawn n).strokes = s.strokes := rfl
@[simp] theorem State.drawn_focal (n : Nat) : (s.drawn n).focal = s.focal := rfl
@[simp] theorem State.drawn_mc (n : Nat) : (s.drawn n).mc = s.mc := rfl
@[simp] theorem State.drawn_fab (n : Nat) : (s.drawn n).fab = s.fab := rfl
@[simp] theorem State.drawn_pix (n : Nat) : (s.drawn n).pix = s.pix := rfl
@[simp] theorem State.drawn_shadow (n : Nat) : (s.drawn n).shadow = s.shadow := rfl
@[simp] theorem State.drawn_pipe (n : Nat) : (s.drawn n).pipe = s.pipe := rfl
@[simp] theorem State.drawn_cal (n : Nat) : (s.drawn n).cal = s.cal := rfl
@[simp] theorem State.drawn_rolls (n : Nat) : (s.drawn n).rolls = s.rolls := rfl
@[simp] theorem State.drawn_views (n : Nat) : (s.drawn n).views = s.views := rfl
@[simp] theorem State.drawn_lanes (n : Nat) : (s.drawn n).lanes = s.lanes := rfl
@[simp] theorem State.drawn_eye (n : Nat) : (s.drawn n).eye = s.eye := rfl
@[simp] theorem State.drawn_dict (n : Nat) : (s.drawn n).dict = s.dict := rfl
@[simp] theorem State.drawn_ports (n : Nat) : (s.drawn n).ports = s.ports := rfl
@[simp] theorem State.drawn_act (n : Nat) : (s.drawn n).act = s.act := rfl
@[simp] theorem State.drawn_ens (n : Nat) : (s.drawn n).ens = s.ens := rfl
@[simp] theorem State.drawn_lands (n : Nat) : (s.drawn n).lands = s.lands := rfl
@[simp] theorem State.drawn_power (n : Nat) : (s.drawn n).power = s.power := rfl

/-! ## State.send -/

@[simp] theorem State.send_pending (m : Sent) : (s.send m).pending = s.pending := rfl
@[simp] theorem State.send_free (m : Sent) : (s.send m).free = s.free := rfl
@[simp] theorem State.send_otp (m : Sent) : (s.send m).otp = s.otp := rfl
@[simp] theorem State.send_obj (m : Sent) : (s.send m).obj = s.obj := rfl
@[simp] theorem State.send_mem (m : Sent) : (s.send m).mem = s.mem := rfl
@[simp] theorem State.send_banks (m : Sent) : (s.send m).banks = s.banks := rfl
@[simp] theorem State.send_eccBad (m : Sent) : (s.send m).eccBad = s.eccBad := rfl
@[simp] theorem State.send_clk (m : Sent) : (s.send m).clk = s.clk := rfl
@[simp] theorem State.send_strokes (m : Sent) : (s.send m).strokes = s.strokes := rfl
@[simp] theorem State.send_focal (m : Sent) : (s.send m).focal = s.focal := rfl
@[simp] theorem State.send_mc (m : Sent) : (s.send m).mc = s.mc := rfl
@[simp] theorem State.send_fab (m : Sent) : (s.send m).fab = s.fab := rfl
@[simp] theorem State.send_pix (m : Sent) : (s.send m).pix = s.pix := rfl
@[simp] theorem State.send_shadow (m : Sent) : (s.send m).shadow = s.shadow := rfl
@[simp] theorem State.send_pipe (m : Sent) : (s.send m).pipe = s.pipe := rfl
@[simp] theorem State.send_cal (m : Sent) : (s.send m).cal = s.cal := rfl
@[simp] theorem State.send_rolls (m : Sent) : (s.send m).rolls = s.rolls := rfl
@[simp] theorem State.send_views (m : Sent) : (s.send m).views = s.views := rfl
@[simp] theorem State.send_lanes (m : Sent) : (s.send m).lanes = s.lanes := rfl
@[simp] theorem State.send_eye (m : Sent) : (s.send m).eye = s.eye := rfl
@[simp] theorem State.send_ports (m : Sent) : (s.send m).ports = s.ports := rfl
@[simp] theorem State.send_act (m : Sent) : (s.send m).act = s.act := rfl
@[simp] theorem State.send_ens (m : Sent) : (s.send m).ens = s.ens := rfl
@[simp] theorem State.send_lands (m : Sent) : (s.send m).lands = s.lands := rfl
@[simp] theorem State.send_power (m : Sent) : (s.send m).power = s.power := rfl

/-! ## State.setDomain -/

@[simp] theorem State.setDomain_pending (d v : Nat) : (s.setDomain d v).pending = s.pending := rfl
@[simp] theorem State.setDomain_free (d v : Nat) : (s.setDomain d v).free = s.free := rfl
@[simp] theorem State.setDomain_otp (d v : Nat) : (s.setDomain d v).otp = s.otp := rfl
@[simp] theorem State.setDomain_obj (d v : Nat) : (s.setDomain d v).obj = s.obj := rfl
@[simp] theorem State.setDomain_mem (d v : Nat) : (s.setDomain d v).mem = s.mem := rfl
@[simp] theorem State.setDomain_banks (d v : Nat) : (s.setDomain d v).banks = s.banks := rfl
@[simp] theorem State.setDomain_eccBad (d v : Nat) : (s.setDomain d v).eccBad = s.eccBad := rfl
@[simp] theorem State.setDomain_clk (d v : Nat) : (s.setDomain d v).clk = s.clk := rfl
@[simp] theorem State.setDomain_strokes (d v : Nat) : (s.setDomain d v).strokes = s.strokes := rfl
@[simp] theorem State.setDomain_focal (d v : Nat) : (s.setDomain d v).focal = s.focal := rfl
@[simp] theorem State.setDomain_mc (d v : Nat) : (s.setDomain d v).mc = s.mc := rfl
@[simp] theorem State.setDomain_fab (d v : Nat) : (s.setDomain d v).fab = s.fab := rfl
@[simp] theorem State.setDomain_pix (d v : Nat) : (s.setDomain d v).pix = s.pix := rfl
@[simp] theorem State.setDomain_shadow (d v : Nat) : (s.setDomain d v).shadow = s.shadow := rfl
@[simp] theorem State.setDomain_pipe (d v : Nat) : (s.setDomain d v).pipe = s.pipe := rfl
@[simp] theorem State.setDomain_cal (d v : Nat) : (s.setDomain d v).cal = s.cal := rfl
@[simp] theorem State.setDomain_rolls (d v : Nat) : (s.setDomain d v).rolls = s.rolls := rfl
@[simp] theorem State.setDomain_views (d v : Nat) : (s.setDomain d v).views = s.views := rfl
@[simp] theorem State.setDomain_lanes (d v : Nat) : (s.setDomain d v).lanes = s.lanes := rfl
@[simp] theorem State.setDomain_eye (d v : Nat) : (s.setDomain d v).eye = s.eye := rfl
@[simp] theorem State.setDomain_dict (d v : Nat) : (s.setDomain d v).dict = s.dict := rfl
@[simp] theorem State.setDomain_ports (d v : Nat) : (s.setDomain d v).ports = s.ports := rfl
@[simp] theorem State.setDomain_act (d v : Nat) : (s.setDomain d v).act = s.act := rfl
@[simp] theorem State.setDomain_ens (d v : Nat) : (s.setDomain d v).ens = s.ens := rfl
@[simp] theorem State.setDomain_lands (d v : Nat) : (s.setDomain d v).lands = s.lands := rfl

/-! ## State.pullGong -/

@[simp] theorem State.pullGong_pending (c : Option Nat) : (s.pullGong c).pending = s.pending := rfl
@[simp] theorem State.pullGong_free (c : Option Nat) : (s.pullGong c).free = s.free := rfl
@[simp] theorem State.pullGong_otp (c : Option Nat) : (s.pullGong c).otp = s.otp := rfl
@[simp] theorem State.pullGong_obj (c : Option Nat) : (s.pullGong c).obj = s.obj := rfl
@[simp] theorem State.pullGong_mem (c : Option Nat) : (s.pullGong c).mem = s.mem := rfl
@[simp] theorem State.pullGong_banks (c : Option Nat) : (s.pullGong c).banks = s.banks := rfl
@[simp] theorem State.pullGong_eccBad (c : Option Nat) : (s.pullGong c).eccBad = s.eccBad := rfl
@[simp] theorem State.pullGong_clk (c : Option Nat) : (s.pullGong c).clk = s.clk := rfl
@[simp] theorem State.pullGong_strokes (c : Option Nat) : (s.pullGong c).strokes = s.strokes := rfl
@[simp] theorem State.pullGong_focal (c : Option Nat) : (s.pullGong c).focal = s.focal := rfl
@[simp] theorem State.pullGong_mc (c : Option Nat) : (s.pullGong c).mc = s.mc := rfl
@[simp] theorem State.pullGong_fab (c : Option Nat) : (s.pullGong c).fab = s.fab := rfl
@[simp] theorem State.pullGong_pix (c : Option Nat) : (s.pullGong c).pix = s.pix := rfl
@[simp] theorem State.pullGong_shadow (c : Option Nat) : (s.pullGong c).shadow = s.shadow := rfl
@[simp] theorem State.pullGong_pipe (c : Option Nat) : (s.pullGong c).pipe = s.pipe := rfl
@[simp] theorem State.pullGong_cal (c : Option Nat) : (s.pullGong c).cal = s.cal := rfl
@[simp] theorem State.pullGong_rolls (c : Option Nat) : (s.pullGong c).rolls = s.rolls := rfl
@[simp] theorem State.pullGong_views (c : Option Nat) : (s.pullGong c).views = s.views := rfl
@[simp] theorem State.pullGong_lanes (c : Option Nat) : (s.pullGong c).lanes = s.lanes := rfl
@[simp] theorem State.pullGong_eye (c : Option Nat) : (s.pullGong c).eye = s.eye := rfl
@[simp] theorem State.pullGong_dict (c : Option Nat) : (s.pullGong c).dict = s.dict := rfl
@[simp] theorem State.pullGong_ports (c : Option Nat) : (s.pullGong c).ports = s.ports := rfl
@[simp] theorem State.pullGong_act (c : Option Nat) : (s.pullGong c).act = s.act := rfl
@[simp] theorem State.pullGong_power (c : Option Nat) : (s.pullGong c).power = s.power := rfl

/-! ## The fields that an update does change -/

@[simp] theorem State.poke_mem (a : Nat) (bs : List Byte) : (s.poke a bs).mem = Mem.write s.mem a bs := rfl
@[simp] theorem State.wipe_mem (lo hi : Nat) : (s.wipe lo hi).mem = Mem.clear s.mem lo hi := rfl
@[simp] theorem State.put_obj (k : Nat) (v : Int) : (s.put k v).obj = Cells.set s.obj k (objWrap k v) (objDefault k) := rfl
@[simp] theorem State.drawn_free (n : Nat) : (s.drawn n).free = s.free + n := rfl
@[simp] theorem State.send_sent (m : Sent) : (s.send m).dict.sent = s.dict.sent ++ [m] := rfl
@[simp] theorem State.send_bells (m : Sent) : (s.send m).dict.bells = s.dict.bells := rfl
@[simp] theorem State.setDomain_rails (d v : Nat) : (s.setDomain d v).power.rails = s.power.rails := rfl
@[simp] theorem State.setDomain_mode (d v : Nat) : (s.setDomain d v).power.mode = s.power.mode := rfl
@[simp] theorem State.pullGong_own (c : Option Nat) : (s.pullGong c).lands.gongOwn = true := rfl
@[simp] theorem State.pullGong_end (c : Option Nat) : (s.pullGong c).lands.gongEnd = s.clk.beats + 2000 := rfl
@[simp] theorem State.put_get (k : Nat) (v : Int) : (s.put k v).get k = objWrap k v := by
  unfold State.put State.get
  exact Cells.get_set_same _ _ _ _
@[simp] theorem State.put_now (k : Nat) (v : Int) : (s.put k v).now = s.now := rfl

end Sys2Proof.Machine
end

