-- ==== Sys2Proof/Laws/Ops.lean ====
section
/-! SUPPORT. What each shared operation over objects, memory, bells and the event store can do, said once. -/

namespace Sys2Proof.Machine

variable (s : State)

/-! ## Objects -/

theorem State.put_get_other {k j : Nat} (h : j ≠ k) (v : Int) : (s.put k v).get j = s.get j := by
  unfold State.put State.get
  exact Cells.get_set_other _ h _ _ _

theorem State.put_nat (k : Nat) (v : Int) : (s.put k v).nat k = (objWrap k v).toNat := by simp [State.nat]

theorem State.put_nat_other {k j : Nat} (h : j ≠ k) (v : Int) : (s.put k v).nat j = s.nat j := by
  simp [State.nat, State.put_get_other s h]

/-- COUNTING is one put or nothing. -/
theorem State.bump_cases (k n : Nat) : s.bump k n = s ∨ ∃ v, s.bump k n = s.put k v := by
  unfold State.bump
  split
  · exact .inl rfl
  · exact .inr ⟨_, rfl⟩

/-- PUTTING BYTES changes objects only. -/
theorem State.putBytes_frame (bs : List Byte) (k off : Nat) : ∃ o, s.putBytes k off bs = { s with obj := o } := by
  induction bs generalizing s off with
  | nil => exact ⟨s.obj, rfl⟩
  | cons b r ih =>
    obtain ⟨o, ho⟩ := ih (s.put (k + off) b.toNat) (off + 1)
    exact ⟨o, by rw [State.putBytes, ho]; rfl⟩

/-- An unsigned scalar holds every number that its type holds. -/
theorem objWrap_nat (k v sz : Nat)
    (h : ∃ r, objRow? (k / 2 ^ 40) (k / 2 ^ 32 % 256) = some r ∧ r.ty ≠ .blob ∧ r.ty.signed = false ∧ r.size = sz)
    (hv : v < 2 ^ (8 * sz)) : objWrap k (v : Int) = v := by
  obtain ⟨r, hr, hb, hs, rfl⟩ := h
  have e : ((v : Int) % 2 ^ (8 * r.size)) = v := Int.emod_eq_of_lt (by omega) (by exact_mod_cast hv)
  simp only [objWrap, hr, ObjRow.wrap, hs, hb, wrapNat, e]
  simp

/-! ## Memory -/

theorem State.byte_poke (a : Nat) (bs : List Byte) (k : Nat) :
    (s.poke a bs).byte k = if a ≤ k ∧ k < a + bs.length then bs.getD (k - a) 0 else s.byte k :=
  Mem.byte_write s.mem a bs k

theorem State.byte_wipe (lo hi k : Nat) :
    (s.wipe lo hi).byte k = if lo ≤ k ∧ k < hi then memDefault k else s.byte k :=
  Mem.byte_clear s.mem lo hi k

/-! ## Bells -/

/-- RAISING A BELL changes the dictionary part and the object store, nothing else. -/
theorem State.bell_frame (code arg : Nat) : ∃ o d, s.bell code arg = { s with obj := o, dict := d } ∧ d.sent = s.dict.sent := by
  unfold State.bell
  dsimp only
  split
  · exact ⟨_, _, rfl, rfl⟩
  · rcases State.bump_cases (s.put Obj.BELL_NEXT_SEQ ((s.nat Obj.BELL_NEXT_SEQ : Int) + 1)) Obj.BELL_LOST 1 with h | ⟨v, h⟩
    · exact ⟨_, _, h, rfl⟩
    · exact ⟨_, _, h, rfl⟩

/-! ## The canonical form is kept by every operation -/

variable {s}

theorem State.put_canonical (k : Nat) (v : Int) (h : Mem.Wf s.mem ∧ Cells.Wf objDefault s.obj) :
    Mem.Wf (s.put k v).mem ∧ Cells.Wf objDefault (s.put k v).obj :=
  ⟨h.1, Cells.wf_set k _ h.2⟩

theorem State.poke_canonical (a : Nat) (bs : List Byte) (h : Mem.Wf s.mem ∧ Cells.Wf objDefault s.obj) :
    Mem.Wf (s.poke a bs).mem ∧ Cells.Wf objDefault (s.poke a bs).obj :=
  ⟨Mem.wf_write a bs h.1, h.2⟩

theorem State.wipe_canonical (lo hi : Nat) (h : Mem.Wf s.mem ∧ Cells.Wf objDefault s.obj) :
    Mem.Wf (s.wipe lo hi).mem ∧ Cells.Wf objDefault (s.wipe lo hi).obj :=
  ⟨Mem.wf_clear lo hi h.1, h.2⟩

theorem State.bump_canonical (k n : Nat) (h : Mem.Wf s.mem ∧ Cells.Wf objDefault s.obj) :
    Mem.Wf (s.bump k n).mem ∧ Cells.Wf objDefault (s.bump k n).obj := by
  rcases State.bump_cases s k n with e | ⟨v, e⟩ <;> rw [e]
  · exact h
  · exact State.put_canonical k v h

theorem State.putBytes_canonical (bs : List Byte) (k off : Nat) (h : Mem.Wf s.mem ∧ Cells.Wf objDefault s.obj) :
    Mem.Wf (s.putBytes k off bs).mem ∧ Cells.Wf objDefault (s.putBytes k off bs).obj := by
  induction bs generalizing s off with
  | nil => exact h
  | cons b r ih => exact ih (off + 1) (State.put_canonical (k + off) b.toNat h)

theorem State.bell_canonical (code arg : Nat) (h : Mem.Wf s.mem ∧ Cells.Wf objDefault s.obj) :
    Mem.Wf (s.bell code arg).mem ∧ Cells.Wf objDefault (s.bell code arg).obj := by
  unfold State.bell
  dsimp only
  have hp := State.put_canonical Obj.BELL_NEXT_SEQ ((s.nat Obj.BELL_NEXT_SEQ : Int) + 1) h
  split
  · exact hp
  · exact State.bump_canonical _ _ hp

theorem State.event_canonical (cause sensor : Nat) (temp : Int) (h : Mem.Wf s.mem ∧ Cells.Wf objDefault s.obj) :
    Mem.Wf (s.event cause sensor temp).mem ∧ Cells.Wf objDefault (s.event cause sensor temp).obj :=
  State.wipe_canonical _ _ (State.poke_canonical _ _ (State.poke_canonical _ _ h))

/-- A fold of changes that each keep the canonical form keeps it. -/
theorem State.each_canonical {α : Type} (xs : List α) (f : State → α → State)
    (hf : ∀ u x, Mem.Wf u.mem ∧ Cells.Wf objDefault u.obj → Mem.Wf (f u x).mem ∧ Cells.Wf objDefault (f u x).obj)
    (h : Mem.Wf s.mem ∧ Cells.Wf objDefault s.obj) :
    Mem.Wf (s.each xs f).mem ∧ Cells.Wf objDefault (s.each xs f).obj := by
  unfold State.each
  induction xs generalizing s with
  | nil => exact h
  | cons x r ih => exact ih (hf s x h)

theorem State.reset_canonical : Mem.Wf State.reset.mem ∧ Cells.Wf objDefault State.reset.obj := by
  constructor <;> exact ⟨List.Pairwise.nil, fun c hc => absurd hc (by simp [State.reset])⟩

end Sys2Proof.Machine
end

