-- ==== Sys2Proof/Laws/Engine.lean ====
section
/-! SUPPORT. What issuing an instruction can do, said once: who issues, one engine replaced among the others, a charge, and an
instruction that goes on (05_engine_instructions.md R144, R151, R155). -/

namespace Sys2Proof.Machine

/-- THE ENGINE THAT ISSUES runs, waits for nothing, and has neither ended nor faulted. -/
theorem State.issues_run {s : State} {p op : Nat} {f : BitVec 26} {e : Engine} {x : Run} (h : s.issues p op f = some (e, x)) :
    s.engine p = e ∧ e.run = some x ∧ x.ended = false ∧ x.fault = 0 := by
  unfold State.issues at h
  dsimp only at h
  split at h
  · cases h
  · rename_i y hy
    split at h
    · rename_i hc
      simp only [Option.some.injEq, Prod.mk.injEq] at h
      obtain ⟨rfl, rfl⟩ := h
      simp only [Bool.and_eq_true, Bool.not_eq_true', decide_eq_true_eq] at hc
      exact ⟨rfl, hy, hc.1.1.1.2, hc.1.1.2⟩
    · cases h

/-- REPLACING AN ENGINE leaves every other engine. -/
theorem State.engine_setEngine (s : State) (p : Fin 272) (e : Engine) (j : Nat) :
    (s.setEngine p e).engine j = if j = p.val then e else s.engine j := by
  unfold State.setEngine State.engine
  by_cases h : j = p.val
  · subst h
    simp
  · simp [h, Ne.symm h]

/-- A CHARGE changes the budgets only. -/
theorem State.spend_frame (s : State) (i c n : Nat) : ∃ r, s.spend i c n = { s with rolls := r } := by
  unfold State.spend
  split
  · exact ⟨s.rolls, rfl⟩
  · exact ⟨_, rfl⟩

/-- Moving on leaves ICOUNT. -/
theorem Engine.advance_icount (e : Engine) (pc : Nat) : (e.advance pc).icount = e.icount := by
  unfold Engine.advance
  split
  · split
    · split <;> rfl
    · rfl
  · rfl

/-- AN INSTRUCTION THAT GOES ON: with its class in budget or a PFX word gone before, legal, and a body that answers `.next` in the state
`u` with the run still running, the state after it is `u` with the engine moved on and the PFX word used up, and the budgets
charged. -/
theorem State.instr_next {s u : State} {p : Fin 272} {op : Nat} {f : BitVec 26} {e e1 : Engine} {x x1 : Run} {cycles : Nat}
    {takes legal : Bool} {body : Engine → Run → Eff} (hi : s.issues p op f = some (e, x))
    (hm : x.pfx?.isSome = true ∨ s.maySpend ((s.regionOfEngine p).getD 0) x.kind.cls = true)
    (hp : x.pfx? = none ∨ takes = true) (hl : legal = true) (hb : body e x = (u, .next)) (hu : u.engine p = e1)
    (hr : e1.run = some x1) (hx : x1.ended = false) (hin : u.inProgram x1.slot (e1.advance e.pc).pc = true) :
    ∃ r, s.instr p op f cycles takes legal body =
      { u.setEngine p { e1.advance e.pc with icount := e1.icount + 1, run := some { x1 with pfx? := none } } with rolls := r } := by
  have c1 : (x.pfx?.isNone && !s.maySpend ((s.regionOfEngine p).getD 0) x.kind.cls) = false := by
    rcases hm with hm | hm
    · cases hq : x.pfx? <;> simp_all
    · simp [hm]
  have c2 : ((x.pfx?.isSome && !takes) || !legal) = false := by
    rcases hp with hp | hp <;> simp [hp, hl]
  have key : State.retire (u, .next) p e.pc cycles true =
      (u.setEngine p { e1.advance e.pc with icount := e1.icount + 1, run := some { x1 with pfx? := none } }).spend
        ((u.regionOfEngine p).getD 0) x1.kind.cls cycles := by
    unfold State.retire
    simp only [hu, hr, hx, Bool.false_eq_true, if_false, if_true, hin, Bool.or_true, Engine.advance_icount]
  obtain ⟨r, hs⟩ := State.spend_frame
    (u.setEngine p { e1.advance e.pc with icount := e1.icount + 1, run := some { x1 with pfx? := none } })
    ((u.regionOfEngine p).getD 0) x1.kind.cls cycles
  refine ⟨r, ?_⟩
  rw [← hs, ← key]
  unfold State.instr
  simp only [hi, c1, c2, Bool.false_eq_true, if_false, hb]

end Sys2Proof.Machine
end

