-- ==== Sys2Proof/Laws/PerInstr.lean ====
section
/-! SUPPORT. Statements made command by command. Family NoWord: the opcode table gives the command no bits (its "fields" are
empty), so no word of any length spells it. -/

namespace Sys2Proof.Laws

/-- No word spells the command. -/
def NoWord.Statement (i : Instr) : Prop := ∀ nbits w, decodeTableWord nbits w ≠ some i

/-- The one reason, for every command: the decoder spells none. -/
theorem noWord_all (i : Instr) : NoWord.Statement i := fun _ _ => by simp [decodeTableWord]

theorem NoWord.aonPowerOn : NoWord.Statement .aonPowerOn := noWord_all _
theorem NoWord.resetNLow (ns : Nat) : NoWord.Statement (.resetNLow ns) := noWord_all _
theorem NoWord.stage1Entry : NoWord.Statement .stage1Entry := noWord_all _
theorem NoWord.stage2Entry (sfdp : Option Sfdp) : NoWord.Statement (.stage2Entry sfdp) := noWord_all _
theorem NoWord.stage3Entry : NoWord.Statement .stage3Entry := noWord_all _
theorem NoWord.railGood (r : Fin 12) : NoWord.Statement (.railGood r) := noWord_all _
theorem NoWord.railLost (r : Fin 12) : NoWord.Statement (.railLost r) := noWord_all _
theorem NoWord.beat : NoWord.Statement .beat := noWord_all _
theorem NoWord.dltCopyCompare (die : Fin 4) (found : Dlt) : NoWord.Statement (.dltCopyCompare die found) := noWord_all _
theorem NoWord.dltCopyReload (die : Fin 4) : NoWord.Statement (.dltCopyReload die) := noWord_all _
theorem NoWord.refInLoss : NoWord.Statement .refInLoss := noWord_all _
theorem NoWord.refInReturn : NoWord.Statement .refInReturn := noWord_all _
theorem NoWord.strokeEntryWrite (sched : Sched) (off : Nat) (bytes : List Byte) : NoWord.Statement (.strokeEntryWrite sched off bytes) := noWord_all _
theorem NoWord.strokeForward (e : Fin 256) : NoWord.Statement (.strokeForward e) := noWord_all _
theorem NoWord.strokeFire (sched : Sched) (e : Nat) : NoWord.Statement (.strokeFire sched e) := noWord_all _
theorem NoWord.lateStrokeFire (sched : Sched) (e : Nat) : NoWord.Statement (.lateStrokeFire sched e) := noWord_all _
theorem NoWord.rimshotGo (v : Nat) : NoWord.Statement (.rimshotGo v) := noWord_all _
theorem NoWord.rimshotFire : NoWord.Statement .rimshotFire := noWord_all _
theorem NoWord.syncInEdge (falling : Bool) (stamp : Dlt) : NoWord.Statement (.syncInEdge falling stamp) := noWord_all _
theorem NoWord.sourceEventMissed (src : TimeSource) : NoWord.Statement (.sourceEventMissed src) := noWord_all _
theorem NoWord.syncModeWrite (v : Nat) : NoWord.Statement (.syncModeWrite v) := noWord_all _
theorem NoWord.stepGo (v : Nat) : NoWord.Statement (.stepGo v) := noWord_all _
theorem NoWord.dltStep : NoWord.Statement .dltStep := noWord_all _
theorem NoWord.gong (l : Landing) : NoWord.Statement (.gong l) := noWord_all _
theorem NoWord.gongLowEnd : NoWord.Statement .gongLowEnd := noWord_all _
theorem NoWord.bell (l : Landing) : NoWord.Statement (.bell l) := noWord_all _
theorem NoWord.commitShadow (l : Landing) : NoWord.Statement (.commitShadow l) := noWord_all _
theorem NoWord.swapBank (l : Landing) : NoWord.Statement (.swapBank l) := noWord_all _
theorem NoWord.swapProg (l : Landing) : NoWord.Statement (.swapProg l) := noWord_all _
theorem NoWord.frameStart (l : Landing) : NoWord.Statement (.frameStart l) := noWord_all _
theorem NoWord.frameEntryRun (p : Fin 272) : NoWord.Statement (.frameEntryRun p) := noWord_all _
theorem NoWord.slotEnd (q : Fin 4) (samples : List Sample) : NoWord.Statement (.slotEnd q samples) := noWord_all _
theorem NoWord.frameGate (temps : List (Nat × Nat)) : NoWord.Statement (.frameGate temps) := noWord_all _
theorem NoWord.inject (l : Landing) : NoWord.Statement (.inject l) := noWord_all _
theorem NoWord.injTrigEdge : NoWord.Statement .injTrigEdge := noWord_all _
theorem NoWord.sunTrippedClear (v : Nat) : NoWord.Statement (.sunTrippedClear v) := noWord_all _
theorem NoWord.mcStart (l : Landing) : NoWord.Statement (.mcStart l) := noWord_all _
theorem NoWord.mcStop : NoWord.Statement .mcStop := noWord_all _
theorem NoWord.mcOutput (x : Int) (ovr : Bool) : NoWord.Statement (.mcOutput x ovr) := noWord_all _
theorem NoWord.mcRdWrite (v : Nat) : NoWord.Statement (.mcRdWrite v) := noWord_all _
theorem NoWord.mcFilterWrite (which : McFilter) (v : Nat) : NoWord.Statement (.mcFilterWrite which v) := noWord_all _
theorem NoWord.mcInjGo (v : Nat) : NoWord.Statement (.mcInjGo v) := noWord_all _
theorem NoWord.mcCalZero : NoWord.Statement .mcCalZero := noWord_all _
theorem NoWord.mcCalFullScale : NoWord.Statement .mcCalFullScale := noWord_all _
theorem NoWord.mcCalStepDone : NoWord.Statement .mcCalStepDone := noWord_all _
theorem NoWord.itemRelease (g : Fin 64) (row : Nat) : NoWord.Statement (.itemRelease g row) := noWord_all _
theorem NoWord.itemClaim (p : Fin 272) : NoWord.Statement (.itemClaim p) := noWord_all _
theorem NoWord.itemCommit (p : EngineHit) : NoWord.Statement (.itemCommit p) := noWord_all _
theorem NoWord.endEntryRun (p : Fin 272) : NoWord.Statement (.endEntryRun p) := noWord_all _
theorem NoWord.claimTimeout (p : Fin 272) : NoWord.Statement (.claimTimeout p) := noWord_all _
theorem NoWord.checkCompare (g : Fin 64) (row : Nat) : NoWord.Statement (.checkCompare g row) := noWord_all _
theorem NoWord.engineFault (p : Fin 272) (code : Nat) : NoWord.Statement (.engineFault p code) := noWord_all _
theorem NoWord.haloArrival (g : Fin 64) (row : Int) (words : List (Int × Word)) : NoWord.Statement (.haloArrival g row words) := noWord_all _
theorem NoWord.seamBlockReceive (link : Fin 4) (crcOk : Bool) : NoWord.Statement (.seamBlockReceive link crcOk) := noWord_all _
theorem NoWord.progSlotWrite (slot : Fin 2) (off : Nat) (bytes : List Byte) : NoWord.Statement (.progSlotWrite slot off bytes) := noWord_all _
theorem NoWord.tableAreaWrite (off : Nat) (bytes : List Byte) : NoWord.Statement (.tableAreaWrite off bytes) := noWord_all _
theorem NoWord.fEngWrite (q : Fin 4) (v : Nat) : NoWord.Statement (.fEngWrite q v) := noWord_all _
theorem NoWord.enginePllLock (q : Fin 4) : NoWord.Statement (.enginePllLock q) := noWord_all _
theorem NoWord.vddeMeasure (q : Fin 4) (mv : Nat) : NoWord.Statement (.vddeMeasure q mv) := noWord_all _
theorem NoWord.smov (p : Fin 272) (f : BitVec 26) : NoWord.Statement (.smov p f) := noWord_all _
theorem NoWord.sadd (p : Fin 272) (f : BitVec 26) : NoWord.Statement (.sadd p f) := noWord_all _
theorem NoWord.ssub (p : Fin 272) (f : BitVec 26) : NoWord.Statement (.ssub p f) := noWord_all _
theorem NoWord.sand (p : Fin 272) (f : BitVec 26) : NoWord.Statement (.sand p f) := noWord_all _
theorem NoWord.sor (p : Fin 272) (f : BitVec 26) : NoWord.Statement (.sor p f) := noWord_all _
theorem NoWord.sshl (p : Fin 272) (f : BitVec 26) : NoWord.Statement (.sshl p f) := noWord_all _
theorem NoWord.sshr (p : Fin 272) (f : BitVec 26) : NoWord.Statement (.sshr p f) := noWord_all _
theorem NoWord.scmp (p : Fin 272) (f : BitVec 26) : NoWord.Statement (.scmp p f) := noWord_all _
theorem NoWord.sbr (p : Fin 272) (f : BitVec 26) : NoWord.Statement (.sbr p f) := noWord_all _
theorem NoWord.sloop (p : Fin 272) (f : BitVec 26) : NoWord.Statement (.sloop p f) := noWord_all _
theorem NoWord.scall (p : Fin 272) (f : BitVec 26) : NoWord.Statement (.scall p f) := noWord_all _
theorem NoWord.sret (p : Fin 272) (f : BitVec 26) : NoWord.Statement (.sret p f) := noWord_all _
theorem NoWord.pfx (p : Fin 272) (f : BitVec 26) : NoWord.Statement (.pfx p f) := noWord_all _
theorem NoWord.ldpx (p : Fin 272) (f : BitVec 26) (upset : List Nat) : NoWord.Statement (.ldpx p f upset) := noWord_all _
theorem NoWord.ldcf (p : Fin 272) (f : BitVec 26) (upset : List Nat) : NoWord.Statement (.ldcf p f upset) := noWord_all _
theorem NoWord.ldst (p : Fin 272) (f : BitVec 26) (upset : List Nat) : NoWord.Statement (.ldst p f upset) := noWord_all _
theorem NoWord.stst (p : Fin 272) (f : BitVec 26) : NoWord.Statement (.stst p f) := noWord_all _
theorem NoWord.ldl (p : Fin 272) (f : BitVec 26) (upset : List Nat) : NoWord.Statement (.ldl p f upset) := noWord_all _
theorem NoWord.stl (p : Fin 272) (f : BitVec 26) : NoWord.Statement (.stl p f) := noWord_all _
theorem NoWord.vadd (p : Fin 272) (f : BitVec 26) : NoWord.Statement (.vadd p f) := noWord_all _
theorem NoWord.vsub (p : Fin 272) (f : BitVec 26) : NoWord.Statement (.vsub p f) := noWord_all _
theorem NoWord.vmul (p : Fin 272) (f : BitVec 26) : NoWord.Statement (.vmul p f) := noWord_all _
theorem NoWord.vmac (p : Fin 272) (f : BitVec 26) : NoWord.Statement (.vmac p f) := noWord_all _
theorem NoWord.vshr (p : Fin 272) (f : BitVec 26) : NoWord.Statement (.vshr p f) := noWord_all _
theorem NoWord.vsat (p : Fin 272) (f : BitVec 26) : NoWord.Statement (.vsat p f) := noWord_all _
theorem NoWord.vmin (p : Fin 272) (f : BitVec 26) : NoWord.Statement (.vmin p f) := noWord_all _
theorem NoWord.vmax (p : Fin 272) (f : BitVec 26) : NoWord.Statement (.vmax p f) := noWord_all _
theorem NoWord.vabs (p : Fin 272) (f : BitVec 26) : NoWord.Statement (.vabs p f) := noWord_all _
theorem NoWord.vcmp (p : Fin 272) (f : BitVec 26) : NoWord.Statement (.vcmp p f) := noWord_all _
theorem NoWord.vsel (p : Fin 272) (f : BitVec 26) : NoWord.Statement (.vsel p f) := noWord_all _
theorem NoWord.vlut (p : EngineHit) (f : BitVec 26) : NoWord.Statement (.vlut p f) := noWord_all _
theorem NoWord.vtag (p : Fin 272) (f : BitVec 26) : NoWord.Statement (.vtag p f) := noWord_all _
theorem NoWord.vnbr (p : EngineHit) (f : BitVec 26) : NoWord.Statement (.vnbr p f) := noWord_all _
theorem NoWord.vhist (p : Fin 272) (f : BitVec 26) (upset : List Nat) : NoWord.Statement (.vhist p f upset) := noWord_all _
theorem NoWord.vstat (p : Fin 272) (f : BitVec 26) : NoWord.Statement (.vstat p f) := noWord_all _
theorem NoWord.vmom (p : Fin 272) (f : BitVec 26) : NoWord.Statement (.vmom p f) := noWord_all _
theorem NoWord.emitLine (p : Fin 272) (f : BitVec 26) : NoWord.Statement (.emitLine p f) := noWord_all _
theorem NoWord.emitRecord (p : Fin 272) (f : BitVec 26) : NoWord.Statement (.emitRecord p f) := noWord_all _
theorem NoWord.emitRemote (p : Fin 272) (f : BitVec 26) : NoWord.Statement (.emitRemote p f) := noWord_all _
theorem NoWord.waits (p : Fin 272) (f : BitVec 26) : NoWord.Statement (.waits p f) := noWord_all _
theorem NoWord.waitsRelease (p : Fin 272) (cause : Fin 4) (event : Fin 32) : NoWord.Statement (.waitsRelease p cause event) := noWord_all _
theorem NoWord.engEvent (l : Landing) : NoWord.Statement (.engEvent l) := noWord_all _
theorem NoWord.lease (p : Fin 272) (f : BitVec 26) : NoWord.Statement (.lease p f) := noWord_all _
theorem NoWord.leaseGrant (r : Fin 1352) : NoWord.Statement (.leaseGrant r) := noWord_all _
theorem NoWord.leaseWaitGiveUp (p : Fin 272) : NoWord.Statement (.leaseWaitGiveUp p) := noWord_all _
theorem NoWord.free (p : Fin 272) (f : BitVec 26) : NoWord.Statement (.free p f) := noWord_all _
theorem NoWord.engineBell (p : Fin 272) (f : BitVec 26) : NoWord.Statement (.engineBell p f) := noWord_all _
theorem NoWord.histogramMerge : NoWord.Statement .histogramMerge := noWord_all _
theorem NoWord.shadeGridWrite (bytes : List Byte) : NoWord.Statement (.shadeGridWrite bytes) := noWord_all _
theorem NoWord.gimbalRateWrite (yaw pitch roll : Option Int) (stamp : Dlt) : NoWord.Statement (.gimbalRateWrite yaw pitch roll stamp) := noWord_all _
theorem NoWord.stdReload (v : Nat) : NoWord.Statement (.stdReload v) := noWord_all _
theorem NoWord.calStart (l : Landing) : NoWord.Statement (.calStart l) := noWord_all _
theorem NoWord.calTwoPointZero : NoWord.Statement .calTwoPointZero := noWord_all _
theorem NoWord.calTwoPointFullScale : NoWord.Statement .calTwoPointFullScale := noWord_all _
theorem NoWord.calClapperRefresh : NoWord.Statement .calClapperRefresh := noWord_all _
theorem NoWord.calDriftPoint (point : Nat) : NoWord.Statement (.calDriftPoint point) := noWord_all _
theorem NoWord.calAbort : NoWord.Statement .calAbort := noWord_all _
theorem NoWord.calRunFinish (readBackOk : Bool) : NoWord.Statement (.calRunFinish readBackOk) := noWord_all _
theorem NoWord.clapRefreshTimeout : NoWord.Statement .clapRefreshTimeout := noWord_all _
theorem NoWord.offsetUpdateWrite (g : Fin 64) : NoWord.Statement (.offsetUpdateWrite g) := noWord_all _
theorem NoWord.sceneUpdate : NoWord.Statement .sceneUpdate := noWord_all _
theorem NoWord.imgSaveActive : NoWord.Statement .imgSaveActive := noWord_all _
theorem NoWord.imgSaveInactive : NoWord.Statement .imgSaveInactive := noWord_all _
theorem NoWord.imgSaveComplete : NoWord.Statement .imgSaveComplete := noWord_all _
theorem NoWord.imgLoad : NoWord.Statement .imgLoad := noWord_all _
theorem NoWord.imgLoadComplete : NoWord.Statement .imgLoadComplete := noWord_all _
theorem NoWord.inactiveBanksWrite (off : Nat) (bytes : List Byte) : NoWord.Statement (.inactiveBanksWrite off bytes) := noWord_all _
theorem NoWord.commitGo (v : Nat) : NoWord.Statement (.commitGo v) := noWord_all _
theorem NoWord.commitCheckDone : NoWord.Statement .commitCheckDone := noWord_all _
theorem NoWord.rollBoundary : NoWord.Statement .rollBoundary := noWord_all _
theorem NoWord.allocApply (v : Nat) : NoWord.Statement (.allocApply v) := noWord_all _
theorem NoWord.viewOpen (l : Landing) : NoWord.Statement (.viewOpen l) := noWord_all _
theorem NoWord.viewClose (l : Landing) : NoWord.Statement (.viewClose l) := noWord_all _
theorem NoWord.linePageWrite (v : Fin 16) (line : Nat) : NoWord.Statement (.linePageWrite v line) := noWord_all _
theorem NoWord.frameRecordWrite (v : Fin 16) : NoWord.Statement (.frameRecordWrite v) := noWord_all _
theorem NoWord.viewStallTimeout (v : Fin 16) : NoWord.Statement (.viewStallTimeout v) := noWord_all _
theorem NoWord.creditGo (v : Nat) : NoWord.Statement (.creditGo v) := noWord_all _
theorem NoWord.recordPageFlush (v : Fin 16) : NoWord.Statement (.recordPageFlush v) := noWord_all _
theorem NoWord.laneEnableWrite (n : Fin 8) (v : Nat) : NoWord.Statement (.laneEnableWrite n v) := noWord_all _
theorem NoWord.laneRestart (n : Fin 8) (v : Nat) : NoWord.Statement (.laneRestart n v) := noWord_all _
theorem NoWord.codewordReceive (n : Fin 8) (message parity : List Nat) (reads : List Nat) : NoWord.Statement (.codewordReceive n message parity reads) := noWord_all _
theorem NoWord.hello (n : Fin 8) (m : HelloMsg) : NoWord.Statement (.hello n m) := noWord_all _
theorem NoWord.tapReq (n : Fin 8) (tap op preset num : Nat) : NoWord.Statement (.tapReq n tap op preset num) := noWord_all _
theorem NoWord.tapResp (n : Fin 8) (num status : Nat) (coefs : Word) : NoWord.Statement (.tapResp n num status coefs) := noWord_all _
theorem NoWord.tapReqRetry (n : Fin 8) : NoWord.Statement (.tapReqRetry n) := noWord_all _
theorem NoWord.trainDone (n : Fin 8) : NoWord.Statement (.trainDone n) := noWord_all _
theorem NoWord.trainLimitExpiry (n : Fin 8) : NoWord.Statement (.trainLimitExpiry n) := noWord_all _
theorem NoWord.helloTimeout (n : Fin 8) : NoWord.Statement (.helloTimeout n) := noWord_all _
theorem NoWord.holdoffExpiry (n : Fin 8) : NoWord.Statement (.holdoffExpiry n) := noWord_all _
theorem NoWord.pktReceive (n : Fin 8) (p : RxPacket) : NoWord.Statement (.pktReceive n p) := noWord_all _
theorem NoWord.ack (n : Fin 8) (seq : Nat) : NoWord.Statement (.ack n seq) := noWord_all _
theorem NoWord.nak (n : Fin 8) (seq : Nat) : NoWord.Statement (.nak n seq) := noWord_all _
theorem NoWord.credit (n : Fin 8) (seq : Nat) (view : Fin 16) (ring : Fin 2) (count : Word) : NoWord.Statement (.credit n seq view ring count) := noWord_all _
theorem NoWord.replayTimeout (n : Fin 8) : NoWord.Statement (.replayTimeout n) := noWord_all _
theorem NoWord.linkStallTimeout (n : Fin 8) : NoWord.Statement (.linkStallTimeout n) := noWord_all _
theorem NoWord.down (n : Fin 8) (cause : Nat) : NoWord.Statement (.down n cause) := noWord_all _
theorem NoWord.timeSyncSend (n : Fin 8) : NoWord.Statement (.timeSyncSend n) := noWord_all _
theorem NoWord.timeSync (n : Fin 8) (t1 t2 t3 : Dlt) : NoWord.Statement (.timeSync n t1 t2 t3) := noWord_all _
theorem NoWord.timeReq (n : Fin 8) (t3 t4 : Dlt) : NoWord.Statement (.timeReq n t3 t4) := noWord_all _
theorem NoWord.timeResp (n : Fin 8) (t4 t3 : Dlt) : NoWord.Statement (.timeResp n t4 t3) := noWord_all _
theorem NoWord.ttRoleReq (n : Fin 8) (v : Nat) : NoWord.Statement (.ttRoleReq n v) := noWord_all _
theorem NoWord.roleReq (n : Fin 8) (role num : Nat) : NoWord.Statement (.roleReq n role num) := noWord_all _
theorem NoWord.roleResp (n : Fin 8) (num status : Nat) : NoWord.Statement (.roleResp n num status) := noWord_all _
theorem NoWord.roleReqRetry (n : Fin 8) : NoWord.Statement (.roleReqRetry n) := noWord_all _
theorem NoWord.eyeGo (v : Nat) : NoWord.Statement (.eyeGo v) := noWord_all _
theorem NoWord.eyePointDone (symbols errors : Word) : NoWord.Statement (.eyePointDone symbols errors) := noWord_all _
theorem NoWord.dictServe : NoWord.Statement .dictServe := noWord_all _
theorem NoWord.registerWrite (r : DictReq) : NoWord.Statement (.registerWrite r) := noWord_all _
theorem NoWord.claim (n : Nat) (serial : BitVec 48) : NoWord.Statement (.claim n serial) := noWord_all _
theorem NoWord.heartbeat (n : Nat) (serial : BitVec 48) (state : Nat) : NoWord.Statement (.heartbeat n serial state) := noWord_all _
theorem NoWord.heartbeatSend : NoWord.Statement .heartbeatSend := noWord_all _
theorem NoWord.nodeExpire (n : Nat) : NoWord.Statement (.nodeExpire n) := noWord_all _
theorem NoWord.claimListenEnd : NoWord.Statement .claimListenEnd := noWord_all _
theorem NoWord.claimWaitEnd : NoWord.Statement .claimWaitEnd := noWord_all _
theorem NoWord.claimRetry : NoWord.Statement .claimRetry := noWord_all _
theorem NoWord.canBusOffRecovery : NoWord.Statement .canBusOffRecovery := noWord_all _
theorem NoWord.canClassicFrame : NoWord.Statement .canClassicFrame := noWord_all _
theorem NoWord.canApply (v : Nat) : NoWord.Statement (.canApply v) := noWord_all _
theorem NoWord.ktpOpen (c : Nat) (server : Nat) (serial : BitVec 48) (tag : Nat) : NoWord.Statement (.ktpOpen c server serial tag) := noWord_all _
theorem NoWord.ktpRead (c tag index sub : Nat) : NoWord.Statement (.ktpRead c tag index sub) := noWord_all _
theorem NoWord.ktpWrite (c tag index sub : Nat) (data : List Byte) : NoWord.Statement (.ktpWrite c tag index sub data) := noWord_all _
theorem NoWord.readActive (c tag index sub : Nat) : NoWord.Statement (.readActive c tag index sub) := noWord_all _
theorem NoWord.segRead (c tag index sub offset length : Nat) : NoWord.Statement (.segRead c tag index sub offset length) := noWord_all _
theorem NoWord.segWrite (c tag index sub offset length : Nat) : NoWord.Statement (.segWrite c tag index sub offset length) := noWord_all _
theorem NoWord.segData (c : Nat) (last toggle : Bool) (data : List Byte) : NoWord.Statement (.segData c last toggle data) := noWord_all _
theorem NoWord.bulkRead (c tag index sub offset length : Nat) : NoWord.Statement (.bulkRead c tag index sub offset length) := noWord_all _
theorem NoWord.bulkWrite (c tag index sub offset length : Nat) : NoWord.Statement (.bulkWrite c tag index sub offset length) := noWord_all _
theorem NoWord.bulkData (c seq : Nat) (data : List Byte) : NoWord.Statement (.bulkData c seq data) := noWord_all _
theorem NoWord.bulkAck (c status lastSeq nextBlock : Nat) : NoWord.Statement (.bulkAck c status lastSeq nextBlock) := noWord_all _
theorem NoWord.bulkEnd (c : Nat) (crc : Word) : NoWord.Statement (.bulkEnd c crc) := noWord_all _
theorem NoWord.abort (c code : Nat) : NoWord.Statement (.abort c code) := noWord_all _
theorem NoWord.ktpTimeout (c : Nat) : NoWord.Statement (.ktpTimeout c) := noWord_all _
theorem NoWord.bellAck (seq : Nat) : NoWord.Statement (.bellAck seq) := noWord_all _
theorem NoWord.canBellSend : NoWord.Statement .canBellSend := noWord_all _
theorem NoWord.canTrackSend : NoWord.Statement .canTrackSend := noWord_all _
theorem NoWord.canFocusSend : NoWord.Statement .canFocusSend := noWord_all _
theorem NoWord.statusSend : NoWord.Statement .statusSend := noWord_all _
theorem NoWord.flashWindowWrite (off : Nat) (bytes : List Byte) : NoWord.Statement (.flashWindowWrite off bytes) := noWord_all _
theorem NoWord.flashStatusPoll (r : FlashPoll) : NoWord.Statement (.flashStatusPoll r) := noWord_all _
theorem NoWord.flashProgramTimeout : NoWord.Statement .flashProgramTimeout := noWord_all _
theorem NoWord.eraseGo (v : Nat) : NoWord.Statement (.eraseGo v) := noWord_all _
theorem NoWord.eraseTimeout : NoWord.Statement .eraseTimeout := noWord_all _
theorem NoWord.sspiFrame (clocks : Nat) (input : Word) (early : Bool) : NoWord.Statement (.sspiFrame clocks input early) := noWord_all _
theorem NoWord.sspiRequestTimeout : NoWord.Statement .sspiRequestTimeout := noWord_all _
theorem NoWord.accEnable (v : Nat) (toggles sdaHigh : Bool) (pulses : Nat) : NoWord.Statement (.accEnable v toggles sdaHigh pulses) := noWord_all _
theorem NoWord.accStretchTimeout : NoWord.Statement .accStretchTimeout := noWord_all _
theorem NoWord.xferGo (v : Nat) (r : XferResult) : NoWord.Statement (.xferGo v r) := noWord_all _
theorem NoWord.accTargetWrite (bytes : List Byte) : NoWord.Statement (.accTargetWrite bytes) := noWord_all _
theorem NoWord.accTargetRead (n : Nat) : NoWord.Statement (.accTargetRead n) := noWord_all _
theorem NoWord.lensPoll (r : XferResult) : NoWord.Statement (.lensPoll r) := noWord_all _
theorem NoWord.lensGridReadDone (r : XferResult) : NoWord.Statement (.lensGridReadDone r) := noWord_all _
theorem NoWord.clapper (l : Landing) : NoWord.Statement (.clapper l) := noWord_all _
theorem NoWord.actStart (l : Landing) : NoWord.Statement (.actStart l) := noWord_all _
theorem NoWord.malletStoreWrite (b : Fin 2) (entries : Bool) (off : Nat) (bytes : List Byte) : NoWord.Statement (.malletStoreWrite b entries off bytes) := noWord_all _
theorem NoWord.malletEnd (b : Fin 2) : NoWord.Statement (.malletEnd b) := noWord_all _
theorem NoWord.target (b : Fin 2) : NoWord.Statement (.target b) := noWord_all _
theorem NoWord.ramp (b : Fin 2) : NoWord.Statement (.ramp b) := noWord_all _
theorem NoWord.waitPeak (b : Fin 2) : NoWord.Statement (.waitPeak b) := noWord_all _
theorem NoWord.peakReached (b : Fin 2) (ma : Nat) : NoWord.Statement (.peakReached b ma) := noWord_all _
theorem NoWord.waitPeakTimeout (b : Fin 2) : NoWord.Statement (.waitPeakTimeout b) := noWord_all _
theorem NoWord.hold (b : Fin 2) : NoWord.Statement (.hold b) := noWord_all _
theorem NoWord.decayFast (b : Fin 2) : NoWord.Statement (.decayFast b) := noWord_all _
theorem NoWord.decaySlow (b : Fin 2) : NoWord.Statement (.decaySlow b) := noWord_all _
theorem NoWord.decayFloorReached (b : Fin 2) : NoWord.Statement (.decayFloorReached b) := noWord_all _
theorem NoWord.waitTime (b : Fin 2) : NoWord.Statement (.waitTime b) := noWord_all _
theorem NoWord.waitTimeEnd (b : Fin 2) : NoWord.Statement (.waitTimeEnd b) := noWord_all _
theorem NoWord.measureDip (b : Fin 2) : NoWord.Statement (.measureDip b) := noWord_all _
theorem NoWord.measurePos (b : Fin 2) : NoWord.Statement (.measurePos b) := noWord_all _
theorem NoWord.measureCurrent (b : Fin 2) (ma : Nat) : NoWord.Statement (.measureCurrent b ma) := noWord_all _
theorem NoWord.branch (b : Fin 2) : NoWord.Statement (.branch b) := noWord_all _
theorem NoWord.dipDetected (b : Fin 2) (ma us : Nat) : NoWord.Statement (.dipDetected b ma us) := noWord_all _
theorem NoWord.clapPosChange (level : Bool) : NoWord.Statement (.clapPosChange level) := noWord_all _
theorem NoWord.driveStickWaitEnd (b : Fin 2) : NoWord.Statement (.driveStickWaitEnd b) := noWord_all _
theorem NoWord.malletTimeout (b : Fin 2) : NoWord.Statement (.malletTimeout b) := noWord_all _
theorem NoWord.overCurrent (b : Fin 2) (ma : Nat) : NoWord.Statement (.overCurrent b ma) := noWord_all _
theorem NoWord.vactUndervoltage (mv : Nat) : NoWord.Statement (.vactUndervoltage mv) := noWord_all _
theorem NoWord.coilModelUpdate (ma : List Nat) : NoWord.Statement (.coilModelUpdate ma) := noWord_all _
theorem NoWord.trip (ns : Nat) : NoWord.Statement (.trip ns) := noWord_all _
theorem NoWord.tripActiveClear (v : Nat) : NoWord.Statement (.tripActiveClear v) := noWord_all _
theorem NoWord.syncOut (l : Landing) : NoWord.Statement (.syncOut l) := noWord_all _
theorem NoWord.syncOutPulseEnd : NoWord.Statement .syncOutPulseEnd := noWord_all _
theorem NoWord.timeMark (l : Landing) : NoWord.Statement (.timeMark l) := noWord_all _
theorem NoWord.ensEnableWrite (v : Nat) : NoWord.Statement (.ensEnableWrite v) := noWord_all _
theorem NoWord.drumSlot (readBackOk : Bool) : NoWord.Statement (.drumSlot readBackOk) := noWord_all _
theorem NoWord.masterBeacon (r : DrumRx) : NoWord.Statement (.masterBeacon r) := noWord_all _
theorem NoWord.memberBeacon (r : DrumRx) : NoWord.Statement (.memberBeacon r) := noWord_all _
theorem NoWord.slotClaim (r : DrumRx) : NoWord.Statement (.slotClaim r) := noWord_all _
theorem NoWord.masterClaim (r : DrumRx) : NoWord.Statement (.masterClaim r) := noWord_all _
theorem NoWord.leave (r : DrumRx) : NoWord.Statement (.leave r) := noWord_all _
theorem NoWord.drumCycle : NoWord.Statement .drumCycle := noWord_all _
theorem NoWord.mirrorApply : NoWord.Statement .mirrorApply := noWord_all _
theorem NoWord.gongReceive (ns : Nat) (stamp : Dlt) : NoWord.Statement (.gongReceive ns stamp) := noWord_all _
theorem NoWord.powerModeRun : NoWord.Statement .powerModeRun := noWord_all _
theorem NoWord.powerModeRetain : NoWord.Statement .powerModeRetain := noWord_all _
theorem NoWord.powerModeSleep : NoWord.Statement .powerModeSleep := noWord_all _
theorem NoWord.powerModeStandby : NoWord.Statement .powerModeStandby := noWord_all _
theorem NoWord.wakeEdge (ns ticks : Nat) : NoWord.Statement (.wakeEdge ns ticks) := noWord_all _
theorem NoWord.canRxWake (ns ticks : Nat) : NoWord.Statement (.canRxWake ns ticks) := noWord_all _
theorem NoWord.sleepTimerExpiry (ticks : Nat) : NoWord.Statement (.sleepTimerExpiry ticks) := noWord_all _
theorem NoWord.aonWakeCommand (ticks : Nat) : NoWord.Statement (.aonWakeCommand ticks) := noWord_all _
theorem NoWord.aonClearCommand (cool : Bool) : NoWord.Statement (.aonClearCommand cool) := noWord_all _
theorem NoWord.sensorRead (temps : List Int) : NoWord.Statement (.sensorRead temps) := noWord_all _
theorem NoWord.thermalShutdown (sensor : Fin 40) (temp : Int) : NoWord.Statement (.thermalShutdown sensor temp) := noWord_all _
theorem NoWord.referencesSettled (readBack1 readBack2 : Bool) : NoWord.Statement (.referencesSettled readBack1 readBack2) := noWord_all _
theorem NoWord.trainDoneSend (n : Fin 8) (ber1e9 : Nat) : NoWord.Statement (.trainDoneSend n ber1e9) := noWord_all _
theorem NoWord.rateSeekTimeout (n : Fin 8) : NoWord.Statement (.rateSeekTimeout n) := noWord_all _
theorem NoWord.flashReadComplete (p : Option (Fin 272)) : NoWord.Statement (.flashReadComplete p) := noWord_all _
theorem NoWord.canBusError (transmit : Bool) (delta : Nat) : NoWord.Statement (.canBusError transmit delta) := noWord_all _
theorem NoWord.canIntegrationComplete : NoWord.Statement .canIntegrationComplete := noWord_all _
theorem NoWord.accStopCondition (r : BusStop) : NoWord.Statement (.accStopCondition r) := noWord_all _
theorem NoWord.gongNRise : NoWord.Statement .gongNRise := noWord_all _
theorem NoWord.railGoodTimeout (d : Fin 30) : NoWord.Statement (.railGoodTimeout d) := noWord_all _
theorem NoWord.vddAonRemoval : NoWord.Statement .vddAonRemoval := noWord_all _

end Sys2Proof.Laws
end

