-- ==== Sys2Proof/Laws/Units.lean ====
section
/-! SUPPORT. One lemma for each field and each update of a unit of State (an engine, a region, a lease, a bank, a lane, a view, the
ensemble), true by rfl, so that no later proof unfolds a record update. -/

namespace Sys2Proof.Machine

variable (s : State)

/-! ## State.setEngine -/

@[simp] theorem State.setEngine_pending (p : Nat) (e : Engine) : (s.setEngine p e).pending = s.pending := rfl
@[simp] theorem State.setEngine_free (p : Nat) (e : Engine) : (s.setEngine p e).free = s.free := rfl
@[simp] theorem State.setEngine_otp (p : Nat) (e : Engine) : (s.setEngine p e).otp = s.otp := rfl
@[simp] theorem State.setEngine_obj (p : Nat) (e : Engine) : (s.setEngine p e).obj = s.obj := rfl
@[simp] theorem State.setEngine_mem (p : Nat) (e : Engine) : (s.setEngine p e).mem = s.mem := rfl
@[simp] theorem State.setEngine_banks (p : Nat) (e : Engine) : (s.setEngine p e).banks = s.banks := rfl
@[simp] theorem State.setEngine_eccBad (p : Nat) (e : Engine) : (s.setEngine p e).eccBad = s.eccBad := rfl
@[simp] theorem State.setEngine_clk (p : Nat) (e : Engine) : (s.setEngine p e).clk = s.clk := rfl
@[simp] theorem State.setEngine_strokes (p : Nat) (e : Engine) : (s.setEngine p e).strokes = s.strokes := rfl
@[simp] theorem State.setEngine_focal (p : Nat) (e : Engine) : (s.setEngine p e).focal = s.focal := rfl
@[simp] theorem State.setEngine_mc (p : Nat) (e : Engine) : (s.setEngine p e).mc = s.mc := rfl
@[simp] theorem State.setEngine_pix (p : Nat) (e : Engine) : (s.setEngine p e).pix = s.pix := rfl
@[simp] theorem State.setEngine_shadow (p : Nat) (e : Engine) : (s.setEngine p e).shadow = s.shadow := rfl
@[simp] theorem State.setEngine_pipe (p : Nat) (e : Engine) : (s.setEngine p e).pipe = s.pipe := rfl
@[simp] theorem State.setEngine_cal (p : Nat) (e : Engine) : (s.setEngine p e).cal = s.cal := rfl
@[simp] theorem State.setEngine_rolls (p : Nat) (e : Engine) : (s.setEngine p e).rolls = s.rolls := rfl
@[simp] theorem State.setEngine_views (p : Nat) (e : Engine) : (s.setEngine p e).views = s.views := rfl
@[simp] theorem State.setEngine_lanes (p : Nat) (e : Engine) : (s.setEngine p e).lanes = s.lanes := rfl
@[simp] theorem State.setEngine_eye (p : Nat) (e : Engine) : (s.setEngine p e).eye = s.eye := rfl
@[simp] theorem State.setEngine_dict (p : Nat) (e : Engine) : (s.setEngine p e).dict = s.dict := rfl
@[simp] theorem State.setEngine_ports (p : Nat) (e : Engine) : (s.setEngine p e).ports = s.ports := rfl
@[simp] theorem State.setEngine_act (p : Nat) (e : Engine) : (s.setEngine p e).act = s.act := rfl
@[simp] theorem State.setEngine_ens (p : Nat) (e : Engine) : (s.setEngine p e).ens = s.ens := rfl
@[simp] theorem State.setEngine_lands (p : Nat) (e : Engine) : (s.setEngine p e).lands = s.lands := rfl
@[simp] theorem State.setEngine_power (p : Nat) (e : Engine) : (s.setEngine p e).power = s.power := rfl

/-! ## State.setRegion -/

@[simp] theorem State.setRegion_pending (g : Nat) (r : Region) : (s.setRegion g r).pending = s.pending := rfl
@[simp] theorem State.setRegion_free (g : Nat) (r : Region) : (s.setRegion g r).free = s.free := rfl
@[simp] theorem State.setRegion_otp (g : Nat) (r : Region) : (s.setRegion g r).otp = s.otp := rfl
@[simp] theorem State.setRegion_obj (g : Nat) (r : Region) : (s.setRegion g r).obj = s.obj := rfl
@[simp] theorem State.setRegion_mem (g : Nat) (r : Region) : (s.setRegion g r).mem = s.mem := rfl
@[simp] theorem State.setRegion_banks (g : Nat) (r : Region) : (s.setRegion g r).banks = s.banks := rfl
@[simp] theorem State.setRegion_eccBad (g : Nat) (r : Region) : (s.setRegion g r).eccBad = s.eccBad := rfl
@[simp] theorem State.setRegion_clk (g : Nat) (r : Region) : (s.setRegion g r).clk = s.clk := rfl
@[simp] theorem State.setRegion_strokes (g : Nat) (r : Region) : (s.setRegion g r).strokes = s.strokes := rfl
@[simp] theorem State.setRegion_focal (g : Nat) (r : Region) : (s.setRegion g r).focal = s.focal := rfl
@[simp] theorem State.setRegion_mc (g : Nat) (r : Region) : (s.setRegion g r).mc = s.mc := rfl
@[simp] theorem State.setRegion_pix (g : Nat) (r : Region) : (s.setRegion g r).pix = s.pix := rfl
@[simp] theorem State.setRegion_shadow (g : Nat) (r : Region) : (s.setRegion g r).shadow = s.shadow := rfl
@[simp] theorem State.setRegion_pipe (g : Nat) (r : Region) : (s.setRegion g r).pipe = s.pipe := rfl
@[simp] theorem State.setRegion_cal (g : Nat) (r : Region) : (s.setRegion g r).cal = s.cal := rfl
@[simp] theorem State.setRegion_rolls (g : Nat) (r : Region) : (s.setRegion g r).rolls = s.rolls := rfl
@[simp] theorem State.setRegion_views (g : Nat) (r : Region) : (s.setRegion g r).views = s.views := rfl
@[simp] theorem State.setRegion_lanes (g : Nat) (r : Region) : (s.setRegion g r).lanes = s.lanes := rfl
@[simp] theorem State.setRegion_eye (g : Nat) (r : Region) : (s.setRegion g r).eye = s.eye := rfl
@[simp] theorem State.setRegion_dict (g : Nat) (r : Region) : (s.setRegion g r).dict = s.dict := rfl
@[simp] theorem State.setRegion_ports (g : Nat) (r : Region) : (s.setRegion g r).ports = s.ports := rfl
@[simp] theorem State.setRegion_act (g : Nat) (r : Region) : (s.setRegion g r).act = s.act := rfl
@[simp] theorem State.setRegion_ens (g : Nat) (r : Region) : (s.setRegion g r).ens = s.ens := rfl
@[simp] theorem State.setRegion_lands (g : Nat) (r : Region) : (s.setRegion g r).lands = s.lands := rfl
@[simp] theorem State.setRegion_power (g : Nat) (r : Region) : (s.setRegion g r).power = s.power := rfl

/-! ## State.setLease -/

@[simp] theorem State.setLease_pending (r : Nat) (l : Lease) : (s.setLease r l).pending = s.pending := rfl
@[simp] theorem State.setLease_free (r : Nat) (l : Lease) : (s.setLease r l).free = s.free := rfl
@[simp] theorem State.setLease_otp (r : Nat) (l : Lease) : (s.setLease r l).otp = s.otp := rfl
@[simp] theorem State.setLease_obj (r : Nat) (l : Lease) : (s.setLease r l).obj = s.obj := rfl
@[simp] theorem State.setLease_mem (r : Nat) (l : Lease) : (s.setLease r l).mem = s.mem := rfl
@[simp] theorem State.setLease_banks (r : Nat) (l : Lease) : (s.setLease r l).banks = s.banks := rfl
@[simp] theorem State.setLease_eccBad (r : Nat) (l : Lease) : (s.setLease r l).eccBad = s.eccBad := rfl
@[simp] theorem State.setLease_clk (r : Nat) (l : Lease) : (s.setLease r l).clk = s.clk := rfl
@[simp] theorem State.setLease_strokes (r : Nat) (l : Lease) : (s.setLease r l).strokes = s.strokes := rfl
@[simp] theorem State.setLease_focal (r : Nat) (l : Lease) : (s.setLease r l).focal = s.focal := rfl
@[simp] theorem State.setLease_mc (r : Nat) (l : Lease) : (s.setLease r l).mc = s.mc := rfl
@[simp] theorem State.setLease_pix (r : Nat) (l : Lease) : (s.setLease r l).pix = s.pix := rfl
@[simp] theorem State.setLease_shadow (r : Nat) (l : Lease) : (s.setLease r l).shadow = s.shadow := rfl
@[simp] theorem State.setLease_pipe (r : Nat) (l : Lease) : (s.setLease r l).pipe = s.pipe := rfl
@[simp] theorem State.setLease_cal (r : Nat) (l : Lease) : (s.setLease r l).cal = s.cal := rfl
@[simp] theorem State.setLease_rolls (r : Nat) (l : Lease) : (s.setLease r l).rolls = s.rolls := rfl
@[simp] theorem State.setLease_views (r : Nat) (l : Lease) : (s.setLease r l).views = s.views := rfl
@[simp] theorem State.setLease_lanes (r : Nat) (l : Lease) : (s.setLease r l).lanes = s.lanes := rfl
@[simp] theorem State.setLease_eye (r : Nat) (l : Lease) : (s.setLease r l).eye = s.eye := rfl
@[simp] theorem State.setLease_dict (r : Nat) (l : Lease) : (s.setLease r l).dict = s.dict := rfl
@[simp] theorem State.setLease_ports (r : Nat) (l : Lease) : (s.setLease r l).ports = s.ports := rfl
@[simp] theorem State.setLease_act (r : Nat) (l : Lease) : (s.setLease r l).act = s.act := rfl
@[simp] theorem State.setLease_ens (r : Nat) (l : Lease) : (s.setLease r l).ens = s.ens := rfl
@[simp] theorem State.setLease_lands (r : Nat) (l : Lease) : (s.setLease r l).lands = s.lands := rfl
@[simp] theorem State.setLease_power (r : Nat) (l : Lease) : (s.setLease r l).power = s.power := rfl

/-! ## State.setBank -/

@[simp] theorem State.setBank_pending (i : Nat) (b : Bank) : (s.setBank i b).pending = s.pending := rfl
@[simp] theorem State.setBank_free (i : Nat) (b : Bank) : (s.setBank i b).free = s.free := rfl
@[simp] theorem State.setBank_otp (i : Nat) (b : Bank) : (s.setBank i b).otp = s.otp := rfl
@[simp] theorem State.setBank_obj (i : Nat) (b : Bank) : (s.setBank i b).obj = s.obj := rfl
@[simp] theorem State.setBank_mem (i : Nat) (b : Bank) : (s.setBank i b).mem = s.mem := rfl
@[simp] theorem State.setBank_eccBad (i : Nat) (b : Bank) : (s.setBank i b).eccBad = s.eccBad := rfl
@[simp] theorem State.setBank_clk (i : Nat) (b : Bank) : (s.setBank i b).clk = s.clk := rfl
@[simp] theorem State.setBank_strokes (i : Nat) (b : Bank) : (s.setBank i b).strokes = s.strokes := rfl
@[simp] theorem State.setBank_focal (i : Nat) (b : Bank) : (s.setBank i b).focal = s.focal := rfl
@[simp] theorem State.setBank_mc (i : Nat) (b : Bank) : (s.setBank i b).mc = s.mc := rfl
@[simp] theorem State.setBank_fab (i : Nat) (b : Bank) : (s.setBank i b).fab = s.fab := rfl
@[simp] theorem State.setBank_pix (i : Nat) (b : Bank) : (s.setBank i b).pix = s.pix := rfl
@[simp] theorem State.setBank_shadow (i : Nat) (b : Bank) : (s.setBank i b).shadow = s.shadow := rfl
@[simp] theorem State.setBank_pipe (i : Nat) (b : Bank) : (s.setBank i b).pipe = s.pipe := rfl
@[simp] theorem State.setBank_cal (i : Nat) (b : Bank) : (s.setBank i b).cal = s.cal := rfl
@[simp] theorem State.setBank_rolls (i : Nat) (b : Bank) : (s.setBank i b).rolls = s.rolls := rfl
@[simp] theorem State.setBank_views (i : Nat) (b : Bank) : (s.setBank i b).views = s.views := rfl
@[simp] theorem State.setBank_lanes (i : Nat) (b : Bank) : (s.setBank i b).lanes = s.lanes := rfl
@[simp] theorem State.setBank_eye (i : Nat) (b : Bank) : (s.setBank i b).eye = s.eye := rfl
@[simp] theorem State.setBank_dict (i : Nat) (b : Bank) : (s.setBank i b).dict = s.dict := rfl
@[simp] theorem State.setBank_ports (i : Nat) (b : Bank) : (s.setBank i b).ports = s.ports := rfl
@[simp] theorem State.setBank_act (i : Nat) (b : Bank) : (s.setBank i b).act = s.act := rfl
@[simp] theorem State.setBank_ens (i : Nat) (b : Bank) : (s.setBank i b).ens = s.ens := rfl
@[simp] theorem State.setBank_lands (i : Nat) (b : Bank) : (s.setBank i b).lands = s.lands := rfl
@[simp] theorem State.setBank_power (i : Nat) (b : Bank) : (s.setBank i b).power = s.power := rfl

/-! ## State.mapLane -/

@[simp] theorem State.mapLane_pending (n : Nat) (f : Lane → Lane) : (s.mapLane n f).pending = s.pending := rfl
@[simp] theorem State.mapLane_free (n : Nat) (f : Lane → Lane) : (s.mapLane n f).free = s.free := rfl
@[simp] theorem State.mapLane_otp (n : Nat) (f : Lane → Lane) : (s.mapLane n f).otp = s.otp := rfl
@[simp] theorem State.mapLane_obj (n : Nat) (f : Lane → Lane) : (s.mapLane n f).obj = s.obj := rfl
@[simp] theorem State.mapLane_mem (n : Nat) (f : Lane → Lane) : (s.mapLane n f).mem = s.mem := rfl
@[simp] theorem State.mapLane_banks (n : Nat) (f : Lane → Lane) : (s.mapLane n f).banks = s.banks := rfl
@[simp] theorem State.mapLane_eccBad (n : Nat) (f : Lane → Lane) : (s.mapLane n f).eccBad = s.eccBad := rfl
@[simp] theorem State.mapLane_clk (n : Nat) (f : Lane → Lane) : (s.mapLane n f).clk = s.clk := rfl
@[simp] theorem State.mapLane_strokes (n : Nat) (f : Lane → Lane) : (s.mapLane n f).strokes = s.strokes := rfl
@[simp] theorem State.mapLane_focal (n : Nat) (f : Lane → Lane) : (s.mapLane n f).focal = s.focal := rfl
@[simp] theorem State.mapLane_mc (n : Nat) (f : Lane → Lane) : (s.mapLane n f).mc = s.mc := rfl
@[simp] theorem State.mapLane_fab (n : Nat) (f : Lane → Lane) : (s.mapLane n f).fab = s.fab := rfl
@[simp] theorem State.mapLane_pix (n : Nat) (f : Lane → Lane) : (s.mapLane n f).pix = s.pix := rfl
@[simp] theorem State.mapLane_shadow (n : Nat) (f : Lane → Lane) : (s.mapLane n f).shadow = s.shadow := rfl
@[simp] theorem State.mapLane_pipe (n : Nat) (f : Lane → Lane) : (s.mapLane n f).pipe = s.pipe := rfl
@[simp] theorem State.mapLane_cal (n : Nat) (f : Lane → Lane) : (s.mapLane n f).cal = s.cal := rfl
@[simp] theorem State.mapLane_rolls (n : Nat) (f : Lane → Lane) : (s.mapLane n f).rolls = s.rolls := rfl
@[simp] theorem State.mapLane_views (n : Nat) (f : Lane → Lane) : (s.mapLane n f).views = s.views := rfl
@[simp] theorem State.mapLane_eye (n : Nat) (f : Lane → Lane) : (s.mapLane n f).eye = s.eye := rfl
@[simp] theorem State.mapLane_dict (n : Nat) (f : Lane → Lane) : (s.mapLane n f).dict = s.dict := rfl
@[simp] theorem State.mapLane_ports (n : Nat) (f : Lane → Lane) : (s.mapLane n f).ports = s.ports := rfl
@[simp] theorem State.mapLane_act (n : Nat) (f : Lane → Lane) : (s.mapLane n f).act = s.act := rfl
@[simp] theorem State.mapLane_ens (n : Nat) (f : Lane → Lane) : (s.mapLane n f).ens = s.ens := rfl
@[simp] theorem State.mapLane_lands (n : Nat) (f : Lane → Lane) : (s.mapLane n f).lands = s.lands := rfl
@[simp] theorem State.mapLane_power (n : Nat) (f : Lane → Lane) : (s.mapLane n f).power = s.power := rfl

/-! ## State.mapView -/

@[simp] theorem State.mapView_pending (v : Nat) (f : View → View) : (s.mapView v f).pending = s.pending := rfl
@[simp] theorem State.mapView_free (v : Nat) (f : View → View) : (s.mapView v f).free = s.free := rfl
@[simp] theorem State.mapView_otp (v : Nat) (f : View → View) : (s.mapView v f).otp = s.otp := rfl
@[simp] theorem State.mapView_obj (v : Nat) (f : View → View) : (s.mapView v f).obj = s.obj := rfl
@[simp] theorem State.mapView_mem (v : Nat) (f : View → View) : (s.mapView v f).mem = s.mem := rfl
@[simp] theorem State.mapView_banks (v : Nat) (f : View → View) : (s.mapView v f).banks = s.banks := rfl
@[simp] theorem State.mapView_eccBad (v : Nat) (f : View → View) : (s.mapView v f).eccBad = s.eccBad := rfl
@[simp] theorem State.mapView_clk (v : Nat) (f : View → View) : (s.mapView v f).clk = s.clk := rfl
@[simp] theorem State.mapView_strokes (v : Nat) (f : View → View) : (s.mapView v f).strokes = s.strokes := rfl
@[simp] theorem State.mapView_focal (v : Nat) (f : View → View) : (s.mapView v f).focal = s.focal := rfl
@[simp] theorem State.mapView_mc (v : Nat) (f : View → View) : (s.mapView v f).mc = s.mc := rfl
@[simp] theorem State.mapView_fab (v : Nat) (f : View → View) : (s.mapView v f).fab = s.fab := rfl
@[simp] theorem State.mapView_pix (v : Nat) (f : View → View) : (s.mapView v f).pix = s.pix := rfl
@[simp] theorem State.mapView_shadow (v : Nat) (f : View → View) : (s.mapView v f).shadow = s.shadow := rfl
@[simp] theorem State.mapView_pipe (v : Nat) (f : View → View) : (s.mapView v f).pipe = s.pipe := rfl
@[simp] theorem State.mapView_cal (v : Nat) (f : View → View) : (s.mapView v f).cal = s.cal := rfl
@[simp] theorem State.mapView_rolls (v : Nat) (f : View → View) : (s.mapView v f).rolls = s.rolls := rfl
@[simp] theorem State.mapView_lanes (v : Nat) (f : View → View) : (s.mapView v f).lanes = s.lanes := rfl
@[simp] theorem State.mapView_eye (v : Nat) (f : View → View) : (s.mapView v f).eye = s.eye := rfl
@[simp] theorem State.mapView_dict (v : Nat) (f : View → View) : (s.mapView v f).dict = s.dict := rfl
@[simp] theorem State.mapView_ports (v : Nat) (f : View → View) : (s.mapView v f).ports = s.ports := rfl
@[simp] theorem State.mapView_act (v : Nat) (f : View → View) : (s.mapView v f).act = s.act := rfl
@[simp] theorem State.mapView_ens (v : Nat) (f : View → View) : (s.mapView v f).ens = s.ens := rfl
@[simp] theorem State.mapView_lands (v : Nat) (f : View → View) : (s.mapView v f).lands = s.lands := rfl
@[simp] theorem State.mapView_power (v : Nat) (f : View → View) : (s.mapView v f).power = s.power := rfl

/-! ## State.mapEns -/

@[simp] theorem State.mapEns_pending (f : Ens → Ens) : (s.mapEns f).pending = s.pending := rfl
@[simp] theorem State.mapEns_free (f : Ens → Ens) : (s.mapEns f).free = s.free := rfl
@[simp] theorem State.mapEns_otp (f : Ens → Ens) : (s.mapEns f).otp = s.otp := rfl
@[simp] theorem State.mapEns_obj (f : Ens → Ens) : (s.mapEns f).obj = s.obj := rfl
@[simp] theorem State.mapEns_mem (f : Ens → Ens) : (s.mapEns f).mem = s.mem := rfl
@[simp] theorem State.mapEns_banks (f : Ens → Ens) : (s.mapEns f).banks = s.banks := rfl
@[simp] theorem State.mapEns_eccBad (f : Ens → Ens) : (s.mapEns f).eccBad = s.eccBad := rfl
@[simp] theorem State.mapEns_clk (f : Ens → Ens) : (s.mapEns f).clk = s.clk := rfl
@[simp] theorem State.mapEns_strokes (f : Ens → Ens) : (s.mapEns f).strokes = s.strokes := rfl
@[simp] theorem State.mapEns_focal (f : Ens → Ens) : (s.mapEns f).focal = s.focal := rfl
@[simp] theorem State.mapEns_mc (f : Ens → Ens) : (s.mapEns f).mc = s.mc := rfl
@[simp] theorem State.mapEns_fab (f : Ens → Ens) : (s.mapEns f).fab = s.fab := rfl
@[simp] theorem State.mapEns_pix (f : Ens → Ens) : (s.mapEns f).pix = s.pix := rfl
@[simp] theorem State.mapEns_shadow (f : Ens → Ens) : (s.mapEns f).shadow = s.shadow := rfl
@[simp] theorem State.mapEns_pipe (f : Ens → Ens) : (s.mapEns f).pipe = s.pipe := rfl
@[simp] theorem State.mapEns_cal (f : Ens → Ens) : (s.mapEns f).cal = s.cal := rfl
@[simp] theorem State.mapEns_rolls (f : Ens → Ens) : (s.mapEns f).rolls = s.rolls := rfl
@[simp] theorem State.mapEns_views (f : Ens → Ens) : (s.mapEns f).views = s.views := rfl
@[simp] theorem State.mapEns_lanes (f : Ens → Ens) : (s.mapEns f).lanes = s.lanes := rfl
@[simp] theorem State.mapEns_eye (f : Ens → Ens) : (s.mapEns f).eye = s.eye := rfl
@[simp] theorem State.mapEns_dict (f : Ens → Ens) : (s.mapEns f).dict = s.dict := rfl
@[simp] theorem State.mapEns_ports (f : Ens → Ens) : (s.mapEns f).ports = s.ports := rfl
@[simp] theorem State.mapEns_act (f : Ens → Ens) : (s.mapEns f).act = s.act := rfl
@[simp] theorem State.mapEns_lands (f : Ens → Ens) : (s.mapEns f).lands = s.lands := rfl
@[simp] theorem State.mapEns_power (f : Ens → Ens) : (s.mapEns f).power = s.power := rfl

/-! ## The fields that an update does change -/

@[simp] theorem State.setEngine_engines (p : Nat) (e : Engine) : (s.setEngine p e).fab.engines = s.fab.engines.setIfInBounds p e := rfl
@[simp] theorem State.setEngine_regions (p : Nat) (e : Engine) : (s.setEngine p e).fab.regions = s.fab.regions := rfl
@[simp] theorem State.setRegion_regions (g : Nat) (r : Region) : (s.setRegion g r).fab.regions = s.fab.regions.setIfInBounds g r := rfl
@[simp] theorem State.setRegion_engines (g : Nat) (r : Region) : (s.setRegion g r).fab.engines = s.fab.engines := rfl
@[simp] theorem State.setLease_engines (r : Nat) (l : Lease) : (s.setLease r l).fab.engines = s.fab.engines := rfl
@[simp] theorem State.setLease_leases (r : Nat) (l : Lease) : (s.setLease r l).fab.leases = Cells.set s.fab.leases r l {} := rfl
@[simp] theorem State.mapLane_lanes (n : Nat) (f : Lane → Lane) : (s.mapLane n f).lanes = s.lanes.setIfInBounds n (f (s.laneRec n)) := rfl
@[simp] theorem State.mapEns_ens (f : Ens → Ens) : (s.mapEns f).ens = f s.ens := rfl

end Sys2Proof.Machine
end

