-- ==== Sys2Proof/Tests/Slice0.lean ====
section
/-! SUPPORT. The model's own tests: an ill-formed term for each check of WellFormed, small checks of single steps,
and for each statement of Certificates/Slice0/Obligations.lean states and operands that meet its hypotheses. -/

namespace Sys2Proof.Machine

-- Each kernel evaluation waits for the ones before it: one after another, they need no thread each.
set_option Elab.async false

/-! ## WellFormed refuses -/

theorem test_wf_refuses_start :
    ([.resetNLow (2 ^ 32),
      .stage2Entry (some { density := 2 ^ 64, fourByte := true, pageSize := 256, prog := (1, 1), taps := List.replicate 32 true }),
      .stage2Entry (some { density := 1, fourByte := true, pageSize := 2 ^ 16, prog := (1, 1), taps := List.replicate 32 true }),
      .stage2Entry (some { density := 1, fourByte := true, pageSize := 256, prog := (1, 1), taps := List.replicate 31 true }),
      .strokeEntryWrite .package 8192 [0], .strokeFire .package 256, .lateStrokeFire (.die 0) 1024,
      .strokeFire .cluster 30720, .rimshotGo 256, .syncModeWrite 256, .stepGo 256] : List Instr).all
      (fun i => !i.wellFormed) = true := by decide

theorem test_wf_refuses_frames :
    ([.slotEnd 0 [{ cu := 30720, x := 0 }], .frameGate [(1920, 0)], .frameGate [(0, 2 ^ 20)], .sunTrippedClear 256,
      .mcOutput (2 ^ 31) false, .mcOutput (-(2 ^ 31) - 1) false, .mcRdWrite 65536, .mcFilterWrite .d (2 ^ 32),
      .mcInjGo 256] : List Instr).all (fun i => !i.wellFormed) = true := by decide

theorem test_wf_refuses_fabric :
    ([.itemRelease 0 640, .checkCompare 0 640, .engineFault 0 256, .haloArrival 0 0 [(648, 0)], .haloArrival 0 0 [(-9, 0)],
      .progSlotWrite 0 32768 [0], .tableAreaWrite 131072 [0], .fEngWrite 0 65536, .vddeMeasure 0 65536,
      .itemCommit ⟨0, [2 ^ 32]⟩, .vlut ⟨0, [2 ^ 32]⟩ 0, .vnbr ⟨0, [2 ^ 32]⟩ 0, .ldpx 0 0 [2 ^ 32], .ldcf 0 0 [2 ^ 32], .ldst 0 0 [2 ^ 32], .ldl 0 0 [2 ^ 32], .vhist 0 0 [2 ^ 32]] : List Instr).all
      (fun i => !i.wellFormed) = true := by decide

theorem test_wf_refuses_pipeline :
    ([.gimbalRateWrite (some (2 ^ 31)) none none 0, .gimbalRateWrite none (some (-(2 ^ 31) - 1)) none 0, .stdReload 256,
      .calDriftPoint 0, .calDriftPoint 5, .inactiveBanksWrite (2 ^ 29) [0], .commitGo 256, .allocApply 256,
      .linePageWrite 0 65536, .creditGo 256] : List Instr).all
      (fun i => !i.wellFormed) = true := by decide

theorem test_wf_refuses_lanes :
    ([.laneEnableWrite 0 2, .laneRestart 0 256, .codewordReceive 0 (List.replicate 513 0) (List.replicate 31 0) [], .codewordReceive 0 (List.replicate 514 1024) (List.replicate 30 0) [],
      .codewordReceive 0 (List.replicate 514 0) (List.replicate 30 0) (List.replicate 21 8), .codewordReceive 0 (List.replicate 514 0) (List.replicate 30 0) [18],
      .hello 0 ⟨0, 256, 0, true, true, true, 0, 0⟩, .hello 0 ⟨0, 0, 256, true, true, true, 0, 0⟩,
      .hello 0 ⟨0, 0, 0, true, true, true, 65536, 0⟩, .hello 0 ⟨0, 0, 0, true, true, true, 0, 4⟩, .tapReq 0 256 0 0 0,
      .tapReq 0 0 256 0 0, .tapReq 0 0 0 256 0, .tapReq 0 0 0 0 256, .tapResp 0 256 0 0, .tapResp 0 0 256 0,
      .pktReceive 0 ⟨65536, 1, true, true, { cmd := 1, index := 0, sub := 0 }⟩,
      .pktReceive 0 ⟨0, 256, true, true, { cmd := 1, index := 0, sub := 0 }⟩, .ack 0 65536, .nak 0 65536,
      .credit 0 65536 0 0 0, .down 0 256, .ttRoleReq 0 256, .roleReq 0 256 0, .roleReq 0 0 256, .roleResp 0 256 0,
      .roleResp 0 0 256, .eyeGo 256] : List Instr).all (fun i => !i.wellFormed) = true := by decide +kernel

theorem test_wf_refuses_requests :
    ([.registerWrite { cmd := 1, index := 0, sub := 0 }, .registerWrite { cmd := 4, index := 0, sub := 0 },
      .registerWrite { cmd := 2, index := 65536, sub := 0 }, .registerWrite { cmd := 2, index := 0, sub := 256 },
      .registerWrite { cmd := 2, tag := 256, index := 0, sub := 0 },
      .registerWrite { cmd := 2, index := 0, sub := 0, offset := 2 ^ 32 },
      .registerWrite { cmd := 2, index := 0, sub := 0, length := 2 ^ 32 }, .claim 128 0, .heartbeat 128 0 0,
      .heartbeat 0 0 256, .nodeExpire 128, .canApply 256, .ktpOpen 128 0 0 0, .ktpOpen 0 256 0 0, .ktpOpen 0 0 0 16,
      .ktpRead 128 0 0 0, .ktpWrite 0 16 0 0 [], .ktpWrite 0 0 0 0 (List.replicate 61 0), .readActive 0 0 65536 0,
      .segRead 0 0 0 256 0 0, .segWrite 0 0 0 0 (2 ^ 32) 0] : List Instr).all (fun i => !i.wellFormed) = true := by decide +kernel

theorem test_wf_refuses_transfers :
    ([.bulkRead 0 0 0 0 0 (2 ^ 32), .bulkWrite 128 0 0 0 0 0, .segData 128 true true [],
      .segData 0 true true (List.replicate 64 0), .bulkData 128 0 [], .bulkData 0 64 [], .bulkData 0 0 (List.replicate 64 0),
      .bulkAck 128 0 0 0, .bulkAck 0 256 0 0, .bulkAck 0 0 256 0, .bulkAck 0 0 0 256, .bulkEnd 128 0, .abort 128 0,
      .abort 0 256, .ktpTimeout 128, .bellAck 65536, .flashWindowWrite (2 ^ 31) [0], .eraseGo 256, .sspiFrame 65536 0 false,
      .accEnable 256 true true 0, .accEnable 1 true true 10, .xferGo 256 .addrNack, .xferGo 1 (.dataNack 32), .accTargetRead 65536,
      .lensPoll (.arbLost 8195 none), .lensGridReadDone (.done (List.replicate 8193 0)),
      .accStopCondition ⟨⟨true, true, 10⟩, .addrNack⟩, .peakReached 0 65536] : List Instr).all (fun i => !i.wellFormed) = true := by decide +kernel

theorem test_wf_refuses_drive :
    ([.malletStoreWrite 0 true 65536 [0], .measureCurrent 0 65536, .dipDetected 0 65536 0,
      .dipDetected 0 0 (2 ^ 32), .overCurrent 0 65536, .vactUndervoltage 65536, .coilModelUpdate [], .trip (2 ^ 32),
      .tripActiveClear 256, .ensEnableWrite 2, .masterBeacon ⟨0, []⟩, .memberBeacon ⟨0, List.replicate 259 0⟩,
      .slotClaim ⟨0, List.replicate 261 0⟩, .masterClaim ⟨0, [1]⟩, .leave ⟨0, []⟩,
      .gongReceive (2 ^ 32) 0, .wakeEdge (2 ^ 32) 0, .wakeEdge 0 (2 ^ 48), .canRxWake (2 ^ 32) 0, .sleepTimerExpiry (2 ^ 48),
      .aonWakeCommand (2 ^ 48), .sensorRead [], .thermalShutdown 0 32768, .trainDoneSend 0 (2 ^ 32),
      .canBusError true 256] : List Instr).all (fun i => !i.wellFormed) = true := by decide +kernel

/-! ## Small checks, their expected values from the spec -/

/-- R22 gives the check value of the CRC over the characters 123456789. -/
theorem test_crc32_check : crc32 [0x31, 0x32, 0x33, 0x34, 0x35, 0x36, 0x37, 0x38, 0x39] = 0xCBF43926 := by decide +kernel

/-- The worked example of 00_scope.md: CU17981 lies in RG37, CL1135 and Q3. -/
theorem test_numbering_example : regionOfCu 17981 = 37 ∧ clusterOfCu 17981 = 1135 ∧ quadOfCu 17981 = 3 := by decide

/-- The worked example of R45: INDEX = MASK = 0x0024 selects the sixteen regions of Q3. -/
theorem test_targets_example : ((List.range 64).filter fun g => targetMatch 0x24 0x24 g) = (List.range 64).filter fun g => quadOfRegion g = 3 := by
  decide

/-- The worked example of 02_drumline.md: the record of package entry 0. -/
theorem test_stroke_example :
    let e := Stroke.parse (wordsBytes [0x0D81C5D1, 0x23, 0, 0x00200085, 0, 0x3FA45155, 0xFFFF0000, 0])
    e.launch = 150550463953 ∧ e.action = 0x20 ∧ e.strict = true ∧ e.level = 5 ∧ e.period = 1067733333 ∧ e.repeatN = 0xFFFF := by decide +kernel

/-- The worked example of 13_actuator_drive.md: every word of the close profile is legal. -/
theorem test_mallet_example :
    [0x80000096, 0x10000960, 0x300528AF, 0x40000258, 0x81000000, 0x70000C80, 0x50000032, 0].all malletLegal = true := by decide

/-- A beat is 320 LSB without a correction (R38). -/
theorem test_beat :
    (match exec .beat { State.reset with power := { State.reset.power with domains := Vector.replicate 30 1 } } with
      | .next t => t.clk.dlt
      | _ => 0) = 320 := by decide +kernel

/-- A step takes the front of the queue and leaves the rest; on an empty queue the block idles. -/
theorem test_step_takes_the_front :
    (match step { State.reset with pending := [.gongNRise, .beat] } with
      | .next t => t.pending
      | _ => []) = [.beat] ∧ step State.reset = .next State.reset := ⟨by decide +kernel, rfl⟩

/-! ## States that meet the statements' hypotheses

Each witness names states and operands that meet the hypotheses of one obligation, clause by clause. -/

/-- A state with every domain on and the trims applied, with some objects put. -/
def lit (l : List (Nat × Int)) : State :=
  l.foldl (fun u kv => u.put kv.1 kv.2)
    { State.reset with power := { State.reset.power with domains := Vector.replicate 30 1, trims := true } }

/-- The stroke `(a, l)` is under way in `s`, and what its landing leaves satisfies `p`. -/
abbrev Lands' (a : Nat) (l : Landing) (s : State) (p : State → Bool) : Prop := ((s.fire a l).landing a l).any p = true

/-- A frame of 1024 tile positions and no J slots in progress. -/
def frame1 : Frame :=
  { num := 1, profile := 0, landing := 0, deadline := 2 ^ 40, tFrame := 64000000, n := 3, g := 2, k := 8, div := 1, jMask := 0, mask := [] }
theorem witness_StepRunsTheFrontCommand : ({ lit [] with pending := [.beat] } : State).pending = Instr.beat :: [] ∧ State.reset.pending = [] := by decide

theorem witness_StepKeepsCanonicalForm :
    State.reset.Canonical ∧ step { State.reset with pending := [.bellAck 0] } = .next (after (.bellAck 0) State.reset) := by
  exact ⟨by decide, rfl⟩

theorem witness_BeatsSlewDltByTheFractionalAccumulator :
    (lit [(Obj.FREQ_ADJ, -100000)]).drumOn = true ∧ (lit []).power.entering = none ∧ LanesQuiet (lit []) ∧ (lit [(Obj.FREQ_ADJ, -100000)]).get Obj.FREQ_ADJ = -100000 ∧
    (lit [(Obj.FREQ_ADJ, 100000)]).get Obj.FREQ_ADJ = 100000 ∧ (lit []).clk.acc = 0 ∧ State.reset.drumOn = false := by
  unfold LanesQuiet
  decide +kernel

theorem witness_CopiesComparedAndReloaded :
    (lit []).drumOn = true ∧ (1 : Dlt) ≠ (lit []).clk.dlt ∧
    (let s := { lit [] with clk := { (lit []).clk with reloadDue := Vector.replicate 4 true } }
     s.clk.reloadDue[(3 : Fin 4)] = true ∧ s.slotsRunning = false ∧ s.clk.refLost = false ∧ s.drumOn = true ∧ s.dict.bells.length < 64) ∧
    (let s := { lit [] with focal := { (lit []).focal with scans := Vector.replicate 4 { todo := [⟨false, 0, false, {}⟩] } } }
     s.slotsRunning = true) := by decide +kernel

/-- A FRAME_START on every site, one millisecond ahead, as a one-shot entry. -/
def entryLit : List Byte := leBytes 8 64000000 ++ leBytes 4 0 ++ leBytes 4 (0x20 * 65536 + 5) ++ List.replicate 16 0

/-- An accepted entry with the action `a` at level `l`. -/
def stroke1 (a : BitVec 16) (l : BitVec 4) (late fwd : Bool) : Stroke :=
  { launch := 0, mask := 0, index := 0, action := a, strict := false, level := l, arg := 1, period := 0, repeatN := 0, state := 1,
    fires := 0, next := 0, applies := 0, lateDue := late, forwarded := fwd }

theorem witness_SchedulerEntryAcceptedOrRefusedAlone :
    (255 : Nat) < Sched.package.entries ∧ entryLit.length = 32 ∧
    (lit []).entryOk .package (32 * 255) (Stroke.parse entryLit) = true ∧
    (let x := { stroke1 0x20 5 false true with state := 1 }
     let s : State := { lit [] with strokes := { entries := [(0, x)] } }
     s.strokes.deciding (schedKey .package 0) = some (x, false) ∧ x.applies ≤ s.clk.beats ∧ x.finished = false) ∧
    (30719 : Nat) < Sched.cluster.entries ∧ (lit []).entryOk .cluster (32 * 30719) (Stroke.parse entryLit) = false := by decide +kernel

/-- A state that holds one package entry. -/
def held1 (x : Stroke) : State := { lit [] with strokes := { entries := [(0, x)] } }

theorem witness_StrokesFireOnceAndCount :
    (let s := held1 (stroke1 0x20 5 false true)
     ∃ x, s.strokes.deciding (schedKey .package 0) = some (x, false) ∧ s.power.trims = true ∧ (∀ q : Fin 4, s.clk.copies[q] = s.clk.dlt) ∧ s.strokes.at 0 = some x ∧ x.finished = false ∧ x.lateDue = false ∧
       x.applies ≤ s.clk.beats ∧ Dlt.reached (s.schedNow .package 0) x.next = true ∧ (forwards .package x = true → x.forwarded = true) ∧
       s.slotMatches x = true ∧ forwards .package x = true ∧ beatsTo s.now x.next ≤ 400) ∧
    (let s := { held1 (stroke1 0x20 5 false true) with strokes := { replaced := [(0, stroke1 0x02 5 false true)] } }
     ∃ x, s.strokes.deciding (schedKey .package 0) = some (x, true) ∧ s.power.trims = true ∧ x.finished = false ∧ x.lateDue = false ∧
       x.applies ≤ s.clk.beats ∧ s.slotMatches x = true ∧ (forwards .package x = true → x.forwarded = true) ∧
       Dlt.reached (s.schedNow .package 0) x.next = true) ∧
    (let s := held1 (stroke1 0x02 5 true false)
     ∃ x, s.strokes.deciding (schedKey .package 0) = some (x, false) ∧ s.power.trims = true ∧ x.finished = false ∧ x.lateDue = true ∧
       x.applies ≤ s.clk.beats ∧ s.slotMatches x = true) ∧
    (let s := lit [(Obj.RS_ACTION, 2), (Obj.RS_LEVEL, 5)]
     s.strokes.rimshot = none ∧ entryForm .package 0 s.rimshotEntry = true ∧ s.power.trims = true ∧ forwards .package s.rimshotEntry = false) ∧
    (let s := { lit [] with strokes := { rimshot := some ⟨2, {}, 0, 0⟩ } }
     ∃ f, s.strokes.rimshot = some f ∧ f.l.level ≠ 6) := by
  exact ⟨⟨_, rfl, by decide⟩, ⟨_, rfl, by decide⟩, ⟨_, rfl, by decide⟩, by decide, ⟨_, rfl, by decide⟩⟩

/-- A state whose SYNC_IN run has opened at time 0. -/
def synced1 (q : Bool) (l : List (Nat × Int)) : State :=
  { lit l with clk := { (lit l).clk with dlt := 2 * 64000000, sources := (lit l).clk.sources.set 2 { run := 1, qualified := q } } }

theorem witness_TimeSourcesAndSteps :
    (let s := lit [(Obj.SYNC_MODE, 1), (Obj.SYNC_PERIOD, 64000000)]
     s.nat Obj.SYNC_MODE ≠ 0 ∧ (false = true ↔ s.nat Obj.SYNC_EDGE = 1) ∧ (s.clk.sources[sourceIdx .syncIn]).run = 0) ∧
    (let s := synced1 false [(Obj.SYNC_MODE, 1), (Obj.SYNC_PERIOD, 64000000)]
     (s.clk.sources[sourceIdx .syncIn]).run ≠ 0 ∧ (s.clk.sources[sourceIdx .syncIn]).qualified = false ∧
     (s.clk.sources[sourceIdx .syncIn]).inWindow 64640000 (s.sourcePeriod .syncIn) = true ∧
     (s.clk.sources[sourceIdx .syncIn]).inWindow 64640001 (s.sourcePeriod .syncIn) = false ∧
     (s.sourcePeriod .syncIn : Int) < 100 * Dlt.diff s.now ((s.clk.sources[sourceIdx .syncIn]).last +
      BitVec.ofNat 64 (((s.clk.sources[sourceIdx .syncIn]).missed + 1) * s.sourcePeriod .syncIn))) ∧
    (let s := lit []
     (priorityList (s.nat Obj.PRIORITY)).contains 3 = true ∧
     ∀ i : Fin 3, (s.clk.sources[i]).qualified = false ∧ (s.clk.sources[i]).everQual = false) ∧
    (let s := lit [(Obj.STEP_MODE, 1)]
     s.nat Obj.STEP_MODE ≠ 0 ∧ s.get Obj.STEP_VALUE = 0) ∧
    (let s := { lit [(Obj.STEP_MODE, 1), (Obj.STEP_VALUE, -1)] with clk := { running := true } }
     s.get Obj.STEP_VALUE < 0 ∧ s.clk.running = true ∧ s.nat Obj.FORCE = 0) ∧
    (let s := lit [(Obj.STEP_MODE, 1), (Obj.STEP_VALUE, -1)]
     s.get Obj.STEP_VALUE ≠ 0 ∧ s.clk.running = false) ∧
    (let s := { lit [] with clk := { stepDue := some (1, false, -1), beats := 1 } }
     s.clk.stepDue = some (1, false, -1) ∧ 1 ≤ s.clk.beats) ∧
    (let x := { stroke1 0x20 5 false true with period := 64000000 }
     let s := { lit [] with strokes := { entries := [(0, x)] }, focal := { (lit []).focal with frames := [{ frame1 with entry := some 0 }, frame1] } }
     s.focal.frames[0]? = some { frame1 with entry := some 0 } ∧ s.focal.frames[1]? = some frame1 ∧ frame1.entry = none ∧
     s.strokes.at 0 = some x ∧ x.period ≠ 0 ∧ x.state ≠ 3 ∧ x.state ≠ 5) := by decide

theorem witness_ControlStrokesLand :
    Lands' 0x60 {} (lit []) (fun _ => true) ∧ Lands' 0x61 {} (lit []) (fun _ => true) ∧ Lands' 0x01 {} (lit []) (fun _ => true) ∧
    Lands' 0x02 {} (lit []) (fun u => u.dict.bells.length < 64) ∧
    (let s := { lit [] with clk := { syncOut := true }, lands := { gongOwn := true } }
     s.clk.syncOutEnd ≤ s.clk.beats ∧ s.lands.gongEnd ≤ s.clk.beats ∧ s.clk.syncOut = true ∧ s.lands.gongOwn = true) := by decide

theorem witness_ShadowsAndSwapsWaitForTheFrame :
    Lands' 0x10 {} (lit []) (fun u => u.commitOk (u.captures {})) ∧
    Lands' 0x10 { arg := 0xF } { lit [] with shadow := { staged := [(Obj.SUB_SIZE, 1), (Obj.NBR_RADIUS, 1)] } }
      (fun u => !u.commitOk (u.captures { arg := 0xF })) ∧
    Lands' 0x11 {} (lit []) (fun _ => true) ∧ Lands' 0x12 {} (lit []) (fun _ => true) := by decide

/-- A state with the frame `frame1` in progress, quadrant 0 at a tile position and the others idle. -/
def framed (k : Slot) (l : List (Nat × Int)) : State :=
  { lit l with clk := { beats := 20000 }, focal := { frames := [frame1], scans := (Vector.replicate 4 {}).set 0 { todo := [k, ⟨false, 1, false, {}⟩] } } }

theorem witness_FrameStartLaunchesOrIsRefused :
    Lands' 0x20 {} (framed ⟨false, 0, false, {}⟩ []) (fun u => u.power.trims && u.startCause 0 == 1) ∧
    Lands' 0x20 { arg := 4 } (lit []) (fun u => u.power.trims && u.startCause 4 == 2) ∧
    Lands' 0x20 {} { lit [(Obj.THROTTLE_LEVEL, 4)] with power := { (lit []).power with landings := 1 } }
      (fun u => u.power.trims && u.startCause 0 == 0 && suppressed u.power.landings (u.nat Obj.THROTTLE_LEVEL)) ∧
    Lands' 0x20 { arg := 3 } (lit [])
      (fun u => u.power.trims && !u.slotsRunning && !suppressed u.power.landings (u.nat Obj.THROTTLE_LEVEL) &&
        u.clk.copies.toList.all (· == u.now)) := by decide +kernel

/-- A state whose engine 0 is idle and has FRAME_ENTRY of frame 1 to run; the slots hold the given words. -/
def entryState (bs : List Byte) : State :=
  { (lit []).poke (progBase 0) bs with fab := { (lit []).fab with engines := (lit []).fab.engines.set 0 { entryDue := some 1 } } }

theorem witness_FrameEntryRunsOnceForEachEngine :
    ((entryState []).idleMember 0).any (fun g =>
      ((entryState []).engine 0).entryDue == some 1 && (entryState []).slotEntry ((entryState []).ranSlot g 1) 2 == 0) = true ∧
    ((entryState (List.replicate 32 1)).idleMember 0).any (fun g =>
      (entryState (List.replicate 32 1)).slotEntry ((entryState (List.replicate 32 1)).ranSlot g 1) 2 != 0) = true := by decide +kernel

theorem witness_SlotEndStoresItsConversions :
    (let s := framed ⟨true, 3, false, {}⟩ []
     s.focal.scans[(0 : Fin 4)].todo = ⟨true, 3, false, {}⟩ :: [⟨false, 1, false, {}⟩] ∧ s.focal.frames = frame1 :: [] ∧
     s.focal.scans[(0 : Fin 4)].start + frame1.slotTenths ≤ 10 * s.clk.beats ∧
     quadOfCu 0 = 0 ∧ Slot.takes ⟨true, 3, false, {}⟩ 0 = true ∧ s.otp.deadCus.contains 0 = false ∧
     10 * ((4724464025 : Int).natAbs) ≤ 11 * 2 ^ (32 + s.nat (Obj.RANGE_SEL 0)) ∧ 3 * 2 ^ (31 + s.nat (Obj.RANGE_SEL 0)) ≤ (2 ^ 40 : Int).natAbs) ∧
    (let s0 := framed ⟨false, 0, false, {}⟩ []
     let s := s0.setRegion 0 { s0.region 0 with frames := [{ num := 1 }], bufs := [⟨0, 1, 0⟩] }
     s.focal.scans[(0 : Fin 4)].todo = ⟨false, 0, false, {}⟩ :: [⟨false, 1, false, {}⟩] ∧ s.focal.frames = frame1 :: [] ∧
     (∀ r ∈ [(⟨false, 1, false, {}⟩ : Slot)], r.isJ = false → r.n ≠ 0) ∧ frame1.set3 = false ∧
     ((s.region (regionOfCu 0)).rframe frame1.num).any (fun y => !y.discarded) = true ∧
     s.rowBuf (regionOfCu 0) frame1.num ((32 * (0 / 192 % 20) + 0 / 32 : Nat) : Int) = some 0) := by decide +kernel

theorem witness_GateIsPassedOnce :
    (let s := framed ⟨false, 0, false, {}⟩ []
     s.focal.frames = frame1 :: [] ∧ frame1.gateDone = false ∧ s.convertedOver frame1 = true) ∧
    (frame1.slotsEnd = none ∧ (lit []).clk.beats < frame1.beat + 20000) ∧
    (let s := { lit [] with focal := { frames := [{ frame1 with gateDone := true }] } }
     s.focal.frames = { frame1 with gateDone := true } :: []) ∧ (lit []).focal.frames = [] := by decide

theorem witness_UrgentRequestsAreServedOrDropped :
    Lands' 0x22 { arg := 0xFF } (framed ⟨false, 0, false, {}⟩ []) (fun u => u.focal.frames == [frame1] && u.focal.inj == none &&
      ({ arg := 0xFF } : Landing).hits 0 && u.nat (Obj.P_SCAN_MODE 0) != 1 &&
      u.nat (Obj.P_SCAN_MODE 0) == 0 && ({ arg := 0xFF } : Landing).hitsQuad 0 && u.focal.scans[(1 : Fin 4)].todo == [] &&
      Dlt.reached frame1.deadline (u.dltAt (nextMod frame1 u.focal.scans[(0 : Fin 4)].start u.clk.beats + 10 * frame1.slotTenths))) ∧
    Lands' 0x22 { arg := 1 } { framed ⟨false, 0, false, {}⟩ [] with focal :=
        { (framed ⟨false, 0, false, {}⟩ []).focal with frames := [{ frame1 with deadline := 0 }] } } (fun u =>
      u.focal.scans[(1 : Fin 4)].todo == [] && u.focal.scans[(0 : Fin 4)].todo != [] &&
      !Dlt.reached (0 : Dlt) (u.dltAt (nextMod frame1 u.focal.scans[(0 : Fin 4)].start u.clk.beats + 3 * frame1.slotTenths))) ∧
    (let s := framed ⟨true, 0, true, {}⟩ [(Obj.INJ_TRIG_MASK, 255)]
     s.focal.frames = frame1 :: [] ∧ s.focal.inj = none ∧ s.nat Obj.INJ_TRIG_MASK ≠ 0 ∧ s.nat Obj.INJ_TRIG_MASK < 256 ∧
     s.nat (Obj.P_SCAN_MODE frame1.profile) ≠ 1 ∧ s.nat Obj.MC_INJ_SRC ≠ 1) ∧ (0 : Nat) ≠ 1 := by decide +kernel

/-- A state whose monitor converter runs a native scan. -/
def scanning (m : Mc) (l : List (Nat × Int)) : State := { lit l with mc := m, clk := { beats := 4000000 } }

theorem witness_MonitorScanStartsStopsAndRecords :
    Lands' 0x28 { arg := 0x3FFF } (lit []) (fun u => u.nat Obj.MC_MODE != 1 && u.mc.calStep == 0) ∧
    Lands' 0x28 {} (lit [(Obj.MC_MODE, 1), (Obj.MC_SEQ_LEN, 1)]) (fun u => u.nat Obj.MC_MODE == 1 && u.nat Obj.MC_SEQ_LEN == 1 &&
      decide (u.nat Obj.MC_SEQ < 14) && u.mc.calStep == 0) ∧
    Lands' 0x28 { arg := 0x4000 } (lit []) (fun u => u.nat Obj.MC_MODE != 1) ∧
    (let s (m : Mc) := (scanning m []).fire 0x29 {}
     ((s { running := true }).strokes.inflight.find? fun f => f.action = 0x29).any (fun f => ((s { running := true }).landing 0x29 f.l).any fun u =>
       u.mc.running && u.mc.calStep == 0) = true ∧
     ((s { running := true, calStep := 1 }).landing 0x29 {}).any (fun u => u.mc.running && u.mc.calStep != 0) = true ∧
     ((s {}).landing 0x29 {}).any (fun u => !u.mc.running) = true) ∧
    (let s := scanning { running := true } [(Obj.MC_SCAN_MASK, 1), (Obj.MC_WR, 510)]
     s.mcDue = true ∧ s.mc.running = true ∧ s.mc.calStep = 0 ∧ s.mc.outs + 1 < s.mcOutputs ∧ s.mcChannel < 14 ∧
     (s.nat Obj.MC_WR + 512 - s.nat Obj.MC_RD) % 512 ≠ 511 ∧ (∀ v : Fin 16, s.nat (Obj.VW_SOURCE v) ≠ 2) ∧
     (s.nat Obj.MC_WR + 512 - s.nat Obj.MC_RD) % 512 = 510) ∧
    (let s := scanning { running := true } [(Obj.MC_SCAN_MASK, 1), (Obj.MC_WR, 511)]
     s.mcDue = true ∧ s.mcChannel < 14 ∧ s.mc.outs + 1 < s.mcOutputs ∧ (s.nat Obj.MC_WR + 512 - s.nat Obj.MC_RD) % 512 = 511) ∧
    (let s (b : Bool) := scanning { running := true, outs := 1000000, stopping := b } [(Obj.MC_SCAN_MASK, 1)]
     (s true).mcDue = true ∧ (s false).mcDue = true ∧ (s true).mc.seqMode = false ∧ (s true).mc.inj = none ∧ (s true).mcOutputs ≤ (s true).mc.outs + 1 ∧ (s true).mcChannel < 14 ∧
     (s true).mc.stopping = true ∧ (s false).mc.stopping = false) ∧
    (let s := lit [(Obj.MC_WR, 511)]
     (511 : Nat) < 512 ∧ (511 + 512 - s.nat Obj.MC_RD) % 512 ≤ (s.nat Obj.MC_WR + 512 - s.nat Obj.MC_RD) % 512) ∧
    (512 : Nat) ≤ 512 ∧ (0 + 512 - (lit [(Obj.MC_WR, 0)]).nat Obj.MC_RD) % 512 < (1 + 512 - (lit [(Obj.MC_WR, 0)]).nat Obj.MC_RD) % 512 ∧
    mcFilterOk (.gainSel 4) 1 = false ∧ mcFilterOk (.gainSel 3) 3 = true ∧ mcFilterOk .d 131072 = true ∧ mcFilterOk .k 4 = true := by decide +kernel

theorem scan_settles (s : State) (h : s.mc.inj = none) (k : s.mc.seqMode = false) : s.mcSettle = s := by
  have e : s.mcSettle.mc = s.mc := by
    unfold State.mcSettle
    cases hm : s.mc
    simp_all
  show { s with mc := s.mcSettle.mc } = s
  rw [e]

theorem witness_MonitorScanStartsStopsAndRecords_settled (wr : Int) :
    (scanning { running := true } [(Obj.MC_SCAN_MASK, 1), (Obj.MC_WR, wr)]).mcSettle =
      scanning { running := true } [(Obj.MC_SCAN_MASK, 1), (Obj.MC_WR, wr)] := scan_settles _ rfl rfl

theorem witness_MonitorInjectionAndCalibration :
    (let s (d : Option Dlt) := scanning { running := true, seqMode := true, deadline := d } [(Obj.MC_SEQ_LEN, 1), (Obj.MC_INJ_LEN, 1)]
     (s none).mc.running = true ∧ (s none).mc.seqMode = true ∧ (s none).mc.calStep = 0 ∧ (s none).mc.inj = none ∧ (s none).mc.deadline = none ∧
     1 ≤ (s none).nat Obj.MC_INJ_LEN ∧ (s none).nat Obj.MC_INJ_SEQ < 14 ∧ (s none).mc.pos < (s none).nat Obj.MC_SEQ_LEN ∧
     (s none).nat (Obj.MC_SEQ + (s none).mc.pos) < 14 ∧ (s none).mc.calZero ≠ some ((s none).nat Obj.MC_CAL_CH % 16) ∧
     (s (some (2 ^ 62))).mc.deadline = some (2 ^ 62) ∧
     mcLsb (((s none).nat Obj.MC_INJ_LEN + 1) * ((s none).nat Obj.MC_K - 1 + (s none).nat Obj.MC_DWELL) * (s none).nat Obj.MC_D) <
       (Dlt.diff (2 ^ 62) (s none).now : Rat) ∧
     (Dlt.diff 0 (s (some 0)).now : Rat) ≤
       mcLsb (((s none).nat Obj.MC_INJ_LEN + 1) * ((s none).nat Obj.MC_K - 1 + (s none).nat Obj.MC_DWELL) * (s none).nat Obj.MC_D)) ∧
    (let s := scanning { running := true, seqMode := true, inj := some 0 } []
     s.mc.running = true ∧ s.mc.seqMode = true ∧ s.mc.calStep = 0 ∧ s.mc.inj = some 0) ∧
    (let s := scanning { calZero := some 0 } []
     s.mc.calStep = 0 ∧ s.mc.calZero = some (s.nat Obj.MC_CAL_CH % 16)) ∧
    (let s := scanning { calStep := 1, calCh := 13, calCount := 64, calSum := 64 * (2 ^ 31 - 1) } []
     s.mc.calStep = 1 ∧ s.mc.calCh < 14 ∧ 0 < s.mc.calCount ∧ s.nat Obj.MC_CAL_AVG ≤ s.mc.calCount ∧ s.mc.calOvr = false ∧
     -(2 ^ 31) ≤ roundDiv s.mc.calSum s.mc.calCount ∧ roundDiv s.mc.calSum s.mc.calCount < 2 ^ 31) ∧
    (let s (m : Int) := scanning { calStep := 2, calCh := 13, calCount := 64, calSum := 64 * m } [(Obj.MC_FS_TARGET, 2 ^ 22)]
     let gain (m : Int) : Int := roundDivS ((s m).get Obj.MC_FS_TARGET * 2 ^ 22) (roundDiv (s m).mc.calSum (s m).mc.calCount - (s m).get (Obj.MC_OFFSET 13))
     (s 0).mc.calStep = 2 ∧ (s 0).nat Obj.MC_CAL_AVG ≤ (s 0).mc.calCount ∧ (s 0).mc.calOvr = false ∧
     0x200000 ≤ gain 4194304 ∧ gain 4194304 ≤ 0x7FFFFF ∧ gain 0 < 0x200000 ∧ 0x7FFFFF < gain 1) ∧
    ((lit []).mc.calStep = 0 ∧ (0 : Nat) < (lit []).nat Obj.MC_CAL_AVG) ∧
    (let s := scanning { calStep := 2, calCount := 64, calOvr := true } []
     s.mc.calStep ≠ 0 ∧ s.nat Obj.MC_CAL_AVG ≤ s.mc.calCount) := by decide +kernel

/-- A frame in which every position is enabled and region 0 waits for no halo word, past its gate. -/
def heldFrame : Frame :=
  { frame1 with mask := List.replicate 512 0xFF, gateDone := true, gated := BitVec.allOnes 64, discards := BitVec.allOnes 64 }

/-- A state with the fabric changed. -/
def fabbed (s : State) (f : Fabric → Fabric) : State := { s with fab := f s.fab }

/-- A state that holds `heldFrame`, whose slots have ended, in region 0. -/
def heldState (x : RFrame) : State :=
  let s : State := { lit [] with focal := { frames := [heldFrame] } }
  s.setRegion 0 { s.region 0 with frames := [x] }

/-- Region `g` with a queue of one item. -/
def queued (g row : Nat) : State :=
  (lit []).setRegion g { (lit []).region g with queue := [{ region := g, row := row, frame := 1 }] }

theorem witness_ItemsAreReleasedAndClaimedInOrder :
    (((heldState { num := 1 }).focal.frames.reverse.find? fun fr => (heldState { num := 1 }).releasable fr 0 639) = some heldFrame) ∧
    (((lit []).focal.frames.reverse.find? fun fr => (lit []).releasable fr 0 0) = none) ∧
    (let s := fabbed (lit []) fun f => { f with checks := [({ region := 0, row := 639, frame := 1 }, 1)] }
     s.idleMember 0 = some 0 ∧ s.entryWaits 0 0 = false ∧ s.fab.thirds = [] ∧ s.fab.reruns = [] ∧ (1 : Nat) ≠ 0 ∧ quadOfRegion 0 = dieOfEngine 0 ∧
     s.ranItem 0 { region := 0, row := 639, frame := 1 } = false) ∧
    (let s := queued 0 639
     s.idleMember 0 = some 0 ∧ s.entryWaits 0 0 = false ∧ s.fab.thirds = [] ∧ s.fab.reruns = [] ∧ s.fab.checks = [] ∧
     checkedItem { region := 0, row := 639, frame := 1 } = false ∧ checkedItem { region := 0, row := 32, frame := 1 } = true ∧ s.fab.done = [] ∧ (∀ e : Fin 272, (s.engine e).run = none) ∧ s.ranItem 0 { region := 0, row := 639, frame := 1 } = false ∧
     (s.region 0).queue = { region := 0, row := 639, frame := 1 } :: []) ∧
    (let s := queued 1 0
     s.idleMember 0 = some 0 ∧ 0 ^^^ 1 < 64 ∧ s.entryWaits 0 0 = false ∧ checkedItem { region := 1, row := 0, frame := 1 } = false ∧
     s.ranItem 0 { region := 1, row := 0, frame := 1 } = false ∧ (s.region 0).queue = [] ∧
     (s.region (0 ^^^ 1)).queue = { region := 1, row := 0, frame := 1 } :: []) ∧
    (let it : Item := { region := 1, row := 0x3FF, frame := 1, endEntry := true }
     let s := (lit []).setRegion 1 { (lit []).region 1 with queue := [it] }
     s.idleMember 0 = some 0 ∧ s.entryWaits 0 0 = false ∧ s.fab.thirds = [] ∧ s.fab.reruns = [] ∧ s.fab.checks = [] ∧ 1 = 0 ^^^ 1 ∧
     (s.region 0).queue = [] ∧ (s.region 1).queue = it :: [] ∧ it.endEntry = true ∧ s.ranItem 0 it = false) ∧
    (let s := (heldState { num := 1, discarded := true }).poke (progBase 0 + 12) [8, 0, 0, 0]
     (s.region 0).rframe heldFrame.num = some { num := 1, discarded := true } ∧ s.openItems heldFrame 0 = [] ∧
     s.slotEntry (s.ranSlot 0 heldFrame.num) 3 ≠ 0 ∧ (s.region 0).queue = [] ∧ (s.region 0).claimed = []) := by decide +kernel

/-- An item run of region 0. -/
def itemRun (k : RunKind) (row : Nat) : Run := { kind := k, item := { region := 0, row := row, frame := 1 }, slot := 0, grant := 0 }

/-- A state in which engine 0 has the run `x` of the frame `frame1`. -/
def running1 (x : Run) (l : List (Nat × Int)) : State :=
  let s := lit l
  { s with focal := { frames := [frame1] }, fab := { s.fab with engines := s.fab.engines.set 0 { run := some x } } }

/-- A state with the two finished runs of an item. -/
def compared (a b : Word) : State :=
  let s : State := { lit [] with focal := { frames := [frame1] } }
  { s with fab := { s.fab with done := [⟨0, (itemRun .item 1).item, .item, a, itemRun .item 1⟩, ⟨1, (itemRun .item 1).item, .check, b, itemRun .check 1⟩] } }

theorem witness_RunsCommitCompareFaultAndTimeOut :
    (let s := running1 { itemRun .frameEntry 0x3FE with ended := true } []
     (s.engine 0).run = some { itemRun .frameEntry 0x3FE with ended := true } ∧ s.frame? 1 = some frame1 ∧ (itemRun .frameEntry 0x3FE).fault = 0 ∧ (itemRun .frameEntry 0x3FE).leasing = none ∧
     (itemRun .frameEntry 0x3FE).first = none) ∧
    (let x : Run := { itemRun .item 0 with ended := true, writes := [(0x3FFFFF, 7)] }
     let s := running1 x []
     (s.engine 0).run = some x ∧ x.fault = 0 ∧ x.leasing = none ∧ x.first = none ∧ x.emits = [] ∧ x.item.region < 64 ∧ 0x3FFFFF < 0x400000 ∧
     s.frame? x.item.frame = some frame1 ∧ checkedItem x.item = false ∧ s.frame? (frame1.num + 2) = none) ∧
    (let s := compared 1 2
     s.frame? 1 = some frame1 ∧ (1 : Word) ≠ 2 ∧ (itemRun .item 1).emits = [] ∧ (itemRun .item 1).item.region = 0 ∧ (((s.region 0).rframe 1).any fun x => x.ended.contains 1) = false) ∧
    (let s := compared 1 1
     s.frame? 1 = some frame1 ∧ (((s.region 0).rframe 1).any fun x => x.ended.contains 1) = false) ∧
    ((running1 { itemRun .item 0 with fault := 0x20 } []).engine 0).run = some { itemRun .item 0 with fault := 0x20 } ∧ (0x20 : Nat) ≠ 0 ∧
    (let s := running1 (itemRun .item 0) [(Obj.ROLL_COUNT, 1000)]
     (s.engine 0).run = some (itemRun .item 0) ∧ (itemRun .item 0).ended = false ∧ 0 + s.nat Obj.CLAIM_ROLLS ≤ s.nat Obj.ROLL_COUNT) := by decide +kernel

theorem witness_HalosSeamsAndProgramMemory :
    (let f : Frame := { heldFrame with discards := 0 }
     let s0 : State := { lit [] with focal := { frames := [f] } }
     let s := s0.setRegion 0 { s0.region 0 with frames := [{ num := 1 }], bufs := [⟨255, 1, 0⟩] }
     (s.region 0).rframe f.num = some { num := 1 } ∧ (haloCols f.rho 0).contains 768 = true ∧ s.haloComes f 0 0 768 = true ∧
     haloSource 0 0 768 = some (1, 0, 0) ∧ s.rowHeld f 1 0 = true ∧ s.lineWord 1 f.num 0 0 = (0 : Word).toNat ∧
     s.rowBuf 0 f.num 0 = some 255 ∧ haloBlocks 0 0 [(768, 0)] = []) ∧
    (let f : Frame := { heldFrame with discards := 0 }
     let s0 : State := { lit [] with focal := { frames := [f] }, rolls := { running := true } }
     let s := s0.setRegion 3 { s0.region 3 with frames := [{ num := 1 }] }
     s.focal.frames = [f] ∧ (s.region 3).rframe f.num = some { num := 1 } ∧ (haloCols f.rho 0).contains 768 = true ∧
     s.haloComes f 3 0 768 = true ∧ haloSource 3 0 768 = some (4, 0, 0) ∧ s.rowHeld f 4 0 = true ∧ s.lineWord 4 f.num 0 0 = (0 : Word).toNat ∧
     ∃ e ∈ haloBlocks 3 0 [(768, 0)], s.maySpend (128 + e.1) 0 = false) ∧
    (lit []).fab.seamDown[(3 : Fin 4)] = false ∧ (lit []).fab.seamFails[(3 : Fin 4)] ≠ 15 ∧
    (fabbed (lit []) fun f => { f with seamFails := Vector.replicate 4 15 }).fab.seamFails[(3 : Fin 4)] = 15 ∧
    (lit []).slotBusy (1 : Fin 2) = false ∧ (lit []).slotBusy (0 : Fin 2) = true ∧ 32767 + [(0 : Byte)].length ≤ 32768 ∧
    131071 + [(0 : Byte)].length ≤ 131072 := by decide +kernel

theorem witness_EngineClocksFollowPllAndVoltage :
    (50 : Nat) ≤ 400 ∧ 400 % 5 = 0 ∧ (400 < 401 ∨ 401 % 5 ≠ 0) ∧ vddeMin ((lit []).fEng 3) ≤ 600 + 20 ∧
    (let s := lit [(Obj.F_ENG_ACTIVE 3, 400)]
     vddeMin (s.fEng 3) ≤ 810 + 20 ∧ 809 + 20 < vddeMin (s.fEng 3) ∧ 550 + 20 < vddeMin (s.fEng 3)) := by decide +kernel

/-- An engine with some scalar registers. -/
def eng (l : List (Nat × Word)) : Engine := { s := l.foldl (fun v c => v.setIfInBounds c.1 c.2) (Vector.replicate 16 0) }

/-- Engine 0 stands at address 8 of slot 0, a program of 64 words, before the word of opcode `op` and fields `f`, in the run `x`. -/
def issuing (op : Nat) (f : BitVec 26) (e : Engine) (x : Run) : State :=
  let s : State := { lit [] with focal := { frames := [heldFrame] } }
  let s1 := (s.poke (progBase 0) (leBytes 4 (65536 + 64))).poke (progBase 0 + 32) (leBytes 4 (op * 2 ^ 26 + f.toNat))
  { s1 with fab := { s1.fab with engines := s1.fab.engines.set 0 { e with pc := 8, run := some x } } }

/-- Engine 0 issues the word in `s`, and `p` holds of its registers and its run. -/
def goes (op : Nat) (f : BitVec 26) (s : State) (p : Engine → Run → Bool) : Bool :=
  (s.issues 0 op f).any fun c => (c.2.pfx?.isSome || s.maySpend ((s.regionOfEngine 0).getD 0) c.2.kind.cls) &&
    s.inProgram c.2.slot (c.1.advance c.1.pc).pc && p c.1 c.2

/-- Engine 0, in an item run without a PFX word, issues the word. -/
def plain (op : Nat) (f : BitVec 26) (e : Engine := {}) (p : Engine → Run → Bool := fun _ _ => true) : Bool :=
  goes op f (issuing op f e (itemRun .item 0)) fun e x => x.pfx?.isNone && p e x

theorem witness_ScalarArithmeticAndFlags :
    ([1, 2, 3, 4, 5, 6, 7].all fun op => plain op 0x2000000 {} fun e x => (e.srOperand x 0x2000000).isSome) = true ∧
    ([1, 2, 3, 4, 5, 6, 7].all fun op => plain op 0 {} fun e x => (e.srOperand x 0).isSome) = true ∧
    goes 1 0x2000000 (issuing 1 0x2000000 {} { itemRun .item 0 with pfx? := some 0x7FFF }) (fun e x =>
      (e.srOperand x 0x2000000).isSome) = true := by decide +kernel

theorem witness_MovesAndControlFlow :
    plain 0 0x2000001 {} (fun _ x => (srImm 0x2000001 x.pfx?).isSome) = true ∧ plain 0 0 = true ∧
    bits (BitVec.toNat (0x2070 : BitVec 26)) 16 13 = 1 ∧ plain 0 0x2070 = true ∧ plain 0 0xA000 = true ∧ plain 0 0xC400 = true ∧
    plain 8 9 {} (fun e _ => e.cond 0 0 == some true) = true ∧
    plain 8 0x400009 {} (fun e _ => e.cond 1 0 == some false) = true ∧
    (let s := issuing 8 9 {} (itemRun .item 0)
     s.inProgram 0 9 = true ∧ s.inProgram 0 63 = true ∧ s.pairSecond 0 9 = false ∧ s.progWord 0 63 / 2 ^ 26 ≠ 0x3F ∧
     s.inProgram 0 (62 + 1) = true) ∧
    plain 9 0x200203F = true ∧ plain 9 0x200003E = true ∧ plain 0x3F 0x3FFFFFF = true := by decide +kernel

theorem witness_LoadsAndStores :
    plain 0x14 0x20000 (eng [(1, 0x1FFFC)]) (fun e x => MF.legal 0x20000 && (e.address x 0x20000 fun w => w = .table || w = .scratch || w = .hist || w = .regs || w = .flash) == .ok (.table, 0x1FFFC)) = true ∧
    plain 0x14 0x20000 (eng [(1, 0x20000)]) (fun e x => (e.address x 0x20000 fun w => w = .table || w = .scratch || w = .hist || w = .regs || w = .flash) == .ok (.scratch, 0)) = true ∧
    plain 0x15 0x2030000 (eng [(1, 0x3FFC0)]) (fun e x => MF.legal 0x2030000 &&
      (e.address x 0x2030000 fun w => w = .scratch || (w = .inactive && !x.kind.isItem)) == .ok (.scratch, 0x1FFC0)) = true ∧
    plain 0x12 0x20000 (eng [(1, 0x43FFFFC)]) (fun e x => (e.address x 0x20000 (· = .fstate)) == .ok (.fstate, 0x3FFFFC)) = true ∧
    plain 0x13 0x20000 (eng [(1, 0x43FFFFC)]) (fun e x => x.blocks.length < 384 &&
      (e.address x 0x20000 (· = .fstate)) == .ok (.fstate, 0x3FFFFC)) = true ∧
    goes 0x13 0x20000 (issuing 0x13 0x20000 (eng [(1, 0x4000000)]) (itemRun .endEntry 0x3FF)) (fun e x =>
      (e.address x 0x20000 (· = .fstate)) == .ok (.fstate, 0)) = true ∧
    plain 0x10 0 {} (fun _ x => PX.legal 0 && (issuing 0x10 0 {} x).frame? x.item.frame == some heldFrame &&
      (PX.of 0).dy.natAbs ≤ (issuing 0x10 0 {} x).rho x.item.frame && heldFrame.neighbour 0 0 0 == some 0) = true ∧
    plain 0x11 0x1000 {} (fun _ x => ldcfLegal 0x1000 && (ldcfField 1).isSome && (issuing 0x11 0x1000 {} x).maySpend 64 0) = true ∧
    (issuing 0 0 {} (itemRun .item 0)).eccBad = [] := by decide +kernel

theorem witness_VectorArithmetic :
    ([0x20, 0x21, 0x22, 0x24, 0x25, 0x26, 0x27, 0x28].all fun op => ([0, 1, 2, 3].all fun k =>
      plain op (BitVec.ofNat 26 (31 * 2 ^ 11 + 2 * 2 ^ 9 + k)))) = true ∧
    (let r := VR.of (BitVec.ofNat 26 (31 * 2 ^ 11 + 2 * 2 ^ 9))
     r.bm = 2 ∧ r.b + 1 ≤ 32 ∧ r.w = false ∧ r.bm ≠ 3 ∧ r.sub = 0 ∧ (VR.of (BitVec.ofNat 26 (15 * 2 ^ 11 + 2 * 2 ^ 9))).b + 1 ≤ laneBits false ∧
     ∀ j : Fin 32, 1 ≤ (eng [(15, 31)]).bS (VR.of (BitVec.ofNat 26 (15 * 2 ^ 11 + 2 ^ 9))) none j ∧
       (eng [(15, 31)]).bS (VR.of (BitVec.ofNat 26 (15 * 2 ^ 11 + 2 ^ 9))) none j ≤ 31) := by decide +kernel

theorem witness_AccumulateCompareSelectTagAndLookUp :
    plain 0x23 (BitVec.ofNat 26 (3 * 2 ^ 21)) = true ∧ plain 0x29 (BitVec.ofNat 26 (7 * 2 ^ 21)) = true ∧ plain 0x29 0 = true ∧
    plain 0x2A 0 = true ∧ plain 0x2D 0x403 = true ∧ plain 0x2D (BitVec.ofNat 26 (7 * 2 ^ 21 + 1024)) = true ∧
    (VR.of 0x403).bm = 2 ∧ (VR.of 0x403).sub = 3 ∧
    plain 0x2C 0x200 (eng [(0, 0x1C000)]) (fun e _ => (e.sr 0).toNat % 64 = 0 && (e.sr 0).toNat + 4096 * 2 ≤ 0x20000) = true ∧
    (VR.of 0x200).bm = 1 ∧ (issuing 0x2C 0x200 {} (itemRun .item 0)).eccBad = [] := by decide +kernel

/-- A tag vector in which lane 0 alone takes part. -/
def oneLane : Engine := { v := Vector.replicate 32 { lanes := 0, tags := BitVec.allOnes 128 <<< 4 } }

theorem witness_NeighboursHistogramsAndStatistics :
    plain 0x2E 0 {} (fun _ x => (issuing 0x2E 0 {} x).frame? x.item.frame == some heldFrame) = true ∧
    (let f : BitVec 26 := BitVec.ofNat 26 (3 * 2 ^ 21 + 1 * 2 ^ 11 + 2 * 2 ^ 9)
     let s := (issuing 0x30 f oneLane (itemRun .item 0)).setLease 3 { holder := 0 }
     goes 0x30 f s (fun e x => x.pfx?.isNone && s.holds 0 (21 * x.item.region + (VR.of f).vd) &&
       ((List.range 32).filter (e.counts (VR.of f))) == [0]) = true ∧ (VR.of f).bm = 2 ∧ (VR.of f).vd = 3 ∧ (VR.of f).sub = 0 ∧
       (VR.of f).w = false ∧ (VR.of f).b = 1 ∧ s.eccBad = []) ∧
    plain 0x31 1 = true ∧ (VR.of 1).bm = 0 ∧ (VR.of 1).b = 0 ∧ (VR.of 1).sub = 1 ∧
    plain 0x32 (BitVec.ofNat 26 (31 * 2 ^ 21 + 512)) = true ∧ (VR.of (BitVec.ofNat 26 (31 * 2 ^ 21 + 512))).bm = 1 := by decide +kernel

theorem witness_EmitsAndBellsWaitForTheCommit :
    plain 0x38 0 = true ∧ (EM.of 0).kind = 0 ∧
    (let f : BitVec 26 := BitVec.ofNat 26 (2 ^ 15 + 60 * 2 ^ 9)
     let s := (issuing 0x38 f {} (itemRun .item 0)).setLease 20 { holder := 0 }
     goes 0x38 f s (fun _ x => s.holds 0 (21 * x.item.region + 5 + (EM.of f).dest / 4)) = true ∧ (EM.of f).kind = 1 ∧
     (EM.of f).dest = 60 ∧ (EM.of f).w = false) ∧
    (let f : BitVec 26 := BitVec.ofNat 26 (2 * 2 ^ 15)
     let s (k : RunKind) : State := (issuing 0x38 f (eng [(0, BitVec.ofNat 32 (4 * 2 ^ 24 + 0x3FFFC0))]) (itemRun k 0)).setLease 1344 { holder := 0 }
     let ok (k : RunKind) : Bool := goes 0x38 f (s k) fun e _ => let sc := (e.sr (EM.of f).sc).toNat
       seamBetween 0 (quadOfRegion (bits sc 29 24)) == some 0 && bits sc 21 0 % 64 = 0 && dieOfEngine 0 < quadOfRegion (bits sc 29 24) &&
       (s k).holds 0 (1344 + 0)
     (EM.of f).kind = 2 ∧ (EM.of f).dest = 0 ∧ ok .item = true ∧ ok .frameEntry = true ∧
     (s .frameEntry).fab.seamDown.toList.getD 0 false = false ∧ (s .frameEntry).maySpend (128 + 0) 1 = true ∧
     ((s .frameEntry).rolls.seam.any fun q => q.slot = 0 && q.cls = 1) = false ∧
     State.maySpend { s .frameEntry with rolls := { running := true } } (128 + 0) 1 = false) ∧
    plain 0x3C 0x20000FF = true ∧ goes 0x3C 0 (issuing 0x3C 0 {} (itemRun .frameEntry 0x3FE)) (fun _ _ => true) = true := by decide +kernel

theorem witness_EventsAndLeases :
    goes 0x39 0 (issuing 0x39 0 { eng [(0, 1)] with evp := 1 } (itemRun .frameEntry 0x3FE)) (fun e _ => e.evp &&& e.sr 0 ≠ 0) = true ∧
    goes 0x39 0 (issuing 0x39 0 (eng [(0, 1)]) (itemRun .frameEntry 0x3FE)) (fun e _ => e.evp &&& e.sr 0 = 0) = true ∧
    (let x : Run := { itemRun .item 0 with waiting := some { mask := 1, clear := false, fs := true, rb := true, limit := 7, sd := 15, beat := 0, fsLand := some 9, rbLand := some 9 } }
     let s := { running1 x [] with clk := { beats := 2 ^ 40 } }
     (s.engine 0).run = some x ∧ x.waiting.isSome = true ∧ (15 : Nat) < 16 ∧ (7 : Nat) ≠ 0 ∧ 7 * 200 ≤ (s.clk.beats - 0) * s.fEng (dieOfEngine 0)) ∧
    (let x : Run := { itemRun .frameEntry 0x3FE with waiting := some { mask := 0x80000000, clear := true, fs := false, rb := false, limit := 0, sd := 15, beat := 0, fsLand := none, rbLand := none } }
     let s : State := { lit [] with fab := { (lit []).fab with engines := (lit []).fab.engines.set 271 { run := some x, evp := 0x80000000, evLand := [(31, 9)] } } }
     (s.engine 271).run = some x ∧ (((s.engine 271).evp &&& 0x80000000).getLsbD 31) = true ∧ (s.engine 271).evLand = [(31, 9)]) ∧
    Lands' 0x30 { arg := 31 } (lit []) (fun u => u.regionOfEngine 0 == some 0 && ({ level := 4, mask := 0, index := 0, arg := 31 } : Landing).hits (dieOfEngine 0) && ({ arg := 31 } : Landing).hitsRegion 0 &&
      !({ level := 3, mask := 0xFFFF, index := 1 } : Landing).hitsRegion 0) ∧
    (let f : BitVec 26 := 0x3000FF
     goes 0x3A f (issuing 0x3A f {} (itemRun .item 0)) (fun _ x => x.pfx?.isNone && !x.kind.comparing && leaseTarget 0 ((issuing 0x3A f {} (itemRun .item 0)).leaseRegion 0 x) 0 3 == some 3) = true ∧
     bits f.toNat 23 20 = 3 ∧ bits f.toNat 19 16 = 0 ∧ bits f.toNat 7 0 = 255 ∧
     (let l := (issuing 0x3A f {} (itemRun .item 0)).lease 3
      l.holder = 0xFFFF ∧ l.rolling = false ∧ l.waiting = []) ∧
     (let l := ((issuing 0x3A f {} (itemRun .item 0)).setLease 3 { holder := 5 }).lease 3
      l.holder ≠ 0 ∧ l.holder ≠ 0xFFFF) ∧
     (((issuing 0x3A f {} (itemRun .item 0)).setLease 3 { holder := 0 }).lease 3).holder = 0) ∧
    (let s := (lit []).setLease 1351 { waiting := [(271, 255)] }
     (s.lease (1351 : Fin 1352)).holder = 0xFFFF ∧ (s.lease (1351 : Fin 1352)).waiting = (271, 255) :: []) ∧
    (let x : Run := { itemRun .item 0 with leasing := some (3, 1, 1, 0) }
     let s := running1 x [(Obj.ROLL_COUNT, 1)]
     (s.engine 0).run = some x ∧ 0 + 1 ≤ s.nat Obj.ROLL_COUNT) := by decide +kernel

theorem witness_FreeReleasesOrSetsLf :
    (let f : BitVec 26 := 0x300000
     let s (h : Nat) (k : RunKind) := (issuing 0x3B f {} (itemRun k 0)).setLease 3 { holder := h }
     let ok (h : Nat) (k : RunKind) : Bool := goes 0x3B f (s h k) fun _ x => x.pfx?.isNone && leaseTarget 0 ((s h k).leaseRegion 0 x) 0 3 == some 3
     bits f.toNat 25 24 = 0 ∧ bits f.toNat 23 20 = 3 ∧ bits f.toNat 19 0 = 0 ∧ ok 0 .item = true ∧ ((s 0 .item).lease 3).holder = 0 ∧
     ok 5 .item = true ∧ ((s 5 .item).lease 3).holder ≠ 0 ∧ ok 0 .check = true ∧ RunKind.comparing .check = true) := by decide +kernel

theorem witness_CallsPushAndReturnsPop :
    plain 0x0A 9 { calls := List.replicate 15 9 } (fun e _ => e.calls.length < 16) = true ∧
    plain 0x0A 9 { calls := List.replicate 16 9 } (fun e _ => 16 ≤ e.calls.length) = true ∧
    (let s := issuing 0x0A 9 {} (itemRun .item 0)
     s.inProgram 0 (bits (BitVec.toNat (9 : BitVec 26)) 12 0) = true ∧ s.pairSecond 0 9 = false) ∧
    plain 0x0B 0 { calls := [9] } (fun e _ => e.calls == [9]) = true ∧ plain 0x0B 0 {} (fun e _ => e.calls == []) = true := by decide +kernel

theorem witness_MergeShadingGimbalAndRom :
    (let s : State := { lit [] with focal := { frames := [{ frame1 with discards := BitVec.allOnes 64 }] } }
     s.mergeable = some { frame1 with discards := BitVec.allOnes 64 }) ∧ (lit []).mergeable = none ∧
    (let s := lit [(Obj.SHADE_WRITE_SLOT, 1)]
     s.slotInForce (s.nat Obj.SHADE_WRITE_SLOT) = false ∧ s.slotInUse (s.nat Obj.SHADE_WRITE_SLOT) = false) ∧
    (lit [(Obj.SHADE_WRITE_SLOT, 0)]).slotInForce 0 = true ∧ (-(2 ^ 31) : Int) < 2 ^ 31 ∧
    (lit []).slotBusy (1 : Fin 2) = false ∧ (lit []).slotBusy (0 : Fin 2) = true := by decide +kernel

/-- A state with a calibration run. -/
def calib (r : CalRun) (l : List (Nat × Int)) : State := { lit l with cal := { run := some r } }

theorem witness_CalibrationRunsAreAcceptedAndBegin :
    Lands' 0x70 { arg := 1 } (lit [(Obj.CAL_GEN, 5)]) (fun u => u.cal.run == none && !u.banksTaken && !u.calGenBad && !u.deferring) ∧
    Lands' 0x70 { arg := 1 } (lit []) (fun u => !u.banksTaken && u.calGenBad && !u.cal.zeroDone) ∧
    Lands' 0x70 { arg := 2 } { lit [] with cal := { load := some ⟨0, 0, false, false⟩ } } (fun u => u.cal.run == none && u.banksTaken) ∧
    Lands' 0x70 { arg := 2 } { lit [] with cal := { zeroDone := true } } (fun u => u.cal.run == none && !u.banksTaken && u.cal.zeroDone &&
      u.cal.zeroCommit == u.shadow.converterCommits) ∧
    Lands' 0x70 { arg := 3 } { lit [] with cal := { load := some ⟨0, 1, false, false⟩ } } (fun u => u.cal.run == none && u.deferring) ∧
    Lands' 0x70 { arg := 0x104 } (lit [(Obj.DRIFT_POINTS, 2)]) (fun u => u.cal.run == none && !u.banksTaken &&
      (u.nat Obj.DRIFT_DONE).testBit 0 == false) ∧
    Lands' 0x70 { arg := 0x104 } (lit [(Obj.DRIFT_POINTS, 2), (Obj.DRIFT_DONE, 1)]) (fun u => u.cal.run == none && !u.banksTaken &&
      decide (1 < u.nat Obj.DRIFT_POINTS) && (u.nat Obj.DRIFT_DONE).testBit 0) ∧
    Lands' 0x70 { arg := 1 } (calib { kind := 1 } []) (fun u => u.cal.run == some { kind := 1 }) ∧
    Lands' 0x70 { arg := 5 } (calib { kind := 1 } []) (fun u => u.cal.run == some { kind := 1 }) ∧
    PortsFree (lit []) ∧
    (let s := (calib { kind := 1 } []).setLease 4 { holder := 5 }
     s.calReady 1 = some { kind := 1 } ∧ (s.lease (21 * (0 : Fin 64) + 4)).holder ≠ 0x8000 ∧ (s.lease (21 * (0 : Fin 64) + 4)).holder ≠ 0xFFFF) ∧
    (calib { kind := 1 } []).calReady 1 = some { kind := 1 } ∧ (calib { kind := 2 } []).calReady 2 = some { kind := 2 } ∧
    (calib { kind := 3 } []).calReady 3 = some { kind := 3 } ∧
    (let s := calib { kind := 4, point := 4 } [(Obj.DRIFT_SRC, 1)]
     s.calReady 4 = some { kind := 4, point := 4 } ∧ s.nat Obj.DRIFT_SRC ≠ 0) := by
  unfold PortsFree
  decide +kernel

theorem witness_CalibrationRunsEndAndOffsetsApply :
    (calib { kind := 1, abort := true } []).cal.run = some { kind := 1, abort := true } ∧
    (let s := { calib { kind := 3, step := 2 } [] with clk := { dlt := 2 ^ 62 } }
     s.cal.run = some { kind := 3, step := 2 } ∧ s.nat Obj.CLAP_TIMEOUT * 64000000 ≤ (s.now - 0).toNat) ∧
    (let s := { calib { kind := 1, step := 5, last := 1 } [] with pipe := { merged := some 1 } }
     s.pipe.merged = some 1 ∧ ((1 : BitVec 32) - 1).toNat < 2 ^ 31 ∧ s.portsPaid 2 = true) ∧
    (let s : State := { lit [] with cal := { update := some [63], uof := [(uofKey 63 491519, 7)] } }
     s.cal.update = some [63] ∧ s.cal.uof = [(uofKey (63 : Fin 64) 491519, ((7 : Word).toNat : Int))] ∧
     s.recordBad (s.bankNo 63 false) (491519 % 768) (491519 / 768) = false ∧ (s.lease (21 * (63 : Fin 64) + 4)).holder = 0xFFFF ∧
     (s.lease (21 * (63 : Fin 64) + 4)).waiting = [] ∧ (s.lease (21 * (63 : Fin 64) + 4)).rolling = false ∧ s.maySpend (64 + (63 : Fin 64)) 2 = true ∧ ((s.region 63).frames.any fun x => !x.endDone) = false) ∧
    (let s : State := { lit [] with cal := { sceneDue := some 1 }, pipe := { merged := some 1 } }
     s.cal.sceneDue = some 1 ∧ s.pipe.merged = some 1 ∧ ((1 : BitVec 32) - 1).toNat < 2 ^ 31 ∧ s.deferring = false ∧ s.cal.update = none ∧ s.cal.run = none) := by decide +kernel

/-- What discovery finds of a small flash. -/
def sfdp1 : Sfdp :=
  { density := 2 ^ 28, fourByte := true, pageSize := 256, prog := (1000, 1), erase4 := some (1000, 1), erase64 := some (1000, 1)
    taps := List.replicate 32 true }

/-- A state with a flash. -/
def flashed (l : List (Nat × Int)) : State := { lit l with ports := { sfdp := some sfdp1 } }

/-- A blank flash holds no valid image: the magic is not there. -/
theorem blank_flash (i : Nat) (h : i < 2) : (flashed []).imgValid i = none := by
  have m : fieldLe ((flashed []).imgPage i 0) 8 4 ≠ 0x4D494743 := by
    interval_cases i <;> decide +kernel
  simp [State.imgValid, m]

theorem witness_ImagesAreSavedAndLoaded :
    (let s := flashed []
     s.cal.save = none ∧ s.flashWritable = true ∧ s.ports.sfdp.isSome = true ∧ s.cal.load = none ∧ s.cal.ownBanks = false ∧
     (s.lease (21 * (0 : Fin 64) + 4)).holder = 0xFFFF ∧ (s.lease (21 * (0 : Fin 64) + 4)).waiting = [] ∧
     (s.lease (21 * (0 : Fin 64) + 4)).rolling = false) ∧
    (lit []).flashWritable = false ∧
    (let s : State := { flashed [] with banks := Vector.replicate 128 { fill := .neutral } }
     ∀ g, g < 64 → (s.bank (s.bankNo g true)).verified = true) ∧
    (let s : State := { flashed [] with cal := { save := some (1, 1), saveSwap := true } }
     s.cal.save = some (1, 1) ∧ s.cal.saveSwap = true ∧ s.owing 144 4 = 0 ∧ s.portsPaid 4 = true) ∧
    (let s : State := { flashed [] with cal := { save := some (2, 1) } }
     s.cal.save = some (2, 1) ∧ s.portsHeld 0x8002 = false) ∧
    (let s : State := { flashed [] with
       cal := { load := some ⟨1, 0, false, false⟩ }
       fab := { (lit []).fab with leases := (List.range 64).map fun g => (21 * g + 4, { holder := 0x8001 }) } }
     s.cal.load = some ⟨1, 0, false, false⟩ ∧ s.portsHeld 0x8001 = true ∧ s.owing 144 3 = 0 ∧ s.portsPaid 3 = true) ∧
    (State.portsHeld { flashed [] with cal := { load := some ⟨1, 0, false, false⟩ } } 0x8001 = false) := by decide +kernel

theorem witness_ImagesAreSavedAndLoaded_id : (flashed []).imgNextId ≠ 0xFFFFFFFF := by
  rw [State.imgNextId, blank_flash 0 (by decide), blank_flash 1 (by decide)]
  decide

theorem witness_PartnerLoadsAreCheckedBeforeTheyCount :
    ((lit []).banksOwned = false ∧ (lit []).maySpend (64 + (63 : Fin 64)) 3 = true ∧ (lit []).portStall 0 1 = none ∧ (lit []).owing (64 + (63 : Fin 64)) 3 = 0 ∧
      State.maySpend { lit [] with rolls := { running := true } } (64 + (63 : Fin 64)) 3 = false ∧ (lit [(Obj.COMMIT_REGION, 64)]).nat Obj.COMMIT_REGION = 64 ∧ tailOff - 1 + [(1 : Byte)].length ≤ tailOff ∧ (lit []).cal.partner = none ∧
      (lit [(Obj.COMMIT_REGION, 63)]).nat Obj.COMMIT_REGION < 64) ∧
    (let s : State := { lit [] with cal := { ownBanks := true } }
     s.banksOwned = true ∧ s.portStall 0 1 = none ∧ s.cal.partner = none) ∧
    (let s : State := { lit [] with cal := { ownBanks := true, partner := some ⟨63, 5, [7], 0⟩ } }
     s.banksOwned = true ∧ s.cal.partner = some ⟨(63 : Fin 64).val, 5, [7], 0⟩) ∧
    (∀ s : State, ∃ crc : BitVec 32, rcrc (s.bankRecords (s.bankNo 63 true)) (s.bank (s.bankNo 63 true)).j6fBytes = crc.toNat) ∧
    (∀ s : State, ∃ crc : BitVec 32, rcrc (s.bankRecords (s.bankNo 63 true)) (s.bank (s.bankNo 63 true)).j6fBytes ≠ crc.toNat) := by
  refine ⟨by decide +kernel, by decide +kernel, by decide +kernel, fun _ => ⟨_, rfl⟩, fun s => ?_⟩
  refine ⟨crc32 (((s.bankRecords (s.bankNo 63 true)).flatMap fun r => leBytes 16 r) ++ (s.bank (s.bankNo 63 true)).j6fBytes) + 1, fun h => ?_⟩
  exact absurd (BitVec.eq_of_toNat_eq h) (by bv_omega)

theorem witness_RollsRefillAndTablesApply :
    (let s : State := { lit [] with rolls := { running := true }, clk := { beats := 200 * 1000 } }
     s.rolls.running = true ∧ s.rolls.owed = [] ∧ s.rolls.seam = [] ∧ s.rolls.origin + 200 * s.nat Obj.ROLL_ACTIVE_US ≤ s.clk.beats) ∧
    (lit []).rolls.running = false ∧ (0 : Nat) ≠ 1 := by decide +kernel

/-- The objects of a pixel view 15 of one line of 32 pixels on lane 0, in VW_STATE `st`. -/
def viewObjs (st : Int) : List (Nat × Int) :=
  [(Obj.VW_STATE 15, st), (Obj.VW_FORMAT 15, 2), (Obj.VW_W 15, 32), (Obj.VW_H 15, 1), (Obj.VW_LANES 15, 1), (Obj.LANE_STATE 0, 4),
   (Obj.VW_DIV 15, 1), (Obj.VW_DATA_SIZE 15, 20), (Obj.VW_REC_SIZE 15, 12)]

/-- A state with view 15, the frame `frame1` in progress and in the view. -/
def viewing (l : List (Nat × Int)) (w : View) : State :=
  let s : State := { lit (viewObjs 2 ++ l) with focal := { frames := [frame1] }, clk := { dlt := 2 ^ 60 } }
  { s with views := s.views.set 15 w }

/-- A frame in a view. -/
def vframe1 : VFrame := { num := 1, first := 0, pages := 1, lines := 1, stripe := [0] }

theorem witness_ViewsOpenCloseAndTakeCredit :
    Lands' 0x40 { arg := 15 } (lit (viewObjs 0)) (fun u => u.nat (Obj.VW_STATE 15) == 0 && u.viewFault 15 == 0) ∧
    Lands' 0x40 { arg := 15 } (lit []) (fun u => u.nat (Obj.VW_STATE 15) == 0 && u.viewFault 15 != 0) ∧
    Lands' 0x41 { arg := 15 } (viewing [] { frames := [vframe1] }) (fun u => u.nat (Obj.VW_STATE 15) == 2 && (u.view 15).frames != [] &&
      u.nat (Obj.VW_SOURCE 15) == 0) ∧
    Lands' 0x41 { arg := 15 } (viewing [] {}) (fun u => u.nat (Obj.VW_STATE 15) != 0 && (u.view 15).frames == []) ∧
    Lands' 0x41 {} (lit []) (fun u => u.nat (Obj.VW_STATE 0) == 0) ∧
    (lit []).nat Obj.CREDIT_RING = 0 ∧ (lit [(Obj.CREDIT_RING, 1)]).nat Obj.CREDIT_RING ≠ 0 ∧
    ((viewing [] {}).view 15).buffered = [] ∧ ((viewing [] {}).view 15).pageN = 0 := by decide +kernel

theorem witness_LinesAndRecordsGoOutUnderCredit :
    (let s (limit : Int) := viewing [(Obj.CREDIT_LIMIT 15, limit)] { frames := [vframe1] }
     ((s 1).view 15).lineFrame 0 = some vframe1 ∧ (s 1).frame? 1 = some frame1 ∧ (s 1).nat (Obj.VW_STATE 15) = 2 ∧ (s 1).nat (Obj.VW_SOURCE 15) = 0 ∧ (s 1).laneUp 0 = true ∧
     vframe1.stripe.getD (0 % max 1 vframe1.stripe.length) 8 = 0 ∧ State.maySpend { s 1 with rolls := { running := true } } 136 ((s 1).viewClass 15) = false ∧
     (s 1).viewRows 15 [] = some [0] ∧ (s 1).lineDone frame1 0 (List.range 32) = true ∧ (s 1).viewCols 15 [] = some (List.range 32) ∧
     (s 1).credited 15 0 ((s 1).linePieces 15 frame1 [0] (List.range 32) 0) = true ∧ (s 1).maySpend 136 ((s 1).viewClass 15) = true ∧
     (∀ e ∈ (s 1).seamLoad 15 0 (List.range 32) 0, (s 1).maySpend e.1 ((s 1).viewClass 15) = true) ∧
     (s 0).credited 15 0 ((s 0).linePieces 15 frame1 [0] (List.range 32) 0) = false) ∧
    (let x : VFrame := { vframe1 with written := [0] }
     let s := viewing [(Obj.REC_CREDIT 15, 1)] { frames := [x] }
     (s.view 15).frames = x :: [] ∧ s.nat (Obj.VW_SOURCE 15) = 0 ∧ s.viewLive 15 = 0 :: [] ∧ s.frame? x.num = some frame1 ∧ x.ready = true ∧
     s.nat (Obj.REC_INDEX 15) < s.nat (Obj.REC_CREDIT 15) ∧ s.maySpend (136 + 0) (s.viewClass 15) = true) ∧
    (let x : VFrame := { vframe1 with written := [0] }
     let s := viewing [] { frames := [x], stallFrom := some 0, recWaits := true }
     (s.view 15).frames = [x] ∧ (s.view 15).stallFrom.isSome = true ∧ s.nat (Obj.VW_SOURCE 15) = 0 ∧ s.stallLimit 15 x ≤ (s.now - (s.view 15).stallFrom.getD 0).toNat ∧ x.ready = true ∧ (s.view 15).recWaits = true ∧
     x.waiting = []) ∧
    (let y : VFrame := { vframe1 with waiting := [0] }
     let s := viewing [] { frames := [vframe1, y, vframe1], stallFrom := some 0 }
     (s.view 15).frames = [vframe1] ++ y :: [vframe1] ∧ (s.view 15).recWaits = false ∧ vframe1.waiting = [] ∧ y.waiting ≠ [] ∧
     s.stallLimit 15 vframe1 ≤ (s.now - 0).toNat) ∧
    (let s := viewing [(Obj.CREDIT_LIMIT 15, 1)] { pageN := 1, page := [1] }
     (s.view 15).pageN ≠ 0 ∧ s.viewLive 15 = 0 :: [] ∧ s.nat (Obj.NEXT_PAGE 15) < s.nat (Obj.CREDIT_LIMIT 15) ∧
     s.maySpend (136 + 0) (s.viewClass 15) = true ∧ (s.view 15).buffered = [] ∧ s.nat (Obj.VW_FLUSH_US 15) * 64000 ≤ (s.now - (s.view 15).pageT0).toNat) := by decide +kernel

/-- Lane 7 in LANE_STATE `st`, with its record `l`, some objects and a late beat. -/
def laned (st : Int) (l : Lane) (os : List (Nat × Int)) : State :=
  let s := lit ((Obj.LANE_STATE 7, st) :: os)
  { s with lanes := s.lanes.set 7 l, clk := { beats := 2 ^ 40 } }

/-- A codeword of zeros decodes without a correction; what is no codeword does not decode. -/
theorem zero_codeword : rsDecode (List.replicate 544 0) = some (0, List.replicate 514 0) := by decide +kernel
theorem no_codeword : rsDecode [] = none := by decide +kernel

/-- The kinds of the twenty blocks in a codeword of zeros, for a descrambler at rest. -/
def zeroBlocks : List RxBlock := (blocksOf 20 (symbolBits (List.replicate 514 0)) 0).1.map Block.kind

theorem zero_decodes (s : State) (h : (s.laneRec 7).rxScr = 0) : Decodes 7 s (List.replicate 514 0 ++ List.replicate 30 0) 0 zeroBlocks :=
  ⟨_, (by rw [List.replicate_append_replicate]; exact zero_codeword), by rw [h]; rfl⟩

theorem witness_LanesComeUpAndFallBack :
    (let s := laned 0 {} []
     s.laneAbsent 7 = false ∧ s.laneState 7 = 0 ∧ s.power.trims = true ∧ (s.turnOn (laneDomain 7)).domain (laneDomain 7) = 1) ∧
    (laned 1 {} []).laneState 7 ≠ 4 ∧ (laned 4 {} []).laneState 7 = 4 ∧
    (let s := laned 1 { goodRun := 15 } []
     (s.laneRec 7).rxScr = 0 ∧ s.laneState 7 = 1 ∧ 15 ≤ (s.laneRec 7).goodRun ∧ s.nat (Obj.TX_FIXED 7) = 0) ∧
    ((elastic zeroBlocks (List.replicate 20 1) { fill := 8 }).out = false ∧ (elastic zeroBlocks (List.replicate 20 0) { fill := 8 }).out = true ∧
      ((laned 4 {} []).laneRec 7).rxScr = 0 ∧ ((laned 4 {} []).laneRec 7).fill = 8 ∧ (laned 2 {} []).laneState 7 = 2) ∧
    ((laned 4 { badRun := 7 } []).laneRec 7).badRun = 7 ∧
    (let s := laned 2 { attempts := 1 } []
     s.laneState 7 = 2 ∧ s.passedUs (s.laneRec 7).since (1000 * s.nat (Obj.TRAIN_LIMIT 7)) = true ∧ (s.laneRec 7).attempts < 2) ∧
    (let s := laned 2 { attempts := 2, rate := 2 } []
     s.laneState 7 = 2 ∧ s.passedUs (s.laneRec 7).since (1000 * s.nat (Obj.TRAIN_LIMIT 7)) = true ∧ 2 ≤ (s.laneRec 7).attempts ∧
     (s.laneRec 7).auto = true ∧ (s.laneRec 7).ratesFailed = 0 ∧ s.nat (Obj.LANE_RATE 7) = 0 ∧
     (s.laneRec 7).rate = 2) ∧
    ((laned 2 { attempts := 2, auto := false } []).laneRec 7).auto = false ∧
    (let s := laned 1 { rate := 1 } []
     s.laneState 7 = 1 ∧ (s.laneRec 7).auto = true ∧ s.nat (Obj.LANE_RATE 7) = 0 ∧ (s.laneRec 7).held = false ∧ s.passedUs (s.laneRec 7).since (1000 * s.nat (Obj.TRAIN_LIMIT 7)) = true ∧ (s.laneRec 7).rate = 1) ∧
    (laned 3 {} []).passedUs 0 1000 = true ∧ (laned 3 {} []).laneState 7 = 3 ∧ (laned 5 {} []).laneState 7 = 5 := by decide +kernel

theorem witness_TapRequestsAreAnsweredAndHelloBringsUp :
    (let s := laned 2 {} []
     s.laneState 7 ≠ 0 ∧ ((s.laneRec 7).lastReq.map (·.1)) ≠ some 255 ∧ s.nat (Obj.TX_FIXED 7) ≠ 1 ∧ s.laneState 7 = 2) ∧
    (let s := laned 2 { lastReq := some (255, 2) } []
     s.laneState 7 ≠ 0 ∧ (s.laneRec 7).lastReq = some (255, 2)) ∧
    (let s (k : Nat) := laned 2 { reqOpen := true, reqNum := 255, search := k } []
     (s 0).laneState 7 = 2 ∧ ((s 0).laneRec 7).reqOpen = true ∧ ((s 0).laneRec 7).reqNum = 255 ∧ (2 : Nat) ≤ 2 ∧
     ((s 25).laneRec 7).search = 25 ∧ ((s 23).laneRec 7).search < 25 ∧ ((s 23).laneRec 7).search % 2 = 1 ∧ ((s 6).laneRec 7).search < 7 ∧
     (s 0).passedUs ((s 0).laneRec 7).reqAt 10 = true) ∧
    (let s (b : Option Nat) (t0 : Nat) := laned 2 { search := 6, meas := some (t0, 3), base := b } []
     (s none 0).laneState 7 = 2 ∧ ((s none 0).laneRec 7).rxScr = 0 ∧ ((s none 0).laneRec 7).search < 7 ∧
     ((s none 0).laneRec 7).meas = some (0, 3) ∧ (s none 0).passedUs 0 1000 = true ∧ (s none (2 ^ 40)).passedUs (2 ^ 40) 1000 = false ∧
     ((s none 0).laneRec 7).base = none ∧ ((s (some 4) 0).laneRec 7).base = some 4 ∧ 3 + 0 < 4 ∧
     ((s (some 3) 0).laneRec 7).base = some 3 ∧ 3 ≤ 3 + 0) ∧
    (let s (b : Bool) := laned 2 { search := 25, berCw := 183824, rcvdDone := b, sentDone := b } []
     (s true).laneState 7 = 2 ∧ ((s true).laneRec 7).search = 25 ∧ 10 ^ 9 ≤ 5440 * ((s true).laneRec 7).berCw ∧ 1000 ≤ 1000 ∧
     ((s true).laneRec 7).rcvdDone = true ∧ ((s false).laneRec 7).rcvdDone = false ∧ ((s true).laneRec 7).sentDone = true ∧
     ((s false).laneRec 7).sentDone = false) ∧
    (laned 3 {} []).laneState 7 = 3 := by decide +kernel

/-- A packet sent. -/
def packet1 : TxPacket := { seq := 4095, kind := 0, blocks := 3 }

theorem witness_PacketsAreAcceptedInOrderAndReplayed :
    (let s := laned 4 { rxSeq := 4095 } []
     s.laneUp 7 = true ∧ (4095 : Nat) = (s.laneRec 7).rxSeq ∧ s.dict.queues.toList[2 + 7]? = some [] ∧ (0 : Nat) ≠ (s.laneRec 7).rxSeq ∧ (2 : Nat) < 3 ∧
     (s.laneRec 7).nakSent = false) ∧
    (let s0 := laned 4 { nakSent := true, nakAt := 2 ^ 40 } []
     let s := { s0 with dict := { s0.dict with queues := s0.dict.queues.set 9 (List.replicate 16 { cmd := 1, index := 0, sub := 0 }) } }
     (s.laneRec 7).nakSent = true ∧ s.passedUs (s.laneRec 7).nakAt (s.nat Obj.REPLAY_TIMEOUT) = false ∧
     (s.dict.queues.toList[2 + 7]?).any (fun q => q.length = 16) = true) ∧
    (let s := laned 4 {} [(Obj.VW_LANES 15, 128)]
     7 ∈ s.viewSet 15 ∧ 7 ∉ s.viewSet 14) ∧
    (let s := laned 4 { unacked := [packet1], sentN := 1, replays := 63 } []
     ((s.laneRec 7).window.findIdx? fun p => p.seq = 4095) = some 0 ∧ ((s.laneRec 7).window.findIdx? fun p => p.seq = 0) = none ∧
     (s.laneRec 7).replays < 64 ∧ (s.laneRec 7).unacked ≠ [] ∧
     s.passedUs (max (s.laneRec 7).ackAt (s.laneRec 7).replayAt) (s.nat Obj.REPLAY_TIMEOUT) = true ∧
     s.passedUs (s.laneRec 7).ackAt (s.nat Obj.LINK_STALL_US) = true ∧ s.nat (Obj.TT_ROLE 7) = 0) ∧
    64 ≤ ((laned 4 { unacked := [packet1], sentN := 1, replays := 64 } []).laneRec 7).replays := by decide +kernel

theorem witness_TimeTransfersRolesAndEyes :
    (let s := laned 4 { ttAt := some 0 } [(Obj.TT_ROLE 7, 1)]
     s.laneUp 7 = true ∧ s.nat (Obj.TT_ROLE 7) = 1 ∧ ∀ b, (s.laneRec 7).ttAt = some b → s.passedUs b (s.nat Obj.TT_PERIOD_US) = true) ∧
    (let s := laned 4 { ttOpen := true, ttT3 := 9 } [(Obj.TT_ROLE 7, 2)]
     s.nat (Obj.TT_ROLE 7) = 2 ∧ (s.laneRec 7).ttOpen = true ∧ (s.laneRec 7).ttT3 = 9) ∧
    (let s := laned 4 {} [(Obj.TT_ROLE_ALLOW 7, 2)]
     ((s.laneRec 7).lastRole.map (·.1)) ≠ some 255 ∧ (s.laneRec 7).roleReq = none ∧ (s.nat (Obj.TT_ROLE_ALLOW 7)).testBit (2 - 1) = true ∧
     ¬ (s.nat (Obj.TT_ROLE_ALLOW 7)).testBit (1 - 1) = true) ∧
    (let s := laned 4 { roleReq := some (2, 255, 7) } []
     (s.laneRec 7).roleReq = some (2, 255, 7) ∧ s.nat (Obj.PARTNER_UID 7) < s.ownUid ∧ s.passedUs (s.laneRec 7).roleAt 100 = true) ∧
    (let s := laned 4 { roleReq := some (2, 255, 8) } [(Obj.PARTNER_UID 7, 2 ^ 64 - 1)]
     s.ownUid < s.nat (Obj.PARTNER_UID 7) ∧ (s.laneRec 7).roleReq = some (2, 255, 8)) ∧
    (laned 4 {} [(Obj.PARTNER_UID 7, 0x6151000000000001)]).ownUid = (laned 4 {} [(Obj.PARTNER_UID 7, 0x6151000000000001)]).nat (Obj.PARTNER_UID 7) ∧
    (let s := laned 2 {} [(Obj.EYE_LANE, 7), (Obj.EYE_MASK, 7)]
     s.eye = none ∧ s.laneState (s.nat Obj.EYE_LANE) = 2 ∧ s.nat Obj.EYE_MASK % 8 ≠ 0) ∧
    (lit []).laneState ((lit []).nat Obj.EYE_LANE) ≠ 2 ∧ (lit []).laneState ((lit []).nat Obj.EYE_LANE) ≠ 4 ∧
    (laned 4 { roleReq := some (2, 255, 8) } []).laneUp 7 = true ∧ (laned 4 {} []).laneAbsent 7 = false ∧
    (let s : State := { lit [(Obj.EYE_POINT, 8191)] with eye := some (7, 1) }
     s.eye = some (7, 1) ∧ 8192 * (setBits 3 1).length ≤ s.nat Obj.EYE_POINT + 1 ∧ 0 + 1 < 8192 * (setBits 3 1).length) := by
  refine ⟨⟨by decide +kernel, by decide +kernel, ?_⟩, by decide +kernel, by decide +kernel, by decide +kernel, by decide +kernel,
    by decide +kernel, by decide +kernel, by decide +kernel, by decide +kernel, by decide +kernel, by decide +kernel⟩
  rintro b ⟨⟩
  decide +kernel

/-- An active CAN port in CLAIM_STATE `st` under NODE_ID 127, some objects, the dictionary record `d` and a late beat. -/
def canned (st : Int) (d : Dict) (os : List (Nat × Int)) : State :=
  let s := lit ([(Obj.CAN_ENABLE, 1), (Obj.CAN_STATE, 2), (Obj.CLAIM_STATE, st), (Obj.NODE_ID, 127)] ++ os)
  { s with dict := d, clk := { beats := 2 ^ 40 } }

/-- A node. -/
def node1 : Node := ⟨5, 1, 1, 0, 0⟩

theorem witness_NodeIdsAreClaimedDefendedAndGivenUp :
    (let s := canned 2 {} []
     s.canActive = true ∧ s.operational = true ∧ s.nat Obj.NODE_ID = 127 ∧ s.domain 1 = 1 ∧ s.dict.traErr < 256 ∧
     s.passedMs s.dict.hbAt (s.nat Obj.HB_PERIOD) = true ∧ s.otp.serial48 < 2 ∧ 0 < s.otp.serial48 ∧ 5 ≠ s.nat Obj.NODE_ID) ∧
    (let s := canned 2 {} []
     nomRate (s.nat Obj.CAN_NOM_RATE) ≤ dataRate (s.nat Obj.CAN_DATA_RATE)) ∧
    (canned 0 {} [(Obj.CAN_STATE, 1)]).nat Obj.CAN_STATE = 1 ∧
    (let s := canned 2 {} [(Obj.CAN_STATE, 4), (Obj.CAN_AUTO_RECOVER, 1)]
     s.nat Obj.CAN_STATE = 4 ∧ s.nat Obj.CAN_AUTO_RECOVER = 1) ∧
    (let s := canned 1 { traErr := 255 } []
     s.nat Obj.CLAIM_STATE = 1 ∧ s.dict.retryAt = none ∧ s.dict.traErr < 256 ∧ s.passedMs s.dict.claimAt 50 = true ∧ s.dict.claimId ≤ 127) ∧
    (∃ k, 1 ≤ k ∧ k ≤ 127 ∧ k ∉ [127]) ∧
    (let s := canned 0 {} []
     s.nat Obj.CLAIM_STATE = 0 ∧ s.passedMs s.dict.listenAt (s.nat Obj.HB_EXPIRE) = true ∧ s.operational = false) ∧
    ((canned 1 { retryAt := some 7 } []).dict.retryAt = some 7 ∧ 7 ≤ (canned 1 { retryAt := some 7 } []).clk.beats) ∧
    (let s := canned 2 { nodes := [node1] } []
     (s.dict.nodes.find? fun y => y.id = 5) = some node1 ∧ s.passedMs node1.beat (s.nat Obj.HB_EXPIRE) = true) ∧
    64 ≤ (canned 2 { nodes := List.replicate 64 node1 } []).dict.nodes.length := by
  refine ⟨by decide +kernel, by decide +kernel, by decide +kernel, by decide +kernel, by decide +kernel, ⟨1, by decide⟩, by decide +kernel,
    by decide +kernel, by decide +kernel, by decide +kernel⟩

/-- A bell record. -/
def bell1 (q : BitVec 16) : Bell := ⟨q, 0x0201, 0, 0, false⟩

theorem witness_DictionaryRequestsAreQueuedServedAndChecked :
    (let s := canned 2 { nodes := [node1] } []
     s.canActive = true ∧ s.operational = true ∧ (∃ x ∈ s.dict.nodes, x.id = 5) ∧ 127 = s.nat Obj.NODE_ID ∧ 126 ≠ s.nat Obj.NODE_ID) ∧
    (let s := canned 2 { sessions := [{ client := 5, serial := 1 }] } []
     Heeds s 5 ∧ s.dict.queues[0].length < 16) ∧
    (let s := canned 2 { sessions := [{ client := 5, serial := 1 }], queues := (Vector.replicate 10 []).set 0 (List.replicate 16 { cmd := 1, index := 0, sub := 0 }) } []
     Heeds s 5 ∧ 16 ≤ s.dict.queues[0].length) ∧
    (let r : DictReq := { cmd := 1, index := 0x2030, sub := 1, length := 2 }
     let q : Dict := { nextQ := 9, queues := (Vector.replicate 10 []).set 9 [r] }
     let s := { laned 4 {} [] with dict := q }
     s.domain 1 = 1 ∧ s.flashReading = false ∧ r.cmd = 1 ∧ 1 ≤ r.length ∧ r.length ≤ 4096 ∧ s.dict.nextQ = 2 + 7 ∧ s.dict.queues.toList[2 + 7]? = some (r :: []) ∧
     s.maySpend 145 6 = true ∧ s.liveScalar r.index r.sub = none ∧ r.index ≠ 0xB001 ∧ s.laneUp 7 = true ∧
     (objAt r.index r.sub).any (fun o => o.ty ≠ .blob && o.ty ≠ .str && r.length = o.size && s.absentObject r.index == false) = true) ∧
    objAt 0xFFFF 0 = none ∧
    (let r : DictReq := { cmd := 2, index := 0x2030, sub := 7, data := [0x30, 0x12] }
     (objAt r.index r.sub).any (fun o => o.ty ≠ .blob && r.data.length = o.size && o.acc = .rw && rangeOk r.index r.sub o (o.ty.ofBytes r.data) &&
       (objMask r.index r.sub).isNone && ((lit []).writeSpecial r.index r.sub (o.ty.ofBytes r.data) 0).isNone && !(lit []).absentObject r.index) = true) ∧
    (let s := canned 2 { bells := [bell1 0xFFFF] } []
     (s.dict.bells.findIdx? fun b => b.seq.toNat = 65535) = some 0 ∧ ∀ b ∈ s.dict.bells, b.seq.toNat ≠ 0) := by
  unfold Heeds
  decide +kernel

/-- A heeded client 5 with a transfer, its frame next to be served. -/
def transferring (x : Option Xfer) (r : DictReq) : State :=
  canned 2 { sessions := [{ client := 5, serial := 1, xfer := x }], queues := (Vector.replicate 10 []).set 0 [r] } []

/-- A frame of client 5. -/
def frame1k (cmd tag : Nat) (bs : List Byte) : DictReq := { cmd := cmd, tag := tag, index := 0, sub := 0, data := bs, client := 5 }

/-- A transfer of `n` bytes of COMMIT_CRCS. -/
def xfer1 (cmd n : Nat) : Xfer := { cmd := cmd, index := 0x6211, sub := 5, offset := 0, length := n }

/-- The server takes `r` while client 5 has the transfer `x`. -/
abbrev Taken (x : Option Xfer) (r : DictReq) : Prop := Serves (transferring x r) r [] ∧ transfer (transferring x r) r.client = x

theorem witness_TransfersMoveInOrderAndEndChecked :
    (Taken none { cmd := 5, index := 0x6211, sub := 5, length := 256, client := 5 } ∧ xferStatus 5 0x6211 5 0 256 = 0 ∧
      Taken none { cmd := 7, index := 0x6211, sub := 5, length := 256, client := 5 } ∧ xferStatus 7 0x6211 5 0 256 = 0 ∧
      xferStatus 5 0x6211 5 0 257 ≠ 0) ∧
    (let x := { xfer1 5 256 with data := [] }
     Taken (some x) (frame1k 6 0 (List.replicate 63 7)) ∧ x.applied = x.moved ∧ x.data.length = x.moved ∧ x.moved < x.length ∧
     x.moved + min 63 (x.length - x.moved) ≠ x.length ∧ 63 ≤ (List.replicate 63 (7 : Byte)).length) ∧
    (let x : Xfer := { xfer1 5 256 with moved := 252, applied := 252, toggle := true, data := List.replicate 252 0 }
     Taken (some x) (frame1k 6 3 [1, 2, 3, 4]) ∧ x.moved + min 63 (x.length - x.moved) = x.length ∧ x.applied = x.moved ∧
     x.data.length = x.moved ∧ x.ended = false ∧ Taken (some x) (frame1k 6 0 []) ∧ x.moved ≠ 0 ∧ false ≠ x.toggle) ∧
    (let x := xfer1 4 256
     Taken (some x) (frame1k 6 0 []) ∧ (objAt 0x6211 5).isSome = true ∧ 0 + min 63 (256 - 0) ≠ 256 ∧ x.moved < x.length ∧
     (frame1k 6 0 []).data.headD 0 = 0) ∧
    (let x : Xfer := { xfer1 4 256 with moved := 252 }
     Taken (some x) (frame1k 6 2 []) ∧ x.moved + min 63 (x.length - x.moved) = x.length) ∧
    (let x : Xfer := { xfer1 8 256 with block := 5 }
     Taken (some x) (frame1k 12 1 (List.replicate 63 7)) ∧ x.applied = x.moved ∧ x.data.length = x.moved ∧ 1 = x.seqN + 1 ∧
     1 < min x.block ((x.length - (x.moved - 63 * x.seqN) + 62) / 63)) ∧
    (let x : Xfer := { xfer1 8 63 with block := 1 }
     Taken (some x) (frame1k 12 1 (List.replicate 63 7)) ∧ 1 = min x.block ((x.length - (x.moved - 63 * x.seqN) + 62) / 63)) ∧
    (let x : Xfer := xfer1 7 256
     Taken (some x) (frame1k 9 0 [0, BitVec.ofNat 8 5, BitVec.ofNat 8 32]) ∧ 5 < 256 ∧
     5 ≤ (min (x.length - x.moved) (63 * x.block) + 62) / 63 ∧ x.length ≤ x.moved + 63 * 5) ∧
    (Taken (some { xfer1 8 256 with ended := true }) (frame1k 10 0 (leBytes 4 5)) ∧
      Taken (some { xfer1 7 256 with ended := true }) (frame1k 10 0 (leBytes 4 5))) ∧
    (∀ k : Fin 4, Taken none (frame1k ([6, 9, 10, 12].getD k 0) 0 [])) ∧
    (let s := transferring (some (xfer1 7 256)) (frame1k 6 0 [])
     Heeds s 5 ∧ transfer s 5 = some (xfer1 7 256) ∧ s.passedMs (xfer1 7 256).beat (s.nat Obj.KTP_TIMEOUT) = true ∧
     ¬ ((xfer1 7 256).ended = true ∧ (xfer1 7 256).cmd = 5)) := by
  unfold Taken Serves Heeds
  refine ⟨?_, ?_, ?_, ?_, ?_, ?_, ?_, ?_, ?_, ?_, ?_⟩ <;> decide +kernel

theorem witness_BroadcastsCarryWhatIsDue :
    (let s := { canned 2 { bells := [bell1 0] } [(Obj.BELL_CAN, 1), (Obj.TRACK_EN, 1), (Obj.FOCUS_EN, 1), (Obj.STATUS_PERIOD, 1)] with
        pipe := { trackDue := [(31, [1])], focusDue := [(15, [2])] } }
     s.canActive = true ∧ s.operational = true ∧ s.maySpend 145 5 = true ∧ (s.dict.bells.filter fun b => !b.sent).take 4 ≠ [] ∧
     s.nat Obj.BELL_CAN = 1 ∧ s.nat Obj.TRACK_EN = 1 ∧ s.nat Obj.FOCUS_EN = 1 ∧ s.pipe.trackDue ≠ [] ∧ s.pipe.focusDue ≠ [] ∧
     s.nat Obj.STATUS_PERIOD ≠ 0 ∧ s.passedMs s.dict.statusAt (s.nat Obj.STATUS_PERIOD) = true) := by decide +kernel

/-- A state with a flash, some objects and these ports; it is late. -/
def ported (l : List (Nat × Int)) (p : Ports) : State := { lit l with ports := { p with sfdp := some sfdp1 }, clk := { beats := 2 ^ 40 } }

theorem witness_FlashIsWrittenInSegmentsAndErased :
    (let s := ported [] {}
     [(7 : Byte)] ≠ [] ∧ 255 + 1 ≤ 268435456 ∧ s.flashWritable = true ∧ 255 + 1 ≤ s.flashSize ∧ s.touchesImage 255 256 = false ∧
     s.nat Obj.FLASH_QUEUE + 1 ≤ 65536 ∧ s.flashIdle = true ∧ s.maySpend 144 6 = true) ∧
    (lit []).flashWritable = false ∧
    (let s (at' : Nat) := ported [] { flashNow := some (.program 0 [7]), pollAt := at' }
     (s 0).ports.flashNow = some (.program 0 [7]) ∧ (s (2 ^ 40)).clk.beats < (s (2 ^ 40)).ports.pollAt + 200 * (s (2 ^ 40)).nat Obj.FSPI_POLL_US ∧
     (s 0).pollDue = true ∧ (FlashPoll.mk true true).wip = true) ∧
    (let s := ported [(Obj.FLASH_VERIFY, 0)] { flashNow := some (.program 0 [7]) }
     s.nat Obj.FLASH_VERIFY ≠ 1 ∧ s.ports.flashRest = [] ∧ s.ports.flashQ = []) ∧
    (let s := ported [(Obj.FLASH_VERIFY, 0)] { flashNow := some (.program 0 [7]), flashRest := [.program 256 [8]] }
     s.ports.flashRest = .program 256 [8] :: [] ∧ s.nat Obj.FLASH_VERIFY ≠ 1 ∧ s.maySpend 144 (s.flashCost (.program 256 [8])).1 = true) ∧
    (let s := (ported [(Obj.FLASH_VERIFY, 1)] { flashNow := some (.program 0 [7]) }).poke flashBase [0]
     s.ports.flashNow = some (.program 0 [7]) ∧ s.pollDue = true ∧ s.nat Obj.FLASH_VERIFY = 1 ∧ s.programmed 0 [7] ≠ [7] ∧ s.ports.flashQ = []) ∧
    (let s := ported [] { flashNow := some (.erase 268431360 4096) }
     s.ports.flashNow = some (.erase 268431360 4096) ∧ s.pollDue = true ∧ 268431360 + 4096 ≤ 268435456) ∧
    (let s := ported [] { flashNow := some (.program 0 [7]) }
     s.ports.flashAt + 200 * (2 * ((s.ports.sfdp.map fun d => d.prog.1 * d.prog.2).getD 2500)) ≤ s.clk.beats) ∧
    (let s := ported [(Obj.ERASE_SIZE, 1)] {}
     s.touchesImage (s.nat Obj.ERASE_ADDR) (s.nat Obj.ERASE_ADDR + 65536) = false ∧ s.flashWritable = true ∧
     s.nat Obj.ERASE_ADDR % 65536 = 0 ∧ s.nat Obj.ERASE_ADDR + 65536 ≤ min s.flashSize 268435456 ∧ (s.ports.sfdp.bind (·.erase64)).isSome = true ∧
     s.flashIdle = true ∧ s.maySpend 144 6 = true) ∧
    (let s := ported [(Obj.ERASE_ADDR, 1)] {}
     s.touchesImage 1 4097 = false ∧ s.nat Obj.ERASE_ADDR % 4096 ≠ 0) ∧
    State.touchesImage { lit [] with cal := { save := some (1, 0) } } ((lit []).nat Obj.IMG_BASE0) ((lit []).nat Obj.IMG_BASE0 + 4096) = true ∧
    (let s := ported [] { flashNow := some (.erase 0 4096) }
     s.ports.flashAt + 200 * (2 * (((s.ports.sfdp.bind (·.erase4)).map fun e => e.1 * e.2).getD 1000000)) ≤ s.clk.beats) ∧
    (let r : DictReq := { cmd := 4, index := 0xB002, sub := 0, length := 4 }
     let s := ported [] { flashNow := some (.read 1 r) }
     s.ports.flashNow = some (.read 1 r) ∧ s.ports.flashQ = [] ∧ s.ports.flashRest = [] ∧ s.domain 1 = 1 ∧ r.offset + r.length ≤ s.flashSize) ∧
    (let x : Run := { itemRun .item 0 with flash := some (0, false, 31) }
     let s : State := { ported [] { flashNow := some (.engine 271) } with fab := { (lit []).fab with engines := (lit []).fab.engines.set 271 { run := some x } } }
     s.ports.flashNow = some (.engine (271 : Fin 272)) ∧ s.ports.flashQ = [] ∧ s.ports.flashRest = [] ∧ (s.engine 271).run = some x ∧
     x.flash = some (0, false, (31 : Fin 32).val) ∧ 0 + 4 ≤ s.flashSize) := by
  refine ⟨?_, ?_, ?_, ?_, ?_, ?_, ?_, ?_, ?_, ?_, ?_, ?_, ?_, ?_⟩ <;> decide +kernel

/-- The service chain open on a part whose control domain is on. -/
def chained (p : Ports) : State := ported [(Obj.SSPI_ENABLE, 1)] p

/-- A request on the service chain: READ of an object. -/
def svcRequest1 : List Word := let ws := BitVec.ofNat 32 0xA5C30008 :: bytesWords (svcHeader { cmd := 1, index := 0x2030, sub := 7 } 0 0 0)
  ws ++ [crc32 (wordsBytes ws)]

/-- A lens header of this FLAGS byte, with its CRC. -/
def lens1 (flags : Byte) (grid : Word) : List Byte :=
  let h := leBytes 4 0x4E4C4B48 ++ [1, 0, flags, 0] ++ List.replicate 20 0 ++ leBytes 4 grid.toNat
  h ++ leBytes 4 (crc32 h).toNat ++ List.replicate 28 0

/-- A controller transfer of one written byte, waiting for its turn. -/
def accReq1 (lens grid : Bool) : AccReq := { lens := lens, grid := grid, addr := 0x50, wr := [0], rdLen := 32, res := .addrNack }

/-- The accessory bus is on, has been checked and is free, with some objects. -/
def bussed (l : List (Nat × Int)) (p : Ports) : State := ported ((Obj.ACC_ENABLE, 1) :: l) { p with accChecked := true }

theorem witness_ServiceChainAndAccessoryBus :
    ((chained {}).nat Obj.SSPI_ENABLE ≠ 0 ∧ (chained {}).power.domains[1] = 1 ∧ (33 : Nat) % 32 ≠ 0 ∧ (32 : Nat) % 32 = 0 ∧ (chained {}).ports.ssStat = true ∧
      (chained {}).ports.ssNeed = 0 ∧ BitVec.toNat (0xA5C30009 : Word) / 65536 = 0xA5C3 ∧ 2 ≤ (chained { ssNeed := 2 }).ports.ssNeed) ∧
    (let s : State := { lit [] with power := { (lit []).power with domains := aonOnly, rails := Vector.replicate 12 true } }
     s.power.domains[0] = 1 ∧ s.power.domains[1] ≠ 1 ∧ s.power.rails[1] = true) ∧
    (let s := chained { ssNeed := 1, ssIn := svcRequest1.dropLast }
     s.ports.ssNeed = 1 ∧ s.dict.queues[1].length < 4 ∧ (svcParse (s.ports.ssIn ++ [svcRequest1.getLastD 0])).isSome = true ∧
     svcParse (s.ports.ssIn ++ [svcRequest1.getLastD 0 ^^^ 1]) = none) ∧
    (chained { ssResp := [5] }).ports.ssResp = 5 :: [] ∧
    (let s := chained { ssReady := [[5]], ssOut := 0x5A000002 }
     s.ports.ssResp = [] ∧ s.ports.ssReady = (5 :: []) :: [] ∧ s.ports.ssStat = true ∧ s.ports.ssOut.getLsbD 1 = true) ∧
    (let s := chained { ssNeed := 3 }
     s.ports.ssNeed ≠ 0 ∧ s.ports.ssAt + 200000 * s.nat Obj.SSPI_TIMEOUT_MS < s.clk.beats) ∧
    ((ported [(Obj.XFER_GO, 1)] {}).nat Obj.XFER_GO = 1 ∧ (ported [] {}).ports.accQ = [] ∧
      (let b : BusTest := ⟨false, false, 9⟩; b.toggles = false ∧ b.sdaHigh = false ∧ 1 ≤ b.pulses ∧ b.pulses ≤ 9) ∧
      (let b : BusTest := ⟨false, false, 0⟩; b.toggles = false ∧ b.sdaHigh = false ∧ b.pulses = 0) ∧ (BusTest.mk true true 0).toggles = true) ∧
    (let s := bussed [(Obj.XFER_GO, 1)] {}
     s.power.domains[1] = 1 ∧ s.nat Obj.ACC_ENABLE = 1 ∧ s.ports.accAt + 200000 * s.nat Obj.ACC_STRETCH_MS ≤ s.clk.beats ∧
     (let u := bussed [] { accAt := 2 ^ 40 }; u.clk.beats < u.ports.accAt + 200000 * u.nat Obj.ACC_STRETCH_MS) ∧ s.nat Obj.XFER_GO = 1) ∧
    ((ported [(Obj.ACC_ENABLE, 0), (Obj.XFER_RD_LEN, 32)] {}).nat Obj.ACC_ENABLE = 0 ∧
      (ported [(Obj.ACC_ENABLE, 0), (Obj.XFER_RD_LEN, 32)] {}).nat Obj.XFER_RD_LEN ≠ 0 ∧ (ported [(Obj.ACC_ENABLE, 2), (Obj.XFER_WR_LEN, 1)] {}).nat Obj.ACC_ENABLE = 2 ∧
      (ported [(Obj.ACC_ENABLE, 2), (Obj.XFER_WR_LEN, 1)] {}).nat Obj.XFER_WR_LEN ≠ 0) ∧
    (let s (b : Bool) := bussed [(Obj.XFER_RD_LEN, 32)] { accBusy := b }
     (s true).ports.accBusy = true ∧ (s false).nat Obj.XFER_RD_LEN ≠ 0 ∧ (s false).nat Obj.ACC_ENABLE = 1 ∧ (s false).ports.accChecked = true ∧
     (s false).ports.accBusy = false ∧ (s false).ports.gridBusy = false ∧ (s false).ports.accQ = [] ∧ (s false).ports.accRetry < 3 ∧
     (s false).nat Obj.XFER_RD_LEN ≤ 32) ∧
    ((ported [] {}).nat Obj.XFER_WR_LEN = 0 ∧ (ported [] {}).nat Obj.XFER_RD_LEN = 0) ∧
    (let s := ported [] { accWait := true }
     s.power.domains[1] = 1 ∧ s.ports.accWait = true ∧ (BusTest.mk false true 0).sdaHigh = true ∧ s.ports.accQ = []) ∧
    (let s (n : Nat) := bussed [] { accBusy := true, accRetry := n, accQ := [accReq1 false false] }
     (s 2).power.domains[1] = 1 ∧ (s 2).ports.accWait = false ∧ (s 2).ports.accBusy = true ∧ (s 2).nat Obj.ACC_ENABLE = 1 ∧
     (s 2).ports.accQ = [accReq1 false false] ∧ (accReq1 false false).lens = false ∧ (accReq1 false false).grid = false ∧
     (accReq1 false false).rdLen ≤ 32 ∧ (s 2).ports.accRetry < 3 ∧ 3 ≤ (s 3).ports.accRetry) ∧
    ((bussed [(Obj.ACC_TARGET_EN, 1)] {}).accTarget = true ∧ (List.replicate 64 (0 : Byte)).length ≤ 64) ∧
    (let s := bussed [(Obj.LENS_STATE, 2)] {}
     s.power.domains[1] = 1 ∧ s.nat Obj.ACC_ENABLE = 1 ∧ s.ports.accChecked = true ∧ s.ports.accQ = [] ∧ s.ports.accBusy = false ∧
     s.ports.gridBusy = false ∧ s.ports.lensAt = none ∧ s.nat Obj.LENS_STATE = 2 ∧ s.pipe.lensCrc ≠ some (lensKey (lens1 1 0))) ∧
    (let s := bussed [(Obj.LENS_POLL_MS, 10)] { lensAt := some 0 }
     s.ports.lensAt = some 0 ∧ s.nat Obj.LENS_POLL_MS ≠ 0 ∧ 0 + 200000 * s.nat Obj.LENS_POLL_MS ≤ s.clk.beats) ∧
    ((lens1 1 0).length = 64 ∧ lensValid (lens1 1 0) = true ∧ ((lens1 1 0).getD 6 0).getLsbD 0 = true ∧
      ((lens1 0 0).getD 6 0).getLsbD 0 = false ∧ (List.replicate 64 (0 : Byte)).length = 64 ∧ lensValid (List.replicate 64 0) = false) := by
  refine ⟨?_, ?_, ?_, ?_, ?_, ?_, ?_, ?_, ?_, ?_, ?_, ?_, ?_, ?_, ?_, ?_, ?_⟩ <;> decide +kernel

/-- A grid whose CRC is the header's, and one whose CRC is not. -/
theorem witness_ServiceChainAndAccessoryBus_grid : ∃ h1 h2 : List Byte,
    (∀ h, let s := ported [] { gridBusy := true, gridHdr := h, accQ := [accReq1 true true] }
      s.ports.gridBusy = true ∧ s.ports.accBusy = false ∧ s.ports.accQ = [accReq1 true true] ∧ (accReq1 true true).grid = true) ∧
    (List.replicate 8192 (0 : Byte)).length = 8192 ∧
    crc32 (List.replicate 8192 0) = (lensKey h1).2 ∧ crc32 (List.replicate 8192 0) ≠ (lensKey h2).2 := by
  have key (w : Word) : (lensKey (List.replicate 28 0 ++ leBytes 4 w.toNat)).2 = w := by
    have h : w.toNat < 2 ^ 32 := w.isLt
    apply BitVec.eq_of_toNat_eq
    simp [lensKey, leBytes, leVal]
    omega
  refine ⟨List.replicate 28 0 ++ leBytes 4 (crc32 (List.replicate 8192 0)).toNat,
    List.replicate 28 0 ++ leBytes 4 (crc32 (List.replicate 8192 0) + 1).toNat, fun h => ⟨rfl, rfl, rfl, rfl⟩, List.length_replicate, (key _).symm, ?_⟩
  rw [key]
  generalize crc32 (List.replicate 8192 0) = w
  bv_omega

/-- A part whose Mallet stores are valid, with entry 0 and 1 of both banks at word 0. -/
def acting (b0 b1 : ActBank) (l : List (Nat × Int)) : State :=
  let s := lit ([(Obj.STORE_VALID 0, 1), (Obj.STORE_VALID 1, 1), (Obj.MALLET_ENTRIES 0, 0), (Obj.MALLET_ENTRIES 0 + 1, 0), (Obj.MALLET_ENTRIES 1, 0)] ++ l)
  { s with act := { s.act with banks := #v[b0, b1] }, clk := { beats := 2 ^ 40 } }

/-- A profile of this channel at word 0 of its bank. -/
def prof (c : Nat) : Profile := { req := { chan := c, entry := 0 }, pc := 0 }

theorem witness_ActuatorCommandsStartRestartQueueOrAreRefused :
    Lands' 0x51 { arg := 0x1C0 } (acting {} {} []) (fun u => u.actCause 1 ⟨3, 0, false, false⟩ false == 0 && (u.actBank 1).run == none && (u.actBank 1).fading == none) ∧
    Lands' 0x51 { arg := 0 } (acting { run := some (prof 0) } {} []) (fun u => u.actCause 0 ⟨0, 0, false, false⟩ false == 0 &&
      (u.actBank 0).run == some (prof 0)) ∧
    Lands' 0x51 { arg := 0 } (acting { run := some (prof 1) } {} [(Obj.OVERLAP 0, 0)]) (fun u =>
      u.actCause 0 ⟨0, 0, false, false⟩ false == 0 && (u.actBank 0).run == some (prof 1)) ∧
    Lands' 0x51 { arg := 0 } (acting { fading := some 1 } {} []) (fun u =>
      u.actCause 0 ⟨0, 0, false, false⟩ false == 0 && (u.actBank 0).run == none && (u.actBank 0).fading == some 1) ∧
    Lands' 0x51 { arg := 0 } (acting {} {} [(Obj.ACT_ENABLE, 0)]) (fun u => u.actCause 0 ⟨0, 0, false, false⟩ false != 0) ∧
    Lands' 0x50 { arg := 1 } (acting {} {} []) (fun u => u.clapEntry 1 == (0, 1, true, true) &&
      u.actCause 0 ⟨0, 1, false, false⟩ false == 0 && (u.actBank 0).run == none && (u.actBank 0).fading == none) ∧
    Lands' 0x50 { arg := 16 } (acting {} {} []) (fun u => u.actCause 0 ⟨1, 0, true, false⟩ true != 0) ∧
    (let s := acting {} {} []
     1023 + [(0 : Byte)].length ≤ 1024 ∧ (s.actBank 1).run = none ∧ (s.actBank 1).queue = []) ∧
    ((acting { run := some (prof 0) } {} []).actBank 0).run ≠ none ∧
    ((lit []).lands.tripN = true ∧ (State.lands { lit [] with lands := { tripN := false } }).tripN = false) := by decide +kernel

theorem witness_CommandForTheRunningChannelRestarts :
    Lands' 0x51 { arg := 0x1C0 } (acting {} { run := some (prof 3) } []) (fun u => u.actCause 1 ⟨3, 0, false, false⟩ false == 0 &&
      (u.actBank 1).run == some (prof 3)) ∧
    Lands' 0x50 { arg := 1 } (acting { run := some (prof 0) } {} []) (fun u => u.clapEntry 1 == (0, 1, true, true) &&
      u.actCause 0 ⟨0, 1, false, false⟩ false == 0 && (u.actBank 0).run == some (prof 0)) := by decide +kernel

/-- Bank 1 runs `p` on channel 3, with this word at its first addresses. -/
def malletAt (w : Nat) (p : Profile) : State :=
  let s := acting {} { run := some p } []
  s.putBytes (Obj.MALLET_STORE 1) 0 (leBytes 4 w)

/-- The word issues in a fresh profile of channel 3 of bank 1. -/
abbrev issues1 (op w : Nat) : Prop := MalletIssues (malletAt w (prof 3)) 1 op (prof 3) w

theorem witness_MalletInstructionsRunTheirProfile :
    (issues1 1 0x100003E8 ∧ issues1 2 0x23E80001 ∧ issues1 4 0x400003E8 ∧ (malletAt 0x100003E8 (prof 3)).actSticks 1 = true ∧ (prof 3).pc < 255) ∧
    (let s : State := { malletAt 0x100003E8 (prof 3) with rolls := { running := true } }
     s.actSticks 1 = false ∧ MalletIssues s 1 1 (prof 3) 0x100003E8) ∧
    (issues1 3 0x30010203 ∧ (prof 3).peakUs = none ∧ issues1 5 0x50000064 ∧ issues1 6 0x60000064 ∧ issues1 7 0x70000001) ∧
    (issues1 8 0x80000064 ∧ bits 0x80000064 27 24 = 0 ∧ issues1 8 0x81000000 ∧ bits 0x81000000 27 24 = 1 ∧ issues1 8 0x82000000 ∧
      bits 0x82000000 27 24 = 2 ∧ (malletAt 0x81000000 (prof 3)).posOpen = false) ∧
    (let s := (malletAt 0x81000000 (prof 3)).put Obj.CLAP_POS_EN 1
     s.posOpen = true ∧ Alone s 1 (prof 3) ∧ MalletIssues s 1 8 (prof 3) 0x81000000) ∧
    (issues1 9 0x900000FF ∧ (malletAt 0x900000FF (prof 3)).malletCond 1 3 0 = true ∧ issues1 9 0x930000FF ∧
      (malletAt 0x930000FF (prof 3)).malletCond 1 3 3 = false) ∧
    (issues1 0 0 ∧ Alone (malletAt 0 (prof 3)) 1 (prof 3) ∧ ¬ Carries (prof 3)) ∧
    (let p : Profile := { prof 3 with drive := true }
     MalletIssues (malletAt 0 p) 1 0 p 0 ∧ Alone (malletAt 0 p) 1 p ∧ Carries p) ∧
    (let p : Profile := { prof 3 with pc := 256 }
     Alone (malletAt 0 p) 1 p ∧ p.wait = .none ∧ 8500 ≤ (malletAt 0 p).power.vactMv ∧ 256 ≤ p.pc) ∧
    (let p : Profile := { prof 3 with wait := .sticks }
     ((malletAt 0x100003E8 p).actBank 1).run = some p ∧ p.pc < 255 ∧ (malletAt 0x100003E8 p).actSticks 1 = true ∧
     bits ((malletAt 0x100003E8 p).malletWord 1 p.pc) 31 28 = 1) ∧
    (let p : Profile := { prof 3 with wait := .peak, drive := true, tShort := 20, tMin := 40, tMax := 60 }
     Alone (malletAt 0 p) 1 p ∧ p.peakUs = none ∧ p.peakMa ≤ 0 ∧ (0 : Nat) < { p with peakMa := 1 }.peakMa ∧ p.tShort ≤ p.tMin ∧ p.tMin ≤ 40 ∧ 40 ≤ p.tMax ∧ 19 < p.tShort ∧ p.tShort ≤ 20 ∧ 20 < p.tMin ∧
     p.tMin ≤ 61 ∧ p.tMax < 61 ∧ p.tMax * 200 < (malletAt 0 p).clk.beats - p.peakT0) ∧
    (let p (w : ActWait) : Profile := { prof 3 with wait := w, waitUs := 5 }
     ((malletAt 0 (p .floor)).actBank 1).run = some (p .floor) ∧ ((malletAt 0 (p .time)).actBank 1).run = some (p .time) ∧
     (p .floor).ending = false ∧ (p .time).waitUs * 200 ≤ (malletAt 0 (p .time)).clk.beats - (p .time).waitT0) ∧
    (let p : Profile := { prof 3 with wait := .floor, ending := true }
     Alone (malletAt 0 p) 1 p ∧ p.pc < 255 ∧ p.ending = true ∧ (malletAt 0 p).posOpen = false ∧
     (let s := ((malletAt 0 p).put Obj.CLAP_POS_EN 1).put Obj.CLAP_STATE 1
      s.posOpen = true ∧ s.nat Obj.CLAP_STATE = 1 ∧ Alone s 1 p ∧ (∀ k : Fin 2, k ≠ 1 → (s.actBank k).run = none) ∧
      (s.cal.run.map (·.closed)).getD false = false)) ∧
    (let s (mv : Nat) : State := { malletAt 0 (prof 3) with power := { (lit []).power with vactMv := mv } }
     Alone (s 8499) 1 (prof 3) ∧ (prof 3).wait = .none ∧ (s 8499).power.vactMv < 8500 ∧ 8500 ≤ (s 8500).power.vactMv) ∧
    (let s (q : List ActReq) := acting { fading := some 3, queue := q } {} []
     ((s []).actBank 0).run = none ∧ ((s []).actBank 0).fading.isSome = true ∧ ((s []).actBank 0).queue = [] ∧
     ((s [⟨0, 1, false, false⟩]).actBank 0).queue = ⟨0, 1, false, false⟩ :: []) := by
  unfold issues1 MalletIssues Alone Carries
  refine ⟨?_, ?_, ?_, ?_, ?_, ?_, ?_, ?_, ?_, ?_, ?_, ?_, ?_, ?_, ?_⟩ <;> decide +kernel

theorem witness_DiagnosticsAbortAndCoilsHeat :
    (let p (d : Nat) : Profile := { prof 3 with dipArm := some 50, dips := d, drive := true, target := 100 }
     Alone (malletAt 0 (p 0)) 1 (p 0) ∧ (p 0).dips = 0 ∧ Alone (malletAt 0 (p 1)) 1 (p 1) ∧ (p 1).dips ≠ 0 ∧ ((50 + 50 : Nat) : Rat) ≤ (p 1).targetAt (malletAt 0 (p 1)).clk.beats ∧ (20 : Nat) ≤ 20) ∧
    State.posOpen { lit [] with lands := { (lit []).lands with clapPos := true } } = false ∧
    (let s : State := { acting {} {} [(Obj.CLAP_POS_EN, 1), (Obj.CLAP_STATE, 1)] with act := { closeEnded := some 7 } }
     State.posOpen { s with lands := { s.lands with clapPos := false } } = true ∧ s.nat Obj.CLAP_STATE = 1 ∧
     s.act.closeEnded = some (7 : Fin 8).val ∧ (∀ b : Fin 2, ((s.actBank b).run.map fun p => p.posArm || p.req.close).getD false = false) ∧
     ((s.cal.run.map (·.closed)).getD false) = false) ∧
    (let p : Profile := { prof 3 with posArm := true }
     let s : State := (malletAt 0 p).put Obj.CLAP_POS_EN 1
     State.posOpen { s with lands := { s.lands with clapPos := false } } = true ∧ Alone s 1 p ∧ p.posArm = true ∧
     ∀ k : Fin 2, k ≠ 1 → (s.actBank k).run = none) ∧
    (let p (w : ActWait) : Profile := { prof 3 with wait := w }
     Alone (malletAt 0 (p .sticks)) 1 (p .sticks) ∧ Alone (malletAt 0 (p .floor)) 1 (p .floor) ∧
     (malletAt 0 (p .sticks)).nat Obj.ACT_WAIT_MS * 200000 < (malletAt 0 (p .sticks)).clk.beats - 0 ∧
     (malletAt 0 (p .floor)).nat Obj.MALLET_MAX_MS * 200000 < (malletAt 0 (p .floor)).clk.beats - 0 ∧
     2000000 < (malletAt 0 (p .floor)).clk.beats - 0) ∧
    (let s := acting { run := some (prof 3), queue := [⟨0, 1, false, false⟩] } {} []
     (s.actBank 0).run = some (prof 3) ∧ (s.actBank 0).queue = ⟨0, 1, false, false⟩ :: [] ∧ ¬ Carries (prof 3) ∧
     Carries { prof 3 with drive := true } ∧
     ((acting { run := some { prof 3 with drive := true }, queue := [⟨0, 1, false, false⟩] } {} []).actBank 0).run = some { prof 3 with drive := true }) ∧
    (let s := malletAt 0 (prof 3)
     Alone s 1 (prof 3) ∧ (s.actBank 0).queue = [] ∧
     ((s.get Obj.COIL_AMBIENT : Rat) + heated s 1 3 0 < (s.get (Obj.T_LIMIT (coilNo 1 3)) : Rat)) ∧
     ((s.put (Obj.T_LIMIT (coilNo 1 3)) 60).get (Obj.T_LIMIT (coilNo 1 3)) : Rat) ≤
       ((s.put (Obj.T_LIMIT (coilNo 1 3)) 60).get Obj.COIL_AMBIENT : Rat) + heated (s.put (Obj.T_LIMIT (coilNo 1 3)) 60) 1 3 0) := by
  unfold Alone Carries
  refine ⟨?_, ?_, ?_, ?_, ?_, ?_, ?_⟩ <;> decide +kernel

/-- A package of an ensemble in ENS_STATE `st`, slot 15. -/
def ensembled (st : Int) (e : Ens) : State :=
  { lit [(Obj.ENS_ENABLE, 1), (Obj.ENS_STATE, st), (Obj.ENS_SLOT, 15)] with ens := e }

/-- A transmission of this TYPE in slot `slot` of the package with the lowest UID64, in which slot 15 is ours. -/
def recv (ty slot flags : Nat) (arrival : Dlt) : DrumRx :=
  let p := leBytes 1 ty ++ leBytes 1 slot ++ leBytes 1 0 ++ leBytes 1 flags ++ leBytes 8 1 ++ List.replicate 132 0 ++
    leBytes 8 (lit []).uid.toNat ++ List.replicate 60 7 ++ List.replicate 44 0
  { arrival := arrival, bytes := p ++ leBytes 4 (crc32 p).toNat }

/-- Its preamble begins at its nominal time. -/
def onTime (ty slot : Nat) : DrumRx := recv ty slot 1 (BitVec.ofNat 64 (4000000 * slot + 301440))

theorem recv_crc (ty slot flags : Nat) (a : Dlt) : drumCrcOk (recv ty slot flags a) = true := by
  have val (w : Word) : leVal (leBytes 4 w.toNat) = w.toNat := by
    have h : w.toNat < 2 ^ 32 := w.isLt
    simp [leBytes, leVal]
    omega
  have len (p : List Byte) (h : p.length = 256) (w : Word) :
      drumCrcOk { arrival := a, bytes := p ++ leBytes 4 w.toNat } = ((crc32 p).toNat == w.toNat) := by
    have l : (leBytes 4 w.toNat).length = 4 := by simp [leBytes]
    rw [drumCrcOk, drumLe]
    simp [h, l, List.take_of_length_le, val]
    rfl
  rw [recv, len _ (by simp only [List.length_append, List.length_replicate, leBytes, List.length_cons, List.length_nil])]
  exact beq_self_eq_true _

theorem onTime_admitted (ty slot : Nat) (s : State)
    (h : Hears s ∧ drumTy (onTime ty slot) = ty ∧ (drumFields (onTime ty slot)).early.natAbs ≤ 240000) : Admitted s ty (onTime ty slot) :=
  ⟨h.1, recv_crc .., h.2.1, fun _ => h.2.2⟩

theorem witness_PackagesJoinElectAndLeave :
    ((lit []).nat Obj.ENS_ENABLE ≠ 1 ∧ (ensembled 3 {}).nat Obj.ENS_ENABLE ≠ 0 ∧ (ensembled 3 {}).ensState = 3 ∧ (ensembled 1 {}).ensState ≠ 3 ∧
      (ensembled 1 {}).ensState ≠ 4) ∧
    ((ensembled 4 {}).ens.leaving = 0 ∧ (ensembled 4 {}).ensState = 4 ∧ (ensembled 2 {}).ensState = 2 ∧ (ensembled 2 {}).ens.backoff = 0 ∧
      (ensembled 5 {}).ensState = 5 ∧ (ensembled 5 {}).ens.claims < 7 ∧ 7 ≤ (ensembled 5 { claims := 7 }).ens.claims ∧
      (∀ k : Fin 16, SlotTime { ensembled 3 {} with clk := { dlt := BitVec.ofNat 64 (4000000 * k + 301440) } } k) ∧
      ¬ SlotTime (ensembled 4 {}) (ensembled 4 {}).ownSlot) ∧
    ((ensembled 3 { leaving := 1 }).ens.leaving = 1 ∧ (ensembled 3 { leaving := 1 }).ensState = 3) ∧
    ((ensembled 3 {}).nat Obj.ENS_ENABLE = 1 ∧ (ensembled 3 {}).ensState ≠ 0 ∧ (ensembled 3 {}).drumOn = true ∧ (ensembled 3 {}).windowed = true ∧
      drumCrcOk { arrival := 0, bytes := [] } = false ∧ drumTy (onTime 6 0) = 6 ∧ drumCrcOk (recv 1 0 0 0) = true ∧ drumTy (recv 1 0 0 0) = 1 ∧
      240000 < (drumFields (recv 1 0 0 0)).early.natAbs) ∧
    ((∀ st : Fin 5, Hears (ensembled (st + 1 : Nat) {})) ∧ (∀ ty : Fin 5, drumCrcOk (onTime (ty + 1) 15) = true ∧ drumTy (onTime (ty + 1) 15) = ty + 1 ∧
      (drumFields (onTime (ty + 1) 15)).early.natAbs ≤ 240000)) ∧
    ((drumFields (onTime 5 0)).slot = 0 ∧ Admitted (ensembled 3 {}) 5 (onTime 5 0) ∧ (drumFields (onTime 5 15)).slot ≠ 0 ∧
      (drumFields (onTime 2 15)).flags.getLsbD 0 = true ∧ ((ensembled 4 {}).drumSlotOf 15).uid = 0) ∧
    ((drumFields (onTime 4 0)).uid < (ensembled 5 {}).uid ∧ Admitted (ensembled 5 {}) 4 (onTime 4 0) ∧ (ensembled 3 {}).ensState ≠ 5) ∧
    (let s := (ensembled 4 {}).put Obj.MASTER_UID 2
     Admitted s 1 (onTime 1 0) ∧ s.ensState = 4 ∧ s.nat Obj.MASTER_UID ≠ 0 ∧ s.nat Obj.MASTER_UID ≠ (drumFields (onTime 1 0)).uid.toNat ∧
     (drumFields (onTime 1 0)).uid < s.uid) ∧
    (let s := ensembled 2 { claimSent := true, claimSlot := 15 }
     let b := drumFields (onTime 1 0)
     Admitted s 1 (onTime 1 0) ∧ b.state.getLsbD 7 = false ∧ s.ensState = 2 ∧ s.ens.claimSent = true ∧ 1 ≤ s.ens.claimSlot ∧ s.ens.claimSlot ≤ 15 ∧
     ownerOf b s.ens.claimSlot = s.uid) ∧
    (let s := ensembled 3 { pair := true, t3 := some 5 }
     let b := drumFields (onTime 1 0)
     Admitted s 1 (onTime 1 0) ∧ b.state.getLsbD 7 = false ∧ s.ensState = 3 ∧ s.ens.pair = true ∧ s.ens.t3 = some 5 ∧ 1 ≤ s.nat Obj.ENS_SLOT ∧
     s.nat Obj.ENS_SLOT ≤ 15 ∧ ownerOf b (s.nat Obj.ENS_SLOT) = s.uid ∧ b.tRx.getD (s.nat Obj.ENS_SLOT - 1) 0 ≠ 0) ∧
    (let s (n : Nat) := ensembled 3 { noBeacon := n }
     (s 2).ensState = 3 ∧ (s 2).ens.leaving = 0 ∧ (s 2).ens.beaconNow = false ∧ 2 ≤ (s 2).ens.noBeacon ∧ (s 6).ens.noBeacon < 7 ∧
     7 ≤ (s 7).ens.noBeacon ∧ (s 2).ens.cycleAt ≠ some ((s 2).now.toNat / 64000000) ∧
     (ensembled 3 { cycleAt := some 0 }).ens.cycleAt = some ((ensembled 3 {}).now.toNat / 64000000) ∧ (ensembled 3 { beaconNow := true }).ens.beaconNow = true) := by
  unfold Hears SlotTime
  refine ⟨by decide +kernel, by decide +kernel, by decide +kernel,
    ⟨by decide +kernel, by decide +kernel, by decide +kernel, by decide +kernel, by decide +kernel, by decide +kernel, recv_crc .., by decide +kernel, by decide +kernel⟩,
    ⟨by decide +kernel, fun ty => ⟨recv_crc .., by revert ty; decide +kernel⟩⟩,
    ⟨by decide +kernel, onTime_admitted _ _ _ (by unfold Hears; decide +kernel), by decide +kernel⟩,
    ⟨by decide +kernel, onTime_admitted _ _ _ (by unfold Hears; decide +kernel), by decide +kernel⟩,
    ⟨onTime_admitted _ _ _ (by unfold Hears; decide +kernel), by decide +kernel⟩,
    ⟨onTime_admitted _ _ _ (by unfold Hears; decide +kernel), by decide +kernel⟩,
    ⟨onTime_admitted _ _ _ (by unfold Hears; decide +kernel), by decide +kernel⟩, by decide +kernel⟩

/-- Seven words of an entry with this word 3 (ACTION and LEVEL). -/
def mirrorWords (a : Word) : List Word := [0, 0, 0, a, 0, 0, 0]

theorem witness_MirrorsApplyAndGongsAreHeard :
    (let s (a : Word) := ensembled 3 { mirrorIn := some (240, 0x8000, mirrorWords a) }
     (s 0).ens.mirrorIn = some (240, 0x8000, mirrorWords 0) ∧ (s 0).ensState = 3 ∧ (s 0).nat Obj.DISSENT = 0 ∧ (mirrorWords 0).length = 7 ∧
     BitVec.getLsbD (0x8000 : BitVec 16) ((s 0).nat Obj.ENS_SLOT) = true ∧ (s 0).strokes.at 240 = none ∧
     (s 0).mirrorLate (Stroke.parse (wordsBytes (mirrorWords 0 ++ [0]))) = false) ∧
    (ensembled 3 { mirrorIn := some (240, 0x8000, mirrorWords 0x200000) }).mirrorLate (Stroke.parse (wordsBytes (mirrorWords 0x200000 ++ [0]))) = true ∧
    ((lit []).lands.gongOwn = false ∧ (lit []).lands.gongOther = false ∧ (lit []).power.domains[1] = 1 ∧
      (lit []).nat Obj.GONG_ACTION ≠ 1 ∧ (lit [(Obj.GONG_ACTION, 1)]).nat Obj.GONG_ACTION = 1) := by
  refine ⟨?_, ?_, ?_⟩ <;> decide +kernel

/-- The records of a Masol as short as R26 lets them be, all of zeros. -/
def masolRecords1 : List Word :=
  (List.range 15).flatMap fun t => Masol.record (t + 1) (List.replicate (max 1 (Masol.minLen (t + 1) [])) 0)
theorem masol1_len : (masolRecords1 ++ [0xFFFF]).length = 2106 := by decide +kernel
theorem masol1_walk : ((Masol.walk 2110 2106 (masolRecords1 ++ [0xFFFF])).map Masol.recordsOk) = some true := by decide +kernel
theorem masol1_check : Masol.check (Masol.build masolRecords1) = 0 := by
  have l := masol1_len
  have w := masol1_walk
  generalize e : masolRecords1 ++ [(0xFFFF : Word)] = b at l w
  have hb : Masol.build masolRecords1 = [0x4C4F534D, 0x00010000, BitVec.ofNat 32 8440, crc32 (wordsBytes b)] ++ b := by
    have e' : masolRecords1 ++ [(0x0000FFFF : Word)] = b := e
    simp only [Masol.build, e', l]
  have ht : ((Masol.build masolRecords1).take 2110) = Masol.build masolRecords1 := by
    rw [List.take_of_length_le]; rw [hb]; simp [l]
  have hd : (Masol.build masolRecords1).drop 4 = b := by rw [hb]; rfl
  have h2 : ((Masol.build masolRecords1).getD 2 0).toNat = 8440 := by rw [hb]; rfl
  have h0 : (Masol.build masolRecords1).getD 0 0 = 0x4C4F534D := by rw [hb]; rfl
  have h1 : (Masol.build masolRecords1).getD 1 0 = 0x00010000 := by rw [hb]; rfl
  have h3 : (Masol.build masolRecords1).getD 3 0 = crc32 (wordsBytes b) := by rw [hb]; rfl
  obtain ⟨rs, hw, hr⟩ := Option.map_eq_some_iff.mp w
  have hw' : Masol.walk (8440 / 4) (8440 / 4 - 4) b = some rs := hw
  have ht' : List.take (8440 / 4) (Masol.build masolRecords1) = Masol.build masolRecords1 := ht
  simp only [Masol.check, h0, h1, h2, h3, ht', hd, hw', hr]
  simp [show bits 65536 31 16 = 1 by decide]

/-- State of a part before its start-up: AON alone on, its supplies good. -/
def starting (stage : Int) (l : List (Nat × Int)) : State :=
  let s := ((Obj.STARTUP_STAGE, stage) :: l).foldl (fun u kv => u.put kv.1 kv.2) State.reset
  { s with power := { s.power with domains := aonOnly, rails := Vector.replicate 12 true } }

/-- The same with the control domain on. -/
def started (stage : Int) (l : List (Nat × Int)) : State :=
  let s := starting stage l
  { s with power := { s.power with domains := s.power.domains.set 1 1 } }

/-- Flash with a configuration block of no record in slot 0. -/
def configured : State :=
  (started 1 []).poke flashBase (leBytes 4 0x46434B48 ++ leBytes 4 1 ++ leBytes 4 20 ++ leBytes 4 5 ++ leBytes 4 (crc32 []).toNat ++ [0, 0, 0, 0])

theorem witness_StartUpGoesThroughItsStages :
    State.reset.domain 0 ≠ 1 ∧
    (let s := starting 0 []
     s.nat Obj.STARTUP_STAGE = 0 ∧ s.domain 0 = 1 ∧ s.power.mode = .run ∧ s.domain 1 ≠ 1 ∧ s.rail 8 = true ∧ s.rail 1 = true) ∧
    (let s := started 1 []
     s.nat Obj.STARTUP_STAGE = 1 ∧ s.domain 1 = 1 ∧ s.nat Obj.MASOL_STATUS = 0 ∧ s.cfgWord 0 0 ≠ 0x46434B48 ∧ s.cfgWord 1 0 ≠ 0x46434B48) ∧
    ((widestRun (sfdp1.taps.take 32) 0 0 (0, 0)).2 ≠ 0 ∧ (widestRun ((List.replicate 32 false).take 32) 0 0 (0, 0)).2 = 0) ∧
    (let s := configured
     s.nat Obj.STARTUP_STAGE = 1 ∧ s.domain 1 = 1 ∧ s.nat Obj.MASOL_STATUS = 0 ∧
     State.cfgNewest ((s.enterStage 2).discover (some sfdp1)) = some 0 ∧ s.shadow.staged = [] ∧ s.le (flashBase + 0x800000 * 0 + 20) 4 % 65536 = 0) ∧
    (let s := started 2 [(Obj.CFG_STATE, 3)]
     s.nat Obj.STARTUP_STAGE = 2 ∧ s.nat Obj.CFG_STATE ≠ 0 ∧ s.domain 1 = 1 ∧ crc32 s.otp.trimBlock = s.otp.trimCrc) ∧
    (let s : State := { started 2 [(Obj.CFG_STATE, 3)] with otp := { Otp.part with trimBlock := [1, 2] } }
     crc32 s.otp.trimBlock ≠ s.otp.trimCrc) ∧
    (let s : State := { lit [] with power := { (lit []).power with settling := true } }
     s.power.settling = true ∧ s.quadrantsOn = true) ∧
    ((starting 0 []).domain 1 ≠ 1 ∧ (11 : Fin 12).val ≠ 1) ∧
    (let s : State := { started 1 [] with power := { (started 1 []).power with domains := (started 1 []).power.domains.set 3 3 } }
     s.domain 1 = 1 ∧ 3 ∈ onOrder ∧ s.domain 3 = 3 ∧ s.dueOn 3 = true ∧ s.domain (domainParent 3) = 1 ∧
     ((domainLane 3).map s.laneAbsent).getD false = false ∧
     State.railsFor { s with power := { s.power with rails := s.power.rails.set 8 true } } 3 = true) := by
  refine ⟨?_, ?_, ?_, ?_, ?_, ?_, ?_, ?_, ?_, ?_⟩ <;> decide +kernel

/-- A Masol that passes the check. -/
theorem witness_StartUpGoesThroughItsStages_masol : Masol.check (State.otp { State.reset with otp := { Otp.part with masol := Masol.build masolRecords1 } }).masol = 0 :=
  masol1_check

/-- A part in this power mode. -/
def moded (m : Mode) (l : List (Nat × Int)) : State := { lit l with power := { (lit l).power with mode := m, rails := Vector.replicate 12 true } }

theorem witness_RestartsLeaveFlashAndEvents :
    (let s := moded .run []
     s.domain 0 = 1 ∧ s.rail 1 = true ∧ s.power.mode ≠ .shutdown ∧ FlashRests s) ∧
    (moded .shutdown []).power.mode = .shutdown ∧
    (let s := moded .run []
     s.rail 8 = true ∧ s.railUsed 8 = true ∧ s.rail 1 = true ∧ s.power.mode = .run ∧ s.domain 1 = 1) ∧
    (started 1 []).railUsed 9 = false ∧ (moded .sleep []).power.mode ≠ .run ∧
    (let s := moded .run []
     s.power.mode ≠ .standby ∧ s.power.mode ≠ .shutdown ∧ s.nat Obj.RESET_CAUSE < 256 ∧ s.shutdowns < 2 ^ 32 - 1) ∧
    (moded .standby []).power.mode = .standby ∧ (moded .shutdown []).rail 1 = true := by
  unfold FlashRests
  refine ⟨?_, ?_, ?_, ?_, ?_, ?_, ?_, ?_⟩ <;> decide +kernel

/-- View 0 has entries of a record in its open page. -/
def recording (s : State) : State := (s.put (Obj.VW_SOURCE 0) 6).mapView 0 fun w => { w with pageN := 1 }

/-- Mode retain waits for the views. -/
def awaiting (s : State) : State := { s with power := { s.power with entering := some 1 } }

theorem witness_PowerModesAreEnteredAndLeft :
    (let s := moded .run []
     MayAsk s 1 ∧ s.powerRefused = false ∧ ViewsClosed s ∧ MayAsk (moded .retain []) 2 ∧ MayAsk (moded .retain []) 3) ∧
    (let s := recording (moded .run [])
     MayAsk s 3 ∧ s.powerRefused = false ∧ ¬ ViewsClosed s) ∧
    (let s : State := { moded .run [] with ports := { flashNow := some (.erase 0 4096) } }
     MayAsk s 2 ∧ s.powerRefused = true) ∧
    (let s := awaiting (moded .run [])
     s.power.entering.isSome = true ∧ s.drumOn = true ∧ s.power.entering = some 1 ∧ s.oneBeat.lanesTick.viewsOut = true ∧
     (recording s).oneBeat.lanesTick.viewsOut = false) ∧
    ((moded .retain []).power.mode = .retain ∧ (moded .retain []).domain 1 = 1 ∧ (moded .retain []).power.entering = none) ∧
    (let s (m : Mode) : State := { starting 0 [(Obj.WAKE_SRC_EN, 15), (Obj.SLEEP_TICKS, 7)] with power := { (starting 0 []).power with mode := m } }
     (s .sleep).rail 1 = true ∧ (s .sleep).domain 0 = 1 ∧ (s .sleep).domain 1 ≠ 1 ∧ (s .sleep).power.mode = .sleep ∧
     (∀ src : Fin 4, ((s .sleep).nat Obj.WAKE_SRC_EN).testBit src = true) ∧ (s .standby).power.mode = .standby ∧
     (s .sleep).nat Obj.SLEEP_TICKS ≠ 0 ∧ (s .sleep).nat Obj.SLEEP_TICKS ≤ 7) ∧
    ((starting 0 [(Obj.WAKE_SRC_EN, 0)]).nat Obj.WAKE_SRC_EN).testBit 0 = false ∧
    ((moded .run []).domain 1 = 1 ∧ (List.replicate 40 (32767 : Int)).length = 40 ∧ (∀ x ∈ List.replicate 40 (32767 : Int), -32768 ≤ x ∧ x < 32768)) ∧
    (let s := moded .run []
     s.get Obj.THROTTLE_C ≤ 32767 ∧ s.nat Obj.THROTTLE_LEVEL < 7 ∧ s.power.levelBeat = none ∧ s.get Obj.THROTTLE_C - 1 < s.get Obj.THROTTLE_C ∧
     s.get Obj.THROTTLE_C - 50 < s.get Obj.THROTTLE_C - 1) := by
  unfold MayAsk ViewsClosed
  refine ⟨?_, ?_, ?_, ?_, ?_, ?_, ?_, ?_, ?_⟩ <;> decide +kernel

end Sys2Proof.Machine
end

section
/-! What every command leaves: the factory memory and the rest of the queue (01_masol_table.md R20, R35). A state `t` reached
from `s` is followed through the operations that made it: each operation has one lemma that carries `s.Keeps t` over, stated on
whatever state it is applied to, so that the proof of an operation is the composition of the lemmas of those it calls. -/

namespace Sys2Proof.Machine

variable {s t u : State}

/-- `t` has the factory memory and the queue of `s`. -/
def State.Keeps (s t : State) : Prop := t.otp = s.otp ∧ t.pending = s.pending

/-- A next state that the outcome answers has the factory memory and the queue of `s`. -/
def State.KeepsOut (s : State) : Out → Prop
  | .next t => s.Keeps t
  | _ => True

/-- The state in the answer of a write, if there is an answer, has the factory memory and the queue of `s`. -/
def State.KeepsSome (s : State) (o : Option (State × Nat)) : Prop := ∀ y ∈ o, s.Keeps y.1

theorem State.Keeps.refl : s.Keeps s := ⟨rfl, rfl⟩

/-- A record update of any other fields. -/
theorem State.Keeps.update {free obj mem banks eccBad clk strokes focal mc fab pix shadow pipe cal rolls views lanes eye dict
    ports act ens lands power} (h : s.Keeps t) :
    s.Keeps ⟨t.pending, free, t.otp, obj, mem, banks, eccBad, clk, strokes, focal, mc, fab, pix, shadow, pipe, cal, rolls,
      views, lanes, eye, dict, ports, act, ens, lands, power⟩ := h

theorem State.Keeps.fst {α : Type} {p : State × α} {x : α} (h : s.Keeps p.1) (e : p = (u, x)) : s.Keeps u := by
  subst e
  exact h

theorem State.Keeps.ite {c : Prop} [Decidable c] (ht : s.Keeps t) (hu : s.Keeps u) : s.Keeps (if c then t else u) := by
  split <;> assumption

theorem State.Keeps.iteFst {α : Type} {c : Prop} [Decidable c] {a b : State × α} (ha : s.Keeps a.1) (hb : s.Keeps b.1) :
    s.Keeps (if c then a else b).1 := by
  split <;> assumption

/-- An intermediate state that several branches go on from. -/
theorem State.Keeps.via (h : s.Keeps t) (hu : s.Keeps t → s.Keeps u) : s.Keeps u := hu h

theorem State.Keeps.foldl {α : Type} {f : State → α → State} {l : List α} (h : s.Keeps t)
    (hf : ∀ u x, s.Keeps u → s.Keeps (f u x)) : s.Keeps (l.foldl f t) := by
  induction l generalizing t with
  | nil => exact h
  | cons x l ih => exact ih (hf t x h)

theorem State.Keeps.foldlFst {α β : Type} {f : State × β → α → State × β} {l : List α} {a : State × β} (h : s.Keeps a.1)
    (hf : ∀ a x, s.Keeps a.1 → s.Keeps (f a x).1) : s.Keeps (l.foldl f a).1 := by
  induction l generalizing a with
  | nil => exact h
  | cons x l ih => exact ih (hf a x h)

theorem State.KeepsOut.next (h : s.Keeps t) : s.KeepsOut (.next t) := h

theorem State.KeepsOut.ite {c : Prop} [Decidable c] {a b : Out} (ha : s.KeepsOut a) (hb : s.KeepsOut b) :
    s.KeepsOut (if c then a else b) := by
  split
  · exact ha
  · exact hb

theorem State.KeepsSome.none : s.KeepsSome none := by
  rintro _ ⟨⟩

theorem State.KeepsSome.ofPair {y : State × Nat} (h : s.Keeps y.1) : s.KeepsSome (some y) := by
  rintro _ ⟨⟩
  exact h

theorem State.KeepsSome.some {n : Nat} (h : s.Keeps t) : s.KeepsSome (some (t, n)) := .ofPair h

theorem State.KeepsSome.ite {c : Prop} [Decidable c] {a b : Option (State × Nat)} (ha : s.KeepsSome a)
    (hb : s.KeepsSome b) : s.KeepsSome (if c then a else b) := by
  split <;> assumption

/-! ## Stores, memory, objects, bells, the gong line, the event store -/

theorem State.Keeps.poke {a bs} (h : s.Keeps t) : s.Keeps (t.poke a bs) := .update h

theorem State.Keeps.wipe {lo hi} (h : s.Keeps t) : s.Keeps (t.wipe lo hi) := .update h

theorem State.Keeps.put {k v} (h : s.Keeps t) : s.Keeps (t.put k v) := .update h

theorem State.Keeps.bump {k n} (h : s.Keeps t) : s.Keeps (t.bump k n) := by
  unfold State.bump
  split
  · exact h
  · exact .put h

theorem State.Keeps.putBytes {bs k off} (h : s.Keeps t) : s.Keeps (t.putBytes k off bs) := by
  induction bs generalizing t off with
  | nil => exact h
  | cons b bs ih => exact ih (.put h)

theorem State.Keeps.putLe {k off n v} (h : s.Keeps t) : s.Keeps (t.putLe k off n v) := .putBytes h

theorem State.Keeps.bumpLe {k off n c} (h : s.Keeps t) : s.Keeps (t.bumpLe k off n c) := .putLe h

theorem State.Keeps.drawn {n} (h : s.Keeps t) : s.Keeps (t.drawn n) := .update h

theorem State.Keeps.bell {code arg} (h : s.Keeps t) : s.Keeps (t.bell code arg) :=
  .ite (.update (.put h)) (.bump (.put h))

theorem State.Keeps.send {m} (h : s.Keeps t) : s.Keeps (t.send m) := .update h

theorem State.Keeps.pullGong {cause} (h : s.Keeps t) : s.Keeps (t.pullGong cause) := .update h

theorem State.Keeps.nvmErase {i} (h : s.Keeps t) : s.Keeps (t.nvmErase i) := .wipe h

theorem State.Keeps.event {cause sensor temp} (h : s.Keeps t) : s.Keeps (t.event cause sensor temp) :=
  .nvmErase (.poke (.poke h))

theorem State.Keeps.liveChange (h : s.Keeps t) : s.Keeps t.liveChange := .ite h (.bell (.put (.update h)))

theorem State.Keeps.each {α : Type} {xs : List α} {f : State → α → State} (h : s.Keeps t)
    (hf : ∀ u x, s.Keeps u → s.Keeps (f u x)) : s.Keeps (t.each xs f) := .foldl h hf

/-! ## Coefficient banks -/

theorem State.Keeps.setBank {i b} (h : s.Keeps t) : s.Keeps (t.setBank i b) := .update h

theorem State.Keeps.bankWrite {i off bs} (h : s.Keeps t) : s.Keeps (t.bankWrite i off bs) := .update (.setBank h)

theorem State.Keeps.setVerified {i v} (h : s.Keeps t) : s.Keeps (t.setVerified i v) := .bankWrite h

theorem State.Keeps.bankView {g} (h : s.Keeps t) : s.Keeps (t.bankView g) := .put (.putLe (.putLe h))

/-! ## Strokes in flight and landings -/

theorem State.Keeps.fire {action l order} (h : s.Keeps t) : s.Keeps (t.fire action l order) := .update h

theorem State.Keeps.stampLanding {ds edges elapsed} (h : s.Keeps t) : s.Keeps (t.stampLanding ds edges elapsed) := by
  unfold State.stampLanding
  split
  · exact h
  · exact .foldl (.put h) fun _ _ hu => .put hu

theorem State.Keeps.landing {code l} (h : s.Keeps t) (e : t.landing code l = some u) : s.Keeps u := by
  unfold State.landing at e
  dsimp only at e
  split at e
  · cases e
  · split at e
    · cases e
      exact .stampLanding (.update h)
    · cases e

theorem State.Keeps.land {code l f} (h : s.Keeps t) (hf : ∀ u, s.Keeps u → s.Keeps (f u)) :
    s.Keeps (t.land code l f) := by
  unfold State.land
  split
  · exact h
  · rename_i u e
    exact hf u (h.landing e)

/-! ## Rolls, budgets and leases (08) -/

theorem State.Keeps.writeAllocApply {v} (h : s.Keeps t) : s.Keeps (t.writeAllocApply v) := by
  unfold State.writeAllocApply
  refine .ite h ?_
  split
  · exact .put (.put h)
  · exact .put (.update h)

@[simp] theorem execAllocApply_keeps {v} : s.KeepsOut (execAllocApply v s) := .next (.writeAllocApply .refl)

theorem State.Keeps.refill (h : s.Keeps t) : s.Keeps t.refill := .each (.update h) fun _ _ hu => .putLe hu

theorem State.Keeps.spend {i c n} (h : s.Keeps t) : s.Keeps (t.spend i c n) := .ite h (.update h)

theorem State.Keeps.stallRoll {i c} (h : s.Keeps t) : s.Keeps (t.stallRoll i c) := .ite h (.bumpLe (.update h))

theorem State.Keeps.spendSome {i c n} (h : s.Keeps t) : s.Keeps (t.spendSome i c n).1 :=
  .iteFst h (.iteFst (.spend h) (.stallRoll (.spend h)))

theorem State.Keeps.owe {i c n} (h : s.Keeps t) :
    s.Keeps (t.owe i c n) := .ite (.spendSome h) (.update (.spendSome h))

theorem State.Keeps.payOwed (h : s.Keeps t) : s.Keeps t.payOwed := .foldl h fun _ _ hu => .update (.spendSome hu)

theorem State.Keeps.charge {i c n f} (h : s.Keeps t) (hf : ∀ u, s.Keeps u → s.Keeps (f u)) :
    s.Keeps (t.charge i c n f) :=
  .ite (hf _ (.owe h)) (.stallRoll h)

theorem State.Keeps.setLease {r l} (h : s.Keeps t) : s.Keeps (t.setLease r l) := .update h

theorem State.Keeps.setEngine {p e} (h : s.Keeps t) : s.Keeps (t.setEngine p e) := .update h

theorem State.Keeps.setRegion {g r} (h : s.Keeps t) : s.Keeps (t.setRegion g r) := .update h

theorem State.Keeps.mapRuns {f} (h : s.Keeps t) : s.Keeps (t.mapRuns f) := .update h

theorem State.Keeps.mapDone {f} (h : s.Keeps t) : s.Keeps (t.mapDone f) := .update h

theorem State.Keeps.remoteWrite {region off bytes slot} (h : s.Keeps t) :
    s.Keeps (t.remoteWrite region off bytes slot) :=
  .ite h (.poke h)

theorem State.Keeps.sendSeam {b} (h : s.Keeps t) : s.Keeps (t.sendSeam b) :=
  .ite (.remoteWrite (.spend h)) (.update (.stallRoll h))

theorem State.Keeps.drainSeam (h : s.Keeps t) : s.Keeps t.drainSeam := .foldl (.update h) fun _ _ hu => .sendSeam hu

theorem State.Keeps.rollback {r} (h : s.Keeps t) : s.Keeps (t.rollback r) := by
  unfold State.rollback
  refine .ite (.mapDone (.mapRuns h)) (.ite ?_ ?_)
  · exact .foldl h fun _ _ hu => .ite (.setRegion hu) hu
  · exact .ite (.bankView (.setVerified h)) (.mapRuns h)

theorem State.Keeps.endLease {r} (h : s.Keeps t) : s.Keeps (t.endLease r) :=
  .ite (.bell (.bump (.setLease (.rollback h)))) (.bump (.setLease h))

theorem State.Keeps.expireLeases (h : s.Keeps t) : s.Keeps t.expireLeases :=
  .foldl h fun _ _ hu => .ite (.endLease hu) (.ite (.setLease hu) hu)

theorem State.Keeps.grantLease {r} (h : s.Keeps t) : s.Keeps (t.grantLease r) := by
  unfold State.grantLease
  refine .ite h ?_
  split
  · exact .setLease h
  · exact .ite (.setEngine (.setLease h)) (.setLease h)

theorem State.Keeps.holdPorts {code} (h : s.Keeps t) : s.Keeps (t.holdPorts code) :=
  .foldl h fun _ _ hu => .ite hu (.ite (.setLease hu) (.setLease hu))

theorem State.Keeps.freePorts {code} (h : s.Keeps t) :
    s.Keeps (t.freePorts code) := .foldl h fun _ _ hu => .setLease hu

theorem State.Keeps.owePorts {c n} (h : s.Keeps t) : s.Keeps (t.owePorts c n) := .foldl h fun _ _ hu => .owe hu

@[simp] theorem execLeaseGrant_keeps {r} : s.KeepsOut (execLeaseGrant r s) := .next (.grantLease .refl)

theorem State.Keeps.mapWaits {f} (h : s.Keeps t) : s.Keeps (t.mapWaits f) := .update h

theorem State.Keeps.boundaryWork {beat} (h : s.Keeps t) : s.Keeps (t.boundaryWork beat) := by
  unfold State.boundaryWork
  exact .via (.ite (.put (.update (.each (.update h) fun _ _ hu => .put hu))) (.update h)) fun h1 =>
    .expireLeases (.drainSeam (.payOwed (.refill (.put (.mapWaits (.ite (.update (.bump h1)) h1))))))

theorem State.Keeps.firstBoundary (h : s.Keeps t) : s.Keeps t.firstBoundary := .boundaryWork h

theorem State.Keeps.boundary {beat} (h : s.Keeps t) : s.Keeps (t.boundary beat) := .boundaryWork (.put h)

@[simp] theorem execRollBoundary_keeps : s.KeepsOut (execRollBoundary s) := .next (.ite (.boundary .refl) .refl)

theorem State.Keeps.refillAgain (h : s.Keeps t) : s.Keeps t.refillAgain :=
  .drainSeam (.payOwed (.refill (.putLe (.putLe h))))

theorem State.Keeps.newRollUs (h : s.Keeps t) : s.Keeps t.newRollUs :=
  .ite h (.ite (.refillAgain (.put h)) (.boundary (.put h)))

/-! ## The engine fabric (04) -/

theorem State.Keeps.mapFrame {n f} (h : s.Keeps t) : s.Keeps (t.mapFrame n f) := .update h

theorem State.Keeps.countCorrected {reads upset} (h : s.Keeps t) : s.Keeps (t.countCorrected reads upset) := by
  unfold State.countCorrected
  split
  · exact h
  · exact .bump h

theorem State.Keeps.findUpsets {reads upset} (h : s.Keeps t) : s.Keeps (t.findUpsets reads upset) :=
  .foldl (.countCorrected h) fun _ _ hu => .bell (.bump (.update hu))

theorem State.Keeps.repairWords {reads upset} (h : s.Keeps t) : s.Keeps (t.repairWords reads upset) := by
  unfold State.repairWords
  split
  · exact .countCorrected h
  · exact .bump (.countCorrected h)

theorem State.Keeps.writeProg {i off bytes} (h : s.Keeps t) : s.Keeps (t.writeProg i off bytes).1 :=
  .iteFst h (.iteFst (.bump h) (.put (.update (.poke h))))

@[simp] theorem execProgSlotWrite_keeps {slot off bytes} : s.KeepsOut (execProgSlotWrite slot off bytes s) :=
  .next (.writeProg .refl)

theorem State.Keeps.writeTable {off bytes} (h : s.Keeps t) : s.Keeps (t.writeTable off bytes).1 := .iteFst h (.poke h)

@[simp] theorem execTableAreaWrite_keeps {off bytes} :
    s.KeepsOut (execTableAreaWrite off bytes s) := .next (.writeTable .refl)

theorem State.Keeps.seamLinkDown {l} (h : s.Keeps t) : s.Keeps (t.seamLinkDown l) :=
  .bell (.pullGong (.put (.update h)))

@[simp] theorem execSeamBlockReceive_keeps {link crcOk} : s.KeepsOut (execSeamBlockReceive link crcOk s) := by
  unfold execSeamBlockReceive
  refine .next (.ite .refl ?_)
  exact .ite (.update .refl) (.ite (.seamLinkDown (.update .refl)) (.bump (.update .refl)))

theorem State.Keeps.abandon {p} (h : s.Keeps t) : s.Keeps (t.abandon p) := by
  unfold State.abandon
  split
  · exact h
  · exact .setEngine (.foldl (.setRegion h) fun _ _ hu => .setLease hu)

theorem State.Keeps.requeue {it} (h : s.Keeps t) : s.Keeps (t.requeue it) := .setRegion h

theorem State.Keeps.giveBack {x} (h : s.Keeps t) : s.Keeps (t.giveBack x) := by
  unfold State.giveBack
  split
  · exact .ite (.requeue (.update h)) (.update h)
  · exact .requeue h
  · exact .requeue h
  · exact .update h
  · exact .update h
  · exact h

theorem State.Keeps.fence {p} (h : s.Keeps t) : s.Keeps (t.fence p) := by
  unfold State.fence
  refine .ite h (.liveChange (.bell (.bump (.setEngine (.update ?_)))))
  split
  · exact h
  · exact .giveBack (.abandon h)

theorem State.Keeps.takeSpare {frame n} (h : s.Keeps t) : s.Keeps (t.takeSpare frame n) := by
  unfold State.takeSpare
  split
  · exact .update h
  · exact .setEngine (.wipe (.update h))

theorem State.Keeps.sparesTakeOver {frame} (h : s.Keeps t) : s.Keeps (t.sparesTakeOver frame) := by
  unfold State.sparesTakeOver
  exact .via (.ite h (.liveChange (.foldl (.update h) fun _ _ hu => .takeSpare hu))) fun h1 => .ite (.pullGong h1) h1

theorem State.Keeps.writeFEng {q v} (h : s.Keeps t) : s.Keeps (t.writeFEng q v) := .put (.update h)

@[simp] theorem execFEngWrite_keeps {q v} : s.KeepsOut (execFEngWrite q v s) := .next (.ite (.writeFEng .refl) .refl)

@[simp] theorem execEnginePllLock_keeps {q} : s.KeepsOut (execEnginePllLock q s) := .next (.put (.update .refl))

theorem State.Keeps.runAt {q f} (h : s.Keeps t) : s.Keeps (t.runAt q f) := .put (.update h)

theorem State.Keeps.switchEngine {q} (h : s.Keeps t) : s.Keeps (t.switchEngine q) := by
  unfold State.switchEngine
  split
  · exact h
  · exact .ite (.put (.update h)) (.ite h (.ite (.ite h (.bell (.update h))) (.put (.runAt h))))

theorem State.Keeps.vddeBest {mv} (h : s.Keeps t) : s.Keeps (t.vddeBest mv).2 := by
  unfold State.vddeBest
  split
  · exact h
  · exact .drawn h

@[simp] theorem execVddeMeasure_keeps {q mv} : s.KeepsOut (execVddeMeasure q mv s) :=
  .next (.ite (.bell (.runAt (.vddeBest (.put .refl)))) (.put .refl))

/-! ## Issue of an instruction (05) -/

theorem State.Keeps.faultRun {p code} (h : s.Keeps t) : s.Keeps (t.faultRun p code) := .setEngine h

theorem State.Keeps.fail {code} (h : s.Keeps t) : s.Keeps (Eff.fail t code).1 := h

theorem State.Keeps.retire {r p pc cycles counts} (h : s.Keeps r.1) :
    s.Keeps (State.retire r p pc cycles counts) := by
  unfold State.retire
  dsimp only
  split
  · exact .faultRun h
  · exact h
  · exact .ite (.spend (.setEngine h)) (.faultRun (.spend (.setEngine h)))
  · exact .ite (.spend (.setEngine h)) (.faultRun h)

theorem State.Keeps.instr {p op f cycles takesPrefix legal body} (h : s.Keeps t) (hb : ∀ e x, s.Keeps (body e x).1) :
    s.Keeps (t.instr p op f cycles takesPrefix legal body) := by
  unfold State.instr
  split
  · exact h
  · exact .ite (.stallRoll h) (.ite (.faultRun h) (.retire (hb _ _)))

theorem State.Keeps.regInstr {p op f cycles takesPrefix legal body} (h : s.Keeps t) :
    s.Keeps (t.regInstr p op f cycles takesPrefix legal body) := by
  unfold State.regInstr
  refine .instr h fun _ _ => ?_
  split
  · exact .fail h
  · exact .setEngine h

theorem State.Keeps.mapRun {p f} (h : s.Keeps t) : s.Keeps (t.mapRun p f) := .setEngine h

/-! ## Flash commands -/

theorem State.Keeps.flashGo {op f} (h : s.Keeps t) (hf : ∀ u, s.Keeps u → s.Keeps (f u)) :
    s.Keeps (t.flashGo op f) := by
  refine .charge h fun u hu => .foldl ?_ fun _ _ hv => .send hv
  split
  · exact .put (.update (hf u hu))
  · exact .update (hf u hu)

theorem State.Keeps.flashStart (h : s.Keeps t) : s.Keeps t.flashStart := by
  unfold State.flashStart
  refine .ite h ?_
  dsimp only
  split
  · exact .flashGo (.update h) fun _ hu => .update hu
  · split
    · exact .update (.update h)
    · exact .flashGo (.update h) fun _ hu => .update hu
  · exact .flashGo (.update h) fun _ hu => .update hu
  · exact .update h

theorem State.Keeps.flashAsk {op} (h : s.Keeps t) : s.Keeps (t.flashAsk op) := .flashStart (.update h)

/-! ## Engine memory instructions -/

@[simp] theorem execLdst_keeps {p f upset} : s.KeepsOut (execLdst p f upset s) := by
  unfold execLdst
  refine .next (.instr .refl fun _ _ => ?_)
  split
  · exact .fail .refl
  · exact .setEngine (.findUpsets .refl)

@[simp] theorem execStst_keeps {p f} : s.KeepsOut (execStst p f s) := by
  unfold execStst
  refine .next (.instr .refl fun _ _ => ?_)
  split
  · exact .fail .refl
  · exact .iteFst (.poke .refl) (.iteFst (.fail .refl) (.mapRun .refl))

@[simp] theorem execLdl_keeps {p f upset} : s.KeepsOut (execLdl p f upset s) := by
  unfold execLdl
  refine .next (.instr .refl fun _ _ => ?_)
  split
  · exact .fail .refl
  · split
    · exact .flashAsk (.mapRun .refl)
    · exact .setEngine .refl
    · exact .iteFst (.fail (.update .refl)) (.setEngine (.countCorrected .refl))
    · exact .setEngine (.ite (.findUpsets .refl) (.drawn (.setRegion (.findUpsets .refl))))
    · exact .setEngine (.repairWords .refl)

theorem State.Keeps.flashData {p} (h : s.Keeps t) : s.Keeps (t.flashData p) := by
  unfold State.flashData
  dsimp only
  split
  · exact h
  · split
    · exact h
    · exact .setEngine (.drawn h)

@[simp] theorem execStl_keeps {p f} : s.KeepsOut (execStl p f s) := by
  unfold execStl
  refine .next ?_
  split
  · exact .stallRoll .refl
  · refine .instr .refl fun _ _ => ?_
    split
    · exact .fail .refl
    · exact .poke .refl
    · exact .iteFst (.fail .refl) (.owe (.mapRun (.bankView (.setVerified (.bankWrite .refl)))))

@[simp] theorem execLdpx_keeps {p f upset} : s.KeepsOut (execLdpx p f upset s) := by
  unfold execLdpx
  refine .next (.instr .refl fun _ _ => ?_)
  exact .iteFst (.fail .refl) (.iteFst (.fail .refl) (.setEngine (.findUpsets .refl)))

@[simp] theorem execLdcf_keeps {p f upset} : s.KeepsOut (execLdcf p f upset s) := by
  unfold execLdcf
  refine .next ?_
  split
  · refine .ite (.stallRoll .refl) (.instr .refl fun _ _ => ?_)
    exact .iteFst (.fail .refl) (.setEngine (.spend (.findUpsets .refl)))
  · exact .refl

/-! ## Engine vector instructions -/

theorem State.Keeps.vrInstr {p op f cycles legal body} (h : s.Keeps t) :
    s.Keeps (t.vrInstr p op f cycles legal body) :=
  .regInstr h

theorem State.Keeps.addSub {p op f g} (h : s.Keeps t) : s.Keeps (t.addSub p op f g) := .vrInstr h

@[simp] theorem execVadd_keeps {p f} : s.KeepsOut (execVadd p f s) := .next (.addSub .refl)

@[simp] theorem execVsub_keeps {p f} : s.KeepsOut (execVsub p f s) := .next (.addSub .refl)

@[simp] theorem execVmul_keeps {p f} : s.KeepsOut (execVmul p f s) := .next (.vrInstr .refl)

@[simp] theorem execVmac_keeps {p f} : s.KeepsOut (execVmac p f s) := .next (.vrInstr .refl)

@[simp] theorem execVshr_keeps {p f} : s.KeepsOut (execVshr p f s) := .next (.vrInstr .refl)

theorem State.Keeps.minMax {p op f takeA} (h : s.Keeps t) : s.Keeps (t.minMax p op f takeA) := .vrInstr h

@[simp] theorem execVmin_keeps {p f} : s.KeepsOut (execVmin p f s) := .next (.minMax .refl)

@[simp] theorem execVmax_keeps {p f} : s.KeepsOut (execVmax p f s) := .next (.minMax .refl)

@[simp] theorem execVabs_keeps {p f} : s.KeepsOut (execVabs p f s) := .next (.vrInstr .refl)

@[simp] theorem execVsat_keeps {p f} : s.KeepsOut (execVsat p f s) := .next (.vrInstr .refl)

@[simp] theorem execVcmp_keeps {p f} : s.KeepsOut (execVcmp p f s) := .next (.vrInstr .refl)

@[simp] theorem execVsel_keeps {p f} : s.KeepsOut (execVsel p f s) := .next (.vrInstr .refl)

theorem State.Keeps.readLocal {reads upset body} (h : s.Keeps t) (hb : ∀ u, s.Keeps u → s.Keeps (body u).1) :
    s.Keeps (t.readLocal reads upset body).1 := by
  exact .iteFst (.fail (.update h)) (hb _ (.repairWords h))

@[simp] theorem execVlut_keeps {h' f} : s.KeepsOut (execVlut h' f s) := by
  unfold execVlut
  refine .next (.instr .refl fun _ _ => ?_)
  split
  · exact .fail .refl
  · exact .readLocal .refl fun _ h => .setEngine h

@[simp] theorem execVtag_keeps {p f} : s.KeepsOut (execVtag p f s) := .next (.vrInstr .refl)

@[simp] theorem execVnbr_keeps {hit f} : s.KeepsOut (execVnbr hit f s) := by
  unfold execVnbr
  refine .next (.instr .refl fun _ _ => .iteFst (.fail .refl) (.iteFst (.fail .refl) ?_))
  dsimp only
  split
  · exact .fail .refl
  · exact .refl
  · exact .readLocal .refl fun _ h => .setEngine (.findUpsets h)

theorem State.Keeps.addBin {a weight} (h : s.Keeps t) : s.Keeps (t.addBin a weight) := .poke h

@[simp] theorem execVhist_keeps {p f upset} : s.KeepsOut (execVhist p f upset s) := by
  unfold execVhist
  refine .next (.instr .refl fun _ _ => .iteFst (.fail .refl)
    (.iteFst (.fail .refl) (.iteFst (.mapRun .refl) (.mapRun ?_))))
  exact .foldl (.ite (.setRegion (.findUpsets .refl)) (.findUpsets .refl)) fun _ _ h => .addBin h

@[simp] theorem execVstat_keeps {p f} : s.KeepsOut (execVstat p f s) := .next (.vrInstr .refl)

@[simp] theorem execVmom_keeps {p f} : s.KeepsOut (execVmom p f s) := .next (.vrInstr .refl)

/-! ## Views and page writes (09) -/

theorem State.Keeps.mapLane {n f} (h : s.Keeps t) : s.Keeps (t.mapLane n f) := .update h

theorem State.Keeps.emitBlock {n b} (h : s.Keeps t) : s.Keeps (t.emitBlock n b) := .send h

theorem State.Keeps.sendFiller {n} (h : s.Keeps t) : s.Keeps (t.sendFiller n) := .emitBlock (.mapLane h)

theorem State.Keeps.putBlock {n b} (h : s.Keeps t) : s.Keeps (t.putBlock n b) :=
  .emitBlock (.mapLane (.ite (.sendFiller h) h))

theorem State.Keeps.sendCtrl {n ty fields} (h : s.Keeps t) : s.Keeps (t.sendCtrl n ty fields) := .putBlock h

theorem State.Keeps.putPackets {n ps} (h : s.Keeps t) : s.Keeps (t.putPackets n ps) :=
  .foldl h fun _ _ hu => .foldl hu fun _ _ hv => .putBlock hv

theorem State.Keeps.flushLane {n} (h : s.Keeps t) : s.Keeps (t.flushLane n) := .mapLane (.putPackets h)

theorem State.Keeps.tx {n pk} (h : s.Keeps t) : s.Keeps (t.tx n pk) := .flushLane (.mapLane h)

theorem State.Keeps.writeOut {n addr bs view frame line} (h : s.Keeps t) :
    s.Keeps (t.writeOut n addr bs view frame line) :=
  .foldl h fun _ _ hu => .tx hu

theorem State.Keeps.mapView {v f} (h : s.Keeps t) : s.Keeps (t.mapView v f) := .update h

theorem State.Keeps.writeArea {v n first off bs frame line} (h : s.Keeps t) :
    s.Keeps (t.writeArea v n first off bs frame line) :=
  .writeOut (.writeOut h)

@[simp] theorem execLinePageWrite_keeps {v line} : s.KeepsOut (execLinePageWrite v line s) := by
  unfold execLinePageWrite
  refine .next ?_
  dsimp only
  split
  · exact .refl
  · split
    · exact .refl
    · refine .ite .refl (.ite (.mapView .refl) (.ite (.mapView (.stallRoll .refl)) ?_))
      split
      · exact .stallRoll .refl
      · exact .mapView (.foldl (.foldl (.owe .refl) fun _ _ h => .owe h) fun _ _ h => .writeArea h)

theorem State.Keeps.closeView {v} (h : s.Keeps t) : s.Keeps (t.closeView v) := .put (.mapView h)

theorem State.Keeps.closeIfDone {v} (h : s.Keeps t) : s.Keeps (t.closeIfDone v) := .ite (.closeView h) h

@[simp] theorem execFrameRecordWrite_keeps {v} : s.KeepsOut (execFrameRecordWrite v s) := by
  unfold execFrameRecordWrite
  refine .next ?_
  dsimp only
  split
  · split
    · exact .refl
    · refine .ite .refl (.ite (.ite (.mapView .refl) .refl)
        (.ite (.ite (.mapView (.stallRoll .refl)) (.stallRoll .refl)) ?_))
      exact .via (.put (.writeOut (.owe .refl))) fun h => .closeIfDone (.mapView (.ite (.bump h) h))
  · exact .refl

theorem State.Keeps.closePage {v} (h : s.Keeps t) : s.Keeps (t.closePage v) := by
  unfold State.closePage
  split
  · exact h
  · exact .ite h (.ite (.stallRoll h) (.mapView (.put (.writeArea (.owe h)))))

theorem State.Keeps.addEntry {v t0 entry} (h : s.Keeps t) : s.Keeps (t.addEntry v t0 entry) :=
  .ite (.ite (.closePage (.mapView h)) (.mapView h)) (.ite (.mapView h) (.bump h))

theorem State.Keeps.drainEntries {v} (h : s.Keeps t) : s.Keeps (t.drainEntries v) :=
  .ite (.foldl (.mapView (.ite (.closePage h) h)) fun _ _ hu => .addEntry hu) h

theorem State.Keeps.emitRecord {v region entry frame bytes ty} (h : s.Keeps t) :
    s.Keeps (t.emitRecord v region entry frame bytes ty) :=
  .ite (.addEntry h) (.bump h)

theorem State.Keeps.release {v} (h : s.Keeps t) : s.Keeps (t.release u v) := .ite h (.mapView h)

theorem State.Keeps.grant {v ring count} (h : s.Keeps t) : s.Keeps (t.grant v ring count).1 := by
  unfold State.grant
  refine .iteFst ?_ ?_
  · exact .drainEntries (.release (.ite (.bump (.put h)) (.put h)))
  · exact .release (.ite (.bump (.put h)) (.put h))

theorem State.Keeps.writeCreditGo {x} (h : s.Keeps t) : s.Keeps (t.writeCreditGo x) := .ite h (.put (.grant h))

@[simp] theorem execCreditGo_keeps {v} : s.KeepsOut (execCreditGo v s) := .next (.writeCreditGo .refl)

theorem State.Keeps.resetRings {v} (h : s.Keeps t) : s.Keeps (t.resetRings v) := .put (.put (.put (.put h)))

@[simp] theorem execRecordPageFlush_keeps {v} : s.KeepsOut (execRecordPageFlush v s) :=
  .next (.ite (.drainEntries (.closePage .refl)) .refl)

@[simp] theorem execViewOpen_keeps {l} : s.KeepsOut (execViewOpen l s) :=
  .next (.land .refl fun _ h => .ite h (.ite (.bell (.put h)) (.put (.put (.put h)))))

theorem State.Keeps.closeAsked {v} (h : s.Keeps t) : s.Keeps (t.closeAsked v) :=
  .ite h (.ite (.mapView h) (.closeView h))

@[simp] theorem execViewClose_keeps {l} :
    s.KeepsOut (execViewClose l s) := .next (.land .refl fun _ h => .closeAsked h)

theorem State.Keeps.dropFrame {v} (h : s.Keeps t) : s.Keeps (t.dropFrame v) := .mapView (.bump h)

theorem State.Keeps.takeFrame {v f} (h : s.Keeps t) : s.Keeps (t.takeFrame v f) := by
  unfold State.takeFrame
  split
  · exact .ite (.dropFrame h) (.mapView (.put (.put (.put h))))
  · exact .bump (.dropFrame h)

theorem State.Keeps.viewsAtStart {f} (h : s.Keeps t) : s.Keeps (t.viewsAtStart f) := by
  unfold State.viewsAtStart
  refine .put (.foldl h fun _ _ hu => ?_)
  exact .via (.ite (.mapView (.put hu)) hu) fun h1 => .ite h1 (.ite (.takeFrame h1) h1)

theorem State.Keeps.loseRecord {v} (h : s.Keeps t) : s.Keeps (t.loseRecord v) := by
  unfold State.loseRecord
  split
  · exact .ite (.mapView (.bump h)) h
  · exact h

theorem State.Keeps.truncate {v} (h : s.Keeps t) : s.Keeps (t.truncate v) := by
  unfold State.truncate
  dsimp only
  split
  · exact h
  · exact .mapView (.put (.put (.bump (.bump (.mapFrame h)))))

theorem State.Keeps.discardRecords {v} (h : s.Keeps t) : s.Keeps (t.discardRecords v) := .mapView (.bump h)

@[simp] theorem execViewStallTimeout_keeps {v} : s.KeepsOut (execViewStallTimeout v s) := by
  unfold execViewStallTimeout
  refine .next ?_
  dsimp only
  split
  · exact .refl
  · exact .ite .refl (.ite (.closeIfDone (.truncate (.loseRecord .refl))) (.discardRecords .refl))

theorem State.Keeps.viewsLaneDown {n} (h : s.Keeps t) : s.Keeps (t.viewsLaneDown n) := by
  unfold State.viewsLaneDown
  refine .foldl h fun _ _ hu => .ite hu ?_
  exact .via (.mapView (.ite (.bump (.bump hu)) (.bump hu))) fun h1 => .closeIfDone (.ite (.put h1) h1)

theorem State.Keeps.viewsLaneUp {n} (h : s.Keeps t) : s.Keeps (t.viewsLaneUp n) :=
  .foldl h fun _ _ hu => .ite (.put (.put (.put hu))) hu

theorem State.Keeps.linesAcked {n acked} (h : s.Keeps t) : s.Keeps (t.linesAcked n acked) := by
  unfold State.linesAcked
  refine .foldl h fun _ _ hu => ?_
  split
  · exact hu
  · exact .ite hu (.ite hu (.mapView hu))

/-! ## EMIT, WAITS and leases of runs -/

theorem State.Keeps.emit {p f kind legal body} (h : s.Keeps t) (hb : ∀ e x q, s.Keeps (body e x q).1) :
    s.Keeps (t.emit p f kind legal body) := .ite (.instr h fun e x => hb e x _) h

@[simp] theorem execEmitLine_keeps {p f} : s.KeepsOut (execEmitLine p f s) :=
  .next (.emit .refl fun _ _ _ => .iteFst (.fail .refl) (.mapRun .refl))

@[simp] theorem execEmitRecord_keeps {p f} : s.KeepsOut (execEmitRecord p f s) := by
  unfold execEmitRecord
  refine .next (.emit .refl fun _ _ _ => ?_)
  exact .iteFst (.fail .refl) (.iteFst (.mapRun .refl) (.emitRecord (.mapRun .refl)))

@[simp] theorem execEmitRemote_keeps {p f} : s.KeepsOut (execEmitRemote p f s) := by
  unfold execEmitRemote
  refine .next (.emit .refl fun _ _ _ => ?_)
  dsimp only
  split
  · exact .fail .refl
  · exact .iteFst (.fail .refl) (.iteFst (.fail .refl) (.iteFst (.mapRun .refl) (.sendSeam (.mapRun .refl))))

@[simp] theorem execWaits_keeps {p f} : s.KeepsOut (execWaits p f s) := by
  unfold execWaits
  refine .next (.instr .refl fun _ _ => ?_)
  exact .iteFst (.fail .refl) (.iteFst (.setEngine .refl) (.setEngine .refl))

@[simp] theorem execWaitsRelease_keeps {p cause event} : s.KeepsOut (execWaitsRelease p cause event s) := by
  unfold execWaitsRelease
  refine .next ?_
  dsimp only
  split
  · exact .refl
  · split
    · exact .refl
    · exact .ite (.setEngine .refl) .refl

@[simp] theorem execEngEvent_keeps {l} : s.KeepsOut (execEngEvent l s) :=
  .next (.land .refl fun _ h => .foldl h fun _ _ hu => .ite (.setEngine hu) hu)

@[simp] theorem execLease_keeps {p f} : s.KeepsOut (execLease p f s) := by
  unfold execLease
  refine .next (.instr .refl fun _ _ => ?_)
  split
  · exact .fail .refl
  · exact .iteFst .refl (.iteFst (.setLease .refl) (.iteFst (.setLease .refl) (.mapRun (.setLease .refl))))

@[simp] theorem execLeaseWaitGiveUp_keeps {p} : s.KeepsOut (execLeaseWaitGiveUp p s) := by
  unfold execLeaseWaitGiveUp
  refine .next ?_
  dsimp only
  split
  · exact .refl
  · split
    · exact .refl
    · exact .ite .refl (.setEngine (.setLease .refl))

@[simp] theorem execFree_keeps {p f} : s.KeepsOut (execFree p f s) := by
  unfold execFree
  refine .next (.instr .refl fun _ _ => ?_)
  split
  · exact .fail .refl
  · exact .iteFst .refl (.iteFst (.setLease .refl) (.setEngine .refl))

@[simp] theorem execEngineBell_keeps {p f} : s.KeepsOut (execEngineBell p f s) :=
  .next (.instr .refl fun _ _ => .iteFst (.mapRun .refl) (.bell .refl))

/-! ## The standard program -/

theorem State.Keeps.stdUpsets {run upset} (h : s.Keeps t) : s.Keeps (t.stdUpsets run upset) := by
  unfold State.stdUpsets
  split
  · exact h
  · exact .repairWords (.findUpsets h)

theorem State.Keeps.stdBins {g f bins upset} (h : s.Keeps t) : s.Keeps (t.stdBins g f bins upset) :=
  .foldl (.ite (.setRegion (.findUpsets h)) (.findUpsets h)) fun _ _ hu => .addBin hu

theorem State.Keeps.stdItem {p x upset} (h : s.Keeps t) : s.Keeps (t.stdItem p x upset) := by
  unfold State.stdItem
  split
  · exact .ite (.mapRun h) (.mapRun (.stdBins h))
  · exact h

/-! ## The correction pipeline (06) -/

theorem State.Keeps.newSerial {gs} (h : s.Keeps t) : s.Keeps (t.newSerial gs) :=
  .foldl (.put h) fun _ _ hu => .putLe (.setRegion hu)

@[simp] theorem execCommitShadow_keeps {l} : s.KeepsOut (execCommitShadow l s) :=
  .next (.land .refl fun _ h => .ite h (.ite (.newSerial (.update h)) (.update h)))

theorem State.Keeps.inForce {c} (h : s.Keeps t) : s.Keeps (t.inForce c) := by
  unfold State.inForce
  split
  · exact .update h
  · exact .ite (.update h) (.put h)
  · exact .put h

theorem State.Keeps.applyCaptures (h : s.Keeps t) : s.Keeps t.applyCaptures :=
  .update (.foldl h fun _ _ hu => .inForce hu)

theorem State.Keeps.swapView (h : s.Keeps t) : s.Keeps t.swapView := .put (.put h)

@[simp] theorem execSwapBank_keeps {l} : s.KeepsOut (execSwapBank l s) :=
  .next (.land .refl fun _ h => .swapView (.put (.update (.foldl h fun _ _ hu => .setRegion hu))))

@[simp] theorem execSwapProg_keeps {l} : s.KeepsOut (execSwapProg l s) :=
  .next (.land .refl fun _ h => .swapView (.update (.foldl h fun _ _ hu => .setRegion hu)))

theorem State.Keeps.swapRegion {g} (h : s.Keeps t) : s.Keeps (t.swapRegion g).1 :=
  .ite (.bump (.bankView (.setRegion h))) (.setRegion h)

theorem State.Keeps.swapAll (h : s.Keeps t) : s.Keeps t.swapAll.1 :=
  .swapView (.foldlFst h fun _ _ hu => .swapRegion hu)

theorem State.Keeps.radiometry {c} (h : s.Keeps t) : s.Keeps (t.radiometry c) := .put (.put (.drawn (.drawn h)))

theorem State.Keeps.applyContexts {f} (h : s.Keeps t) : s.Keeps (t.applyContexts f) :=
  .foldl h fun _ _ hu => .ite hu (.radiometry (.update (.foldl hu fun _ _ hv => .put hv)))

theorem State.Keeps.copyRom {i} (h : s.Keeps t) : s.Keeps (t.copyRom i) := .update (.put (.poke h))

theorem State.Keeps.writeStdReload {v} (h : s.Keeps t) : s.Keeps (t.writeStdReload v) :=
  .ite h (.ite (.put (.bump h)) (.put (.copyRom h)))

@[simp] theorem execStdReload_keeps {v} : s.KeepsOut (execStdReload v s) := .next (.writeStdReload .refl)

theorem State.Keeps.writeShade {off bytes} (h : s.Keeps t) : s.Keeps (t.writeShade off bytes).1 :=
  .iteFst h (.iteFst h (.poke h))

@[simp] theorem execShadeGridWrite_keeps {bytes} :
    s.KeepsOut (execShadeGridWrite bytes s) := .next (.writeShade .refl)

theorem State.Keeps.placeGrid (h : s.Keeps t) : s.Keeps t.placeGrid := by
  unfold State.placeGrid
  split
  · exact .bell (.poke (.update h))
  · exact h

theorem State.Keeps.writeGimbal {rates stamp} (h : s.Keeps t) : s.Keeps (t.writeGimbal rates stamp) := by
  unfold State.writeGimbal
  refine .put (.foldl h fun _ _ hu => ?_)
  split
  · exact .put hu
  · exact hu

@[simp] theorem execGimbalRateWrite_keeps {yaw pitch roll stamp} :
    s.KeepsOut (execGimbalRateWrite yaw pitch roll stamp s) :=
  .next (.writeGimbal .refl)

theorem State.Keeps.updateRefc (h : s.Keeps t) : s.Keeps t.updateRefc := .update h

theorem State.Keeps.gateRegion {g f} (h : s.Keeps t) : s.Keeps (t.gateRegion g f) :=
  .mapFrame (.setRegion (.wipe (.drawn (.poke (.poke h)))))

theorem State.Keeps.gateHeld {f} (h : s.Keeps t) : s.Keeps (t.gateHeld f) :=
  .ite h (.foldl h fun _ _ hu => .ite (.gateRegion hu) hu)

theorem State.Keeps.mapRFrame {g f h'} (h : s.Keeps t) : s.Keeps (t.mapRFrame g f h') := .setRegion h

theorem State.Keeps.putStats {g x} (h : s.Keeps t) : s.Keeps (t.putStats g x) := .update h

theorem State.Keeps.putTrack {t' x} (h : s.Keeps t) : s.Keeps (t.putTrack t' x) := .update h

theorem State.Keeps.putFocus {w x} (h : s.Keeps t) : s.Keeps (t.putFocus w x) := .update h

theorem State.Keeps.addTrack {g row t' f} (h : s.Keeps t) : s.Keeps (t.addTrack g row t' f) := .putTrack h

theorem State.Keeps.addFocus {g row w f} (h : s.Keeps t) : s.Keeps (t.addFocus g row w f) := .putFocus h

theorem State.Keeps.collect {g row f} (h : s.Keeps t) : s.Keeps (t.collect g row f) := by
  unfold State.collect
  refine .ite h (.foldl ?_ fun _ _ hu => .addFocus hu)
  exact .foldl (.ite (.update (.putStats h)) (.putStats h)) fun _ _ hu => .addTrack hu

theorem State.Keeps.formStats {g f} (h : s.Keeps t) : s.Keeps (t.formStats g f) :=
  .setRegion (.update (.putBytes (.putStats h)))

theorem State.Keeps.finishTarget {f p t' w} (h : s.Keeps t) : s.Keeps (t.finishTarget f p t' w) :=
  .update (.drawn (.putBytes (.putTrack h)))

theorem State.Keeps.finishFocus {f i w} (h : s.Keeps t) : s.Keeps (t.finishFocus f i w) :=
  .update (.putBytes (.putFocus h))

theorem State.Keeps.finishWindows {f p} (h : s.Keeps t) : s.Keeps (t.finishWindows f p) :=
  .foldl (.foldl h fun _ _ hu => .ite (.finishTarget hu) hu) fun _ _ hu => .ite (.finishFocus hu) hu

theorem State.Keeps.acquire {f} (h : s.Keeps t) : s.Keeps (t.acquire f) := by
  unfold State.acquire
  refine .update (.foldlFst h fun _ _ hu => .iteFst hu ?_)
  dsimp only
  split <;> exact .update hu

theorem State.Keeps.buildTone {f hist} (h : s.Keeps t) : s.Keeps (t.buildTone f hist) := by
  unfold State.buildTone
  dsimp only
  split
  · exact h
  · exact .drawn (.poke h)

theorem State.Keeps.mergeFrame {f} (h : s.Keeps t) : s.Keeps (t.mergeFrame f) := by
  unfold State.mergeFrame
  exact .via (.update (.bump (.putBytes (.putBytes h)))) fun h1 =>
    .acquire (.foldl (.ite h1 (.buildTone h1)) fun _ _ hu => .owe hu)

@[simp] theorem execHistogramMerge_keeps : s.KeepsOut (execHistogramMerge s) := by
  unfold execHistogramMerge
  refine .next ?_
  split
  · exact .mergeFrame .refl
  · exact .refl

theorem State.Keeps.toneStale {f} (h : s.Keeps t) : s.Keeps (t.toneStale f) := .ite (.bump h) h

/-! ## Items, runs and their ends -/

theorem State.Keeps.freeRows {fr g} (h : s.Keeps t) : s.Keeps (t.freeRows fr g) := .setRegion h

theorem State.Keeps.finishFrame {fr g} (h : s.Keeps t) : s.Keeps (t.finishFrame fr g) := by
  unfold State.finishFrame
  refine .placeGrid ?_
  split
  · exact .gateHeld (.mapRFrame h)
  · exact .mapRFrame h

theorem State.Keeps.lastRow {fr g} (h : s.Keeps t) : s.Keeps (t.lastRow fr g) := by
  unfold State.lastRow
  split
  · exact .ite (.bell (.bumpLe (.setRegion h))) (.setRegion h)
  · exact .setRegion h

theorem State.Keeps.afterItem {fr g} (h : s.Keeps t) : s.Keeps (t.afterItem fr g) := by
  unfold State.afterItem
  dsimp only
  split
  · exact .freeRows h
  · refine .ite (.freeRows h) ?_
    exact .via (.ite (.freeRows h) (.lastRow (.formStats (.freeRows h)))) fun h1 =>
      .ite (.finishFrame h1) (.ite h1 (.setRegion h1))

theorem State.Keeps.discardFrame {fr g} (h : s.Keeps t) : s.Keeps (t.discardFrame fr g) := by
  unfold State.discardFrame
  split
  · exact h
  · exact .ite h (.afterItem (.bell (.put (.bumpLe (.mapFrame (.update (.setRegion (.mapRFrame h))))))))

theorem State.Keeps.takeBuf {g f row b} (h : s.Keeps t) (e : t.takeBuf g f row = some (b, u)) : s.Keeps u := by
  unfold State.takeBuf at e
  split at e
  · cases e
    exact h
  · obtain ⟨_, _, ⟨⟩⟩ := Option.map_eq_some_iff.mp e
    exact .setRegion (.wipe h)

theorem State.Keeps.storeWord {fr g row col word} (h : s.Keeps t) : s.Keeps (t.storeWord fr g row col word) := by
  unfold State.storeWord
  split
  · exact h
  · refine .ite h ?_
    split
    · rename_i e
      exact .poke (h.takeBuf e)
    · exact .discardFrame h

@[simp] theorem execItemRelease_keeps {g row} : s.KeepsOut (execItemRelease g row s) := by
  unfold execItemRelease
  refine .next ?_
  split
  · exact .refl
  · exact .setRegion (.mapRFrame .refl)

@[simp] theorem execHaloArrival_keeps {g row words} : s.KeepsOut (execHaloArrival g row words s) := by
  unfold execHaloArrival
  refine .next ?_
  split
  · exact .refl
  · dsimp only
    split
    · exact .stallRoll .refl
    · exact .foldl (.foldl .refl fun _ _ h => .owe h) fun _ _ h => .mapRFrame (.storeWord h)

theorem State.Keeps.startRun {p k x s0} (h : s.Keeps t) : s.Keeps (t.startRun p k x s0) := .setEngine h

@[simp] theorem execFrameEntryRun_keeps {p} : s.KeepsOut (execFrameEntryRun p s) := by
  unfold execFrameEntryRun
  refine .next ?_
  split
  · exact .ite (.setEngine .refl) (.startRun (.setEngine .refl))
  · exact .refl

theorem State.Keeps.startItem {p it kind first primary other} (h : s.Keeps t) :
    s.Keeps (t.startItem p it kind first primary other) :=
  .startRun h

theorem State.Keeps.startPrimary {p it first} (h : s.Keeps t) : s.Keeps (t.startPrimary p it first) :=
  .startItem (.ite (.update (.setRegion h)) (.setRegion h))

@[simp] theorem execItemClaim_keeps {p} : s.KeepsOut (execItemClaim p s) := by
  unfold execItemClaim
  refine .next ?_
  split
  · exact .refl
  · refine .ite .refl ?_
    split
    · exact .startItem (.update .refl)
    · exact .startItem (.update .refl)
    · exact .startItem (.update .refl)
    · exact .ite .refl (.startPrimary (.update (.setRegion .refl)))
    · exact .refl

@[simp] theorem execEndEntryRun_keeps {p} : s.KeepsOut (execEndEntryRun p s) := by
  unfold execEndEntryRun
  refine .next ?_
  split
  · exact .refl
  · refine .ite .refl ?_
    split
    · exact .ite .refl (.startRun (.setRegion .refl))
    · exact .refl

theorem State.Keeps.commitEmit {x chk e} (h : s.Keeps t) : s.Keeps (t.commitEmit x chk e) := by
  unfold State.commitEmit
  split
  · exact .update h
  · exact .ite h (.emitRecord h)
  · exact .ite h (.sendSeam h)

theorem State.Keeps.endItem {fr it} (h : s.Keeps t) : s.Keeps (t.endItem fr it) := by
  unfold State.endItem
  dsimp only
  split
  · exact .finishWindows (.afterItem (.mapRFrame h))
  · exact .afterItem (.mapRFrame h)

theorem State.Keeps.commitItem {fr x} (h : s.Keeps t) : s.Keeps (t.commitItem fr x) := by
  unfold State.commitItem
  refine .endItem (.collect (.foldl ?_ fun _ _ hu => .bell hu))
  exact .foldl (.foldl h fun _ _ hu => .poke hu) fun _ _ hu => .commitEmit hu

theorem State.Keeps.commitChk {fr x} (h : s.Keeps t) : s.Keeps (t.commitChk fr x) := by
  unfold State.commitChk
  exact .endItem (.setRegion (.foldl h fun _ _ hu => .commitEmit hu))

theorem State.Keeps.idle {p x} (h : s.Keeps t) : s.Keeps (t.idle p x) := .setRegion (.setEngine h)

theorem State.Keeps.endRun {p x} (h : s.Keeps t) : s.Keeps (t.endRun p x) := by
  have hi : s.Keeps (t.idle p x) := .idle h
  unfold State.endRun
  dsimp only
  split
  · exact hi
  · split
    · exact hi
    · exact .finishFrame hi
    · refine .ite (.update ?_) (.commitItem ?_) <;>
      · split
        · exact .bell (.fence hi)
        · exact hi
    · refine .update ?_
      split
      · exact .bell (.fence hi)
      · exact hi

theorem State.Keeps.chargeItem {p x} (h : s.Keeps t) : s.Keeps (t.chargeItem p x).1 :=
  .mapRun (.spendSome (.spendSome (.ite (.drawn h) h)))

theorem State.Keeps.itemLease {p x stage9} (h : s.Keeps t) : s.Keeps (t.itemLease p x stage9).1 :=
  .iteFst h (.iteFst (.setLease h) (.mapRun (.setLease h)))

theorem State.Keeps.itemUnlease {p x} (h : s.Keeps t) : s.Keeps (t.itemUnlease p x) := .ite (.setLease h) h

theorem State.Keeps.stdCommit {p x upset} (h : s.Keeps t) : s.Keeps (t.stdCommit p x upset) := by
  unfold State.stdCommit
  split
  rename_i s1 paid e1
  have h1 : s.Keeps s1 := .fst (.chargeItem h) e1
  refine .ite h1 ?_
  split
  rename_i s2 held e2
  have h2 : s.Keeps s2 := .fst (.itemLease h1) e2
  refine .ite h2 ?_
  extract_lets +onlyGivenNames s3
  have h3 : s.Keeps s3 := .itemUnlease (.stdItem (.stdUpsets h2))
  split
  · exact .ite (.endRun h3) h3
  · exact h3

@[simp] theorem execItemCommit_keeps {q} : s.KeepsOut (execItemCommit q s) := by
  unfold execItemCommit
  refine .next ?_
  split
  · exact .refl
  · exact .ite .refl (.ite (.stdCommit .refl) (.ite (.endRun .refl) .refl))

theorem State.Keeps.dropDone {it} (h : s.Keeps t) : s.Keeps (t.dropDone it) := .update h

theorem State.Keeps.compare {fr d} (h : s.Keeps t) : s.Keeps (t.compare fr d) := by
  unfold State.compare
  split
  · exact .via (.ite (.fence (.dropDone h)) (.dropDone h)) fun h1 => .freeRows (.ite (.fence h1) h1)
  · exact .ite h (.ite (.commitItem (.dropDone (.bump h))) (.commitChk (.update (.bell (.bump (.bump h))))))
  · exact h

@[simp] theorem execCheckCompare_keeps {g row} : s.KeepsOut (execCheckCompare g row s) := by
  unfold execCheckCompare
  refine .next ?_
  split
  · exact .refl
  · split
    · exact .refl
    · exact .compare .refl

theorem State.Keeps.dropItem {it} (h : s.Keeps t) : s.Keeps (t.dropItem it) :=
  .dropDone (.update (.foldl h fun _ _ hu => .abandon hu))

theorem State.Keeps.programFault {x} (h : s.Keeps t) : s.Keeps (t.programFault x) := by
  unfold State.programFault
  dsimp only
  split
  · exact .bell (.bump h)
  · refine .ite (.freeRows (.dropDone (.bell (.bump h)))) ?_
    split
    · exact .commitChk (.dropItem (.bell (.bump h)))
    · exact .endItem (.setRegion (.dropItem (.bell (.bump h))))

theorem State.Keeps.handleFault {p x count} (h : s.Keeps t) : s.Keeps (t.handleFault p x count) := by
  unfold State.handleFault
  split
  · exact .bump (.abandon h)
  · dsimp only
    split
    · exact .finishFrame (.bump (.abandon h))
    · exact .bump (.abandon h)
  · split
    · exact .programFault (.bump (.abandon h))
    · exact .via (.update (.bump (.abandon h))) fun h1 => .ite (.requeue h1) h1

@[simp] theorem execEngineFault_keeps {p code} : s.KeepsOut (execEngineFault p code s) := by
  unfold execEngineFault
  refine .next ?_
  dsimp only
  split
  · exact .refl
  · exact .ite (.bump .refl) (.ite (.bump .refl) (.ite (.handleFault (.setEngine .refl)) .refl))

theorem State.Keeps.markLeases {p} (h : s.Keeps t) : s.Keeps (t.markLeases p) :=
  .foldl h fun _ _ hu => .ite (.setLease hu) hu

@[simp] theorem execClaimTimeout_keeps {p} : s.KeepsOut (execClaimTimeout p s) := by
  unfold execClaimTimeout
  refine .next ?_
  split
  · exact .refl
  · refine .ite .refl (.ite ?_ ?_)
    · exact .bump (.handleFault (.markLeases (.setEngine .refl)))
    · exact .handleFault (.markLeases (.setEngine .refl))

/-! ## Calibration runs (07) -/

theorem State.Keeps.calIdle (h : s.Keeps t) : s.Keeps t.calIdle := .put h

theorem State.Keeps.calRefuse {kind code} (h : s.Keeps t) : s.Keeps (t.calRefuse kind code) := by
  unfold State.calRefuse
  split
  · exact .bump h
  · exact .ite (.put (.bump h)) (.put (.put (.bump h)))

theorem State.Keeps.calAccept {kind point boot} (h : s.Keeps t) : s.Keeps (t.calAccept kind point boot) :=
  .put (.put (.put (.update h)))

theorem State.Keeps.askRefresh {boot} (h : s.Keeps t) : s.Keeps (t.askRefresh boot) :=
  .ite (.put (.update h)) (.calAccept h)

theorem State.Keeps.calStart {arg} (h : s.Keeps t) : s.Keeps (t.calStart arg) := by
  unfold State.calStart
  split
  · exact .ite (.update h) (.calRefuse h)
  · refine .ite (.ite (.put (.update (.bump h))) (.update (.bump h)))
      (.ite (.askRefresh h) (.ite (.calRefuse h)
      (.ite (.calRefuse h) (.ite (.ite (.calRefuse h) (.calAccept h)) ?_))))
    exact .ite (.ite (.calAccept h) (.calRefuse h)) (.ite (.calRefuse h) (.ite (.calRefuse h) (.calAccept h)))

@[simp] theorem execCalStart_keeps {l} : s.KeepsOut (execCalStart l s) := .next (.land .refl fun _ h => .calStart h)

theorem State.Keeps.calOpen (h : s.Keeps t) : s.Keeps t.calOpen := by
  unfold State.calOpen
  split
  · exact h
  · exact .ite h (.fire (.update h))

theorem State.Keeps.calFail {code} (h : s.Keeps t) : s.Keeps (t.calFail code) := by
  unfold State.calFail
  split
  · exact h
  · refine .bell (.calIdle (.put (.put ?_)))
    exact .freePorts (.ite (.put (.update (.calOpen h))) (.update (.calOpen h)))

theorem State.Keeps.calDone {kind count} (h : s.Keeps t) : s.Keeps (t.calDone kind count) :=
  .via (.put (.put (.freePorts (.update h)))) fun h1 => .bell (.calIdle (.ite (.put (.bump h1)) h1))

@[simp] theorem execCalAbort_keeps : s.KeepsOut (execCalAbort s) := by
  unfold execCalAbort
  refine .next ?_
  split
  · exact .ite (.calFail .refl) .refl
  · exact .refl

theorem State.Keeps.setInactive {g b} (h : s.Keeps t) : s.Keeps (t.setInactive g b) := .bankView (.setBank h)

theorem State.Keeps.copyBank {g} (h : s.Keeps t) : s.Keeps (t.copyBank g) := .setInactive (.update h)

theorem State.Keeps.copyBanks (h : s.Keeps t) : s.Keeps t.copyBanks :=
  .put (.update (.owePorts (.foldl h fun _ _ hu => .copyBank hu)))

theorem State.Keeps.calCount {r} (h : s.Keeps t) : s.Keeps (t.calCount r) := .update h

theorem State.Keeps.calClose {r need} (h : s.Keeps t) : s.Keeps (t.calClose r need) := .fire (.update h)

theorem State.Keeps.calPorts {go} (h : s.Keeps t) (hg : ∀ u, s.Keeps u → s.Keeps (go u)) :
    s.Keeps (t.calPorts go) := by
  unfold State.calPorts
  exact .ite (hg _ (.holdPorts h)) (.holdPorts h)

@[simp] theorem execCalTwoPointZero_keeps : s.KeepsOut (execCalTwoPointZero s) := by
  unfold execCalTwoPointZero
  refine .next ?_
  split
  · exact .calPorts .refl fun _ h => .calCount (.copyBanks h)
  · exact .refl

@[simp] theorem execCalTwoPointFullScale_keeps : s.KeepsOut (execCalTwoPointFullScale s) := by
  unfold execCalTwoPointFullScale
  refine .next ?_
  split
  · exact .calPorts .refl fun _ h => .calCount h
  · exact .refl

@[simp] theorem execCalClapperRefresh_keeps : s.KeepsOut (execCalClapperRefresh s) := by
  unfold execCalClapperRefresh
  refine .next ?_
  split
  · exact .calClose .refl
  · exact .refl

@[simp] theorem execCalDriftPoint_keeps {point} : s.KeepsOut (execCalDriftPoint point s) := by
  unfold execCalDriftPoint
  refine .next ?_
  split
  · refine .ite .refl (.calPorts .refl fun _ h => ?_)
    exact .ite (.calClose (.ite (.copyBanks h) h)) (.calCount (.ite (.copyBanks h) h))
  · exact .refl

@[simp] theorem execClapRefreshTimeout_keeps : s.KeepsOut (execClapRefreshTimeout s) := by
  unfold execClapRefreshTimeout
  refine .next ?_
  split
  · exact .ite (.calFail .refl) .refl
  · exact .refl

theorem State.Keeps.calFrameStart {set2} (h : s.Keeps t) : s.Keeps (t.calFrameStart set2).1 := by
  unfold State.calFrameStart
  split
  · exact h
  · exact .iteFst (.update h) (.iteFst h h)

theorem State.Keeps.calClear {f} (h : s.Keeps t) : s.Keeps (t.calClear f) :=
  .foldl h fun _ _ hu => .foldl (.wipe hu) fun _ _ hv => .wipe hv

theorem State.Keeps.calFrameEnd {f} (h : s.Keeps t) : s.Keeps (t.calFrameEnd f) := by
  unfold State.calFrameEnd
  split
  · exact h
  · refine .ite (.ite h (.ite (.update h) (.update h)))
      (.ite (.ite h (.ite (.update h) (.update h))) (.ite (.ite (.calFail h) ?_) h))
    exact .ite (.calFail h) (.ite (.calOpen (.put (.put (.update h)))) (.put (.update h)))

theorem State.Keeps.putRecord {g i r} (h : s.Keeps t) : s.Keeps (t.putRecord g i r) := .bankWrite h

theorem State.Keeps.mapRecords {f} (h : s.Keeps t) : s.Keeps (t.mapRecords f) := by
  unfold State.mapRecords
  refine .foldl h fun _ _ hu => .foldl hu fun _ _ hv => ?_
  split
  · exact .putRecord hv
  · exact hv

theorem State.Keeps.putAcc {p} (h : s.Keeps t) : s.Keeps (t.putAcc p) := .foldl h fun _ _ hu => .poke hu

theorem State.Keeps.reject {n} (h : s.Keeps t) : s.Keeps (t.reject n) := .put h

theorem State.Keeps.fillDefects (h : s.Keeps t) : s.Keeps t.fillDefects := .mapRecords h

theorem State.Keeps.completeResult {kind readBackOk} (h : s.Keeps t) :
    s.Keeps (t.completeResult kind readBackOk) := by
  unfold State.completeResult
  exact .via (.foldl (.owePorts (.fillDefects h)) fun _ _ hu => .bankView (.bankWrite hu)) fun h1 =>
    .ite (.calFail h1) (.calDone (.update (.foldl h1 fun _ _ hu => .bankView (.setVerified hu))))

theorem State.Keeps.finishZero {r} (h : s.Keeps t) : s.Keeps (t.finishZero r) := by
  unfold State.finishZero
  exact .ite (.calFail (.reject h)) (.calDone (.update (.owePorts (.reject (.putAcc (.mapRecords h))))))

theorem State.Keeps.finishFull {r readBackOk} (h : s.Keeps t) : s.Keeps (t.finishFull r readBackOk) := by
  unfold State.finishFull
  exact .via (.put (.put (.reject h))) fun h1 =>
    .ite (.calFail h1) (.ite (.calFail h1) (.completeResult (.mapRecords h1)))

theorem State.Keeps.offsetReady {words} (h : s.Keeps t) : s.Keeps (t.offsetReady words) := .update h

theorem State.Keeps.finishClapper {r} (h : s.Keeps t) : s.Keeps (t.finishClapper r) := by
  unfold State.finishClapper
  exact .ite (.calFail (.reject h)) (.calDone (.offsetReady (.bump (.drawn (.reject h)))))

theorem State.Keeps.fitDrift {r y readBackOk} (h : s.Keeps t) : s.Keeps (t.fitDrift r y readBackOk) :=
  .ite (.calFail h) (.completeResult (.bump (.drawn (.mapRecords h))))

theorem State.Keeps.finishDrift {r readBackOk} (h : s.Keeps t) : s.Keeps (t.finishDrift r readBackOk) := by
  unfold State.finishDrift
  refine .ite (.calFail (.reject h)) (.ite (.calFail (.reject h)) ?_)
  exact .via (.put (.bump (.putLe (.foldl (.putAcc (.mapRecords (.reject h))) fun _ _ hu => .poke hu)))) fun h1 =>
    .ite (.fitDrift h1) (.calDone h1)

@[simp] theorem execCalRunFinish_keeps {readBackOk} : s.KeepsOut (execCalRunFinish readBackOk s) := by
  unfold execCalRunFinish
  refine .next ?_
  split
  · exact .refl
  · refine .ite .refl ?_
    split
    · exact .finishZero .refl
    · exact .finishFull .refl
    · exact .finishClapper .refl
    · exact .finishDrift .refl

theorem State.Keeps.updateOver (h : s.Keeps t) : s.Keeps t.updateOver := .ite (.update h) h

theorem State.Keeps.updatePort {g} (h : s.Keeps t) : s.Keeps (t.updatePort g).1 :=
  .iteFst (.ite h (.setLease h)) (.iteFst (.stallRoll h) h)

@[simp] theorem execOffsetUpdateWrite_keeps {g} : s.KeepsOut (execOffsetUpdateWrite g s) := by
  refine .next (.ite .refl ?_)
  split
  · rename_i u e
    exact .fst (.updatePort .refl) e
  · exact .updateOver (.foldl (.update (.owe (.setLease (.foldl .refl fun _ _ h => .ite h (.bankWrite h)))))
      fun _ _ h => .gateHeld h)

theorem State.Keeps.dropUpdate {swapped} (h : s.Keeps t) : s.Keeps (t.dropUpdate swapped) := .updateOver (.update h)

theorem State.Keeps.sceneZero {g} (h : s.Keeps t) : s.Keeps (t.sceneZero g) := .wipe h

@[simp] theorem execSceneUpdate_keeps : s.KeepsOut (execSceneUpdate s) := by
  unfold execSceneUpdate
  refine .next ?_
  split
  · refine .ite .refl (.put (.put (.bump (.put (.update ?_)))))
    exact .foldl (.offsetReady (.bump (.drawn .refl))) fun _ _ h => .sceneZero h
  · exact .refl

theorem State.Keeps.sceneGate {f gimbal} (h : s.Keeps t) : s.Keeps (t.sceneGate f gimbal).1 := by
  unfold State.sceneGate
  exact .via (.put (.ite (.update h) (.foldl (.update h) fun _ _ hu => .sceneZero hu))) fun h1 =>
    .iteFst h1 (.ite (.update (.bump h1)) (.bump h1))

/-! ## Domains and rails -/

theorem State.Keeps.setDomain {d v} (h : s.Keeps t) : s.Keeps (t.setDomain d v) := .update h

theorem State.Keeps.turnOn {d} (h : s.Keeps t) : s.Keeps (t.turnOn d) := .ite h (.ite (.setDomain h) h)

theorem State.Keeps.turnOff {d} (h : s.Keeps t) : s.Keeps (t.turnOff d) := .setDomain h

/-! ## Drumline time and its sources (02) -/

theorem State.Keeps.oneBeat (h : s.Keeps t) : s.Keeps t.oneBeat := .update h

@[simp] theorem execDltCopyCompare_keeps {die found} : s.KeepsOut (execDltCopyCompare die found s) :=
  .ite (.next .refl) (.ite (.next (.update .refl)) (.next (.pullGong (.update (.update .refl)))))

@[simp] theorem execDltCopyReload_keeps {die} : s.KeepsOut (execDltCopyReload die s) :=
  .ite (.next (.update .refl)) (.next .refl)

@[simp] theorem execRefInLoss_keeps :
    s.KeepsOut (execRefInLoss s) := .ite (.next .refl) (.next (.bell (.update .refl)))

@[simp] theorem execRefInReturn_keeps : s.KeepsOut (execRefInReturn s) := .next (.update .refl)

theorem State.Keeps.updateLock (h : s.Keeps t) : s.Keeps t.updateLock := .ite (.bell (.put (.put h))) (.put (.put h))

theorem State.Keeps.servo {e t'} (h : s.Keeps t) : s.Keeps (t.servo e t') := .put (.update h)

theorem State.Keeps.sourceEvent {src t' e interval} (h : s.Keeps t) : s.Keeps (t.sourceEvent src t' e interval) := by
  unfold State.sourceEvent
  refine .ite ?_ h
  exact .via (.ite (.update (.update h)) (.update h)) fun h1 => .updateLock (.ite (.servo (.put h1)) h1)

theorem State.Keeps.sourceMiss {src} (h : s.Keeps t) : s.Keeps (t.sourceMiss src) := .updateLock (.update h)

@[simp] theorem execSyncInEdge_keeps {falling stamp} : s.KeepsOut (execSyncInEdge falling stamp s) := by
  unfold execSyncInEdge
  exact .ite (.next .refl) (.ite (.next (.put (.sourceEvent .refl))) (.next (.bump .refl)))

@[simp] theorem execSourceEventMissed_keeps {src} : s.KeepsOut (execSourceEventMissed src s) :=
  .ite (.next (.sourceMiss (.ite (.bump .refl) .refl))) (.next .refl)

theorem State.Keeps.writeSyncMode {v} (h : s.Keeps t) : s.Keeps (t.writeSyncMode v) :=
  .updateLock (.ite (.update (.put h)) (.put h))

@[simp] theorem execSyncModeWrite_keeps {v} :
    s.KeepsOut (execSyncModeWrite v s) := .next (.ite (.writeSyncMode .refl) .refl)

theorem State.Keeps.writeStepGo {v} (h : s.Keeps t) : s.Keeps (t.writeStepGo v) :=
  .ite h (.ite (.put h) (.ite (.put h) (.update h)))

@[simp] theorem execStepGo_keeps {v} : s.KeepsOut (execStepGo v s) := .next (.writeStepGo .refl)

theorem State.Keeps.stepBy {by'} (h : s.Keeps t) : s.Keeps (t.stepBy by') :=
  .via (.bump (.put (.update h))) fun h1 => .ite (.bump h1) h1

@[simp] theorem execDltStep_keeps : s.KeepsOut (execDltStep s) := by
  unfold execDltStep
  split
  · exact .next .refl
  · refine .ite (.next .refl) (.ite (.next (.put (.update .refl))) (.ite (.next (.put (.update .refl))) (.next ?_)))
    exact .ite (.put (.stepBy (.update .refl))) (.stepBy (.update .refl))

@[simp] theorem execSyncOut_keeps {l} : s.KeepsOut (execSyncOut l s) := .next (.land .refl fun _ h => .update h)

@[simp] theorem execSyncOutPulseEnd_keeps : s.KeepsOut (execSyncOutPulseEnd s) := .next (.ite (.update .refl) .refl)

@[simp] theorem execTimeMark_keeps {l} : s.KeepsOut (execTimeMark l s) := .next (.land .refl fun _ h => .put h)

@[simp] theorem execGong_keeps {l} : s.KeepsOut (execGong l s) := .next (.land .refl fun _ h => .pullGong h)

@[simp] theorem execGongLowEnd_keeps : s.KeepsOut (execGongLowEnd s) := .next (.ite (.update .refl) .refl)

@[simp] theorem execBell_keeps {l} : s.KeepsOut (execBell l s) := .next (.land .refl fun _ h => .bell h)

/-! ## The control bus -/

theorem State.Keeps.confine (h : s.Keeps t) : s.Keeps t.confine := .ite (.bump (.put h)) (.put h)

theorem State.Keeps.sendCan {id bs} (h : s.Keeps t) : s.Keeps (t.sendCan id bs) :=
  .send (.confine (.update (.ite (.put h) h)))

theorem State.Keeps.canHeard (h : s.Keeps t) : s.Keeps t.canHeard :=
  .ite (.confine (.update h)) (.drawn (.confine (.update h)))

@[simp] theorem execCanClassicFrame_keeps : s.KeepsOut (execCanClassicFrame s) := .next (.ite (.bump .refl) .refl)

theorem State.Keeps.writeCanEnable {v} (h : s.Keeps t) : s.Keeps (t.writeCanEnable v) := .ite (.put h) (.put (.put h))

theorem State.Keeps.writeCanApply {v} (h : s.Keeps t) : s.Keeps (t.writeCanApply v) :=
  .ite h (.ite (.put h) (.put (.put (.update h))))

@[simp] theorem execCanApply_keeps {v} : s.KeepsOut (execCanApply v s) := .next (.writeCanApply .refl)

theorem State.Keeps.listen {st} (h : s.Keeps t) : s.Keeps (t.listen st) := .put (.update h)

theorem State.Keeps.sendClaim {n} (h : s.Keeps t) : s.Keeps (t.sendClaim n) := .sendCan h

theorem State.Keeps.sendHeartbeat {st} (h : s.Keeps t) : s.Keeps (t.sendHeartbeat st) := .sendCan (.update h)

theorem State.Keeps.claimFor {n} (h : s.Keeps t) : s.Keeps (t.claimFor n) := .sendClaim (.bump (.put (.update h)))

theorem State.Keeps.giveUpId (h : s.Keeps t) : s.Keeps t.giveUpId := .listen (.bell (.put (.update h)))

theorem State.Keeps.heardId {n serial} (h : s.Keeps t) : s.Keeps (t.heardId n serial) := by
  unfold State.heardId
  refine .ite ?_ ?_
  · exact .ite h (.ite (.sendClaim h) (.giveUpId h))
  · exact .ite (.ite h (.claimFor (.update h))) (.update h)

@[simp] theorem execClaim_keeps {n serial} : s.KeepsOut (execClaim n serial s) :=
  .next (.ite .refl (.heardId (.canHeard .refl)))

@[simp] theorem execClaimListenEnd_keeps : s.KeepsOut (execClaimListenEnd s) := .next (.ite (.claimFor .refl) .refl)

@[simp] theorem execClaimWaitEnd_keeps : s.KeepsOut (execClaimWaitEnd s) :=
  .next (.ite (.sendHeartbeat (.put (.put .refl))) .refl)

@[simp] theorem execClaimRetry_keeps : s.KeepsOut (execClaimRetry s) := by
  unfold execClaimRetry
  refine .next ?_
  split
  · exact .ite (.sendClaim (.update .refl)) .refl
  · exact .refl

@[simp] theorem execCanIntegrationComplete_keeps : s.KeepsOut (execCanIntegrationComplete s) :=
  .next (.ite .refl (.ite (.put (.update .refl)) (.listen (.put (.update .refl)))))

@[simp] theorem execCanBusError_keeps {transmit delta} : s.KeepsOut (execCanBusError transmit delta s) := by
  unfold execCanBusError
  refine .next (.ite .refl ?_)
  exact .via (.ite (.confine (.update .refl)) (.confine (.update .refl))) fun h1 => .ite (.update h1) h1

@[simp] theorem execCanBusOffRecovery_keeps : s.KeepsOut (execCanBusOffRecovery s) :=
  .next (.ite .refl (.via (.bell (.put (.update .refl))) fun h1 => .ite (.sendClaim h1) h1))

theorem State.Keeps.dropNode {n} (h : s.Keeps t) : s.Keeps (t.dropNode n) := .update h

theorem State.Keeps.enterNode {n serial st} (h : s.Keeps t) : s.Keeps (t.enterNode n serial st) :=
  .ite (.update h) (.ite (.update h) (.bump h))

@[simp] theorem execHeartbeat_keeps {n serial state} : s.KeepsOut (execHeartbeat n serial state s) := by
  unfold execHeartbeat
  refine .next (.ite .refl ?_)
  exact .ite (.dropNode (.heardId (.canHeard .refl))) (.enterNode (.heardId (.canHeard .refl)))

@[simp] theorem execHeartbeatSend_keeps :
    s.KeepsOut (execHeartbeatSend s) := .next (.ite (.sendHeartbeat .refl) .refl)

@[simp] theorem execNodeExpire_keeps {n} : s.KeepsOut (execNodeExpire n s) := by
  unfold execNodeExpire
  refine .next ?_
  split
  · exact .ite (.dropNode .refl) .refl
  · exact .refl

theorem State.Keeps.writeBellAck {seq} (h : s.Keeps t) : s.Keeps (t.writeBellAck seq).1 := by
  unfold State.writeBellAck
  split
  · exact .put (.update h)
  · exact h

@[simp] theorem execBellAck_keeps {seq} : s.KeepsOut (execBellAck seq s) := .next (.writeBellAck .refl)

theorem State.Keeps.broadcast {id bs f} (h : s.Keeps t) (hf : ∀ u, s.Keeps u → s.Keeps (f u)) :
    s.Keeps (t.broadcast id bs f) := .charge h fun _ hu => hf _ (.sendCan hu)

@[simp] theorem execCanBellSend_keeps : s.KeepsOut (execCanBellSend s) :=
  .next (.ite (.broadcast .refl fun _ h => .update h) .refl)

@[simp] theorem execCanTrackSend_keeps : s.KeepsOut (execCanTrackSend s) :=
  .next (.ite (.broadcast .refl fun _ h => .update h) .refl)

@[simp] theorem execCanFocusSend_keeps : s.KeepsOut (execCanFocusSend s) :=
  .next (.ite (.broadcast .refl fun _ h => .update h) .refl)

@[simp] theorem execStatusSend_keeps : s.KeepsOut (execStatusSend s) :=
  .next (.ite (.broadcast .refl fun _ h => .update h) .refl)

/-! ## Engine scalar instructions -/

theorem State.Keeps.scalarOp {p op f legal g} (h : s.Keeps t) : s.Keeps (t.scalarOp p op f legal g) := .regInstr h

@[simp] theorem execSadd_keeps {p f} : s.KeepsOut (execSadd p f s) := .next (.scalarOp .refl)

@[simp] theorem execSsub_keeps {p f} : s.KeepsOut (execSsub p f s) := .next (.scalarOp .refl)

@[simp] theorem execSand_keeps {p f} : s.KeepsOut (execSand p f s) := .next (.scalarOp .refl)

@[simp] theorem execSor_keeps {p f} : s.KeepsOut (execSor p f s) := .next (.scalarOp .refl)

@[simp] theorem execSshl_keeps {p f} : s.KeepsOut (execSshl p f s) := .next (.scalarOp .refl)

@[simp] theorem execSshr_keeps {p f} : s.KeepsOut (execSshr p f s) := .next (.scalarOp .refl)

@[simp] theorem execScmp_keeps {p f} : s.KeepsOut (execScmp p f s) := .next (.scalarOp .refl)

@[simp] theorem execSmov_keeps {p f} : s.KeepsOut (execSmov p f s) := .next (.regInstr .refl)

@[simp] theorem execSbr_keeps {p f} : s.KeepsOut (execSbr p f s) := by
  unfold execSbr
  refine .next (.instr .refl fun _ _ => ?_)
  split
  · exact .fail .refl
  · exact .refl
  · exact .setEngine .refl

@[simp] theorem execSloop_keeps {p f} : s.KeepsOut (execSloop p f s) := by
  unfold execSloop
  refine .next (.instr .refl fun _ _ => ?_)
  exact .iteFst (.fail .refl) (.iteFst .refl (.iteFst (.fail .refl) (.setEngine .refl)))

@[simp] theorem execScall_keeps {p f} : s.KeepsOut (execScall p f s) :=
  .next (.instr .refl fun _ _ => .iteFst (.fail .refl) (.setEngine .refl))

@[simp] theorem execSret_keeps {p f} : s.KeepsOut (execSret p f s) := by
  unfold execSret
  refine .next (.instr .refl fun _ _ => ?_)
  split <;> exact .setEngine .refl

@[simp] theorem execPfx_keeps {p f} : s.KeepsOut (execPfx p f s) := by
  unfold execPfx
  refine .next ?_
  split
  · exact .refl
  · exact .ite (.faultRun .refl) (.ite (.stallRoll .refl) (.retire (.setEngine .refl)))

/-! ## Schedulers and strokes -/

theorem State.Keeps.accept {sched off e} (h : s.Keeps t) : s.Keeps (t.accept sched off e) := .update h

theorem State.Keeps.writeEntry {sched off bs} (h : s.Keeps t) : s.Keeps (t.writeEntry sched off bs).1 :=
  .iteFst (.accept h) (.bump h)

theorem State.Keeps.writeStrokes {sched off bytes} (h : s.Keeps t) : s.Keeps (t.writeStrokes sched off bytes).1 :=
  .iteFst h (.foldlFst h fun _ _ hu => .writeEntry hu)

@[simp] theorem execStrokeEntryWrite_keeps {sched off bytes} : s.KeepsOut (execStrokeEntryWrite sched off bytes s) :=
  .next (.writeStrokes .refl)

@[simp] theorem execStrokeForward_keeps {e} : s.KeepsOut (execStrokeForward e s) := by
  unfold execStrokeForward
  split
  · exact .next .refl
  · exact .ite (.next (.update .refl)) (.next .refl)

theorem State.Keeps.fireEntry {sched e st late dies} (h : s.Keeps t) : s.Keeps (t.fireEntry sched e st late dies) :=
  .fire (.ite (.bump (.update h)) (.update h))

theorem State.Keeps.firePart {e st dies} (h : s.Keeps t) : s.Keeps (t.firePart e st dies) := .fire (.update h)

theorem State.Keeps.fireReplaced {sched e st late} (h : s.Keeps t) : s.Keeps (t.fireReplaced sched e st late) :=
  .fire (.ite (.bump (.update h)) (.update h))

@[simp] theorem execStrokeFire_keeps {sched e} : s.KeepsOut (execStrokeFire sched e s) := by
  unfold execStrokeFire
  split
  · exact .next .refl
  · refine .next (.ite .refl (.ite (.ite (.fireReplaced .refl) .refl) ?_))
    exact .ite (.ite .refl (.ite (.fireEntry .refl) (.firePart .refl))) (.ite (.fireEntry .refl) .refl)

@[simp] theorem execLateStrokeFire_keeps {sched e} : s.KeepsOut (execLateStrokeFire sched e s) := by
  unfold execLateStrokeFire
  split
  · exact .next .refl
  · exact .next (.ite .refl (.ite (.fireReplaced .refl) (.fireEntry .refl)))

theorem State.Keeps.strokesAtTrim (h : s.Keeps t) : s.Keeps t.strokesAtTrim := .update h

theorem State.Keeps.writeRsGo {v} (h : s.Keeps t) : s.Keeps (t.writeRsGo v) :=
  .ite h (.ite (.bump h) (.ite (.update (.put h)) (.put (.bump h))))

@[simp] theorem execRimshotGo_keeps {v} : s.KeepsOut (execRimshotGo v s) := .next (.writeRsGo .refl)

@[simp] theorem execRimshotFire_keeps : s.KeepsOut (execRimshotFire s) := by
  unfold execRimshotFire
  split
  · exact .next .refl
  · exact .ite (.next (.fire (.put (.put (.update .refl))))) (.next (.put (.put (.update .refl))))

/-! ## Ensembles (14) -/

theorem State.Keeps.mapEns {f} (h : s.Keeps t) : s.Keeps (t.mapEns f) := .update h

theorem State.Keeps.mapSlot {k f} (h : s.Keeps t) : s.Keeps (t.mapSlot k f) := .mapEns h

theorem State.Keeps.markRunning {f} (h : s.Keeps t) : s.Keeps (t.markRunning f) := .update h

theorem State.Keeps.ensListen (h : s.Keeps t) : s.Keeps t.ensListen := .put (.put (.put (.mapEns h)))

theorem State.Keeps.ensOff (h : s.Keeps t) : s.Keeps t.ensOff := .put (.put (.mapEns (.ensListen h)))

theorem State.Keeps.dropDrumSource (h : s.Keeps t) : s.Keeps t.dropDrumSource := .updateLock (.update h)

theorem State.Keeps.writeEnsEnable {v} (h : s.Keeps t) : s.Keeps (t.writeEnsEnable v) := by
  unfold State.writeEnsEnable
  refine .ite (.put h) (.ite (.updateLock (.ensListen (.mapEns (.put h)))) ?_)
  exact .ite (.dropDrumSource (.put (.mapEns (.put h)))) (.dropDrumSource (.ensOff (.put h)))

@[simp] theorem execEnsEnableWrite_keeps {v} :
    s.KeepsOut (execEnsEnableWrite v s) := .next (.ite .refl (.writeEnsEnable .refl))

theorem State.Keeps.elect (h : s.Keeps t) : s.Keeps t.elect := .ite (.put (.mapEns h)) (.ensListen h)

theorem State.Keeps.chooseSlot (h : s.Keeps t) : s.Keeps t.chooseSlot := by
  unfold State.chooseSlot
  dsimp only
  split
  · exact .put (.mapEns h)
  · exact .put h

theorem State.Keeps.ensRetry (h : s.Keeps t) : s.Keeps t.ensRetry := .mapEns h

theorem State.Keeps.newMaster {uid} (h : s.Keeps t) : s.Keeps (t.newMaster uid) :=
  .ite (.bell (.bump (.put h))) (.put h)

theorem State.Keeps.becomeMaster (h : s.Keeps t) : s.Keeps t.becomeMaster := by
  unfold State.becomeMaster
  exact .updateLock (.bell (.bump (.put (.put (.put (.put (.mapEns h)))))))

theorem State.Keeps.mirrorPick (h : s.Keeps t) : s.Keeps t.mirrorPick.2 := by
  unfold State.mirrorPick
  split <;> exact .mapEns h

theorem State.Keeps.gongCarried (h : s.Keeps t) : s.Keeps t.gongCarried := .mapEns h

theorem State.Keeps.sendMaster {state} (h : s.Keeps t) : s.Keeps (t.sendMaster state) :=
  .gongCarried (.send (.mirrorPick h))

theorem State.Keeps.sendLeave (h : s.Keeps t) : s.Keeps t.sendLeave :=
  .via (.ite (.sendMaster h) (.gongCarried (.send h))) fun h1 => .ite (.ensOff h1) (.mapEns h1)

theorem State.Keeps.readBack {ok} (h : s.Keeps t) : s.Keeps (t.readBack ok) := .ite h (.bump h)

@[simp] theorem execDrumSlot_keeps {readBackOk} : s.KeepsOut (execDrumSlot readBackOk s) := by
  unfold execDrumSlot
  refine .next (.ite .refl (.ite (.readBack (.sendLeave (.mapEns .refl))) ?_))
  split
  · exact .readBack (.sendMaster (.mapEns .refl))
  · exact .readBack (.mapEns (.gongCarried (.send (.mapEns .refl))))
  · refine .ite ?_ (.readBack (.mapEns (.send (.mapEns .refl))))
    exact .ite (.chooseSlot (.mapEns (.mapEns .refl))) (.mapEns (.mapEns .refl))
  · refine .ite (.mapEns (.mapEns .refl)) ?_
    exact .via (.readBack (.send (.mapEns .refl))) fun h1 =>
      .ite (.ensRetry (.mapEns h1)) (.ite (.becomeMaster h1) (.mapEns h1))
  · exact .mapEns .refl

theorem State.Keeps.applyMirror (h : s.Keeps t) : s.Keeps t.applyMirror := by
  unfold State.applyMirror
  split
  · exact h
  · exact .ite (.mapEns h) (.ite (.mapEns h) (.ite (.bump (.mapEns h)) (.update (.accept (.mapEns h)))))

@[simp] theorem execMirrorApply_keeps : s.KeepsOut (execMirrorApply s) := .next (.applyMirror .refl)

theorem State.Keeps.letIn {r} (h : s.Keeps t) : s.Keeps (t.letIn r).2 := by
  unfold State.letIn
  split_ifs
  · exact h
  · dsimp only
    exact .bump h
  · dsimp only
    exact .bump h
  · exact h

theorem State.Keeps.received {ty r f} (h : s.Keeps t) (hf : ∀ b, s.Keeps (f b)) : s.Keeps (t.received ty r f) := by
  unfold State.received
  split
  · rename_i u e
    have hl : s.Keeps (t.letIn r).2 := .letIn h
    rwa [e] at hl
  · exact .ite (hf _) h

theorem State.Keeps.heardSlot {b} (h : s.Keeps t) : s.Keeps (t.heardSlot b) :=
  .ite (.put (.putBytes (.mapSlot h))) (.putBytes (.mapSlot h))

theorem State.Keeps.becomeUnsynced (h : s.Keeps t) : s.Keeps t.becomeUnsynced :=
  .ite (.mapEns h) (.bell (.markRunning (.mapEns h)))

theorem State.Keeps.mute (h : s.Keeps t) : s.Keeps t.mute := .bell (.markRunning (.bump (.put (.mapEns h))))

theorem State.Keeps.classify {o} (h : s.Keeps t) : s.Keeps (t.classify o) := by
  unfold State.classify
  refine .ite ?_ ?_
  · exact .via (.ite (.becomeUnsynced (.mapEns (.mapEns h))) (.mapEns (.mapEns h))) fun h1 => .ite (.mute h1) h1
  · refine .ite (.chooseSlot (.put (.mapEns (.mapEns (.mapEns h))))) ?_
    exact .ite (.chooseSlot (.mapEns (.mapEns h))) (.mapEns (.mapEns h))

theorem State.Keeps.drumEvent {t1 t2 delay} (h : s.Keeps t) : s.Keeps (t.drumEvent t1 t2 delay) := by
  unfold State.drumEvent
  exact .classify (.sourceEvent (.put (.put h)))

theorem State.Keeps.beaconTime {b} (h : s.Keeps t) : s.Keeps (t.beaconTime b) := by
  unfold State.beaconTime
  refine .ite ?_ (.ite (.mapEns (.drumEvent h)) h)
  exact .ite (.mapEns (.ite (.drumEvent h) h)) (.ite (.drumEvent h) h)

theorem State.Keeps.beaconOwner {b} (h : s.Keeps t) : s.Keeps (t.beaconOwner b) :=
  .ite (.ite (.put (.put (.mapEns h))) (.ensRetry h)) (.ite (.ensListen h) h)

theorem State.Keeps.agreement {b} (h : s.Keeps t) : s.Keeps (t.agreement b) :=
  .ite (.bell (.markRunning (.put (.mapEns h)))) (.ite (.put (.mapEns h)) (.mapEns h))

theorem State.Keeps.takeMirror {b} (h : s.Keeps t) : s.Keeps (t.takeMirror b) :=
  .ite (.mapEns (.applyMirror h)) (.applyMirror h)

theorem State.Keeps.followMaster {b} (h : s.Keeps t) : s.Keeps (t.followMaster b) := by
  unfold State.followMaster
  exact .via (.newMaster (.mapEns (.heardSlot h))) fun h1 =>
    .ite (.elect h1) (.ite (.takeMirror (.agreement (.beaconTime (.beaconOwner h1)))) (.beaconTime (.beaconOwner h1)))

@[simp] theorem execMasterBeacon_keeps {r} : s.KeepsOut (execMasterBeacon r s) := by
  unfold execMasterBeacon
  refine .next (.received .refl fun _ => .ite (.ite ?_ .refl) (.followMaster .refl))
  exact .updateLock (.mapEns (.heardSlot (.newMaster (.ensListen .refl))))

@[simp] theorem execMemberBeacon_keeps {r} : s.KeepsOut (execMemberBeacon r s) :=
  .next (.received .refl fun _ => .mapSlot (.heardSlot .refl))

@[simp] theorem execSlotClaim_keeps {r} : s.KeepsOut (execSlotClaim r s) :=
  .next (.received .refl fun _ => .ite (.mapSlot (.heardSlot .refl)) (.heardSlot .refl))

@[simp] theorem execMasterClaim_keeps {r} : s.KeepsOut (execMasterClaim r s) :=
  .next (.received .refl fun _ => .ite (.ensListen .refl) .refl)

@[simp] theorem execLeave_keeps {r} : s.KeepsOut (execLeave r s) :=
  .next (.received .refl fun _ => .ite (.ite (.elect .refl) .refl) (.mapSlot (.heardSlot .refl)))

theorem State.Keeps.slotsTurn (h : s.Keeps t) : s.Keeps t.slotsTurn := .put (.mapEns h)

@[simp] theorem execDrumCycle_keeps : s.KeepsOut (execDrumCycle s) := by
  unfold execDrumCycle
  refine .next (.ite .refl (.ite (.mapEns (.slotsTurn .refl)) ?_))
  exact .via (.ite (.becomeUnsynced (.mapEns (.slotsTurn .refl))) (.mapEns (.slotsTurn .refl))) fun h1 =>
    .ite (.ite h1 (.elect h1)) h1

@[simp] theorem execGongReceive_keeps {ns stamp} : s.KeepsOut (execGongReceive ns stamp s) :=
  .next (.ite .refl (.via (.bell (.put (.bump (.update .refl)))) fun h1 => .ite (.fire h1) h1))

@[simp] theorem execGongNRise_keeps : s.KeepsOut (execGongNRise s) := .next (.update .refl)

/-! ## The image store -/

theorem State.Keeps.startSave {mode} (h : s.Keeps t) : s.Keeps (t.startSave mode) := by
  unfold State.startSave
  refine .ite h (.ite (.put h) ?_)
  exact .via (.owePorts (.owe (.put (.put (.wipe (.update h)))))) fun h1 => .ite (.holdPorts h1) h1

@[simp] theorem execImgSaveActive_keeps : s.KeepsOut (execImgSaveActive s) := .next (.startSave .refl)

@[simp] theorem execImgSaveInactive_keeps : s.KeepsOut (execImgSaveInactive s) := .next (.startSave .refl)

theorem State.Keeps.endSave {mode status bell} (h : s.Keeps t) : s.Keeps (t.endSave mode status bell) :=
  .bell (.put (.ite (.freePorts (.update h)) (.update h)))

theorem State.Keeps.writePages {a ws} (h : s.Keeps t) : s.Keeps (t.writePages a ws) := .foldl h fun _ _ hu => .poke hu

theorem State.Keeps.saveTear (h : s.Keeps t) : s.Keeps t.saveTear := by
  unfold State.saveTear
  split
  · exact h
  · extract_lets +onlyGivenNames a ws k w at' top s1 s2
    have h1 : s.Keeps s1 := .writePages (.wipe h)
    have h2 : s.Keeps s2 := by
      unfold s2
      split
      · exact h1
      · exact .poke h1
    exact .drawn (.ite (.poke h2) h2)

@[simp] theorem execImgSaveComplete_keeps : s.KeepsOut (execImgSaveComplete s) := by
  unfold execImgSaveComplete
  refine .next ?_
  split
  · exact .refl
  · refine .ite .refl (.ite (.endSave (.writePages (.wipe .refl)))
      (.ite (.endSave (.put (.writePages (.wipe .refl)))) ?_))
    exact .endSave (.put (.put (.bump (.put (.writePages (.wipe .refl))))))

theorem State.Keeps.startLoad {x} (h : s.Keeps t) : s.Keeps (t.startLoad x) := by
  unfold State.startLoad
  refine .put (.put (.owePorts (.owe ?_)))
  exact .holdPorts (.foldl (.update h) fun _ _ hu => .bankView (.setVerified hu))

theorem State.Keeps.writeImgLoad (h : s.Keeps t) : s.Keeps t.writeImgLoad := by
  unfold State.writeImgLoad
  refine .ite h (.ite (.put h) ?_)
  split
  · exact .bell (.put h)
  · exact .startLoad h

@[simp] theorem execImgLoad_keeps : s.KeepsOut (execImgLoad s) := .next (.writeImgLoad .refl)

theorem State.Keeps.bootLoad (h : s.Keeps t) : s.Keeps t.bootLoad := by
  unfold State.bootLoad
  refine .ite h (.ite (.put h) ?_)
  split
  · exact .bell h
  · exact .startLoad h

theorem State.Keeps.fillBank {mode g records j6f gen} (h : s.Keeps t) : s.Keeps (t.fillBank mode g records j6f gen) :=
  .bankView (.setVerified (.bankWrite (.bankWrite (.bankWrite h))))

theorem State.Keeps.awaitSwap {mode gs lost} (h : s.Keeps t) : s.Keeps (t.awaitSwap mode gs lost) := .update h

theorem State.Keeps.generationLoaded (h : s.Keeps t) : s.Keeps t.generationLoaded := .put (.put (.bump h))

theorem State.Keeps.spoilBank {g} (h : s.Keeps t) : s.Keeps (t.spoilBank g) :=
  .bankView (.setVerified (.bankWrite (.bankWrite (.bankWrite h))))

theorem State.Keeps.spoilBanks (h : s.Keeps t) : s.Keeps t.spoilBanks := .drawn (.foldl h fun _ _ hu => .spoilBank hu)

@[simp] theorem execImgLoadComplete_keeps : s.KeepsOut (execImgLoadComplete s) := by
  unfold execImgLoadComplete
  refine .next ?_
  split
  · exact .refl
  · refine .ite .refl ?_
    split
    · refine .update (.bell (.put (.put (.put (.generationLoaded ?_)))))
      exact .awaitSwap (.foldl (.freePorts (.update .refl)) fun _ _ h => .fillBank h)
    · exact .via (.bell (.put (.spoilBanks (.freePorts (.update .refl))))) fun h1 => .ite (.startLoad h1) h1

theorem State.Keeps.writeInactive {off bytes} (h : s.Keeps t) : s.Keeps (t.writeInactive off bytes).1 := by
  unfold State.writeInactive
  refine .iteFst h (.iteFst h (.iteFst (.ite h (.put h)) (.iteFst h (.foldl h fun _ _ hu => ?_))))
  exact .bankView (.setVerified (.bankWrite (.owe hu)))

@[simp] theorem execInactiveBanksWrite_keeps {off bytes} : s.KeepsOut (execInactiveBanksWrite off bytes s) := by
  unfold execInactiveBanksWrite
  refine .next ?_
  split
  · exact .stallRoll .refl
  · exact .writeInactive .refl

theorem State.Keeps.writeCommitGo {v} (h : s.Keeps t) : s.Keeps (t.writeCommitGo v).1 :=
  .iteFst h (.iteFst h (.iteFst (.put h) (.put (.update (.foldl h fun _ _ hu => .owe hu)))))

@[simp] theorem execCommitGo_keeps {v} : s.KeepsOut (execCommitGo v s) := .next (.writeCommitGo .refl)

@[simp] theorem execCommitCheckDone_keeps : s.KeepsOut (execCommitCheckDone s) := by
  unfold execCommitCheckDone
  refine .next ?_
  split
  · exact .refl
  · refine .ite .refl ?_
    exact .via (.awaitSwap (.foldl (.foldl (.update .refl) fun _ _ h =>
      .bankView (.setVerified (.bankWrite (.ite (.bankWrite h) h)))) fun _ _ h => .bankView (.setVerified h)))
      fun h1 => .ite (.put (.generationLoaded h1)) (.put h1)

/-! ## The monitor converter -/

theorem State.Keeps.mcSettle (h : s.Keeps t) : s.Keeps t.mcSettle := .update h

theorem State.Keeps.mcView (h : s.Keeps t) : s.Keeps t.mcView := .put h

theorem State.Keeps.mcReset (h : s.Keeps t) : s.Keeps t.mcReset := .update h

theorem State.Keeps.mcHalt (h : s.Keeps t) : s.Keeps t.mcHalt := .mcView (.put (.update h))

@[simp] theorem execMcStart_keeps {l} : s.KeepsOut (execMcStart l s) :=
  .next (.land .refl fun _ h => .ite (.bump h) (.mcView (.mcSettle (.put (.update h)))))

@[simp] theorem execMcStop_keeps : s.KeepsOut (execMcStop s) := by
  unfold execMcStop
  refine .next ?_
  split
  · exact .refl
  · exact .land .refl fun _ h => .ite h (.ite (.mcHalt h) (.update h))

theorem State.Keeps.mcUrgent {go} (h : s.Keeps t) : s.Keeps (t.mcUrgent go) := by
  unfold State.mcUrgent
  refine .ite h (.ite (.ite (.put (.bump h)) (.bump h)) (.ite (.ite (.put (.bump h)) (.bump h)) ?_))
  exact .ite (.put (.mcView (.mcSettle (.bump (.update h))))) (.mcView (.mcSettle (.bump (.update h))))

theorem State.Keeps.writeMcInjGo {v} (h : s.Keeps t) : s.Keeps (t.writeMcInjGo v) := .ite (.mcUrgent h) h

@[simp] theorem execMcInjGo_keeps {v} : s.KeepsOut (execMcInjGo v s) := .next (.writeMcInjGo .refl)

theorem State.Keeps.mcRecord {w0} (h : s.Keeps t) : s.Keeps (t.mcRecord w0) :=
  .ite (.bump h) (.foldl (.put (.poke h)) fun _ _ hu => .addEntry hu)

theorem State.Keeps.mcAdvance (h : s.Keeps t) : s.Keeps t.mcAdvance :=
  .ite h (.ite (.mcHalt h) (.mcView (.mcSettle (.update h))))

@[simp] theorem execMcOutput_keeps {x ovr} : s.KeepsOut (execMcOutput x ovr s) := by
  unfold execMcOutput
  refine .next (.ite .refl ?_)
  exact .via (.update (.put (.mcRecord (.mcSettle .refl)))) fun h1 => .ite (.ite h1 (.update h1)) (.mcAdvance h1)

theorem State.Keeps.writeMcRd {v} (h : s.Keeps t) : s.Keeps (t.writeMcRd v).1 := .iteFst h (.put h)

@[simp] theorem execMcRdWrite_keeps {v} : s.KeepsOut (execMcRdWrite v s) := .next (.writeMcRd .refl)

theorem State.Keeps.writeMcFilter {which v} (h : s.Keeps t) : s.Keeps (t.writeMcFilter which v) := .mcReset (.put h)

@[simp] theorem execMcFilterWrite_keeps {which v} : s.KeepsOut (execMcFilterWrite which v s) :=
  .next (.ite (.writeMcFilter .refl) .refl)

theorem State.Keeps.writeMcCalCh {v} (h : s.Keeps t) : s.Keeps (t.writeMcCalCh v) := .update (.put h)

theorem State.Keeps.mcCalBegin {step} (h : s.Keeps t) : s.Keeps (t.mcCalBegin step) := .mcView (.put (.update h))

@[simp] theorem execMcCalZero_keeps : s.KeepsOut (execMcCalZero s) := .next (.ite .refl (.mcCalBegin .refl))

@[simp] theorem execMcCalFullScale_keeps : s.KeepsOut (execMcCalFullScale s) :=
  .next (.ite .refl (.ite (.mcCalBegin .refl) (.put .refl)))

theorem State.Keeps.writeMcCalStep {v} (h : s.Keeps t) : s.Keeps (t.writeMcCalStep v) :=
  .ite h (.ite (.mcCalBegin h) (.ite (.ite (.mcCalBegin h) (.put h)) h))

theorem State.Keeps.mcCalEnd {status} (h : s.Keeps t) : s.Keeps (t.mcCalEnd status) := .mcView (.put (.update h))

@[simp] theorem execMcCalStepDone_keeps : s.KeepsOut (execMcCalStepDone s) := by
  unfold execMcCalStepDone
  refine .next (.ite .refl (.ite (.mcCalEnd .refl) (.ite (.mcCalEnd (.put (.update .refl))) ?_)))
  exact .ite (.mcCalEnd .refl) (.mcCalEnd (.put (.put (.bump (.put .refl)))))

/-! ## Frames and slots (03) -/

theorem State.Keeps.digests (h : s.Keeps t) : s.Keeps t.digests := .put (.update h)

theorem State.Keeps.chop (h : s.Keeps t) : s.Keeps t.chop := by
  unfold State.chop
  dsimp only
  split <;> exact .put (.put h)

theorem State.Keeps.bootSwaps (h : s.Keeps t) : s.Keeps t.bootSwaps.1 :=
  .iteFst (.put (.update (.foldl h fun _ _ hu => .update (.setRegion hu)))) h

theorem State.Keeps.prune (h : s.Keeps t) : s.Keeps t.prune := .update h

theorem State.Keeps.startRefresh {rule3 boot wasDeferring} (h : s.Keeps t) :
    s.Keeps (t.startRefresh rule3 boot wasDeferring) := by
  unfold State.startRefresh
  refine .ite ?_ (.ite (.calAccept (.update h)) h)
  split
  · exact .ite (.calAccept h) (.update h)
  · exact .askRefresh h

theorem State.Keeps.intoForce {num} (h : s.Keeps t) : s.Keeps (t.intoForce num).1 := by
  unfold State.intoForce
  extract_lets +onlyGivenNames commit bit6 s1 changed s2
  have h1 : s.Keeps s1 := .newRollUs (.applyCaptures h)
  have h2 : s.Keeps s2 := .ite (.calFail h1) h1
  split
  rename_i s3 boot e3
  split
  rename_i s4 swapped e4
  have h4 : s.Keeps s4 := .fst (.swapAll (.fst (.bootSwaps h2) e3)) e4
  extract_lets +onlyGivenNames banks s5 s6
  have h5 : s.Keeps s5 := .dropUpdate h4
  have h6 : s.Keeps s6 := by
    unfold s6
    split
    · exact .ite (.calFail h5) h5
    · exact h5
  dsimp only
  exact .sparesTakeOver (.foldl (.ite (.update h6) h6) fun _ _ hu => .switchEngine hu)

theorem State.Keeps.frameObjects {f} (h : s.Keeps t) : s.Keeps (t.frameObjects f) :=
  .put (.put (.put (.put (.put (.put (.put h))))))

theorem State.Keeps.framesInRegions {f} (h : s.Keeps t) : s.Keeps (t.framesInRegions f) :=
  .foldl h fun _ _ hu => .ite (.discardFrame (.setRegion hu)) (.setRegion hu)

theorem State.Keeps.entriesDue {num} (h : s.Keeps t) : s.Keeps (t.entriesDue num) :=
  .foldl h fun _ _ hu => .setEngine hu

theorem State.Keeps.launch {l} (h : s.Keeps t) : s.Keeps (t.launch l) := by
  unfold State.launch
  extract_lets +onlyGivenNames num wasDeferring
  split
  rename_i s1 swapped boot changed e1
  have h1 : s.Keeps s1 := .fst (.intoForce h) e1
  extract_lets +onlyGivenNames f0 s2
  split
  rename_i s3 kind first e3
  have h3 : s.Keeps s3 := .fst (.calFrameStart (.startRefresh (.frameObjects h1))) e3
  refine .digests (.chop (.placeGrid (.prune (.viewsAtStart (.applyContexts (.entriesDue (.framesInRegions ?_)))))))
  exact .ite (.calClear (.mapWaits (.update h3))) (.mapWaits (.update h3))

@[simp] theorem execFrameStart_keeps {l} : s.KeepsOut (execFrameStart l s) := by
  unfold execFrameStart
  refine .next (.land .refl fun _ h => .ite h ?_)
  split
  · exact .ite (.bump (.update h)) (.launch (.update h))
  · exact .bell (.put (.bump h))

theorem State.Keeps.jResult {f k cu r} (h : s.Keeps t) : s.Keeps (t.jResult f k cu r) := .update (.poke (.poke h))

theorem State.Keeps.sunTrip {g} (h : s.Keeps t) : s.Keeps (t.sunTrip g) := by
  unfold State.sunTrip
  extract_lets +onlyGivenNames s1 s2
  have h2 : s.Keeps s2 := .bell (.fire (.put (.put (.bump (.put h)))))
  split
  · exact .ite (.calFail h2) h2
  · exact h2

theorem State.Keeps.sunAmend {g} (h : s.Keeps t) : s.Keeps (t.sunAmend g) := .ite (.update (.put h)) h

theorem State.Keeps.countOvr {g} (h : s.Keeps t) : s.Keeps (t.countOvr g).1 := .update h

theorem State.Keeps.writeSunTripped {v} (h : s.Keeps t) : s.Keeps (t.writeSunTripped v) := .ite (.put h) h

@[simp] theorem execSunTrippedClear_keeps {v} : s.KeepsOut (execSunTrippedClear v s) := .next (.writeSunTripped .refl)

theorem State.Keeps.deliver {f k samples} (h : s.Keeps t) : s.Keeps (t.deliver f k samples) := by
  unfold State.deliver
  dsimp only
  split
  · refine .ite ?_ ?_
    · exact .sunAmend (.foldlFst h fun _ _ hu => .iteFst (.countOvr (.storeWord hu)) (.storeWord hu))
    · exact .sunTrip (.foldlFst h fun _ _ hu => .iteFst (.countOvr (.storeWord hu)) (.storeWord hu))
  · exact .foldlFst h fun _ _ hu => .iteFst (.countOvr (.storeWord hu)) (.storeWord hu)

theorem State.Keeps.slotsOver {f} (h : s.Keeps t) : s.Keeps (t.slotsOver f) :=
  .foldl (.calFrameEnd (.putBytes (.mapFrame h))) fun _ _ hu => .afterItem hu

@[simp] theorem execSlotEnd_keeps {q samples} : s.KeepsOut (execSlotEnd q samples s) := by
  unfold execSlotEnd
  refine .next ?_
  dsimp only
  split
  · refine .ite .refl ?_
    exact .via (.drawn (.ite (.foldl (.update .refl) fun _ _ h =>
      .jResult h) (.ite (.update .refl) (.deliver (.update .refl))))) fun h1 => .ite h1 (.slotsOver h1)
  · exact .refl

theorem State.Keeps.request {chans l trig} (h : s.Keeps t) : s.Keeps (t.request chans l trig) := by
  unfold State.request
  split
  · exact h
  · refine .foldl (.update ?_) fun _ _ hu => .ite hu (.bump hu)
    split
    · exact .foldl h fun _ _ hu => .ite hu (.put hu)
    · exact h

@[simp] theorem execInject_keeps {l} :
    s.KeepsOut (execInject l s) := .next (.land .refl fun _ h => .ite h (.request h))

@[simp] theorem execInjTrigEdge_keeps : s.KeepsOut (execInjTrigEdge s) :=
  .next (.ite (.mcUrgent (.ite .refl (.request .refl))) (.ite .refl (.request .refl)))

theorem State.Keeps.gateStages {f} (h : s.Keeps t) : s.Keeps (t.gateStages f) :=
  .via (.ite (.bootLoad (.putLe (.put h))) h) fun h1 => .ite (.putLe (.put h1)) h1

theorem State.Keeps.gateUpdate {num} (h : s.Keeps t) : s.Keeps (t.gateUpdate num) :=
  .ite (.update (.put (.mapFrame h))) h

theorem State.Keeps.clearRule3 {f} (h : s.Keeps t) : s.Keeps (t.clearRule3 f) :=
  .foldl h fun _ _ hu => .ite hu (.foldl hu fun _ _ hv => .foldl hv fun _ _ hv => .ite (.poke hv) hv)

@[simp] theorem execFrameGate_keeps {temps} : s.KeepsOut (execFrameGate temps s) := by
  unfold execFrameGate
  refine .next ?_
  split
  · exact .refl
  · refine .ite .refl ?_
    exact .via (.gateUpdate (.updateRefc (.update .refl))) fun h1 =>
      .updateOver (.gateHeld (.toneStale (.update (.sceneGate (.mapFrame (.gateStages (.ite (.clearRule3 h1) h1)))))))

/-! ## Lanes (10) -/

theorem State.Keeps.laneCount {n i k} (h : s.Keeps t) : s.Keeps (t.laneCount n i k) := .bumpLe h

theorem State.Keeps.enterLane {n st} (h : s.Keeps t) : s.Keeps (t.enterLane n st) := by
  unfold State.enterLane
  exact .via (.ite (.sendFiller (.mapLane (.put h))) (.mapLane (.put h))) fun h1 => .ite (.put (.update h1)) h1

theorem State.Keeps.setCoefs {n w} (h : s.Keeps t) : s.Keeps (t.setCoefs n w) := .put (.mapLane h)

theorem State.Keeps.enterLock {n fresh} (h : s.Keeps t) : s.Keeps (t.enterLock n fresh) :=
  .enterLane (.setCoefs (.put (.mapLane h)))

theorem State.Keeps.askTap {n body} (h : s.Keeps t) : s.Keeps (t.askTap n body) := .sendCtrl (.mapLane h)

theorem State.Keeps.enterTrain {n} (h : s.Keeps t) : s.Keeps (t.enterTrain n) :=
  .askTap (.enterLane (.mapLane (.laneCount h)))

theorem State.Keeps.sendHello {n} (h : s.Keeps t) : s.Keeps (t.sendHello n) := .sendCtrl (.mapLane h)

theorem State.Keeps.enterHello {n} (h : s.Keeps t) : s.Keeps (t.enterHello n) := .sendHello (.enterLane (.mapLane h))

theorem State.Keeps.trainEnds {n} (h : s.Keeps t) : s.Keeps (t.trainEnds n) := .ite (.enterHello h) h

theorem State.Keeps.startLane {n} (h : s.Keeps t) : s.Keeps (t.startLane n) := .ite (.enterLock h) h

theorem State.Keeps.setRole {n role} (h : s.Keeps t) : s.Keeps (t.setRole n role) :=
  .ite h (.ite (.updateLock (.update (.mapLane (.put h)))) (.mapLane (.put h)))

theorem State.Keeps.laneDown {n cause} (h : s.Keeps t) : s.Keeps (t.laneDown n cause) := by
  unfold State.laneDown
  exact .enterLane (.bell (.laneCount (.setRole (.update (.mapLane (.viewsLaneDown (.put h)))))))

theorem State.Keeps.leaveLane {n} (h : s.Keeps t) : s.Keeps (t.leaveLane n) :=
  .ite (.laneDown (.foldl h fun _ _ hu => .sendCtrl hu)) h

theorem State.Keeps.laneOff {n} (h : s.Keeps t) : s.Keeps (t.laneOff n) := .turnOff (.put (.enterLane (.leaveLane h)))

theorem State.Keeps.writeLaneEnable {n v} (h : s.Keeps t) : s.Keeps (t.writeLaneEnable n v) :=
  .ite (.laneOff (.put h)) (.ite (.enterLock (.put h)) (.startLane (.turnOn (.put h))))

@[simp] theorem execLaneEnableWrite_keeps {n v} : s.KeepsOut (execLaneEnableWrite n v s) :=
  .next (.ite .refl (.writeLaneEnable .refl))

theorem State.Keeps.writeLaneRestart {n v} (h : s.Keeps t) : s.Keeps (t.writeLaneRestart n v) :=
  .ite h (.ite (.leaveLane (.put h)) (.ite (.put h) (.enterLock (.put h))))

@[simp] theorem execLaneRestart_keeps {n v} :
    s.KeepsOut (execLaneRestart n v s) := .next (.ite .refl (.writeLaneRestart .refl))

theorem State.Keeps.writeTxFixed {n v} (h : s.Keeps t) : s.Keeps (t.writeTxFixed n v) := by
  unfold State.writeTxFixed
  refine .ite (.put h) ?_
  exact .ite (.enterLock (.leaveLane (.put h))) (.ite (.enterLock (.put h)) (.setCoefs (.put h)))

theorem State.Keeps.writeTxPreset {n v} (h : s.Keeps t) : s.Keeps (t.writeTxPreset n v) :=
  .ite (.setCoefs (.put h)) (.put h)

theorem State.Keeps.uncorrectable {n} (h : s.Keeps t) : s.Keeps (t.uncorrectable n) :=
  .ite (.bell (.mapLane (.laneCount h))) (.mapLane (.laneCount h))

theorem State.Keeps.correctable {n k} (h : s.Keeps t) : s.Keeps (t.correctable n k) :=
  .mapLane (.ite h (.laneCount (.laneCount h)))

theorem State.Keeps.takeBlocks {n blocks reads} (h : s.Keeps t) : s.Keeps (t.takeBlocks n blocks reads) := by
  unfold State.takeBlocks
  exact .via (.mapLane (.laneCount (.laneCount (.laneCount (.laneCount h))))) fun h1 => .ite (.laneDown h1) h1

theorem State.Keeps.nextTap {n} (h : s.Keeps t) : s.Keeps (t.nextTap n) := by
  unfold State.nextTap
  refine .ite (.askTap (.mapLane h)) (.ite (.askTap (.mapLane h)) (.ite (.askTap (.mapLane h)) ?_))
  exact .ite (.askTap (.mapLane h)) (.ite (.askTap (.mapLane h)) (.mapLane h))

theorem State.Keeps.measured {n count} (h : s.Keeps t) : s.Keeps (t.measured n count) := by
  unfold State.measured
  refine .ite ?_ ?_
  · exact .nextTap (.ite (.mapLane (.ite (.mapLane h) h)) (.ite (.mapLane h) h))
  · exact .ite (.askTap (.mapLane (.ite (.mapLane h) h))) (.askTap (.mapLane (.ite (.mapLane h) h)))

theorem State.Keeps.searchCodeword {n k} (h : s.Keeps t) : s.Keeps (t.searchCodeword n k) := by
  unfold State.searchCodeword
  refine .ite h (.ite (.mapLane h) ?_)
  split
  · exact h
  · exact .ite (.measured (.mapLane h)) (.mapLane h)

@[simp] theorem execCodewordReceive_keeps {n message parity reads} :
    s.KeepsOut (execCodewordReceive n message parity reads s) := by
  unfold execCodewordReceive
  refine .next (.ite .refl ?_)
  dsimp only
  split
  · exact .via (.searchCodeword (.uncorrectable (.mapLane (.laneCount .refl)))) fun h1 =>
      .ite h1 (.ite (.laneDown h1) (.ite (.enterLock h1) h1))
  · exact .via (.correctable (.mapLane (.laneCount .refl))) fun h1 =>
      .ite (.ite (.enterTrain h1) h1) (.ite (.takeBlocks (.searchCodeword h1)) h1)

theorem State.Keeps.sendTapResp {n num status coefs} (h : s.Keeps t) : s.Keeps (t.sendTapResp n num status coefs) :=
  .sendCtrl h

theorem State.Keeps.answerTap {n a num} (h : s.Keeps t) : s.Keeps (t.answerTap n a num) :=
  .sendTapResp (.mapLane (.setCoefs h))

@[simp] theorem execTapReq_keeps {n tap op preset num} : s.KeepsOut (execTapReq n tap op preset num s) := by
  unfold execTapReq
  refine .next (.ite .refl ?_)
  split
  · exact .ite (.sendTapResp .refl) (.answerTap .refl)
  · exact .answerTap .refl

@[simp] theorem execTapResp_keeps {n num status coefs} : s.KeepsOut (execTapResp n num status coefs s) := by
  unfold execTapResp
  refine .next (.ite .refl (.ite (.mapLane (.put .refl)) ?_))
  exact .ite (.mapLane (.mapLane (.put .refl))) (.nextTap (.mapLane (.put .refl)))

@[simp] theorem execTapReqRetry_keeps {n} :
    s.KeepsOut (execTapReqRetry n s) := .next (.ite (.sendCtrl (.mapLane .refl)) .refl)

theorem State.Keeps.sendTrainDone {n} (h : s.Keeps t) : s.Keeps (t.sendTrainDone n) := .sendCtrl (.mapLane h)

@[simp] theorem execTrainDoneSend_keeps {n ber1e9} : s.KeepsOut (execTrainDoneSend n ber1e9 s) :=
  .next (.ite .refl (.trainEnds (.sendTrainDone (.mapLane .refl))))

theorem State.Keeps.laneTick {n} (h : s.Keeps t) : s.Keeps (t.laneTick n) :=
  .ite (.sendHello h) (.ite (.sendTrainDone h) h)

theorem State.Keeps.lanesTick (h : s.Keeps t) : s.Keeps t.lanesTick := .foldl h fun _ _ hu => .laneTick hu

@[simp] theorem execTrainDone_keeps {n} :
    s.KeepsOut (execTrainDone n s) := .next (.ite .refl (.trainEnds (.mapLane .refl)))

@[simp] theorem execTrainLimitExpiry_keeps {n} : s.KeepsOut (execTrainLimitExpiry n s) := by
  unfold execTrainLimitExpiry
  refine .next (.ite .refl (.ite (.enterLock (.mapLane .refl)) ?_))
  exact .ite (.enterLock (.mapLane .refl)) (.bell (.enterLane (.mapLane .refl)))

@[simp] theorem execRateSeekTimeout_keeps {n} : s.KeepsOut (execRateSeekTimeout n s) :=
  .next (.ite (.enterLock (.mapLane .refl)) .refl)

theorem State.Keeps.laneComesUp {n uid} (h : s.Keeps t) : s.Keeps (t.laneComesUp n uid) :=
  .viewsLaneUp (.bell (.put (.put (.mapLane (.enterLane h)))))

@[simp] theorem execHello_keeps {n m} : s.KeepsOut (execHello n m s) := by
  unfold execHello
  refine .next (.ite (.laneDown .refl) (.ite .refl (.ite (.bell (.laneCount .refl)) ?_)))
  exact .ite (.laneComesUp (.sendHello (.mapLane .refl))) (.sendHello (.mapLane .refl))

@[simp] theorem execHelloTimeout_keeps {n} :
    s.KeepsOut (execHelloTimeout n s) := .next (.ite (.enterLane .refl) .refl)

@[simp] theorem execHoldoffExpiry_keeps {n} :
    s.KeepsOut (execHoldoffExpiry n s) := .next (.ite (.enterLock .refl) .refl)

theorem State.Keeps.sendNak {n} (h : s.Keeps t) :
    s.Keeps (t.sendNak n) := .ite h (.sendCtrl (.laneCount (.mapLane h)))

theorem State.Keeps.acceptSeq {n} (h : s.Keeps t) : s.Keeps (t.acceptSeq n) := .sendCtrl (.mapLane h)

theorem State.Keeps.laneReply {n r status ty data} (h : s.Keeps t) : s.Keeps (t.laneReply n r status ty data) :=
  .ite (.send (.tx (.owe h))) h

@[simp] theorem execPktReceive_keeps {n p} : s.KeepsOut (execPktReceive n p s) := by
  unfold execPktReceive
  refine .next (.ite .refl (.ite (.sendNak (.ite (.laneCount .refl) .refl))
    (.ite (.sendNak (.laneCount (.ite (.laneCount .refl) .refl))) ?_)))
  exact .via (.acceptSeq (.ite (.laneCount .refl) .refl)) fun h1 =>
    .ite (.laneCount h1) (.ite (.laneReply h1) (.update h1))

@[simp] theorem execCredit_keeps {n seq view ring count} : s.KeepsOut (execCredit n seq view ring count s) := by
  unfold execCredit
  refine .next (.ite .refl (.ite (.sendNak .refl) ?_))
  exact .ite (.grant (.acceptSeq .refl)) (.laneCount (.acceptSeq .refl))

@[simp] theorem execAck_keeps {n seq} : s.KeepsOut (execAck n seq s) := by
  unfold execAck
  refine .next (.ite .refl ?_)
  split
  · exact .laneCount .refl
  · exact .flushLane (.linesAcked (.mapLane .refl))

theorem State.Keeps.replay {n i} (h : s.Keeps t) : s.Keeps (t.replay n i) :=
  .ite (.laneDown (.mapLane (.laneCount h))) (.putPackets (.mapLane (.laneCount h)))

@[simp] theorem execNak_keeps {n seq} : s.KeepsOut (execNak n seq s) := by
  unfold execNak
  refine .next (.ite .refl ?_)
  dsimp only
  split
  · exact .laneCount (.laneCount .refl)
  · exact .replay (.laneCount .refl)

@[simp] theorem execReplayTimeout_keeps {n} : s.KeepsOut (execReplayTimeout n s) :=
  .next (.ite (.replay (.laneCount .refl)) .refl)

@[simp] theorem execLinkStallTimeout_keeps {n} :
    s.KeepsOut (execLinkStallTimeout n s) := .next (.ite (.laneDown .refl) .refl)

@[simp] theorem execDown_keeps {n cause} : s.KeepsOut (execDown n cause s) := .next (.ite (.laneDown .refl) .refl)

@[simp] theorem execTimeSyncSend_keeps {n} : s.KeepsOut (execTimeSyncSend n s) :=
  .next (.ite (.sendCtrl (.mapLane .refl)) .refl)

@[simp] theorem execTimeSync_keeps {n t1 t2 t3} : s.KeepsOut (execTimeSync n t1 t2 t3 s) :=
  .next (.ite (.sendCtrl (.mapLane .refl)) .refl)

@[simp] theorem execTimeReq_keeps {n t3 t4} : s.KeepsOut (execTimeReq n t3 t4 s) :=
  .next (.ite (.sendCtrl (.laneCount .refl)) .refl)

@[simp] theorem execTimeResp_keeps {n t4 t3} : s.KeepsOut (execTimeResp n t4 t3 s) := by
  unfold execTimeResp
  exact .next (.ite (.via (.put (.laneCount (.mapLane .refl))) fun h1 => .ite (.sourceEvent h1) h1) .refl)

theorem State.Keeps.sendRoleReq {n role num} (h : s.Keeps t) : s.Keeps (t.sendRoleReq n role num) := .sendCtrl h

theorem State.Keeps.sendRoleResp {n num status} (h : s.Keeps t) : s.Keeps (t.sendRoleResp n num status) := .sendCtrl h

theorem State.Keeps.writeRoleReq {n v} (h : s.Keeps t) : s.Keeps (t.writeRoleReq n v) :=
  .ite (.sendRoleReq (.put (.mapLane h))) (.put (.mapLane h))

@[simp] theorem execTtRoleReq_keeps {n v} :
    s.KeepsOut (execTtRoleReq n v s) := .next (.ite .refl (.writeRoleReq .refl))

theorem State.Keeps.grantRole {n role num} (h : s.Keeps t) : s.Keeps (t.grantRole n role num) :=
  .ite (.setRole (.sendRoleResp (.mapLane h))) (.sendRoleResp (.mapLane h))

theorem State.Keeps.collideRole {n num} (h : s.Keeps t) : s.Keeps (t.collideRole n num) := .sendRoleResp (.mapLane h)

@[simp] theorem execRoleReq_keeps {n role num} : s.KeepsOut (execRoleReq n role num s) := by
  unfold execRoleReq
  refine .next (.ite .refl (.ite (.sendRoleResp .refl) (.ite (.grantRole .refl) (.ite (.collideRole .refl) ?_))))
  exact .ite (.grantRole (.put (.mapLane .refl))) (.bell (.collideRole .refl))

@[simp] theorem execRoleResp_keeps {n num status} : s.KeepsOut (execRoleResp n num status s) := by
  unfold execRoleResp
  refine .next ?_
  split
  · exact .refl
  · exact .ite .refl (.ite (.setRole (.put (.mapLane .refl))) (.put (.mapLane .refl)))

@[simp] theorem execRoleReqRetry_keeps {n} : s.KeepsOut (execRoleReqRetry n s) := by
  unfold execRoleReqRetry
  refine .next ?_
  split
  · exact .refl
  · exact .ite .refl (.ite (.put (.mapLane .refl)) (.ite (.sendRoleReq (.mapLane .refl)) (.mapLane .refl)))

theorem State.Keeps.writeEyeGo {v} (h : s.Keeps t) : s.Keeps (t.writeEyeGo v) :=
  .ite h (.ite (.put h) (.update (.put (.put h))))

@[simp] theorem execEyeGo_keeps {v} : s.KeepsOut (execEyeGo v s) := .next (.writeEyeGo .refl)

@[simp] theorem execEyePointDone_keeps {symbols errors} : s.KeepsOut (execEyePointDone symbols errors s) := by
  unfold execEyePointDone
  refine .next ?_
  split
  · exact .refl
  · exact .ite (.put (.update (.put (.putBytes .refl)))) (.put (.putBytes .refl))

/-! ## Mallet profiles (13) -/

theorem State.Keeps.setBankAct {b x} (h : s.Keeps t) : s.Keeps (t.setBankAct b x) := by
  unfold State.setBankAct
  refine .putBytes ?_
  split
  · exact .put (.update h)
  · exact .put (.put (.update h))

theorem State.Keeps.mapProfile {b f} (h : s.Keeps t) : s.Keeps (t.mapProfile b f) := .setBankAct h

theorem State.Keeps.countCoil {b c i} (h : s.Keeps t) : s.Keeps (t.countCoil b c i) := .bumpLe h

theorem State.Keeps.clapOpened (h : s.Keeps t) : s.Keeps t.clapOpened := .put (.update h)

theorem State.Keeps.writeMallet {b entries off bytes} (h : s.Keeps t) :
    s.Keeps (t.writeMallet b entries off bytes).1 :=
  .iteFst h (.iteFst h (.put (.ite (.putBytes h) (.foldl (.putBytes h) fun _ _ hu => .putLe hu))))

@[simp] theorem execMalletStoreWrite_keeps {b entries off bytes} :
    s.KeepsOut (execMalletStoreWrite b entries off bytes s) :=
  .next (.writeMallet .refl)

theorem State.Keeps.placeProfile {b q} (h : s.Keeps t) : s.Keeps (t.placeProfile b q) := by
  unfold State.placeProfile
  exact .setBankAct h

theorem State.Keeps.startProfile {b q} (h : s.Keeps t) : s.Keeps (t.startProfile b q) := .countCoil (.placeProfile h)

theorem State.Keeps.serveQueue {b} (h : s.Keeps t) : s.Keeps (t.serveQueue b) := by
  unfold State.serveQueue
  split
  · exact h
  · exact .ite (.startProfile (.setBankAct h)) h

theorem State.Keeps.closureFailed {close cause} (h : s.Keeps t) : s.Keeps (t.closureFailed close cause) :=
  .ite (.calFail h) h

theorem State.Keeps.abortProfile {b cause} (h : s.Keeps t) : s.Keeps (t.abortProfile b cause) := by
  unfold State.abortProfile
  split
  · exact h
  · exact .via (.bell (.countCoil (.put (.setBankAct h)))) fun h1 =>
      .via (.closureFailed (.ite (.clapOpened h1) h1)) fun h2 => .ite h2 (.serveQueue h2)

theorem State.Keeps.flagCloses {b p} (h : s.Keeps t) : s.Keeps (t.flagCloses b p) := .ite (.put (.put (.update h))) h

theorem State.Keeps.posCheck (h : s.Keeps t) : s.Keeps t.posCheck :=
  .ite (.closureFailed (.clapOpened (.bell (.countCoil (.put h))))) h

theorem State.Keeps.posWatch (h : s.Keeps t) : s.Keeps t.posWatch :=
  .ite h (.posCheck (.foldl h fun _ _ hu => .abortProfile hu))

theorem State.Keeps.completeProfile {b p} (h : s.Keeps t) : s.Keeps (t.completeProfile b p) :=
  .serveQueue (.posCheck (.update (.put (.countCoil (.setBankAct h)))))

theorem State.Keeps.queueProfile {b q} (h : s.Keeps t) : s.Keeps (t.queueProfile b q) :=
  .ite (.setBankAct h) (.ite (.setBankAct h) (.setBankAct h))

theorem State.Keeps.actCommand {b q bad named} (h : s.Keeps t) : s.Keeps (t.actCommand b q bad named) := by
  unfold State.actCommand
  split
  · dsimp only
    split
    · exact .ite (.startProfile (.ite (.setBankAct h) h)) (.queueProfile h)
    · exact .ite (.countCoil (.placeProfile (.ite (.setBankAct h) h))) (.queueProfile h)
  · exact .bell (.ite (.countCoil (.put h)) (.put h))

@[simp] theorem execClapper_keeps {l} : s.KeepsOut (execClapper l s) := .next (.land .refl fun _ h => .actCommand h)

@[simp] theorem execActStart_keeps {l} : s.KeepsOut (execActStart l s) := .next (.land .refl fun _ h => .actCommand h)

theorem State.Keeps.mallet {b op f} (h : s.Keeps t) (hf : ∀ p w, s.Keeps (f p w)) : s.Keeps (t.mallet b op f) := by
  unfold State.mallet
  split
  · exact h
  · exact .ite h (.ite (.abortProfile h) (.ite (.abortProfile h) (.ite (hf _ _) h)))

theorem State.Keeps.malletStep {b p} (h : s.Keeps t) : s.Keeps (t.malletStep b p) :=
  .ite (.abortProfile (.setBankAct h)) (.setBankAct h)

theorem State.Keeps.driveBegins {b p} (h : s.Keeps t) : s.Keeps (t.driveBegins b p) := .ite (.clapOpened h) h

theorem State.Keeps.drive {b p w} (h : s.Keeps t) : s.Keeps (t.drive b p w) := by
  unfold State.drive
  split
  · exact .malletStep (.driveBegins h)
  · exact .setBankAct (.driveBegins h)
  · exact .malletStep (.driveBegins h)

theorem State.Keeps.driveOrWait {b p w} (h : s.Keeps t) : s.Keeps (t.driveOrWait b p w) :=
  .ite (.drive h) (.setBankAct (.stallRoll h))

@[simp] theorem execTarget_keeps {b} :
    s.KeepsOut (execTarget b s) := .next (.mallet .refl fun _ _ => .driveOrWait .refl)

@[simp] theorem execRamp_keeps {b} : s.KeepsOut (execRamp b s) := .next (.mallet .refl fun _ _ => .driveOrWait .refl)

@[simp] theorem execHold_keeps {b} : s.KeepsOut (execHold b s) := .next (.mallet .refl fun _ _ => .driveOrWait .refl)

@[simp] theorem execDriveStickWaitEnd_keeps {b} : s.KeepsOut (execDriveStickWaitEnd b s) := by
  unfold execDriveStickWaitEnd
  refine .next ?_
  split
  · exact .ite (.drive .refl) .refl
  · exact .refl

theorem State.Keeps.judgePeak {b p us} (h : s.Keeps t) : s.Keeps (t.judgePeak b p us) :=
  .ite (.abortProfile h) (.ite (.abortProfile h) (.ite (.malletStep (.put h)) (.abortProfile h)))

@[simp] theorem execWaitPeak_keeps {b} : s.KeepsOut (execWaitPeak b s) := by
  unfold execWaitPeak
  refine .next (.mallet .refl fun _ _ => ?_)
  split
  · exact .judgePeak (.setBankAct .refl)
  · exact .setBankAct .refl

@[simp] theorem execPeakReached_keeps {b ma} : s.KeepsOut (execPeakReached b ma s) := by
  unfold execPeakReached
  refine .next ?_
  split
  · exact .refl
  · exact .ite .refl (.ite (.judgePeak (.mapProfile .refl)) (.mapProfile .refl))

@[simp] theorem execWaitPeakTimeout_keeps {b} : s.KeepsOut (execWaitPeakTimeout b s) := by
  unfold execWaitPeakTimeout
  refine .next ?_
  split
  · exact .ite (.abortProfile .refl) .refl
  · exact .refl

theorem State.Keeps.decay {b p w mode} (h : s.Keeps t) : s.Keeps (t.decay b p w mode) := .setBankAct h

@[simp] theorem execDecayFast_keeps {b} :
    s.KeepsOut (execDecayFast b s) := .next (.mallet .refl fun _ _ => .decay .refl)

@[simp] theorem execDecaySlow_keeps {b} :
    s.KeepsOut (execDecaySlow b s) := .next (.mallet .refl fun _ _ => .decay .refl)

@[simp] theorem execDecayFloorReached_keeps {b} : s.KeepsOut (execDecayFloorReached b s) := by
  unfold execDecayFloorReached
  refine .next ?_
  split
  · exact .ite .refl (.ite (.completeProfile .refl) (.malletStep .refl))
  · exact .ite (.serveQueue (.setBankAct .refl)) .refl

@[simp] theorem execWaitTime_keeps {b} :
    s.KeepsOut (execWaitTime b s) := .next (.mallet .refl fun _ _ => .setBankAct .refl)

@[simp] theorem execWaitTimeEnd_keeps {b} : s.KeepsOut (execWaitTimeEnd b s) := by
  unfold execWaitTimeEnd
  refine .next ?_
  split
  · exact .ite (.malletStep .refl) .refl
  · exact .refl

@[simp] theorem execMeasureDip_keeps {b} : s.KeepsOut (execMeasureDip b s) :=
  .next (.mallet .refl fun _ _ => .ite .refl (.malletStep .refl))

@[simp] theorem execMeasurePos_keeps {b} : s.KeepsOut (execMeasurePos b s) := by
  unfold execMeasurePos
  refine .next (.mallet .refl fun _ _ => ?_)
  exact .ite .refl (.ite (.abortProfile (.malletStep .refl)) (.malletStep .refl))

@[simp] theorem execMeasureCurrent_keeps {b ma} : s.KeepsOut (execMeasureCurrent b ma s) :=
  .next (.mallet .refl fun _ _ => .ite .refl (.malletStep (.put .refl)))

@[simp] theorem execBranch_keeps {b} : s.KeepsOut (execBranch b s) :=
  .next (.mallet .refl fun _ _ => .ite (.setBankAct .refl) (.malletStep .refl))

@[simp] theorem execMalletEnd_keeps {b} : s.KeepsOut (execMalletEnd b s) := by
  unfold execMalletEnd
  refine .next (.mallet .refl fun _ _ => ?_)
  exact .ite (.setBankAct (.flagCloses .refl)) (.completeProfile (.flagCloses .refl))

@[simp] theorem execDipDetected_keeps {b ma us} : s.KeepsOut (execDipDetected b ma us s) := by
  unfold execDipDetected
  refine .next ?_
  split
  · exact .refl
  · split
    · exact .refl
    · exact .ite .refl (.ite (.mapProfile .refl) (.abortProfile .refl))

@[simp] theorem execClapPosChange_keeps {level} :
    s.KeepsOut (execClapPosChange level s) := .next (.posWatch (.update .refl))

@[simp] theorem execMalletTimeout_keeps {b} : s.KeepsOut (execMalletTimeout b s) := by
  unfold execMalletTimeout
  refine .next ?_
  split
  · exact .refl
  · exact .ite (.abortProfile .refl) (.ite (.abortProfile .refl) .refl)

@[simp] theorem execOverCurrent_keeps {b ma} :
    s.KeepsOut (execOverCurrent b ma s) := .next (.ite (.abortProfile .refl) .refl)

@[simp] theorem execVactUndervoltage_keeps {mv} : s.KeepsOut (execVactUndervoltage mv s) :=
  .next (.ite (.foldl (.update .refl) fun _ _ h => .abortProfile h) (.update .refl))

theorem State.Keeps.coilStep {b c ma} (h : s.Keeps t) : s.Keeps (t.coilStep b c ma).1 := .put (.update h)

theorem State.Keeps.chargeAct {b e} (h : s.Keeps t) : s.Keeps (t.chargeAct b e) :=
  .ite (.update h) (.bumpLe (.update (.update h)))

@[simp] theorem execCoilModelUpdate_keeps {ma} : s.KeepsOut (execCoilModelUpdate ma s) := by
  unfold execCoilModelUpdate
  refine .next (.foldl .refl fun t b h => ?_)
  extract_lets +onlyGivenNames r t1
  have h1 : s.Keeps t1 := .chargeAct (.foldlFst h fun _ _ hu => .coilStep hu)
  split
  · exact h1
  · exact .ite (.abortProfile (.mapProfile h1)) (.mapProfile h1)

theorem State.Keeps.tripped (h : s.Keeps t) : s.Keeps t.tripped := by
  unfold State.tripped
  exact .via (.clapOpened (.put (.bump (.put (.foldl (.foldl h fun _ _ hu => .abortProfile hu) fun _ _ hu =>
    .setBankAct hu))))) fun h1 => .ite (.bell h1) h1

@[simp] theorem execTrip_keeps {ns} : s.KeepsOut (execTrip ns s) := by
  unfold execTrip
  refine .next (.ite (.update .refl) (.ite .refl ?_))
  exact .ite (.tripped (.update .refl)) (.ite (.tripped (.update (.drawn .refl))) (.drawn .refl))

theorem State.Keeps.writeTripActive {v} (h : s.Keeps t) : s.Keeps (t.writeTripActive v) :=
  .ite h (.ite (.bell (.bump h)) (.put h))

@[simp] theorem execTripActiveClear_keeps {v} : s.KeepsOut (execTripActiveClear v s) := .next (.writeTripActive .refl)

/-! ## Flash, service chain and accessory bus (12) -/

theorem State.Keeps.writeFlash {off bytes} (h : s.Keeps t) : s.Keeps (t.writeFlash off bytes).1 :=
  .iteFst h (.iteFst h (.iteFst h (.flashAsk (.put h))))

@[simp] theorem execFlashWindowWrite_keeps {off bytes} : s.KeepsOut (execFlashWindowWrite off bytes s) :=
  .next (.writeFlash .refl)

theorem State.Keeps.failedProgram {a bs} (h : s.Keeps t) : s.Keeps (t.failedProgram a bs) := .drawn (.poke h)

theorem State.Keeps.flashFail {a len code} (h : s.Keeps t) : s.Keeps (t.flashFail a len code) :=
  .flashStart (.bell (.put (.put (.put (.update h)))))

theorem State.Keeps.polled (h : s.Keeps t) : s.Keeps t.polled := .send (.update h)

theorem State.Keeps.flashReadBack {a n} (h : s.Keeps t) : s.Keeps (t.flashReadBack a n) := .ite (.send (.owe h)) h

@[simp] theorem execFlashStatusPoll_keeps {r} : s.KeepsOut (execFlashStatusPoll r s) := by
  unfold execFlashStatusPoll
  refine .next ?_
  split
  · exact .flashStart .refl
  · exact .refl
  · exact .refl
  · refine .ite .refl (.ite (.polled .refl)
      (.ite (.flashFail (.failedProgram (.flashReadBack (.polled .refl))))
      (.ite (.flashFail (.poke (.flashReadBack (.polled .refl)))) ?_)))
    exact .via (.put (.bump (.update (.poke (.flashReadBack (.polled .refl)))))) fun h1 =>
      .flashStart (.ite (.put h1) h1)
  · exact .ite .refl (.ite (.polled .refl) (.flashStart (.put (.update (.wipe (.polled .refl))))))

@[simp] theorem execFlashProgramTimeout_keeps : s.KeepsOut (execFlashProgramTimeout s) := by
  unfold execFlashProgramTimeout
  refine .next ?_
  split
  · exact .ite (.flashFail (.bump (.failedProgram .refl))) .refl
  · exact .refl

theorem State.Keeps.writeEraseGo {v} (h : s.Keeps t) : s.Keeps (t.writeEraseGo v).1 :=
  .iteFst h (.iteFst h (.iteFst (.put h) (.flashAsk (.put h))))

@[simp] theorem execEraseGo_keeps {v} : s.KeepsOut (execEraseGo v s) := .next (.writeEraseGo .refl)

@[simp] theorem execEraseTimeout_keeps : s.KeepsOut (execEraseTimeout s) := by
  unfold execEraseTimeout
  refine .next ?_
  split
  · exact .ite (.flashStart (.bell (.put (.bump (.update (.drawn (.poke .refl))))))) .refl
  · exact .refl

theorem State.Keeps.svcReply {r status ty data} (h : s.Keeps t) : s.Keeps (t.svcReply r status ty data) :=
  .send (.update h)

theorem State.Keeps.loadStatus (h : s.Keeps t) : s.Keeps t.loadStatus := .update h

theorem State.Keeps.svcRequest {ws} (h : s.Keeps t) : s.Keeps (t.svcRequest ws) := by
  unfold State.svcRequest
  split
  · exact .bump h
  · exact .ite (.svcReply h) (.update h)

theorem State.Keeps.svcInput {w} (h : s.Keeps t) : s.Keeps (t.svcInput w) :=
  .ite (.ite (.update h) h) (.ite (.svcRequest (.update (.update h))) (.update h))

theorem State.Keeps.svcOutput {announced} (h : s.Keeps t) : s.Keeps (t.svcOutput announced) := by
  unfold State.svcOutput
  split
  · exact .update h
  · split
    · exact .update h
    · exact .loadStatus h

@[simp] theorem execSspiFrame_keeps {clocks input early} : s.KeepsOut (execSspiFrame clocks input early s) := by
  unfold execSspiFrame
  refine .next (.ite (.ite .refl (.send .refl))
    (.ite .refl (.ite (.loadStatus (.bump (.send (.update .refl)))) (.ite (.bump .refl) (.ite .refl ?_)))))
  exact .svcOutput (.svcInput (.update (.send (.ite (.put .refl) .refl))))

@[simp] theorem execSspiRequestTimeout_keeps : s.KeepsOut (execSspiRequestTimeout s) :=
  .next (.ite (.bump (.update .refl)) .refl)

theorem State.Keeps.accSend {l} (h : s.Keeps t) : s.Keeps (t.accSend l) := .send h

theorem State.Keeps.accBegin (h : s.Keeps t) : s.Keeps t.accBegin := .update h

theorem State.Keeps.accDrop {code} (h : s.Keeps t) : s.Keeps (t.accDrop code) :=
  .via (.ite (.put (.update h)) (.update h)) fun h1 => .ite (.put h1) h1

theorem State.Keeps.accStuck {cause} (h : s.Keeps t) : s.Keeps (t.accStuck cause) := .bell (.put (.put (.accDrop h)))

theorem State.Keeps.targetWrite {bytes} (h : s.Keeps t) : s.Keeps (t.targetWrite bytes) := by
  unfold State.targetWrite
  refine .bell (.bump ?_)
  split
  · exact h
  · exact .foldl (.update h) fun _ _ hu => .put hu

theorem State.Keeps.targetRead {n} (h : s.Keeps t) : s.Keeps (t.targetRead n) := .accSend h

@[simp] theorem execAccTargetWrite_keeps {bytes} : s.KeepsOut (execAccTargetWrite bytes s) :=
  .next (.ite (.targetWrite .refl) .refl)

@[simp] theorem execAccTargetRead_keeps {n} :
    s.KeepsOut (execAccTargetRead n s) := .next (.ite (.targetRead .refl) .refl)

theorem State.Keeps.lensLost {st} (h : s.Keeps t) : s.Keeps (t.lensLost st) := .ite (.bell (.put h)) (.put h)

theorem State.Keeps.lensHeader {bytes} (h : s.Keeps t) : s.Keeps (t.lensHeader bytes) :=
  .ite (.lensLost h) (.ite (.put (.update (.putBytes h))) (.put (.update (.putBytes h))))

theorem State.Keeps.lensGrid {grid} (h : s.Keeps t) : s.Keeps (t.lensGrid grid) :=
  .ite (.placeGrid (.bump (.put (.update h)))) (.put h)

theorem State.Keeps.accPop (h : s.Keeps t) : s.Keeps t.accPop := .update h

theorem State.Keeps.ownAccess {x0} (h : s.Keeps t) : s.Keeps (t.ownAccess x0) := by
  unfold State.ownAccess
  split
  · exact .ite (.targetWrite h) h
  · exact .ite (.targetRead h) h
  · exact h

theorem State.Keeps.accEnd {q} (h : s.Keeps t) : s.Keeps (t.accEnd q) := by
  unfold State.accEnd
  split
  · exact .accStuck (.accSend (.accBegin h))
  · exact .via (.bump (.ownAccess (.accSend (.accBegin h)))) fun h1 =>
      .ite (.update h1) (.bell (.ite (.put (.accPop h1)) (.ite (.accPop h1) (.put (.accPop h1)))))
  · refine .ite (.lensGrid (.accPop (.accSend (.accBegin h)))) (.ite ?_ ?_)
    · exact .lensHeader (.accPop (.accSend (.accBegin h)))
    · exact .putBytes (.put (.accPop (.accSend (.accBegin h))))
  · exact .ite (.lensLost (.accPop (.accSend (.accBegin h)))) (.put (.accPop (.accSend (.accBegin h))))
  · exact .ite (.lensLost (.accPop (.accSend (.accBegin h)))) (.put (.accPop (.accSend (.accBegin h))))

theorem State.Keeps.accRun {k} (h : s.Keeps t) : s.Keeps (State.accRun k t) := by
  induction k generalizing t with
  | zero => exact h
  | succ k ih =>
    refine .ite h ?_
    split
    · exact h
    · exact .ite (.accBegin (.update h)) (ih (.accEnd h))

theorem State.Keeps.accGo (h : s.Keeps t) : s.Keeps t.accGo := .accRun h

theorem State.Keeps.accAsk {q} (h : s.Keeps t) : s.Keeps (t.accAsk q) := .accGo (.update h)

theorem State.Keeps.accOn (h : s.Keeps t) : s.Keeps t.accOn := .accGo (.put (.put (.update h)))

theorem State.Keeps.accTest {t'} (h : s.Keeps t) : s.Keeps (t.accTest t') := by
  unfold State.accTest
  refine .ite (.update (.accBegin h)) (.ite (.accOn (.accBegin h)) ?_)
  exact .ite (.accOn (.accSend (.accBegin h))) (.accStuck (.accSend (.accBegin h)))

theorem State.Keeps.writeAccEnable {v t'} (h : s.Keeps t) : s.Keeps (t.writeAccEnable v t') :=
  .ite (.put (.accDrop h)) (.accTest h)

@[simp] theorem execAccEnable_keeps {v toggles sdaHigh pulses} :
    s.KeepsOut (execAccEnable v toggles sdaHigh pulses s) :=
  .next (.ite .refl (.writeAccEnable .refl))

@[simp] theorem execAccStretchTimeout_keeps :
    s.KeepsOut (execAccStretchTimeout s) := .next (.ite (.accStuck .refl) .refl)

theorem State.Keeps.writeXferGo {v r} (h : s.Keeps t) : s.Keeps (t.writeXferGo v r).1 := by
  unfold State.writeXferGo
  refine .iteFst h (.iteFst h (.iteFst (.put h) (.iteFst (.put h) ?_)))
  dsimp only
  exact .accAsk (.put h)

@[simp] theorem execXferGo_keeps {v r} : s.KeepsOut (execXferGo v r s) := .next (.writeXferGo .refl)

@[simp] theorem execAccStopCondition_keeps {r} : s.KeepsOut (execAccStopCondition r s) := by
  unfold execAccStopCondition
  refine .next (.ite .refl (.ite (.accTest .refl) ?_))
  split
  · exact .refl
  · exact .ite (.accGo (.accEnd (.update .refl))) .refl

@[simp] theorem execLensPoll_keeps {r} : s.KeepsOut (execLensPoll r s) := .next (.ite .refl (.accAsk (.update .refl)))

@[simp] theorem execLensGridReadDone_keeps {r} : s.KeepsOut (execLensGridReadDone r s) := by
  unfold execLensGridReadDone
  refine .next ?_
  split
  · exact .refl
  · exact .ite (.accGo (.accEnd .refl)) .refl

/-! ## Power, start-up and heat (15) -/

theorem State.Keeps.enterStage {k} (h : s.Keeps t) : s.Keeps (t.enterStage k) := .putLe (.put h)

theorem State.Keeps.restart {cause wake} (h : s.Keeps t) : s.Keeps (t.restart cause wake) := .put (.put (.update h))

theorem State.Keeps.flashFinish (h : s.Keeps t) : s.Keeps t.flashFinish := by
  unfold State.flashFinish
  dsimp only
  split
  · exact .poke (.saveTear h)
  · exact .wipe (.saveTear h)
  · exact .saveTear h

theorem State.Keeps.flashTear (h : s.Keeps t) : s.Keeps t.flashTear := by
  unfold State.flashTear
  dsimp only
  split
  · exact .drawn (.poke (.saveTear h))
  · exact .drawn (.poke (.saveTear h))
  · exact .saveTear h

@[simp] theorem execAonPowerOn_keeps :
    s.KeepsOut (execAonPowerOn s) := .next (.ite .refl (.nvmErase (.put (.update .refl))))

@[simp] theorem execResetNLow_keeps {ns} : s.KeepsOut (execResetNLow ns s) :=
  .next (.ite .refl (.update (.restart (.flashFinish .refl))))

theorem State.Keeps.bringUp (h : s.Keeps t) : s.Keeps t.bringUp := .foldl h fun _ _ hu => .ite (.turnOn hu) hu

theorem State.Keeps.lanesStart (h : s.Keeps t) : s.Keeps t.lanesStart := .foldl h fun _ _ hu => .startLane hu

@[simp] theorem execStage1Entry_keeps : s.KeepsOut (execStage1Entry s) := by
  unfold execStage1Entry
  refine .next (.ite .refl ?_)
  exact .via (.bringUp (.enterStage (.update .refl))) fun h1 =>
    .via (.put (.loadStatus (.ite (.put h1) h1))) fun h2 => .ite h2 (.event (.bell h2))

@[simp] theorem execRailGood_keeps {r} : s.KeepsOut (execRailGood r s) := by
  unfold execRailGood
  refine .next ?_
  exact .via (.ite (.drawn (.update .refl)) (.update .refl)) fun h1 => .ite (.lanesStart (.bringUp h1)) h1

@[simp] theorem execRailGoodTimeout_keeps {d} :
    s.KeepsOut (execRailGoodTimeout d s) := .next (.ite (.bell .refl) .refl)

@[simp] theorem execRailLost_keeps {r} : s.KeepsOut (execRailLost r s) :=
  .next (.ite (.restart (.event (.flashFinish (.update .refl)))) (.update .refl))

theorem State.Keeps.initMemories (h : s.Keeps t) : s.Keeps t.initMemories :=
  .copyRom (.foldl (.wipe h) fun _ _ hu => .bankView (.setBank (.setBank hu)))

theorem State.Keeps.stage3 {fresh} (h : s.Keeps t) : s.Keeps (t.stage3 fresh) := by
  unfold State.stage3
  refine .ite (.event (.bell (.put (.enterStage h)))) ?_
  exact .via (.bringUp (.put (.enterStage h))) fun h1 => .update (.ite (.initMemories h1) h1)

@[simp] theorem execStage3Entry_keeps : s.KeepsOut (execStage3Entry s) := .next (.ite (.stage3 .refl) .refl)

theorem State.Keeps.trimApply (h : s.Keeps t) : s.Keeps t.trimApply :=
  .lanesStart (.firstBoundary (.strokesAtTrim (.put (.put (.update h)))))

@[simp] theorem execReferencesSettled_keeps {readBack1 readBack2} :
    s.KeepsOut (execReferencesSettled readBack1 readBack2 s) := by
  unfold execReferencesSettled
  refine .next (.ite .refl (.ite (.trimApply .refl) (.event ?_)))
  exact .foldl (.bell (.put (.update .refl))) fun _ _ h => .ite (.turnOff h) h

theorem State.Keeps.closeForPower {v} (h : s.Keeps t) : s.Keeps (t.closeForPower v) :=
  .ite (.closeAsked h) (.mapView (.closeAsked h))

theorem State.Keeps.leaveEnsemble (h : s.Keeps t) : s.Keeps t.leaveEnsemble :=
  .ite (.dropDrumSource (.sendLeave (.sendLeave (.put (.mapEns h))))) (.dropDrumSource (.ensOff h))

theorem State.Keeps.powerLeave {deep} (h : s.Keeps t) : s.Keeps (t.powerLeave deep) :=
  .via (.leaveEnsemble (.foldl h fun _ _ hu => .laneOff hu)) fun h1 => .ite (.sendHeartbeat h1) h1

theorem State.Keeps.enterRetain (h : s.Keeps t) : s.Keeps t.enterRetain := by
  unfold State.enterRetain
  exact .via (.update (.foldl (.powerLeave h) fun _ _ hu => .ite hu (.ite (.setDomain hu) (.turnOff hu)))) fun h1 =>
    .put (.mcView (.put (.ite (.put h1) h1)))

theorem State.Keeps.enterDeep {mode code} (h : s.Keeps t) : s.Keeps (t.enterDeep mode code) :=
  .foldl (.put (.update (.restart (.powerLeave (.flashFinish h))))) fun _ _ hu => .put hu

theorem State.Keeps.leaveRetain {wake} (h : s.Keeps t) : s.Keeps (t.leaveRetain wake) := by
  unfold State.leaveRetain
  exact .via (.wipe (.put (.put (.put (.update h))))) fun h1 => .via (.ite h1 (.stage3 (.wipe h1))) fun h2 =>
    .ite (.updateLock (.ensListen h2)) h2

theorem State.Keeps.wake {src ticks} (h : s.Keeps t) : s.Keeps (t.wake src ticks) := by
  unfold State.wake
  refine .ite h ?_
  split
  · exact .leaveRetain h
  · exact .update (.restart h)
  · exact .restart h
  · exact h

@[simp] theorem execWakeEdge_keeps {ns ticks} :
    s.KeepsOut (execWakeEdge ns ticks s) := .next (.ite .refl (.wake .refl))

@[simp] theorem execCanRxWake_keeps {ns ticks} :
    s.KeepsOut (execCanRxWake ns ticks s) := .next (.ite .refl (.wake .refl))

@[simp] theorem execSleepTimerExpiry_keeps {ticks} : s.KeepsOut (execSleepTimerExpiry ticks s) :=
  .next (.ite (.wake .refl) .refl)

@[simp] theorem execAonWakeCommand_keeps {ticks} : s.KeepsOut (execAonWakeCommand ticks s) :=
  .next (.ite (.wake (.send .refl)) .refl)

theorem State.Keeps.enterMode {v} (h : s.Keeps t) : s.Keeps (t.enterMode v) := by
  unfold State.enterMode
  split
  · exact .enterRetain h
  · exact .enterDeep h
  · exact .enterDeep h

theorem State.Keeps.powerGoesOn (h : s.Keeps t) : s.Keeps t.powerGoesOn := by
  unfold State.powerGoesOn
  split
  · exact .ite (.enterMode h) h
  · exact h

theorem State.Keeps.beginPower {v} (h : s.Keeps t) : s.Keeps (t.beginPower v) := by
  unfold State.beginPower
  exact .powerGoesOn (.update (.put (.foldl h fun _ _ hu => .closeForPower hu)))

theorem State.Keeps.writePowerMode {v} (h : s.Keeps t) : s.Keeps (t.writePowerMode v).1 := by
  unfold State.writePowerMode
  refine .iteFst h (.iteFst (.ite (.leaveRetain h) (.put h)) (.iteFst h (.iteFst (.put h) ?_)))
  dsimp only
  exact .beginPower h

@[simp] theorem execBeat_keeps :
    s.KeepsOut (execBeat s) := .next (.ite (.powerGoesOn (.lanesTick (.oneBeat .refl))) .refl)

@[simp] theorem execPowerModeRun_keeps : s.KeepsOut (execPowerModeRun s) := .next (.writePowerMode .refl)

@[simp] theorem execPowerModeRetain_keeps : s.KeepsOut (execPowerModeRetain s) := .next (.writePowerMode .refl)

@[simp] theorem execPowerModeSleep_keeps : s.KeepsOut (execPowerModeSleep s) := .next (.writePowerMode .refl)

@[simp] theorem execPowerModeStandby_keeps : s.KeepsOut (execPowerModeStandby s) := .next (.writePowerMode .refl)

theorem State.Keeps.throttle {tj} (h : s.Keeps t) : s.Keeps (t.throttle tj) := .ite h (.bell (.put (.update h)))

@[simp] theorem execSensorRead_keeps {temps} : s.KeepsOut (execSensorRead temps s) :=
  .next (.ite .refl (.throttle (.put (.put (.update .refl)))))

@[simp] theorem execThermalShutdown_keeps {sensor temp} : s.KeepsOut (execThermalShutdown sensor temp s) :=
  .next (.ite .refl (.pullGong (.update (.restart (.event (.drawn (.update (.flashTear .refl))))))))

@[simp] theorem execAonClearCommand_keeps {cool} : s.KeepsOut (execAonClearCommand cool s) :=
  .next (.ite .refl (.ite (.restart (.event (.update (.send .refl)))) (.update (.send .refl))))

@[simp] theorem execVddAonRemoval_keeps : s.KeepsOut (execVddAonRemoval s) := .next (.update .refl)

/-! ## Writes of objects (11) -/

theorem State.Keeps.stage {k v} (h : s.Keeps t) : s.Keeps (t.stage k v) := .update h

theorem State.Keeps.stageCtx {k v} (h : s.Keeps t) : s.Keeps (t.stageCtx k v) := .update h

theorem State.Keeps.stageBytes {f k bs} (hf : ∀ u k v, s.Keeps u → s.Keeps (f u k v)) (h : s.Keeps t) :
    s.Keeps (stageBytes f t k bs) := .foldl h fun u _ hu => hf u _ _ hu

theorem State.Keeps.writeImgConfig {k v} (h : s.Keeps t) : s.Keeps (t.writeImgConfig k v).1 := .iteFst (.put h) h

theorem State.Keeps.writeView {v sub k x} (h : s.Keeps t) : s.Keeps (t.writeView v sub k x).1 :=
  .iteFst h (.iteFst (.resetRings (.put h)) (.put h))

theorem State.Keeps.writeTrack {t' sub k v} (h : s.Keeps t) : s.Keeps (t.writeTrack t' sub k v) := .update (.put h)

theorem State.Keeps.writeSpecial {index sub v stamp} (h : s.Keeps t) :
    s.KeepsSome (t.writeSpecial index sub v stamp) := by
  unfold State.writeSpecial
  refine .ite (.ofPair (.writeView h)) (.ite ?_ ?_)
  · split
    · exact .some (.writeLaneEnable h)
    · exact .some (.writeTxPreset h)
    · exact .some (.writeTxFixed h)
    · exact .some (.writeRoleReq h)
    · exact .some (.writeLaneRestart h)
    · exact .none
  · refine .ite (.some (.writeFEng h)) (.ite (.some (.writeGimbal h))
      (.ite (.some (.writeTrack h)) (.ite (.ofPair (.iteFst (.writeMcFilter h) h)) ?_)))
    split
    · exact .ofPair (.writeBellAck h)
    · exact .some (.writeStepGo h)
    · exact .some (.updateLock (.put h))
    · exact .some (.updateLock (.put h))
    · exact .some (.writeSyncMode h)
    · exact .some (.writeRsGo h)
    · exact .some (.writeSunTripped h)
    · exact .some (.writeMcFilter h)
    · exact .some (.writeMcFilter h)
    · exact .some (.writeMcInjGo h)
    · exact .ofPair (.writeMcRd h)
    · exact .some (.writeMcCalCh h)
    · exact .some (.writeMcCalStep h)
    · exact .some (.writeStdReload h)
    · exact .ofPair (.writeImgConfig h)
    · exact .ofPair (.writeImgConfig h)
    · exact .ofPair (.writeImgConfig h)
    · exact .some (.ite h (.startSave h))
    · exact .some (.ite h (.writeImgLoad h))
    · exact .ofPair (.writeCommitGo h)
    · exact .some (.writeCreditGo h)
    · exact .some (.writeEyeGo h)
    · exact .some (.writeAllocApply h)
    · exact .some (.chop (.put h))
    · exact .some (.chop (.put h))
    · exact .some (.writeTripActive h)
    · exact .some (.posWatch (.put h))
    · exact .ofPair (.writeEraseGo h)
    · exact .some (.writeAccEnable (.drawn h))
    · exact .ofPair (.writeXferGo (.drawn h))
    · exact .some (.writeCanEnable h)
    · exact .some (.writeCanApply h)
    · exact .ofPair (.writePowerMode h)
    · exact .some (.update h)
    · exact .some (.writeEnsEnable h)
    · exact .none

theorem State.Keeps.clearScalar {k r v} (h : s.Keeps t) : s.Keeps (t.clearScalar k r v) :=
  .ite (.ite h (.put h)) (.put h)

theorem State.Keeps.writeScalar {index sub r v stamp} (h : s.Keeps t) :
    s.Keeps (t.writeScalar index sub r v stamp).1 := by
  unfold State.writeScalar
  refine .iteFst h ?_
  dsimp only
  split
  · rename_i y e
    exact State.Keeps.writeSpecial h y e
  · exact .iteFst (.clearScalar h) (.iteFst (.stage h) (.iteFst (.stageCtx h) (.put h)))

theorem State.Keeps.clearElements {index sub off bs} (h : s.Keeps t) : s.Keeps (t.clearElements index sub off bs) :=
  .foldl h fun _ _ hu => .ite (.putLe hu) hu

theorem State.Keeps.writeBlob {index sub r off bs0} (h : s.Keeps t) :
    s.Keeps (t.writeBlob index sub r off bs0).1 := by
  unfold State.writeBlob
  refine .iteFst h (.iteFst (.writeStrokes h)
    (.iteFst (.writeMallet h) (.iteFst (.stageBytes (fun _ _ _ hu => .stageCtx hu) h) ?_)))
  split
  · exact .writeStrokes h
  · exact .writeStrokes h
  · exact .writeProg h
  · exact .writeProg h
  · exact .writeTable h
  · exact .writeShade h
  · exact .writeInactive h
  · exact .writeFlash h
  · refine .iteFst h (.iteFst (.clearElements h) (.iteFst (.stageBytes (fun _ _ _ hu => .stage hu) h) ?_))
    exact .iteFst (.stageBytes (fun _ _ _ hu => .stage hu) h) (.putBytes h)

theorem State.Keeps.dictWrite {index sub off bytes stamp} (h : s.Keeps t) :
    s.Keeps (t.dictWrite index sub off bytes stamp).1 := by
  unfold State.dictWrite
  split
  · exact h
  · exact .iteFst h (.iteFst h (.iteFst (.writeBlob h) (.iteFst h (.writeScalar h))))

@[simp] theorem execRegisterWrite_keeps {r} : s.KeepsOut (execRegisterWrite r s) := .next (.dictWrite .refl)

/-! ## The dictionary server (11) -/

theorem State.Keeps.ktpSend {c bs} (h : s.Keeps t) : s.Keeps (t.ktpSend c bs) := .ite (.sendCan h) h

theorem State.Keeps.ktpAbort {c code} (h : s.Keeps t) : s.Keeps (t.ktpAbort c code) := .ite (.ktpSend (.bump h)) h

theorem State.Keeps.mapSession {c f} (h : s.Keeps t) : s.Keeps (t.mapSession c f) := .update h

theorem State.Keeps.setXfer {c x} (h : s.Keeps t) : s.Keeps (t.setXfer c x) := .mapSession h

theorem State.Keeps.answer {t' r status ty data} (h : s.Keeps t) : s.Keeps (t.answer t' r status ty data) :=
  .ite (.ite (.svcReply h) h) (.laneReply h)

theorem State.Keeps.serveWide {t' r} (h : s.Keeps t) : s.Keeps (t.serveWide t' r) := by
  unfold State.serveWide
  refine .ite (.answer h) (.ite (.answer h) ?_)
  exact .ite (.ite (.answer h) (.answer (.dictWrite h))) (.ite (.flashAsk h) (.answer h))

@[simp] theorem execKtpOpen_keeps {c server serial tag} : s.KeepsOut (execKtpOpen c server serial tag s) :=
  .next (.ite .refl (.ite (.ktpSend (.update (.canHeard .refl))) (.update (.canHeard .refl))))

theorem State.Keeps.canRequest {c r} (h : s.Keeps t) : s.Keeps (t.canRequest c r) :=
  .ite h (.ite (.ktpSend (.mapSession (.canHeard h))) (.update (.mapSession (.canHeard h))))

@[simp] theorem execKtpRead_keeps {c tag index sub} :
    s.KeepsOut (execKtpRead c tag index sub s) := .next (.canRequest .refl)

@[simp] theorem execKtpWrite_keeps {c tag index sub data} : s.KeepsOut (execKtpWrite c tag index sub data s) :=
  .next (.canRequest .refl)

@[simp] theorem execReadActive_keeps {c tag index sub} : s.KeepsOut (execReadActive c tag index sub s) :=
  .next (.canRequest .refl)

theorem State.Keeps.dataOut {c x bs} (h : s.Keeps t) : s.Keeps (t.dataOut c x bs) :=
  .ite (.ktpSend (.setXfer (.owe h))) (.foldl (.setXfer (.owe h)) fun _ _ hu => .ktpSend hu)

theorem State.Keeps.sendData {c x} (h : s.Keeps t) : s.Keeps (t.sendData c x) := by
  unfold State.sendData
  split
  · exact h
  · exact .ite (.flashAsk (.setXfer h)) (.dataOut h)

theorem State.Keeps.initiate {c cmd tag index sub offset length} (h : s.Keeps t) :
    s.Keeps (t.initiate c cmd tag index sub offset length) := by
  unfold State.initiate
  exact .via (.ktpSend (.setXfer (.ite (.ktpAbort h) h))) fun h1 =>
    .ite h1 (.ite (.sendData (.setXfer h1)) (.setXfer h1))

theorem State.Keeps.xferFrame {c f} (h : s.Keeps t) (hf : ∀ u x, s.Keeps u → s.Keeps (f u x)) :
    s.Keeps (t.xferFrame c f) := by
  unfold State.xferFrame
  split
  · exact .ktpAbort h
  · exact hf _ _ h

theorem State.Keeps.xferBad {c} (h : s.Keeps t) : s.Keeps (t.xferBad c) := .setXfer (.ktpAbort h)

theorem State.Keeps.applyXfer {x stamp} (h : s.Keeps t) : s.Keeps (t.applyXfer x stamp).1 := .iteFst h (.dictWrite h)

theorem State.Keeps.serveSegData {c last toggle data stamp} (h : s.Keeps t) :
    s.Keeps (t.serveSegData c last toggle data stamp) := by
  unfold State.serveSegData
  refine .xferFrame h fun _ _ hu => ?_
  refine .ite ?_ ?_
  · refine .ite (.ite (.xferBad hu) (.ktpSend hu)) (.ite (.xferBad hu) (.ite (.setXfer (.ktpSend hu)) ?_))
    exact .ite (.setXfer (.ktpSend (.applyXfer hu))) (.ktpSend (.setXfer (.applyXfer hu)))
  · exact .ite (.ite (.xferBad hu) (.ite (.setXfer hu) (.sendData hu))) (.xferBad hu)

theorem State.Keeps.serveBulkData {c seq data stamp} (h : s.Keeps t) :
    s.Keeps (t.serveBulkData c seq data stamp) := by
  unfold State.serveBulkData
  refine .xferFrame h fun _ _ hu => .ite (.xferBad hu) (.ite (.setXfer (.ktpSend (.iteFst (.applyXfer hu) hu))) ?_)
  exact .ite (.setXfer (.iteFst (.applyXfer hu) hu)) (.ktpSend (.setXfer (.iteFst (.applyXfer hu) hu)))

theorem State.Keeps.serveBulkAck {c status lastSeq nextBlock} (h : s.Keeps t) :
    s.Keeps (t.serveBulkAck c status lastSeq nextBlock) := by
  unfold State.serveBulkAck
  refine .xferFrame h fun _ _ hu => .ite (.xferBad hu) ?_
  exact .ite (.setXfer hu) (.ite (.ktpSend (.setXfer hu)) (.sendData hu))

theorem State.Keeps.serveBulkEnd {c crc} (h : s.Keeps t) : s.Keeps (t.serveBulkEnd c crc) :=
  .xferFrame h fun _ _ hu => .ite (.ktpSend (.setXfer hu)) (.ite (.setXfer hu) (.xferBad hu))

@[simp] theorem execSegRead_keeps {c tag index sub offset length} :
    s.KeepsOut (execSegRead c tag index sub offset length s) :=
  .next (.canRequest .refl)

@[simp] theorem execSegWrite_keeps {c tag index sub offset length} :
    s.KeepsOut (execSegWrite c tag index sub offset length s) :=
  .next (.canRequest .refl)

@[simp] theorem execBulkRead_keeps {c tag index sub offset length} :
    s.KeepsOut (execBulkRead c tag index sub offset length s) :=
  .next (.canRequest .refl)

@[simp] theorem execBulkWrite_keeps {c tag index sub offset length} :
    s.KeepsOut (execBulkWrite c tag index sub offset length s) :=
  .next (.canRequest .refl)

@[simp] theorem execSegData_keeps {c last toggle data} : s.KeepsOut (execSegData c last toggle data s) :=
  .next (.canRequest .refl)

@[simp] theorem execBulkData_keeps {c seq data} : s.KeepsOut (execBulkData c seq data s) := .next (.canRequest .refl)

@[simp] theorem execBulkAck_keeps {c status lastSeq nextBlock} :
    s.KeepsOut (execBulkAck c status lastSeq nextBlock s) :=
  .next (.canRequest .refl)

@[simp] theorem execBulkEnd_keeps {c crc} : s.KeepsOut (execBulkEnd c crc s) := .next (.canRequest .refl)

theorem State.Keeps.serveExpedited {r} (h : s.Keeps t) : s.Keeps (t.serveExpedited r) := by
  unfold State.serveExpedited
  split
  · exact h
  · refine .ite (.ktpSend h) ?_
    exact .ite (.ktpSend (.mapSession (.iteFst h (.dictWrite h)))) (.ktpSend (.mapSession h))

theorem State.Keeps.serveCan {r} (h : s.Keeps t) : s.Keeps (t.serveCan r) := by
  unfold State.serveCan
  refine .ite h ?_
  split
  · exact .serveSegData h
  · exact .serveBulkAck h
  · exact .serveBulkEnd h
  · exact .serveBulkData h
  · exact .ite (.serveExpedited h) (.initiate h)

@[simp] theorem execDictServe_keeps : s.KeepsOut (execDictServe s) := by
  unfold execDictServe
  refine .next (.ite .refl ?_)
  split
  · exact .refl
  · split
    · exact .refl
    · split
      · exact .stallRoll .refl
      · exact .charge .refl fun _ h => .ite (.serveCan (.update h)) (.serveWide (.update h))

theorem State.Keeps.dropFrames {c} (h : s.Keeps t) : s.Keeps (t.dropFrames c) := .update h

@[simp] theorem execAbort_keeps {c code} : s.KeepsOut (execAbort c code s) :=
  .next (.ite (.setXfer (.dropFrames (.bump (.canHeard .refl)))) .refl)

@[simp] theorem execKtpTimeout_keeps {c} : s.KeepsOut (execKtpTimeout c s) := by
  unfold execKtpTimeout
  refine .next ?_
  split
  · exact .refl
  · exact .ite .refl (.ite (.setXfer .refl) (.setXfer (.ktpAbort .refl)))

@[simp] theorem execFlashReadComplete_keeps {p} : s.KeepsOut (execFlashReadComplete p s) := by
  unfold execFlashReadComplete
  refine .next ?_
  split
  · exact .flashStart .refl
  · exact .ite (.flashStart (.flashData (.update .refl))) .refl
  · refine .flashStart (.ite (.answer (.drawn (.update .refl))) ?_)
    split
    · exact .ite (.dataOut (.drawn (.update .refl))) (.drawn (.update .refl))
    · exact .drawn (.update .refl)
  · exact .refl

/-! ## Start-up stages -/

theorem State.Keeps.discover {sfdp} (h : s.Keeps t) : s.Keeps (t.discover sfdp) := by
  unfold State.discover
  split
  · exact .via (.putBytes (.put (.send h))) fun h1 => .ite (.put h1) (.put (.put (.update (.ite h1 (.send h1)))))
  · exact .bell (.put (.put (.update (.send h))))

theorem State.Keeps.cfgEntries {fuel off stop} (h : s.Keeps t) : s.Keeps (State.cfgEntries fuel t off stop) := by
  induction fuel generalizing t off with
  | zero => exact h
  | succ fuel ih => exact .ite h (ih (.ite (.dictWrite h) (.bump (.dictWrite h))))

theorem State.Keeps.forceStaged (h : s.Keeps t) : s.Keeps t.forceStaged :=
  .put (.foldl (.foldl h fun _ _ hu => .put hu) fun _ _ hu => .put hu)

@[simp] theorem execStage2Entry_keeps {sfdp} : s.KeepsOut (execStage2Entry sfdp s) := by
  unfold execStage2Entry
  refine .next (.ite .refl ?_)
  dsimp only
  split
  · exact .forceStaged (.cfgEntries (.put (.put (.discover (.enterStage .refl)))))
  · exact .bell (.put (.discover (.enterStage .refl)))

/-! ## Every command, and the step -/

/-- The commands one by one: each has its lemma above. -/
theorem exec_keeps (c : Instr) (s : State) : s.KeepsOut (exec c s) := by
  cases c <;> simp [exec]

/-- Settles O4: the command that a step takes runs on the state without the queue's front, and keeps what it finds there. -/
theorem stepKeepsTheFactoryMemory : Obligations.StepKeepsTheFactoryMemory := by
  unfold Obligations.StepKeepsTheFactoryMemory
  intro s t e
  unfold step at e
  split at e
  · next hp =>
    cases e
    exact ⟨rfl, by rw [hp, List.tail_nil]⟩
  · next c rest hp =>
    have hk := exec_keeps c { s with pending := rest }
    rw [e] at hk
    obtain ⟨hotp, hpending⟩ := hk
    exact ⟨hotp, by rw [hpending, hp, List.tail_cons]⟩

end Sys2Proof.Machine
end

section
/-! What the Drumline chapter's proofs need of the shared operations (02_drumline.md): what an unsigned object holds after
a put and a count, what raising a bell leaves, and the entries of a list kept by rising keys. -/

namespace Sys2Proof.Machine

variable {s t u : State}

/-! ## Unsigned objects and counts -/

/-- Key `k` holds an unsigned scalar of `sz` bytes. -/
def unsignedAt (k sz : Nat) : Bool :=
  (objRow? (k / 2 ^ 40) (k / 2 ^ 32 % 256)).any fun r => r.ty != .blob && !r.ty.signed && r.size == sz

theorem unsignedAt_row {k sz : Nat} (h : unsignedAt k sz = true) :
    ∃ r, objRow? (k / 2 ^ 40) (k / 2 ^ 32 % 256) = some r ∧ r.ty ≠ .blob ∧ r.ty.signed = false ∧ r.size = sz := by
  unfold unsignedAt at h
  generalize objRow? (k / 2 ^ 40) (k / 2 ^ 32 % 256) = row at h ⊢
  cases row with
  | none => cases h
  | some r => exact ⟨r, rfl, by simpa [and_assoc] using h⟩

/-- An unsigned object reads the number that was put, where its type holds it. -/
theorem State.put_get_nat {k sz v : Nat} (h : unsignedAt k sz = true) (hv : v < 2 ^ (8 * sz)) : (s.put k v).get k = v := by
  rw [State.put_get, objWrap_nat k v sz (unsignedAt_row h) hv]

theorem State.put_get_dlt {k : Nat} (h : unsignedAt k 8 = true) (d : Dlt) : (s.put k d.toNat).get k = d.toNat :=
  State.put_get_nat h d.isLt

/-- A put changes the objects alone. -/
theorem State.put_rest (s : State) (k : Nat) (v : Int) : { s.put k v with obj := s.obj } = s := rfl

/-- A put is read back, and nothing else changes. -/
theorem State.put_alone {k sz v : Nat} (h : unsignedAt k sz = true) (hv : v < 2 ^ (8 * sz)) :
    (s.put k v).get k = v ∧ SameObj s (s.put k v) [k] ∧ { s.put k v with obj := s.obj } = s :=
  ⟨State.put_get_nat h hv, fun _ hj => s.put_get_other (by simpa using hj) v, s.put_rest k v⟩

/-- COUNTING in a 32-bit count adds one, saturating (R453). -/
theorem State.bump_counted {k : Nat} (h : unsignedAt k 4 = true) : Counted s (s.bump k) k := by
  obtain ⟨r, hr, hb, hs, hz⟩ := unsignedAt_row h
  have top : r.top = 2 ^ 32 - 1 := by simp [ObjRow.top, hs, hz]
  unfold Counted
  simp only [State.bump, hr, State.put_get, objWrap, if_neg hb, ObjRow.wrap, hs, hz, top, wrapNat, Nat.cast_one]
  norm_num
  omega

theorem State.bump_frame (s : State) (k n : Nat) : ∃ o, s.bump k n = { s with obj := o } := by
  rcases s.bump_cases k n with h | ⟨v, h⟩
  · exact ⟨s.obj, h⟩
  · exact ⟨_, h⟩

theorem State.bump_get_other {k j : Nat} (h : j ≠ k) (n : Nat) : (s.bump k n).get j = s.get j := by
  rcases s.bump_cases k n with e | ⟨v, e⟩ <;> rw [e]
  exact s.put_get_other h v

/-- A count rises, and nothing else changes. -/
theorem State.bump_alone {k : Nat} (h : unsignedAt k 4 = true) :
    Counted s (s.bump k) k ∧ SameObj s (s.bump k) [k] ∧ { s.bump k with obj := s.obj } = s := by
  obtain ⟨o, ho⟩ := s.bump_frame k 1
  exact ⟨State.bump_counted h, fun _ hj => State.bump_get_other (by simpa using hj) 1, by rw [ho]⟩

theorem unsignedAt_timeMark {j : Nat} (h : j < 8) : unsignedAt (Obj.TIME_MARK j) 8 = true := by
  have all : ∀ i : Fin 8, unsignedAt (Obj.TIME_MARK i) 8 = true := by decide
  exact all ⟨j, h⟩

/-! ## Bells -/

/-- RAISING A BELL while the queue has room (R359). -/
theorem State.bell_of_room {code arg : Nat} (h : s.dict.bells.length < 64) :
    s.bell code arg = { s.put Obj.BELL_NEXT_SEQ ((s.nat Obj.BELL_NEXT_SEQ : Int) + 1) with
      dict := { s.dict with bells := s.dict.bells ++
        [⟨BitVec.ofNat 16 (s.nat Obj.BELL_NEXT_SEQ), BitVec.ofNat 16 code, BitVec.ofNat 32 arg, s.now, false⟩] } } := by
  unfold State.bell
  exact if_pos h

/-- Raising a bell changes two objects at most. -/
theorem State.bell_get {code arg k : Nat} (hs : k ≠ Obj.BELL_NEXT_SEQ) (hl : k ≠ Obj.BELL_LOST) :
    (s.bell code arg).get k = s.get k := by
  unfold State.bell
  dsimp only
  split
  · exact s.put_get_other hs _
  · rw [State.bump_get_other hl, State.put_get_other _ hs]

/-! ## Entries kept by rising keys (R44, R46) -/

section
variable {α : Type} (l : List (Nat × α)) {k j : Nat}

theorem Cells.find?_erase_other (h : j ≠ k) :
    (Cells.erase l k).find? (fun c => c.1 == j) = l.find? fun c => c.1 == j := by
  rw [Cells.erase, List.find?_filter]
  congr 1
  funext c
  by_cases hc : c.1 = j
  · simp [hc, h]
  · simp [hc]

theorem Cells.find?_insert_same (v : α) (h : ∀ c ∈ l, c.1 ≠ k) :
    (Cells.insert l k v).find? (fun c => c.1 == k) = some (k, v) := by
  induction l with
  | nil => simp [Cells.insert]
  | cons c r ih =>
    by_cases hk : k < c.1
    · simp [Cells.insert, hk]
    · rw [Cells.insert, if_neg hk, List.find?_cons_of_neg (by simpa using h c (by simp))]
      exact ih fun e he => h e (by simp [he])

theorem Cells.find?_insert_other (v : α) (h : j ≠ k) :
    (Cells.insert l k v).find? (fun c => c.1 == j) = l.find? fun c => c.1 == j := by
  induction l with
  | nil => simp [Cells.insert, Ne.symm h]
  | cons c r ih =>
    by_cases hk : k < c.1
    · rw [Cells.insert, if_pos hk, List.find?_cons_of_neg (by simpa using Ne.symm h)]
    · rw [Cells.insert, if_neg hk, List.find?_cons, List.find?_cons, ih]

end

@[simp] theorem Strokes.at_put_same (x : Strokes) (k : Nat) (e : Stroke) : (x.put k e).at k = some e := by
  unfold Strokes.at Strokes.put
  dsimp only
  rw [Cells.find?_insert_same _ e fun c hc => (Cells.mem_erase.1 hc).2]
  rfl

theorem Strokes.at_put_other (x : Strokes) {k j : Nat} (e : Stroke) (h : j ≠ k) : (x.put k e).at j = x.at j := by
  unfold Strokes.at Strokes.put
  dsimp only
  rw [Cells.find?_insert_other _ e h, Cells.find?_erase_other _ h]

end Sys2Proof.Machine
end

section
/-! The beat (02_drumline.md R38, R61): what the lanes may send at it, what it does to the clock, and what many beats
gather. -/

namespace Sys2Proof.Machine

variable {s t : State}

/-! ## What a lane sends leaves everything but the lanes and the outbox -/

/-- `t` is `s` but for the lanes and the dictionary part, which holds the outbox. -/
def State.LanesFrame (s t : State) : Prop := ∃ ls d, t = { s with lanes := ls, dict := d }

theorem State.LanesFrame.refl : s.LanesFrame s := ⟨s.lanes, s.dict, rfl⟩

theorem State.LanesFrame.mapLane {n f} (h : s.LanesFrame t) : s.LanesFrame (t.mapLane n f) := by
  obtain ⟨ls, d, rfl⟩ := h
  exact ⟨_, d, rfl⟩

theorem State.LanesFrame.send {m} (h : s.LanesFrame t) : s.LanesFrame (t.send m) := by
  obtain ⟨ls, d, rfl⟩ := h
  exact ⟨ls, _, rfl⟩

theorem State.LanesFrame.sendCtrl {n ty fields} (h : s.LanesFrame t) : s.LanesFrame (t.sendCtrl n ty fields) := by
  unfold State.sendCtrl State.putBlock State.emitBlock
  dsimp only
  split
  · exact .send (.mapLane (.send (.mapLane h)))
  · exact .send (.mapLane h)

theorem State.LanesFrame.laneTick {n} (h : s.LanesFrame t) : s.LanesFrame (t.laneTick n) := by
  unfold State.laneTick
  dsimp only
  split
  · exact .sendCtrl (.mapLane h)
  · split
    · exact .sendCtrl (.mapLane h)
    · exact h

theorem State.lanesTick_frame (s : State) : s.LanesFrame s.lanesTick :=
  List.foldlRecOn _ _ .refl fun _ h _ _ => h.laneTick

/-- A lane that is neither in HELLO nor in TRAIN with its TRAIN_DONE sent has nothing to send. -/
theorem State.laneTick_of_quiet {n : Nat} (hello : s.laneState n ≠ 3)
    (train : s.laneState n = 2 → (s.laneRec n).sentDone = false) : s.laneTick n = s := by
  unfold State.laneTick
  by_cases h2 : s.laneState n = 2
  · simp [hello, train h2]
  · simp [hello, h2]

theorem State.lanesTick_of_quiet (h : LanesQuiet s) : s.lanesTick = s := by
  refine List.foldlRecOn (motive := (· = s)) _ _ rfl ?_
  rintro _ rfl n hn
  obtain ⟨hello, train⟩ := h ⟨n, List.mem_range.1 hn⟩
  exact State.laneTick_of_quiet hello train

/-! ## One beat (R38, R61) -/

theorem slewInc_eq (f : Int) : slewInc f = (2 * 320 * f.natAbs * 2 ^ 32 + 10 ^ 9) / (2 * 10 ^ 9) := by
  unfold slewInc roundDiv
  rw [Int.fdiv_eq_ediv_of_nonneg _ (by norm_num)]
  omega

/-- Within ±100 ppm the accumulator overflows at most once a beat. -/
theorem slewInc_lt {f : Int} (hl : -100000 ≤ f) (hu : f ≤ 100000) : slewInc f < 2 ^ 32 := by
  rw [slewInc_eq]
  omega

theorem slewInc_100ppm {f : Int} (h : f = 100000 ∨ f = -100000) : slewInc f = 137438953 := by
  rw [slewInc_eq]
  rcases h with rfl | rfl <;> rfl

/-- The clock after a beat at the adjustment `f`. -/
def Clock.beat (c : Clock) (f : Int) : Clock :=
  { c with
    dlt := c.dlt + BitVec.ofNat 64 (c.nextAdvance f).1
    copies := c.copies.map (· + BitVec.ofNat 64 (c.nextAdvance f).1)
    acc := (c.nextAdvance f).2
    advance := (c.nextAdvance f).1
    beats := c.beats + 1 }

section
variable (c : Clock) (f : Int)

theorem Clock.beat_acc : (c.beat f).acc = (c.nextAdvance f).2 := by rw [Clock.beat]
theorem Clock.beat_advance : (c.beat f).advance = (c.nextAdvance f).1 := by rw [Clock.beat]
theorem Clock.beat_dlt : (c.beat f).dlt = c.dlt + BitVec.ofNat 64 (c.nextAdvance f).1 := by rw [Clock.beat]
theorem Clock.beat_copy (q : Fin 4) : (c.beat f).copies[q] = c.copies[q] + BitVec.ofNat 64 (c.nextAdvance f).1 := by
  rw [Clock.beat]
  exact Vector.getElem_map ..
theorem Clock.beat_beats : (c.beat f).beats = c.beats + 1 := by rw [Clock.beat]

end

/-- The strokes after a beat: the marks of the beat before are gone. -/
def Strokes.beat (x : Strokes) : Strokes := { x with replaced := [], landed := [] }

theorem State.oneBeat_eq (s : State) :
    s.oneBeat = { s with clk := s.clk.beat (s.get Obj.FREQ_ADJ), strokes := s.strokes.beat } := rfl

/-- What lies outside the lanes and the outbox after a beat. -/
structure Beaten (s t : State) : Prop where
  clk : t.clk = s.clk.beat (s.get Obj.FREQ_ADJ)
  obj : t.obj = s.obj
  power : t.power = s.power

theorem State.LanesFrame.outside {c x} (h : State.LanesFrame { s with clk := c, strokes := x } t) :
    t.clk = c ∧ t.obj = s.obj ∧ t.power = s.power := by
  obtain ⟨ls, d, rfl⟩ := h
  exact ⟨rfl, rfl, rfl⟩

theorem State.beaten (s : State) : Beaten s s.oneBeat.lanesTick := by
  have h := s.oneBeat.lanesTick_frame
  rw [State.oneBeat_eq] at h ⊢
  obtain ⟨clk, obj, power⟩ := h.outside
  exact ⟨clk, obj, power⟩

/-- What the lanes send does not depend on the clock's count or the strokes. -/
theorem LanesQuiet.update {c x} (h : LanesQuiet s) : LanesQuiet { s with clk := c, strokes := x } := h

theorem State.powerGoesOn_of_run (h : s.power.entering = none) : s.powerGoesOn = s := by
  simp [State.powerGoesOn, h]

/-- A beat of a part that enters no mode is `oneBeat` and what the lanes send. -/
theorem exec_beat (hd : s.drumOn = true) (he : s.power.entering = none) : exec .beat s = .next s.oneBeat.lanesTick := by
  show execBeat s = _
  rw [execBeat, if_pos hd, State.powerGoesOn_of_run (by rw [s.beaten.power, he])]

theorem exec_beat_off (hd : s.drumOn = false) : exec .beat s = .next s := by
  show execBeat s = _
  rw [execBeat, if_neg (by rw [hd]; exact Bool.false_ne_true)]

theorem after_beat (hd : s.drumOn = true) (he : s.power.entering = none) : after .beat s = s.oneBeat.lanesTick := by
  rw [after, exec_beat hd he]

/-! ## Many beats -/

/-- The advance over all beats so far, `m` overflows among them, in the direction of `f` (R61). -/
def slewed (d : Dlt) (f : Int) (n m : Nat) : Dlt :=
  d + BitVec.ofNat 64 (320 * n) + BitVec.ofInt 64 (if 0 < f then (m : Int) else -(m : Int))

theorem slewed_beat (d : Dlt) (f : Int) (n m : Nat) :
    slewed d f n m + BitVec.ofNat 64 320 = slewed d f (n + 1) m := by
  unfold slewed
  rw [Nat.mul_succ, BitVec.ofNat_add]
  ac_rfl

theorem slewed_overflow (d : Dlt) (f : Int) (n m : Nat) :
    slewed d f n m + BitVec.ofNat 64 (if 0 < f then 321 else 319) = slewed d f (n + 1) (m + 1) := by
  unfold slewed
  rw [Nat.mul_succ, BitVec.ofNat_add]
  split
  · have more : BitVec.ofNat 64 321 = BitVec.ofNat 64 320 + BitVec.ofInt 64 1 := rfl
    rw [Nat.cast_succ, BitVec.ofInt_add, more]
    ac_rfl
  · have less : BitVec.ofNat 64 319 = BitVec.ofNat 64 320 + BitVec.ofInt 64 (-1) := rfl
    rw [Nat.cast_succ, neg_add, BitVec.ofInt_add, less]
    ac_rfl

/-- WHAT `n` BEATS KEEP AND GATHER: nothing that a beat depends on has changed, and no fraction is lost: overflows and
accumulator together hold `n` increments. -/
structure BeatsRun (s : State) (n : Nat) (t : State) : Prop where
  drum : t.drumOn = true
  entering : t.power.entering = none
  freq : t.get Obj.FREQ_ADJ = s.get Obj.FREQ_ADJ
  count : ∃ m, m * 2 ^ 32 + t.clk.acc.toNat = s.clk.acc.toNat + n * slewInc (s.get Obj.FREQ_ADJ) ∧
    t.clk.dlt = slewed s.clk.dlt (s.get Obj.FREQ_ADJ) n m

theorem BeatsRun.zero (hd : s.drumOn = true) (he : s.power.entering = none) : BeatsRun s 0 s :=
  ⟨hd, he, rfl, 0, by simp, by simp [slewed]⟩

/-- The accumulator overflows in this beat, or it does not. -/
theorem Clock.nextAdvance_cases (c : Clock) {f : Int} (h : slewInc f < 2 ^ 32) :
    (c.nextAdvance f).1 = 320 ∧ (c.nextAdvance f).2.toNat = c.acc.toNat + slewInc f ∨
    (c.nextAdvance f).1 = (if 0 < f then 321 else 319) ∧
      2 ^ 32 + (c.nextAdvance f).2.toNat = c.acc.toNat + slewInc f := by
  have := c.acc.isLt
  unfold Clock.nextAdvance
  dsimp only
  rw [BitVec.toNat_ofNat]
  split
  · exact .inr ⟨rfl, by omega⟩
  · exact .inl ⟨rfl, by omega⟩

theorem BeatsRun.succ {n : Nat} (hf : slewInc (s.get Obj.FREQ_ADJ) < 2 ^ 32) (h : BeatsRun s n t) :
    BeatsRun s (n + 1) (after .beat t) := by
  obtain ⟨drum, entering, freq, m, hacc, hdlt⟩ := h
  obtain ⟨clk, obj, power⟩ := t.beaten
  rw [after_beat drum entering]
  generalize t.oneBeat.lanesTick = u at clk obj power
  refine ⟨by rwa [State.drumOn, power], by rwa [power], by rwa [State.get, obj], ?_⟩
  rw [clk, Clock.beat_acc, Clock.beat_dlt, Nat.succ_mul, hdlt, freq]
  rcases t.clk.nextAdvance_cases hf with ⟨ha, hs⟩ | ⟨ha, hs⟩
  · rw [ha]
    generalize (t.clk.nextAdvance (s.get Obj.FREQ_ADJ)).2 = acc at hs
    exact ⟨m, by omega, slewed_beat ..⟩
  · rw [ha]
    generalize (t.clk.nextAdvance (s.get Obj.FREQ_ADJ)).2 = acc at hs
    refine ⟨m + 1, ?_, slewed_overflow ..⟩
    rw [Nat.succ_mul, add_assoc, hs, ← add_assoc, hacc, add_assoc]

theorem beatsAfter_run (hd : s.drumOn = true) (he : s.power.entering = none) (hf : slewInc (s.get Obj.FREQ_ADJ) < 2 ^ 32)
    (n : Nat) : BeatsRun s n (beatsAfter n s) := by
  induction n with
  | zero => exact .zero hd he
  | succ n ih => exact ih.succ hf

/-- The overflows in `n` beats are the whole part of what the accumulator was given. -/
theorem beatsAfter_dlt (hd : s.drumOn = true) (he : s.power.entering = none) (hf : slewInc (s.get Obj.FREQ_ADJ) < 2 ^ 32)
    (n : Nat) : (beatsAfter n s).clk.dlt =
      slewed s.clk.dlt (s.get Obj.FREQ_ADJ) n ((s.clk.acc.toNat + n * slewInc (s.get Obj.FREQ_ADJ)) / 2 ^ 32) := by
  obtain ⟨m, hacc, hdlt⟩ := (beatsAfter_run hd he hf n).count
  have := (beatsAfter n s).clk.acc.isLt
  rw [hdlt, show (s.clk.acc.toNat + n * slewInc (s.get Obj.FREQ_ADJ)) / 2 ^ 32 = m by omega]

/-- Settles O6: one beat is `oneBeat` and what the lanes send; over many, overflows and accumulator hold every increment. -/
theorem beatsSlewDltByTheFractionalAccumulator : Obligations.BeatsSlewDltByTheFractionalAccumulator := by
  unfold Obligations.BeatsSlewDltByTheFractionalAccumulator
  refine ⟨slewInc_eq, fun s hd he => ⟨_, exec_beat hd he, ?_⟩, fun s => exec_beat_off, fun n s hd he hl hu => ?_,
    fun k s hd he hf hacc _ hk => ?_⟩
  · obtain ⟨clk, -, -⟩ := s.beaten
    dsimp only
    rw [clk, Clock.beat_acc, Clock.beat_advance, Clock.beat_dlt, Clock.beat_beats]
    refine ⟨rfl, rfl, rfl, s.clk.beat_copy _, rfl, fun hq => ?_⟩
    rw [State.oneBeat_eq, State.lanesTick_of_quiet (LanesQuiet.update hq)]
    exact ⟨rfl, rfl⟩
  · exact beatsAfter_dlt hd he (slewInc_lt hl hu) n
  · have hinc := slewInc_100ppm hf
    have empty : s.clk.acc.toNat = 0 := by rw [hacc]; rfl
    have h := beatsAfter_dlt hd he (by omega) (31250 * k)
    rw [hinc, empty] at h
    exact ⟨_, by omega, by omega, h⟩

end Sys2Proof.Machine
end

section
/-! The copies of the count and REF_IN (02_drumline.md R40, R41). -/

namespace Sys2Proof.Machine

variable {s : State}

theorem execDltCopyCompare_same (q : Fin 4) (hd : s.drumOn = true) : execDltCopyCompare q s.clk.dlt s =
    .next { s with clk := { s.clk with copies := s.clk.copies.set q s.clk.dlt } } := by
  simp only [execDltCopyCompare, hd, Bool.not_true, Bool.false_eq_true, if_false, if_true]

theorem execDltCopyCompare_differs (q : Fin 4) {d : Dlt} (hd : s.drumOn = true) (hne : d ≠ s.clk.dlt) :
    execDltCopyCompare q d s = .next (State.pullGong { s with clk := { s.clk with
      copies := s.clk.copies.set q d, reloadDue := s.clk.reloadDue.set q true } } (some 0x21)) := by
  simp only [execDltCopyCompare, hd, hne, Bool.not_true, Bool.false_eq_true, if_false]

theorem execDltCopyReload_in_gap {q : Fin 4} (due : s.clk.reloadDue[q] = true) (gap : s.slotsRunning = false) :
    execDltCopyReload q s = .next { s with clk := { s.clk with
      copies := s.clk.copies.set q s.clk.dlt, reloadDue := s.clk.reloadDue.set q false } } := by
  simp only [execDltCopyReload, due, gap, Bool.not_false, Bool.and_self, if_true]

theorem execDltCopyReload_waits (q : Fin 4) (h : s.slotsRunning = true) : execDltCopyReload q s = .next s := by
  simp only [execDltCopyReload, h, Bool.not_true, Bool.and_false, Bool.false_eq_true, if_false]

theorem execRefInLoss_rings (lost : s.clk.refLost = false) (hd : s.drumOn = true) :
    execRefInLoss s = .next (State.bell { s with clk := { s.clk with refLost := true } } 0x0201) := by
  simp only [execRefInLoss, lost, hd, Bool.not_true, Bool.or_self, Bool.false_eq_true, if_false]

/-- Settles O7: one equation for each command and each branch, read field by field. -/
theorem copiesComparedAndReloaded : Obligations.CopiesComparedAndReloaded := by
  unfold Obligations.CopiesComparedAndReloaded
  refine ⟨fun q s => execDltCopyCompare_same q, fun q d s hd hne => ⟨_, execDltCopyCompare_differs q hd hne, ?_⟩,
    fun q s due gap => ⟨_, execDltCopyReload_in_gap due gap, ?_⟩, fun q s => execDltCopyReload_waits q,
    fun s lost hd room => ⟨_, execRefInLoss_rings lost hd, ?_⟩, fun s => ⟨_, rfl, rfl, rfl⟩⟩
  · exact ⟨Vector.getElem_set_self .., Vector.getElem_set_self .., rfl, rfl, rfl, rfl⟩
  · exact ⟨Vector.getElem_set_self .., Vector.getElem_set_self .., rfl, rfl⟩
  · rw [State.bell_of_room]
    · exact ⟨rfl, rfl, rfl⟩
    · exact room

end Sys2Proof.Machine
end

section
/-! Strokes that land in the control domain (02_drumline.md R50, R55, R65; 11 R359; 14 R420). -/

namespace Sys2Proof.Machine

variable {s t u : State}

/-! ## Landings in the control domain (R50, R55) -/

theorem length_removeFirst {α : Type} {p : α → Bool} {xs : List α} {x : α} (h : xs.find? p = some x) :
    (removeFirst p xs).length + 1 = xs.length := by
  induction xs with
  | nil => cases h
  | cons y ys ih =>
    by_cases hy : p y = true
    · simp [removeFirst, hy]
    · rw [List.find?_cons_of_neg hy] at h
      simp [removeFirst, hy, ih h]

/-- A stroke that lands has left the strokes under way, and the landing is stamped in its domains. -/
theorem State.landing_inv {code : Nat} {l : Landing} (h : s.landing code l = some u) :
    ∃ x elapsed, u = State.stampLanding { s with strokes := x } (landingDomains code l) l.edges elapsed ∧
      x.inflight.length + 1 = s.strokes.inflight.length := by
  unfold State.landing at h
  dsimp only at h
  split at h
  · cases h
  · next f hf =>
    split at h
    · cases h
      exact ⟨_, _, rfl, length_removeFirst hf⟩
    · cases h

/-- A stroke that lands in the control domain alone leaves its time there (R55). -/
theorem State.landing_control {code : Nat} {l : Landing} (hd : landingDomains code l = [22])
    (h : s.landing code l = some u) : ∃ x, u = State.put { s with strokes := x } (Obj.LANDING_DLT 22) s.now.toNat ∧
      x.inflight.length + 1 = s.strokes.inflight.length := by
  obtain ⟨x, elapsed, rfl, hx⟩ := State.landing_inv h
  rw [hd]
  exact ⟨x, rfl, hx⟩

theorem State.land_of_landing {code : Nat} {l : Landing} (h : s.landing code l = some u) (f : State → State) :
    s.land code l f = f u := by
  rw [State.land, h]

theorem landingDomains_control {code : Nat} (h : code = 0x01 ∨ code = 0x02 ∨ code = 0x61) (l : Landing) :
    landingDomains code l = [22] := by
  rcases h with rfl | rfl | rfl <;> rfl

/-! ## SYNC_OUT, TIME_MARK, GONG and BELL (R50, R65, R359, R420) -/

theorem exec_syncOut {l : Landing} (h : s.landing 0x60 l = some u) : exec (.syncOut l) s =
    .next { u with clk := { u.clk with syncOut := true, syncOutEnd := u.clk.beats + l.arg.toNat } } :=
  congrArg Host.Outcome.next (State.land_of_landing h _)

theorem exec_timeMark {l : Landing} (h : s.landing 0x61 l = some u) :
    exec (.timeMark l) s = .next (u.put (Obj.TIME_MARK (l.arg.toNat % 8)) u.now.toNat) :=
  congrArg Host.Outcome.next (State.land_of_landing h _)

theorem exec_gong {l : Landing} (h : s.landing 0x01 l = some u) :
    exec (.gong l) s = .next (u.pullGong (some (l.arg.toNat % 65536))) :=
  congrArg Host.Outcome.next (State.land_of_landing h _)

theorem exec_bell {l : Landing} (h : s.landing 0x02 l = some u) : exec (.bell l) s = .next (u.bell (l.arg.toNat % 65536)) :=
  congrArg Host.Outcome.next (State.land_of_landing h _)

theorem exec_syncOutPulseEnd (out : s.clk.syncOut = true) (ended : s.clk.syncOutEnd ≤ s.clk.beats) :
    exec .syncOutPulseEnd s = .next { s with clk := { s.clk with syncOut := false } } := by
  show execSyncOutPulseEnd s = _
  simp only [execSyncOutPulseEnd, out, ended, decide_true, Bool.and_self, if_true]

theorem exec_gongLowEnd (own : s.lands.gongOwn = true) (ended : s.lands.gongEnd ≤ s.clk.beats) :
    exec .gongLowEnd s = .next { s with lands := { s.lands with gongOwn := false } } := by
  show execGongLowEnd s = _
  simp only [execGongLowEnd, own, ended, decide_true, Bool.true_or, Bool.and_self, if_true]

/-- The low half-word of an argument. -/
theorem ofNat_mod_halfWord (n : Nat) : BitVec.ofNat 16 (n % 65536) = BitVec.ofNat 16 n :=
  BitVec.eq_of_toNat_eq (by simp)

/-- Settles O11: a landing takes the stroke from those under way and stamps its time; each stroke then is one update. -/
theorem controlStrokesLand : Obligations.ControlStrokesLand := by
  unfold Obligations.ControlStrokesLand
  refine ⟨fun l s u h => ?stamp, fun l s u h => ⟨_, exec_syncOut h, rfl, rfl⟩,
    fun s out ended => ⟨_, exec_syncOutPulseEnd out ended, rfl, rfl⟩,
    fun l s u h => ⟨_, exec_timeMark h, ?mark, fun k hk => u.put_get_other (by simpa using hk) _, u.put_rest ..⟩,
    fun l s u h => ⟨_, exec_gong h, rfl, ?gong, rfl⟩, fun s own ended => ⟨_, exec_gongLowEnd own ended, rfl, rfl⟩,
    fun l s u h room => ⟨_, exec_bell h, ?bell, ?_, ?_⟩⟩
  case stamp =>
    obtain ⟨code, hc, h⟩ : ∃ code, (code = 0x01 ∨ code = 0x02 ∨ code = 0x61) ∧ s.landing code l = some u := by
      simpa [or_and_right, exists_or] using h
    obtain ⟨x, rfl, hx⟩ := State.landing_control (landingDomains_control hc l) h
    refine ⟨State.put_get_dlt (by decide) _, fun k hk => ?_, hx, rfl⟩
    exact State.put_get_other { s with strokes := x } (by simpa using hk) _
  case mark =>
    obtain ⟨x, rfl, -⟩ := State.landing_control (landingDomains_control (.inr (.inr rfl)) l) h
    rw [State.put_get_dlt (unsignedAt_timeMark (Nat.mod_lt _ (by omega))), State.put_now]
    rfl
  case gong => rw [← ofNat_mod_halfWord l.arg.toNat]; rfl
  case bell => rw [State.bell_of_room room, ← ofNat_mod_halfWord l.arg.toNat]; rfl
  · rw [State.bell_of_room room]
    exact fun k hk => u.put_get_other (by simpa using hk) _
  · rw [State.bell_of_room room]
    exact fun a => rfl

end Sys2Proof.Machine
end

section
/-! Writes to the stroke schedulers (02_drumline.md R44, R47, R48). -/

namespace Sys2Proof.Machine

variable {s t u : State}

/-- The content of an entry that no write of this beat has replaced decides. -/
theorem Strokes.deciding_held {x : Strokes} {k : Nat} {e : Stroke} (h : x.deciding k = some (e, false)) :
    x.replaced.find? (fun c => c.1 == k) = none ∧ x.at k = some e := by
  unfold Strokes.deciding at h
  split at h
  · cases h
  · next hr => exact ⟨hr, by simpa using h⟩

theorem Strokes.deciding_replaced {x : Strokes} {k j : Nat} {e : Stroke}
    (h : x.replaced.find? (fun c => c.1 == k) = some (j, e)) : x.deciding k = some (e, true) := by
  rw [Strokes.deciding, h]

/-! ## A write of one entry (R47) -/

theorem entryBlocks_entry (e : Nat) {bs : List Byte} (h0 : 0 < bs.length) (h32 : bs.length ≤ 32) :
    entryBlocks (32 * e) bs = [(32 * e, bs)] := by
  have one : (32 * e + bs.length + 31) / 32 - 32 * e / 32 = 1 := by omega
  have here : 32 * (32 * e / 32 + 0) = 32 * e := by omega
  have all : min (32 * e + 32) (32 * e + bs.length) - 32 * e = bs.length := by omega
  simp only [entryBlocks, one, List.range_one, List.map_cons, List.map_nil, here, max_self, Nat.sub_self, List.drop_zero,
    all, List.take_length]

theorem schedSize_eq (sc : Sched) : schedSize sc = 32 * sc.entries := by
  cases sc <;> rfl

/-- A write that stays within an entry is that entry's alone. -/
theorem exec_strokeEntryWrite {sc : Sched} {e : Nat} {bs : List Byte} (he : e < sc.entries) (h0 : 0 < bs.length)
    (h32 : bs.length ≤ 32) : exec (.strokeEntryWrite sc (32 * e) bs) s = .next (s.writeEntry sc (32 * e) bs).1 := by
  have fits : ¬ schedSize sc < 32 * e + bs.length := by
    rw [schedSize_eq]
    omega
  show execStrokeEntryWrite sc (32 * e) bs s = _
  rw [execStrokeEntryWrite, State.writeStrokes, if_neg fits, entryBlocks_entry e h0 h32]
  rfl

theorem State.writeEntry_accepted {sc : Sched} {off : Nat} {bs : List Byte} (h32 : bs.length = 32)
    (ok : s.entryOk sc off (Stroke.parse bs) = true) : (s.writeEntry sc off bs).1 = s.accept sc off (Stroke.parse bs) := by
  simp only [State.writeEntry, h32, ok, decide_true, Bool.and_self, if_true]

theorem State.writeEntry_refused {sc : Sched} {off : Nat} {bs : List Byte}
    (h : bs.length < 32 ∨ s.entryOk sc off (Stroke.parse bs) = false) :
    (s.writeEntry sc off bs).1 = s.bump Obj.STROKE_REFUSED := by
  have no : (bs.length = 32 && s.entryOk sc off (Stroke.parse bs)) = false := by
    rcases h with h | h
    · simp [show bs.length ≠ 32 by omega]
    · simp [h]
  simp only [State.writeEntry, no, Bool.false_eq_true, if_false]

/-- WHAT AN ACCEPTED ENTRY HOLDS (R44, R47-R49): the words written, FIRES 0, and STATE 5 where ACTION is 0. -/
theorem State.accept_entry (s : State) (sc : Sched) (off : Nat) (e : Stroke) (hf : e.fires = 0) :
    ∃ x, (s.accept sc off e).strokes = { s.strokes.put (schedKey sc (off / 32)) x with
        replaced := s.strokes.keep (schedKey sc (off / 32)) s.clk.beats } ∧
      x.words = e.words ∧ x.fires = 0 ∧ (x.state = 1 ∨ x.state = 2 ∨ x.state = 5) ∧ (x.action = 0 → x.state = 5) ∧
      x.applies = s.clk.beats + 1 := by
  refine ⟨_, rfl, rfl, hf, ?_, fun h0 => ?_, rfl⟩
  · dsimp only
    split
    · exact .inr (.inr rfl)
    · split
      · exact .inl rfl
      · exact .inr (.inl rfl)
  · dsimp only at h0 ⊢
    exact if_pos (by simp [h0])

/-- The content that an entry had is kept for the rest of the beat, where it was in force (R47, R49). -/
theorem Strokes.keep_old {x : Strokes} {k beats : Nat} {old : Stroke} (h : x.deciding k = some (old, false))
    (applies : old.applies ≤ beats) (live : old.finished = false) :
    (x.keep k beats).find? (fun c => c.1 == k) = some (k, old) := by
  obtain ⟨hr, hat⟩ := Strokes.deciding_held h
  simp [Strokes.keep, hat, applies, live, List.find?_append, hr]

/-- Settles O8: a write within one entry is accepted into its place, or counts in REFUSED and nothing else. -/
theorem schedulerEntryAcceptedOrRefusedAlone : Obligations.SchedulerEntryAcceptedOrRefusedAlone := by
  unfold Obligations.SchedulerEntryAcceptedOrRefusedAlone
  refine ⟨fun sc e bs s he h32 ok => ⟨_, exec_strokeEntryWrite he (by omega) (by omega), ?_⟩,
    fun sc e bs s he h0 h32 no => ⟨_, exec_strokeEntryWrite he h0 h32, ?_⟩⟩
  · rw [State.writeEntry_accepted h32 ok]
    obtain ⟨x, hx, entry⟩ := s.accept_entry sc (32 * e) (Stroke.parse bs) rfl
    rw [Nat.mul_div_cancel_left e (by omega : 0 < 32)] at hx
    rw [hx]
    refine ⟨⟨x, s.strokes.at_put_same _ x, entry⟩, fun k hk => s.strokes.at_put_other x hk, fun old h applies live => ?_,
      rfl, rfl, rfl⟩
    exact Strokes.deciding_replaced (Strokes.keep_old h applies live)
  · rw [State.writeEntry_refused no]
    obtain ⟨counted, others, rest⟩ := State.bump_alone (s := s) (k := Obj.STROKE_REFUSED) (by decide)
    obtain ⟨o, ho⟩ := s.bump_frame Obj.STROKE_REFUSED 1
    exact ⟨by rw [ho], fun a => by rw [ho]; rfl, others, counted, rest⟩

end Sys2Proof.Machine
end

section
/-! Strokes that fire, and the rimshot (02_drumline.md R44, R47-R49, R52). -/

namespace Sys2Proof.Machine

variable {s t u : State}

/-! ## A stroke fires (R44, R53) -/

/-- A fired stroke is under way, and a FRAME_START makes the part running. -/
theorem State.fire_eq (s : State) (a : BitVec 16) (l : Landing) (order : Nat) : s.fire a.toNat l order =
    { s with
      strokes := { s.strokes with inflight := s.strokes.inflight ++ [⟨a, l, s.clk.beats, order⟩] }
      clk := { s.clk with running := s.clk.running || a == 0x20 } } := by
  have same : (a.toNat == 0x20) = (a == 0x20) := by
    rw [Bool.eq_iff_iff, beq_iff_eq, beq_iff_eq, ← BitVec.toNat_inj]
    rfl
  rw [State.fire, same, BitVec.ofNat_toNat, BitVec.setWidth_eq]

/-- An occurrence of an entry fires: FIRES counts one more, saturating; STATE tells a late firing and the last one (R49). -/
theorem State.fireEntry_eq (s : State) (sc : Sched) (e : Nat) (x : Stroke) (late : Bool) (dies : BitVec 6) :
    ∃ y l order, s.fireEntry sc e x late dies =
        State.fire (if late then State.bump { s with strokes := s.strokes.put (schedKey sc e) y } Obj.STROKE_LATE
          else { s with strokes := s.strokes.put (schedKey sc e) y }) x.action.toNat l order ∧
      l.arg = x.arg ∧ y.fires = min 0xFFFF (x.fires + 1) ∧ y.words = x.words ∧ y.lateDue = false ∧
      (late = true → y.state = 4) ∧ (late = false → x.period = 0 → y.state = 3) := by
  refine ⟨_, _, _, rfl, rfl, rfl, rfl, rfl, fun h => ?_, fun h h0 => ?_⟩
  · simp [h]
  · simp [h, h0]

/-- An entry may fire whose trims are applied, that is not finished, and whose content is in force. -/
theorem State.mayFire_of {x : Stroke} {late : Bool} (trims : s.power.trims = true) (live : x.finished = false)
    (due : x.lateDue = late) (applies : x.applies ≤ s.clk.beats) (slot : s.slotMatches x = true) :
    s.mayFire x late = true := by
  simp [State.mayFire, trims, live, due, applies, slot]

/-- A stroke that needs forwarding has been forwarded. -/
theorem forwarded_of {sc : Sched} {x : Stroke} (h : forwards sc x = true → x.forwarded = true) :
    (forwards sc x && !x.forwarded) = false := by
  cases hf : forwards sc x
  · rfl
  · simp [h hf]

theorem State.copies_agree (h : ∀ q : Fin 4, s.clk.copies[q] = s.clk.dlt) :
    (s.clk.copies.any fun c => c ≠ s.now) = false := by
  rw [Vector.any_eq_false]
  intro i hi
  have same : s.clk.copies[i] = s.now := h ⟨i, hi⟩
  simp [same]

section
variable {sc : Sched} {e : Nat} {x : Stroke}

/-- STROKE_FIRE of a held entry whose time has come, while no die's copy differs (R44). -/
theorem exec_strokeFire_held (held : s.strokes.deciding (schedKey sc e) = some (x, false)) (may : s.mayFire x false = true)
    (copies : ∀ q : Fin 4, s.clk.copies[q] = s.clk.dlt) (fw : forwards sc x = true → x.forwarded = true)
    (reached : Dlt.reached (s.schedNow sc e) x.next = true) :
    ∃ dies, exec (.strokeFire sc e) s = .next (s.fireEntry sc e x false dies) := by
  show ∃ dies, execStrokeFire sc e s = _
  simp only [execStrokeFire, held, may, forwarded_of fw, State.copies_agree copies, reached, Bool.not_true, Bool.or_self,
    Bool.and_false, Bool.false_eq_true, if_false, if_true]
  exact ⟨_, rfl⟩

/-- STROKE_FIRE of the content that a write of this beat has replaced (R47). -/
theorem exec_strokeFire_replaced (old : s.strokes.deciding (schedKey sc e) = some (x, true)) (may : s.mayFire x false = true)
    (fw : forwards sc x = true → x.forwarded = true) (reached : Dlt.reached (s.schedNow sc e) x.next = true) :
    exec (.strokeFire sc e) s = .next (s.fireReplaced sc e x false) := by
  show execStrokeFire sc e s = _
  simp only [execStrokeFire, old, may, forwarded_of fw, reached, Bool.not_true, Bool.or_self, Bool.false_eq_true, if_false,
    if_true]

theorem exec_lateStrokeFire_held (held : s.strokes.deciding (schedKey sc e) = some (x, false))
    (may : s.mayFire x true = true) : exec (.lateStrokeFire sc e) s = .next (s.fireEntry sc e x true) := by
  show execLateStrokeFire sc e s = _
  simp only [execLateStrokeFire, held, may, Bool.not_true, Bool.false_eq_true, if_false]

end

theorem exec_strokeForward {e : Fin 256} {x : Stroke} (hat : s.strokes.at e.val = some x) (live : x.finished = false)
    (fw : forwards .package x = true) (trims : s.power.trims = true) (near : beatsTo s.now x.next ≤ 400) :
    exec (.strokeForward e) s = .next { s with strokes := s.strokes.put e.val { x with forwarded := true } } := by
  show execStrokeForward e s = _
  simp only [execStrokeForward, hat, live, fw, trims, near, Bool.not_false, Bool.and_self, decide_true, if_true]

/-! ## The rimshot (R52) -/

theorem exec_rimshotGo (none : s.strokes.rimshot = none) (form : entryForm .package 0 s.rimshotEntry = true)
    (may : s.power.trims = true ∨ forwards .package s.rimshotEntry = false) :
    ∃ l, exec (.rimshotGo 1) s = .next { s.put Obj.RS_GO 3 with strokes := { s.strokes with
      rimshot := some ⟨s.rimshotEntry.action, l, s.clk.beats, 2 ^ 63⟩ } } := by
  have may' : (s.power.trims || !forwards .package s.rimshotEntry) = true := by simpa using may
  show ∃ l, execRimshotGo 1 s = _
  simp only [execRimshotGo, State.writeRsGo, none, form, may', ne_eq, not_true, Option.isSome_none, Bool.and_self,
    Bool.false_eq_true, if_false, if_true]
  exact ⟨_, rfl⟩

theorem exec_rimshotFire {f : Fired} (hf : s.strokes.rimshot = some f) (level : f.l.level ≠ 6) :
    exec .rimshotFire s = .next (State.fire
      ((State.put { s with strokes := { s.strokes with rimshot := none } } Obj.RS_GO 1).put Obj.RS_FIRED_DLT s.now.toNat)
      f.action.toNat f.l) := by
  show execRimshotFire s = _
  simp only [execRimshotFire, hf, level, ne_eq, not_false_eq_true, decide_true, Bool.true_or, if_true]

/-- Settles O9: each firing is the update of its entry followed by `State.fire`, which puts one stroke under way. -/
theorem strokesFireOnceAndCount : Obligations.StrokesFireOnceAndCount := by
  unfold Obligations.StrokesFireOnceAndCount
  refine ⟨fun sc e x s held trims copies live due applies reached fw slot => ?held,
    fun sc e x s old trims live due applies slot fw reached => ?replaced,
    fun sc e x s held trims live due applies slot => ?late,
    fun e x s hat live fw trims near => ⟨_, exec_strokeForward hat live fw trims near, s.strokes.at_put_same .., rfl⟩,
    fun s none form may => ?go, fun f s hf level => ⟨_, exec_rimshotFire hf level, ?fire⟩⟩
  case held =>
    obtain ⟨dies, hx⟩ := exec_strokeFire_held held (State.mayFire_of trims live due applies slot) copies fw reached
    obtain ⟨y, l, order, hy, arg, fires, words, -, -, last⟩ := s.fireEntry_eq sc e x false dies
    refine ⟨_, hx, ?_⟩
    rw [hy, State.fire_eq]
    exact ⟨⟨_, rfl, rfl, arg, rfl⟩, ⟨y, s.strokes.at_put_same _ y, fires, words, last rfl⟩,
      fun k hk => s.strokes.at_put_other y hk, rfl, rfl⟩
  case replaced =>
    refine ⟨_, exec_strokeFire_replaced old (State.mayFire_of trims live due applies slot) fw reached, ?_⟩
    rw [State.fireReplaced, State.fire_eq]
    exact ⟨⟨_, rfl, rfl, rfl, rfl⟩, rfl, rfl⟩
  case late =>
    obtain ⟨y, l, order, hy, arg, fires, -, notDue, late, -⟩ := s.fireEntry_eq sc e x true 0x3F
    refine ⟨_, exec_lateStrokeFire_held held (State.mayFire_of trims live due applies slot), ?_⟩
    have counted : Counted { s with strokes := s.strokes.put (schedKey sc e) y } _ Obj.STROKE_LATE :=
      State.bump_counted (by decide)
    rw [hy, State.fire_eq, if_pos rfl]
    obtain ⟨o, ho⟩ := State.bump_frame { s with strokes := s.strokes.put (schedKey sc e) y } Obj.STROKE_LATE 1
    rw [ho] at counted ⊢
    exact ⟨⟨_, rfl, rfl, rfl⟩, ⟨y, s.strokes.at_put_same _ y, late rfl, fires, notDue⟩, rfl, counted⟩
  case go =>
    obtain ⟨l, hl⟩ := exec_rimshotGo none form may
    have busy : (s.put Obj.RS_GO (3 : Nat)).get Obj.RS_GO = (3 : Nat) := State.put_get_nat (sz := 1) (by decide) (by decide)
    refine ⟨_, hl, busy, rfl, rfl, fun a => rfl, fun k hk => ?_⟩
    exact s.put_get_other (by simpa using hk) 3
  case fire =>
    rw [State.fire_eq]
    refine ⟨rfl, List.length_append, ?_, State.put_get_dlt (by decide) _, fun a => rfl, fun k hk => ?_⟩
    · exact (State.put_get_other _ (by decide) _).trans (State.put_get_nat (sz := 1) (v := 1) (by decide) (by decide))
    · obtain ⟨go, fired⟩ : k ≠ Obj.RS_GO ∧ k ≠ Obj.RS_FIRED_DLT := by simpa using hk
      exact (State.put_get_other _ fired _).trans (State.put_get_other _ go _)

end Sys2Proof.Machine
end

section
/-! Time sources, LOCK_STATE and steps of the count (02_drumline.md R56-R64, R455, R456). -/

namespace Sys2Proof.Machine

variable {s t u : State}

/-! ## What an event of a time source leaves (R57, R58, R455, R456) -/

/-- ACTIVE_SOURCE and LOCK_STATE are put; leaving 2 also rings. -/
theorem State.updateLock_cases (s : State) :
    s.updateLock = (s.put Obj.ACTIVE_SOURCE s.activeCode).put Obj.LOCK_STATE s.lockState ∨
    s.updateLock = ((s.put Obj.ACTIVE_SOURCE s.activeCode).put Obj.LOCK_STATE s.lockState).bell 0x0202 s.lockState := by
  unfold State.updateLock
  dsimp only
  split
  · exact .inr rfl
  · exact .inl rfl

/-- `t` is `s` but for the clock, the objects and the dictionary part; the record of source `i` is `r`, and DLT stays. -/
def State.Sourced (s : State) (i : Fin 3) (r : Source) (t : State) : Prop :=
  ∃ c o d, t = { s with clk := c, obj := o, dict := d } ∧ c.sources[i] = r ∧ c.dlt = s.clk.dlt

section
variable {i : Fin 3} {r : Source}

theorem State.Sourced.put {k v} (h : s.Sourced i r t) : s.Sourced i r (t.put k v) := by
  obtain ⟨c, o, d, rfl, hc⟩ := h
  exact ⟨c, _, d, rfl, hc⟩

theorem State.Sourced.bump {k n} (h : s.Sourced i r t) : s.Sourced i r (t.bump k n) := by
  rcases t.bump_cases k n with e | ⟨v, e⟩ <;> rw [e]
  · exact h
  · exact h.put

theorem State.Sourced.bell {code arg} (h : s.Sourced i r t) : s.Sourced i r (t.bell code arg) := by
  obtain ⟨c, o, d, rfl, hc⟩ := h
  obtain ⟨o', d', e, -⟩ := State.bell_frame { s with clk := c, obj := o, dict := d } code arg
  rw [e]
  exact ⟨c, o', d', rfl, hc⟩

/-- The integral and a step that is due may change. -/
theorem State.Sourced.clock {q due user} (h : s.Sourced i r t) :
    s.Sourced i r { t with clk := { t.clk with integ := q, stepDue := due, stepUser := user } } := by
  obtain ⟨c, o, d, rfl, hc⟩ := h
  exact ⟨_, o, d, rfl, hc⟩

theorem State.Sourced.servo {e n} (h : s.Sourced i r t) : s.Sourced i r (t.servo e n) := .put h.clock

theorem State.Sourced.updateLock (h : s.Sourced i r t) : s.Sourced i r t.updateLock := by
  rcases t.updateLock_cases with e | e <;> rw [e]
  · exact .put (.put h)
  · exact .bell (.put (.put h))

theorem State.Sourced.record : s.Sourced i r { s with clk := { s.clk with sources := s.clk.sources.set i r } } :=
  ⟨_, _, _, rfl, Vector.getElem_set_self .., rfl⟩

end

theorem State.sourceEvent_good {src : TimeSource} {d : Dlt} {e : Int} {n : Nat}
    (h : ((s.clk.sources[sourceIdx src]).run = 0 || (s.clk.sources[sourceIdx src]).inWindow d n) = true) :
    s.Sourced (sourceIdx src) ((s.clk.sources[sourceIdx src]).good d e) (s.sourceEvent src d e n) := by
  unfold State.sourceEvent
  dsimp only
  rw [if_pos h]
  refine .updateLock ?_
  split <;> split
  · exact .servo (.put (.clock .record))
  · exact .servo (.put .record)
  · exact .clock .record
  · exact .record

/-- A missed event of a source that has not qualified ends its run (R57). -/
theorem State.sourceMiss_unqualified {src : TimeSource} (h : (s.clk.sources[sourceIdx src]).qualified = false) :
    s.Sourced (sourceIdx src) (s.clk.sources[sourceIdx src]).ended (s.sourceMiss src) := by
  unfold State.sourceMiss
  simp only [h, Bool.false_and, Bool.false_eq_true, if_false]
  exact .updateLock .record

/-! ## SYNC_IN (R57, R59) -/

section
variable {f : Bool} {d : Dlt}

/-- The edge that SYNC_EDGE selects, while SYNC_IN is on. -/
theorem edge_selected (mode : s.nat Obj.SYNC_MODE ≠ 0) (edge : f = true ↔ s.nat Obj.SYNC_EDGE = 1) :
    (s.nat Obj.SYNC_MODE = 0 || f != (s.nat Obj.SYNC_EDGE = 1)) = false := by
  have same : f = decide (s.nat Obj.SYNC_EDGE = 1) := by rw [Bool.eq_iff_iff, edge, decide_eq_true_iff]
  simp [mode, ← same]

theorem exec_syncInEdge_accepted (mode : s.nat Obj.SYNC_MODE ≠ 0) (edge : f = true ↔ s.nat Obj.SYNC_EDGE = 1)
    (hit : (s.clk.sources[sourceIdx .syncIn]).run = 0 ∨
      (s.clk.sources[sourceIdx .syncIn]).inWindow d (s.sourcePeriod .syncIn) = true) :
    exec (.syncInEdge f d) s = .next ((s.sourceEvent .syncIn d (syncError d (s.nat Obj.SYNC_PHASE) (s.sourcePeriod .syncIn))
      (s.sourcePeriod .syncIn)).put Obj.LAST_EDGE_DLT d.toNat) := by
  show execSyncInEdge f d s = _
  have hit' : ((s.clk.sources[sourceIdx .syncIn]).run = 0 ||
      (s.clk.sources[sourceIdx .syncIn]).inWindow d (s.sourcePeriod .syncIn)) = true := by simpa using hit
  simp only [execSyncInEdge, edge_selected mode edge, hit', Bool.false_eq_true, if_false, if_true]

theorem exec_syncInEdge_outside (mode : s.nat Obj.SYNC_MODE ≠ 0) (edge : f = true ↔ s.nat Obj.SYNC_EDGE = 1)
    (run : (s.clk.sources[sourceIdx .syncIn]).run ≠ 0)
    (miss : (s.clk.sources[sourceIdx .syncIn]).inWindow d (s.sourcePeriod .syncIn) = false) :
    exec (.syncInEdge f d) s = .next (s.bump Obj.MISS_COUNT) := by
  show execSyncInEdge f d s = _
  simp only [execSyncInEdge, edge_selected mode edge, run, miss, decide_false, Bool.or_self, Bool.false_eq_true, if_false]

end

theorem exec_sourceEventMissed {src : TimeSource} (run : (s.clk.sources[sourceIdx src]).run ≠ 0)
    (closed : (s.sourcePeriod src : Int) < 100 * Dlt.diff s.now ((s.clk.sources[sourceIdx src]).last +
      BitVec.ofNat 64 (((s.clk.sources[sourceIdx src]).missed + 1) * s.sourcePeriod src))) :
    exec (.sourceEventMissed src) s = .next ((if src = .syncIn then s.bump Obj.MISS_COUNT else s).sourceMiss src) := by
  show execSourceEventMissed src s = _
  rw [execSourceEventMissed]
  exact if_pos ⟨run, closed⟩

/-! ## LOCK_STATE (R456) -/

/-- A flag that no source has is not read from any place. -/
theorem no_source_flag {v : Vector Source 3} {p : Source → Bool} (h : ∀ i : Fin 3, p v[i] = false) (n : Nat) :
    ((v.toList[n]?).map p).getD false = false := by
  by_cases hn : n < 3
  · simpa [hn] using h ⟨n, hn⟩
  · simp [hn]

theorem any_source_false {v : Vector Source 3} {p : Source → Bool} (h : ∀ i : Fin 3, p v[i] = false) : v.any p = false := by
  rw [Vector.any_eq_false]
  exact fun i hi => by simpa using h ⟨i, hi⟩

/-- Without a qualified source none is active. -/
theorem State.activeCode_none (h : ∀ i : Fin 3, (s.clk.sources[i]).qualified = false) : s.activeCode = 0 := by
  have none : (priorityList (s.nat Obj.PRIORITY)).find? (fun c =>
      ((s.clk.sources.toList[c - 1]?).map (·.qualified)).getD false) = none :=
    List.find?_eq_none.2 fun c _ => by simpa using no_source_flag h (c - 1)
  rw [State.activeCode, none]
  rfl

/-- With a source enabled and none ever qualified LOCK_STATE is 1. -/
theorem State.lockState_waiting (qual : ∀ i : Fin 3, (s.clk.sources[i]).qualified = false)
    (ever : ∀ i : Fin 3, (s.clk.sources[i]).everQual = false) (enabled : s.sourceEnabled 3 = true) : s.lockState = 1 := by
  simp [State.lockState, State.activeCode_none qual, any_source_false qual, any_source_false ever, enabled]

theorem State.updateLock_get_other {k : Nat} (active : k ≠ Obj.ACTIVE_SOURCE) (lock : k ≠ Obj.LOCK_STATE)
    (seq : k ≠ Obj.BELL_NEXT_SEQ) (lost : k ≠ Obj.BELL_LOST) : s.updateLock.get k = s.get k := by
  rcases s.updateLock_cases with e | e <;> rw [e]
  · rw [State.put_get_other _ lock, State.put_get_other _ active]
  · rw [State.bell_get seq lost, State.put_get_other _ lock, State.put_get_other _ active]

theorem State.updateLock_get_lock (h : s.lockState < 256) : s.updateLock.get Obj.LOCK_STATE = s.lockState := by
  rcases s.updateLock_cases with e | e <;> rw [e]
  · rw [State.put_get_nat (sz := 1) (by decide) h]
  · rw [State.bell_get (by decide) (by decide), State.put_get_nat (sz := 1) (by decide) h]

theorem State.updateLock_frame (s : State) : ∃ o d, s.updateLock = { s with obj := o, dict := d } := by
  rcases s.updateLock_cases with e | e <;> rw [e]
  · exact ⟨_, _, rfl⟩
  · obtain ⟨o, d, rung, -⟩ := State.bell_frame
      ((s.put Obj.ACTIVE_SOURCE s.activeCode).put Obj.LOCK_STATE s.lockState) 0x0202 s.lockState
    exact ⟨o, d, rung⟩

theorem exec_syncModeWrite {v : Nat} (h : v = 1 ∨ v = 2) :
    exec (.syncModeWrite v) s = .next (s.put Obj.SYNC_MODE v).updateLock := by
  show execSyncModeWrite v s = _
  rw [execSyncModeWrite, if_pos (by omega), State.writeSyncMode]
  exact congrArg (Host.Outcome.next ∘ State.updateLock) (if_neg (by omega))

/-- Turning SYNC_IN on while PRIORITY names it leaves the part waiting for a source. -/
theorem State.lockState_syncIn_on {v : Nat} (hv : v = 1 ∨ v = 2)
    (prio : (priorityList (s.nat Obj.PRIORITY)).contains 3 = true)
    (none : ∀ i : Fin 3, (s.clk.sources[i]).qualified = false ∧ (s.clk.sources[i]).everQual = false) :
    (s.put Obj.SYNC_MODE v).lockState = 1 := by
  have on : (s.put Obj.SYNC_MODE v).nat Obj.SYNC_MODE = v := by
    rw [State.nat, State.put_get_nat (sz := 1) (by decide) (by omega), Int.toNat_natCast]
  have listed : (s.put Obj.SYNC_MODE v).nat Obj.PRIORITY = s.nat Obj.PRIORITY := s.put_nat_other (by decide) v
  refine State.lockState_waiting (fun i => (none i).1) (fun i => (none i).2) ?_
  simp only [State.sourceEnabled, on, listed, prio, Bool.true_and, decide_eq_true_eq]
  omega

/-! ## Steps (R62, R63) -/

section
variable (rel : s.nat Obj.STEP_MODE ≠ 0)
include rel

theorem exec_stepGo_zero (zero : s.get Obj.STEP_VALUE = 0) : exec (.stepGo 1) s = .next (s.put Obj.STEP_GO 3) := by
  show execStepGo 1 s = _
  simp [execStepGo, State.writeStepGo, rel, zero]

theorem exec_stepGo_backward (back : s.get Obj.STEP_VALUE < 0) (run : s.clk.running = true) (force : s.nat Obj.FORCE = 0) :
    exec (.stepGo 1) s = .next (s.put Obj.STEP_GO 2) := by
  show execStepGo 1 s = _
  simp [execStepGo, State.writeStepGo, rel, back, back.ne, run, force]

theorem exec_stepGo_due (nonzero : s.get Obj.STEP_VALUE ≠ 0)
    (may : 0 < s.get Obj.STEP_VALUE ∨ s.clk.running = false ∨ s.nat Obj.FORCE ≠ 0) : exec (.stepGo 1) s = .next { s with
      clk := { s.clk with stepDue := some (s.clk.beats + 1, false, s.get Obj.STEP_VALUE), stepUser := true } } := by
  have go : (decide (s.get Obj.STEP_VALUE < 0) && s.clk.running && s.nat Obj.FORCE = 0) = false := by
    rcases may with h | h | h
    · simp [h.le]
    · simp [h]
    · simp [h]
  show execStepGo 1 s = _
  simp only [execStepGo, State.writeStepGo, rel, nonzero, go, decide_false, ne_eq, not_true, Bool.false_eq_true, if_false]

end

/-- A frame at a step: its deadline follows the next occurrence of its entry, and a backward step marks it (R63, R72). -/
def Frame.stepped (f : Frame) (entries : List (Nat × Stroke)) (back : Bool) : Frame :=
  let moved := match f.entry.bind (steppedNext entries) with
    | some n => { f with deadline := n }
    | none => f
  { moved with timeStep := f.timeStep || back }

section
variable (f : Frame) (entries : List (Nat × Stroke)) (back : Bool)

theorem Frame.stepped_mark : (f.stepped entries back).timeStep = (f.timeStep || back) := rfl

theorem Frame.stepped_rest : { f.stepped entries back with deadline := f.deadline, timeStep := f.timeStep } = f := by
  unfold Frame.stepped
  dsimp only
  split <;> rfl

theorem Frame.stepped_deadline :
    (f.stepped entries back).deadline = (f.entry.bind (steppedNext entries)).getD f.deadline := by
  unfold Frame.stepped
  dsimp only
  split
  · next h => rw [h]; rfl
  · next h => rw [h]; rfl

end

/-- The entries at a step to `new` (R63). -/
def State.steppedEntries (s : State) (new : Dlt) : List (Nat × Stroke) :=
  s.strokes.entries.map fun e => (e.1, if s.power.trims then e.2.stepped new else e.2)

theorem steppedNext_of_at {x : Strokes} {k : Nat} {e : Stroke} (h : x.at k = some e) (period : e.period ≠ 0)
    (fired : e.state ≠ 3) (cancelled : e.state ≠ 5) : steppedNext x.entries k = some e.next := by
  have period' : e.period.toNat ≠ 0 := fun h0 => period (BitVec.eq_of_toNat_eq h0)
  unfold Strokes.at at h
  simp [steppedNext, h, period', fired, cancelled]

/-- The bookkeeping of a step: LAST_STEP_DLT, and the counts of steps. -/
def State.countStep (s : State) (v : Int) : State :=
  let s2 := (s.put Obj.LAST_STEP_DLT s.now.toNat).bump Obj.STEP_COUNT
  if v < 0 then s2.bump Obj.BACK_STEP_COUNT else s2

theorem State.countStep_last (s : State) (v : Int) : (s.countStep v).get Obj.LAST_STEP_DLT = s.now.toNat := by
  have last : (s.put Obj.LAST_STEP_DLT s.now.toNat).get Obj.LAST_STEP_DLT = s.now.toNat := State.put_get_dlt (by decide) _
  unfold State.countStep
  dsimp only
  split
  · rw [State.bump_get_other (by decide), State.bump_get_other (by decide), last]
  · rw [State.bump_get_other (by decide), last]

/-- WHAT A STEP DOES (R62-R64): the clock and its copies take the new value, entries and frames follow it, and the objects
keep the step. -/
theorem State.stepBy_eq (s : State) (v : Int) : ∃ sources m, s.stepBy v = State.countStep
    { s with
      clk := { s.clk with dlt := Dlt.add s.now v, copies := Vector.replicate 4 (Dlt.add s.now v), sources := sources }
      strokes := { s.strokes with entries := s.steppedEntries (Dlt.add s.now v) }
      focal := { s.focal with frames := s.focal.frames.map fun f => f.stepped (s.steppedEntries (Dlt.add s.now v)) (v < 0) }
      mc := m } v :=
  ⟨_, _, rfl⟩

/-- DLT_STEP of a relative step whose beat has come; STEP_GO tells a user's step that it has been made (R62). -/
theorem exec_dltStep {b : Nat} {v : Int} (due : s.clk.stepDue = some (b, false, v)) (beat : b ≤ s.clk.beats) :
    let t := State.stepBy { s with clk := { s.clk with stepDue := none, stepUser := false } } v
    exec .dltStep s = .next (if s.clk.stepUser then t.put Obj.STEP_GO 1 else t) := by
  show execDltStep s = _
  simp only [execDltStep, due, Nat.not_lt.2 beat, Bool.false_and, Bool.false_eq_true, if_false]

/-- What a step leaves in the clock and the frames. -/
structure Stepped (s : State) (v : Int) (t : State) : Prop where
  dlt : t.clk.dlt = Dlt.add s.clk.dlt v
  copies : ∀ q : Fin 4, t.clk.copies[q] = t.clk.dlt
  due : t.clk.stepDue = s.clk.stepDue
  frames : t.focal = { s.focal with frames := s.focal.frames.map fun f => f.stepped t.strokes.entries (v < 0) }
  mem : t.mem = s.mem

section
variable {v : Int}

theorem Stepped.put {k : Nat} {w : Int} (h : Stepped s v t) : Stepped s v (t.put k w) := by
  obtain ⟨dlt, copies, due, frames, mem⟩ := h
  exact ⟨dlt, copies, due, frames, mem⟩

theorem Stepped.bump {k n : Nat} (h : Stepped s v t) : Stepped s v (t.bump k n) := by
  rcases t.bump_cases k n with e | ⟨w, e⟩ <;> rw [e]
  · exact h
  · exact h.put

theorem Stepped.countStep {w : Int} (h : Stepped s v t) : Stepped s v (t.countStep w) := by
  unfold State.countStep
  dsimp only
  split
  · exact .bump (.bump (.put h))
  · exact .bump (.put h)

theorem State.stepBy_stepped (s : State) (v : Int) : Stepped s v (s.stepBy v) := by
  obtain ⟨sources, m, h⟩ := s.stepBy_eq v
  rw [h]
  exact .countStep ⟨rfl, fun q => Vector.getElem_replicate .., rfl, rfl, rfl⟩

theorem State.stepBy_last (s : State) (v : Int) :
    (s.stepBy v).get Obj.LAST_STEP_DLT = (Dlt.add s.clk.dlt v).toNat := by
  obtain ⟨sources, m, h⟩ := s.stepBy_eq v
  rw [h, State.countStep_last]
  rfl

/-- A frame of the state after a step is the frame before it, stepped. -/
theorem Stepped.frame (h : Stepped s v t) {i : Nat} {f g : Frame} (hf : s.focal.frames[i]? = some f)
    (hg : t.focal.frames[i]? = some g) : g = f.stepped t.strokes.entries (v < 0) := by
  rw [h.frames, List.getElem?_map, hf] at hg
  exact (Option.some.inj hg).symm

theorem Stepped.length (h : Stepped s v t) : t.focal.frames.length = s.focal.frames.length := by
  rw [h.frames]
  exact List.length_map _

/-- A backward step marks every frame in progress (R63). -/
theorem Stepped.marked (h : Stepped s v t) (back : v < 0) {g : Frame} (hg : g ∈ t.focal.frames) : g.timeStep = true := by
  rw [h.frames] at hg
  obtain ⟨f, -, rfl⟩ := List.mem_map.1 hg
  rw [Frame.stepped_mark, decide_eq_true back, Bool.or_true]

end

/-- After DLT_STEP, whether or not STEP_GO answers a user. -/
theorem dltStep_stepped (s : State) (v : Int) (user : Bool) :
    let t := if user then (s.stepBy v).put Obj.STEP_GO 1 else s.stepBy v
    Stepped s v t ∧ t.get Obj.LAST_STEP_DLT = (Dlt.add s.clk.dlt v).toNat := by
  dsimp only
  split
  · exact ⟨.put (s.stepBy_stepped v), by rw [State.put_get_other _ (by decide), s.stepBy_last v]⟩
  · exact ⟨s.stepBy_stepped v, s.stepBy_last v⟩

/-- Settles O10: an equation for each command and case; what a source's event, LOCK_STATE and a step leave is said above. -/
theorem timeSourcesAndSteps : Obligations.TimeSourcesAndSteps := by
  unfold Obligations.TimeSourcesAndSteps
  refine ⟨fun f d s mode edge hit => ⟨_, exec_syncInEdge_accepted mode edge hit, ?accepted⟩,
    fun f d s mode edge run miss => ⟨_, exec_syncInEdge_outside mode edge run miss, State.bump_alone (by decide)⟩,
    fun src s run qual closed => ⟨_, exec_sourceEventMissed run closed, ?missed⟩,
    fun v s hv prio none => ⟨_, exec_syncModeWrite hv, ?mode⟩,
    fun s rel zero => ⟨_, exec_stepGo_zero rel zero, State.put_alone (sz := 1) (v := 3) (by decide) (by decide)⟩,
    fun s rel back run force =>
      ⟨_, exec_stepGo_backward rel back run force, State.put_alone (sz := 1) (v := 2) (by decide) (by decide)⟩,
    fun s rel nonzero may => ⟨_, exec_stepGo_due rel nonzero may, rfl, rfl, rfl⟩,
    fun b v s due beat => ⟨_, exec_dltStep due beat, ?step⟩⟩
  case accepted =>
    have event := State.sourceEvent_good (s := s) (src := .syncIn) (d := d) (n := s.sourcePeriod .syncIn)
      (e := syncError d (s.nat Obj.SYNC_PHASE) (s.sourcePeriod .syncIn)) (by simpa using hit)
    generalize s.sourceEvent .syncIn d _ _ = t at event
    obtain ⟨c, o, dict, rfl, record, dlt⟩ := event
    refine ⟨State.put_get_dlt (by decide) d, ?_, ?_, dlt, fun a => rfl⟩
    · rw [State.put_clk, record]
      rfl
    · rw [State.put_clk, record]
      rfl
  case missed =>
    have counted : ∃ o, (if src = .syncIn then s.bump Obj.MISS_COUNT else s) = { s with obj := o } := by
      split
      · exact s.bump_frame ..
      · exact ⟨s.obj, rfl⟩
    obtain ⟨o, ho⟩ := counted
    rw [ho]
    have miss := State.sourceMiss_unqualified (s := { s with obj := o }) qual
    generalize State.sourceMiss { s with obj := o } src = t at miss
    obtain ⟨c, o', dict, rfl, record, dlt⟩ := miss
    refine ⟨?_, dlt, fun a => rfl⟩
    rw [record]
    rfl
  case mode =>
    have lock := State.lockState_syncIn_on hv prio none
    obtain ⟨o, d, ho⟩ := (s.put Obj.SYNC_MODE v).updateLock_frame
    refine ⟨?_, ?_, by rw [ho]; rfl, fun a => by rw [ho]; rfl⟩
    · rw [State.updateLock_get_lock (by omega), lock]
      rfl
    · rw [State.updateLock_get_other (by decide) (by decide) (by decide) (by decide),
        State.put_get_nat (sz := 1) (by decide) (by omega)]
  case step =>
    obtain ⟨h, last⟩ := dltStep_stepped { s with clk := { s.clk with stepDue := none, stepUser := false } } v s.clk.stepUser
    generalize (if s.clk.stepUser = true then _ else _) = t at h last ⊢
    refine ⟨h.dlt, h.copies, h.due, by rw [last, h.dlt], h.length, fun back f hf => h.marked back hf, fun i f g hf hg => ?_,
      by rw [h.frames], fun a => by rw [State.byte, h.mem]; rfl⟩
    rw [h.frame hf hg]
    refine ⟨f.stepped_rest .., fun forward => ?_, fun entry => ?_, fun k x entry hx period fired cancelled => ?_⟩
    · rw [Frame.stepped_mark, decide_eq_false (Int.not_lt.2 forward), Bool.or_false]
    · rw [Frame.stepped_deadline, entry]
      rfl
    · rw [Frame.stepped_deadline, entry, Option.bind_some, steppedNext_of_at hx period fired cancelled]
      rfl

end Sys2Proof.Machine
end

section
/-! What the focal-plane chapter's proofs need of objects and memory (03_focal_plane_readout.md): what a change of one object
leaves, and what reading back a stored word gives. -/

namespace Sys2Proof.Machine

variable {s t : State}

/-! ## Changes of objects that are listed -/

section
variable {keys : List Nat} {k : Nat}

theorem SameObj.refl : SameObj s s keys := fun _ _ => rfl

theorem SameObj.put {v : Int} (h : SameObj s t keys) (hk : k ∈ keys := by simp) : SameObj s (t.put k v) keys :=
  fun j hj => by rw [t.put_get_other (ne_of_mem_of_not_mem hk hj).symm, h j hj]

theorem SameObj.bump {n : Nat} (h : SameObj s t keys) (hk : k ∈ keys := by simp) : SameObj s (t.bump k n) keys :=
  fun j hj => by rw [State.bump_get_other (ne_of_mem_of_not_mem hk hj).symm, h j hj]

theorem SameObj.bell {code arg : Nat} (h : SameObj s t keys) (seq : Obj.BELL_NEXT_SEQ ∈ keys := by simp)
    (lost : Obj.BELL_LOST ∈ keys := by simp) : SameObj s (t.bell code arg) keys :=
  fun j hj => by
    rw [State.bell_get (ne_of_mem_of_not_mem seq hj).symm (ne_of_mem_of_not_mem lost hj).symm, h j hj]

end

theorem State.bump_nat_other {k j : Nat} (h : j ≠ k) (n : Nat) : (s.bump k n).nat j = s.nat j :=
  congrArg Int.toNat (State.bump_get_other h n)

/-- What an object reads as depends on the object store alone. -/
theorem State.get_congr (h : t.obj = s.obj) (k : Nat) : t.get k = s.get k := by rw [State.get, State.get, h]

/-! ## Words in memory (R11) -/

theorem wrapNat_lt (w : Nat) (x : Int) : wrapNat w x < 2 ^ w := by
  have := Int.emod_lt_of_pos x (show (0 : Int) < 2 ^ w by positivity)
  unfold wrapNat
  zify
  omega

theorem length_leBytes (n v : Nat) : (leBytes n v).length = n := by
  induction n generalizing v with
  | zero => rfl
  | succ n ih => simp [leBytes, ih]

theorem leVal_leBytes (n v : Nat) : leVal (leBytes n v) = v % 256 ^ n := by
  induction n generalizing v with
  | zero => simp [leBytes, leVal, Nat.mod_one]
  | succ n ih =>
    rw [leBytes, leVal, ih, BitVec.toNat_ofNat, pow_succ' 256 n, Nat.mod_mul]

theorem State.bytes_poke (s : State) (a : Nat) (bs : List Byte) : (s.poke a bs).bytes a bs.length = bs := by
  refine List.ext_getElem (by simp [State.bytes, Mem.read]) fun i _ hi => ?_
  have here := s.byte_poke a bs (a + i)
  rw [if_pos (by omega), Nat.add_sub_cancel_left, List.getD_eq_getElem _ _ hi] at here
  rw [← here]
  simp [State.bytes, Mem.read, State.byte]

/-- Bytes outside those stored read as before. -/
theorem State.byte_poke_other {a c : Nat} {bs : List Byte} (h : c < a ∨ a + bs.length ≤ c) :
    (s.poke a bs).byte c = s.byte c := by
  rw [s.byte_poke, if_neg (by omega)]

/-- A stored word reads back. -/
theorem State.le_poke_word (s : State) (a : Nat) {v : Nat} (hv : v < 2 ^ 32) : (s.poke a (leBytes 4 v)).le a 4 = v := by
  have stored := s.bytes_poke a (leBytes 4 v)
  rw [length_leBytes] at stored
  rw [State.le, stored, leVal_leBytes, Nat.mod_eq_of_lt (by omega)]

/-- A word apart from the bytes stored reads as before. -/
theorem State.le_poke_other {a b : Nat} {bs : List Byte} (n : Nat) (h : b + n ≤ a ∨ a + bs.length ≤ b) :
    (s.poke a bs).le b n = s.le b n := by
  refine congrArg leVal (List.map_congr_left fun i hi => ?_)
  have := List.mem_range.1 hi
  exact State.byte_poke_other (by omega)

end Sys2Proof.Machine
end

section
/-! What the work around a frame and the monitor converter leaves (03_focal_plane_readout.md R68, R71, R99): the clock, the
monitor converter, the scans, the temperatures, what tells the newest frame, and a window of the objects. As for `State.Keeps`,
a state `t` reached from `s` is followed through the operations that made it, with one lemma for each operation. -/

namespace Sys2Proof.Machine

variable {s t u : State} {lo hi : Nat}

/-- What a launched frame keeps as long as it is referred to, and whether its gate has passed. -/
def Frame.core (f : Frame) : BitVec 32 × Dlt × Nat × Bool := (f.num, f.landing, f.profile, f.gateDone)

/-- `t` has the clock, the monitor converter, the scans, the temperatures and the newest frame's core of `s`, and the objects
whose keys lie from `lo` up to `hi`. -/
structure State.Leaves (lo hi : Nat) (s t : State) : Prop where
  clk : t.clk = s.clk
  mc : t.mc = s.mc
  scans : t.focal.scans = s.focal.scans
  started : t.focal.started = s.focal.started
  clt : t.focal.clt = s.focal.clt
  newest : t.focal.frames.head?.map Frame.core = s.focal.frames.head?.map Frame.core
  objs : ∀ k, lo ≤ k → k < hi → t.get k = s.get k

theorem State.Leaves.refl : s.Leaves lo hi s := ⟨rfl, rfl, rfl, rfl, rfl, rfl, fun _ _ _ => rfl⟩

/-- A record update of any other fields. -/
theorem State.Leaves.update {pending free otp mem banks eccBad strokes fab pix shadow pipe cal rolls views lanes eye dict
    ports act ens lands power} (h : s.Leaves lo hi t) :
    s.Leaves lo hi ⟨pending, free, otp, t.obj, mem, banks, eccBad, t.clk, strokes, t.focal, t.mc, fab, pix, shadow, pipe, cal,
      rolls, views, lanes, eye, dict, ports, act, ens, lands, power⟩ :=
  ⟨h.clk, h.mc, h.scans, h.started, h.clt, h.newest, h.objs⟩

theorem State.Leaves.fst {α : Type} {p : State × α} {x : α} (h : s.Leaves lo hi p.1) (e : p = (u, x)) : s.Leaves lo hi u := by
  subst e
  exact h

theorem State.Leaves.ite {c : Prop} [Decidable c] (ht : s.Leaves lo hi t) (hu : s.Leaves lo hi u) :
    s.Leaves lo hi (if c then t else u) := by
  split <;> assumption

theorem State.Leaves.iteFst {α : Type} {c : Prop} [Decidable c] {a b : State × α} (ha : s.Leaves lo hi a.1)
    (hb : s.Leaves lo hi b.1) : s.Leaves lo hi (if c then a else b).1 := by
  split <;> assumption

/-- An intermediate state that several branches go on from. -/
theorem State.Leaves.via (h : s.Leaves lo hi t) (hu : s.Leaves lo hi t → s.Leaves lo hi u) : s.Leaves lo hi u := hu h

theorem State.Leaves.foldl {α : Type} {f : State → α → State} {l : List α} (h : s.Leaves lo hi t)
    (hf : ∀ u x, s.Leaves lo hi u → s.Leaves lo hi (f u x)) : s.Leaves lo hi (l.foldl f t) :=
  List.foldlRecOn _ _ h fun u hu x _ => hf u x hu

theorem State.Leaves.foldlFst {α β : Type} {f : State × β → α → State × β} {l : List α} {a : State × β}
    (h : s.Leaves lo hi a.1) (hf : ∀ a x, s.Leaves lo hi a.1 → s.Leaves lo hi (f a x).1) : s.Leaves lo hi (l.foldl f a).1 :=
  List.foldlRecOn (motive := fun b => s.Leaves lo hi b.1) _ _ h fun b hb x _ => hf b x hb

/-! ## Objects, memory, bells -/

theorem State.Leaves.put {k v} (h : s.Leaves lo hi t) (hk : k < lo ∨ hi ≤ k := by simp +decide) :
    s.Leaves lo hi (t.put k v) :=
  ⟨h.clk, h.mc, h.scans, h.started, h.clt, h.newest, fun j hl hh => by
    rw [State.put_get_other t (by omega : j ≠ k), h.objs j hl hh]⟩

theorem State.Leaves.bump {k n} (h : s.Leaves lo hi t) (hk : k < lo ∨ hi ≤ k := by simp +decide) :
    s.Leaves lo hi (t.bump k n) := by
  rcases t.bump_cases k n with e | ⟨v, e⟩ <;> rw [e]
  · exact h
  · exact h.put hk

theorem State.Leaves.putBytes {bs k off} (h : s.Leaves lo hi t) (hk : hi ≤ k := by simp +decide) :
    s.Leaves lo hi (t.putBytes k off bs) := by
  induction bs generalizing t off with
  | nil => exact h
  | cons b bs ih => exact ih (h.put (by omega))

theorem State.Leaves.putLe {k off n v} (h : s.Leaves lo hi t) (hk : hi ≤ k := by simp +decide) :
    s.Leaves lo hi (t.putLe k off n v) := h.putBytes hk

theorem State.Leaves.bumpLe {k off n c} (h : s.Leaves lo hi t) (hk : hi ≤ k := by simp +decide) :
    s.Leaves lo hi (t.bumpLe k off n c) := h.putLe hk

theorem State.Leaves.bell {code arg} (h : s.Leaves lo hi t)
    (hk : Obj.BELL_NEXT_SEQ < lo ∨ hi ≤ Obj.BELL_LOST := by simp +decide) : s.Leaves lo hi (t.bell code arg) := by
  have lost : Obj.BELL_LOST < Obj.BELL_NEXT_SEQ := by decide
  unfold State.bell
  dsimp only
  split
  · exact .update (h.put (by omega))
  · exact .bump (h.put (by omega)) (by omega)

theorem State.Leaves.poke {a bs} (h : s.Leaves lo hi t) : s.Leaves lo hi (t.poke a bs) := .update h

theorem State.Leaves.wipe {l r} (h : s.Leaves lo hi t) : s.Leaves lo hi (t.wipe l r) := .update h

theorem State.Leaves.drawn {n} (h : s.Leaves lo hi t) : s.Leaves lo hi (t.drawn n) := .update h

/-! ## Frames -/

/-- The frames may change, but for what tells the newest. -/
theorem State.Leaves.frames {fs : List Frame} (h : s.Leaves lo hi t)
    (newest : fs.head?.map Frame.core = t.focal.frames.head?.map Frame.core) :
    s.Leaves lo hi { t with focal := { t.focal with frames := fs } } :=
  ⟨h.clk, h.mc, h.scans, h.started, h.clt, newest.trans h.newest, h.objs⟩

theorem State.Leaves.mapFrames {f : Frame → Frame} (h : s.Leaves lo hi t) (core : ∀ x, (f x).core = x.core) :
    s.Leaves lo hi { t with focal := { t.focal with frames := t.focal.frames.map f } } :=
  h.frames (by cases t.focal.frames <;> simp [core])

theorem State.Leaves.mapFrame {n} {f : Frame → Frame} (h : s.Leaves lo hi t) (core : ∀ x, (f x).core = x.core) :
    s.Leaves lo hi (t.mapFrame n f) :=
  h.mapFrames fun x => by
    split
    · exact core x
    · rfl

/-! ## Rolls, budgets and leases (08) -/

theorem State.Leaves.setLease {r l} (h : s.Leaves lo hi t) : s.Leaves lo hi (t.setLease r l) := .update h

theorem State.Leaves.setEngine {p e} (h : s.Leaves lo hi t) : s.Leaves lo hi (t.setEngine p e) := .update h

theorem State.Leaves.setRegion {g r} (h : s.Leaves lo hi t) : s.Leaves lo hi (t.setRegion g r) := .update h

theorem State.Leaves.mapWaits {f} (h : s.Leaves lo hi t) : s.Leaves lo hi (t.mapWaits f) := .update h

theorem State.Leaves.spend {i c n} (h : s.Leaves lo hi t) : s.Leaves lo hi (t.spend i c n) := .ite h (.update h)

section
variable (rolls : hi ≤ Obj.STALL_ROLLS)
include rolls

theorem State.Leaves.stallRoll {i c} (h : s.Leaves lo hi t) : s.Leaves lo hi (t.stallRoll i c) :=
  .ite h (.bumpLe (.update h) rolls)

theorem State.Leaves.spendSome {i c n} (h : s.Leaves lo hi t) : s.Leaves lo hi (t.spendSome i c n).1 :=
  .iteFst h (.iteFst (.spend h) (.stallRoll rolls (.spend h)))

theorem State.Leaves.owe {i c n} (h : s.Leaves lo hi t) : s.Leaves lo hi (t.owe i c n) :=
  .ite (.spendSome rolls h) (.update (.spendSome rolls h))

theorem State.Leaves.owePorts {c n} (h : s.Leaves lo hi t) : s.Leaves lo hi (t.owePorts c n) :=
  .foldl h fun _ _ hu => .owe rolls hu

end

theorem State.Leaves.holdPorts {code} (h : s.Leaves lo hi t) : s.Leaves lo hi (t.holdPorts code) :=
  .foldl h fun _ _ hu => .ite hu (.ite (.setLease hu) (.setLease hu))

/-! ## Banks and gates (06) -/

theorem State.Leaves.bankView {g} (h : s.Leaves lo hi t) (banks : hi ≤ Obj.ACTIVE_GEN) : s.Leaves lo hi (t.bankView g) := by
  have order : Obj.ACTIVE_GEN ≤ Obj.INACTIVE_GEN ∧ Obj.INACTIVE_GEN ≤ Obj.BANK_READY := by decide
  exact .put (.putLe (.putLe h banks) (banks.trans order.1)) (.inr (banks.trans (order.1.trans order.2)))

theorem State.Leaves.setBank {i b} (h : s.Leaves lo hi t) : s.Leaves lo hi (t.setBank i b) := .update h

theorem State.Leaves.setVerified {i v} (h : s.Leaves lo hi t) : s.Leaves lo hi (t.setVerified i v) := .update (.setBank h)

theorem State.Leaves.gateRegion {g f} (h : s.Leaves lo hi t) : s.Leaves lo hi (t.gateRegion g f) :=
  .mapFrame (.setRegion (.wipe (.drawn (.poke (.poke h))))) fun _ => rfl

theorem State.Leaves.gateHeld {f} (h : s.Leaves lo hi t) : s.Leaves lo hi (t.gateHeld f) :=
  .ite h (.foldl h fun _ _ hu => .ite (.gateRegion hu) hu)

theorem State.Leaves.updateOver (h : s.Leaves lo hi t) : s.Leaves lo hi t.updateOver := .ite (.update h) h

end Sys2Proof.Machine
end

section
/-! The monitor converter's buffer and the views that mirror it (03_focal_plane_readout.md R103; 09 R302): what an entry of a
record view leaves. -/

namespace Sys2Proof.Machine

variable {s t u : State} {lo hi : Nat}

theorem State.Leaves.mapLane {n f} (h : s.Leaves lo hi t) : s.Leaves lo hi (t.mapLane n f) := .update h

theorem State.Leaves.mapView {v f} (h : s.Leaves lo hi t) : s.Leaves lo hi (t.mapView v f) := .update h

theorem State.Leaves.emitBlock {n b} (h : s.Leaves lo hi t) : s.Leaves lo hi (t.emitBlock n b) := .update h

theorem State.Leaves.putBlock {n b} (h : s.Leaves lo hi t) : s.Leaves lo hi (t.putBlock n b) :=
  .emitBlock (.mapLane (.ite (.emitBlock (.mapLane h)) h))

theorem State.Leaves.putPackets {n ps} (h : s.Leaves lo hi t) : s.Leaves lo hi (t.putPackets n ps) :=
  .foldl h fun _ _ hu => .foldl hu fun _ _ hv => .putBlock hv

theorem State.Leaves.flushLane {n} (h : s.Leaves lo hi t) : s.Leaves lo hi (t.flushLane n) := by
  unfold State.flushLane
  exact .mapLane (.putPackets h)

theorem State.Leaves.tx {n pk} (h : s.Leaves lo hi t) : s.Leaves lo hi (t.tx n pk) := .flushLane (.mapLane h)

theorem State.Leaves.writeOut {n addr bs view frame line} (h : s.Leaves lo hi t) :
    s.Leaves lo hi (t.writeOut n addr bs view frame line) := .foldl h fun _ _ hu => .tx hu

theorem State.Leaves.writeArea {v n first off bs frame line} (h : s.Leaves lo hi t) :
    s.Leaves lo hi (t.writeArea v n first off bs frame line) := .writeOut (.writeOut h)

/-- The keys of a view's counters lie above those of the chapter. -/
theorem viewKeys_above (v : Nat) (h : hi ≤ Obj.NEXT_PAGE 0) : hi ≤ Obj.NEXT_PAGE v ∧ hi ≤ Obj.REC_LOST v := by
  unfold Obj.NEXT_PAGE at *
  unfold Obj.REC_LOST
  omega

theorem State.Leaves.closePage {v} (h : s.Leaves lo hi t) (views : hi ≤ Obj.NEXT_PAGE 0) : s.Leaves lo hi (t.closePage v) := by
  have rolls : hi ≤ Obj.STALL_ROLLS := views.trans (by decide)
  unfold State.closePage
  split
  · exact h
  · exact .ite h (.ite (.stallRoll rolls h)
      (.mapView (.put (.writeArea (.owe rolls h)) (.inr (viewKeys_above v views).1))))

theorem State.Leaves.addEntry {v t0 entry} (h : s.Leaves lo hi t) (views : hi ≤ Obj.NEXT_PAGE 0) :
    s.Leaves lo hi (t.addEntry v t0 entry) :=
  .ite (.ite (.closePage (.mapView h) views) (.mapView h))
    (.ite (.mapView h) (.bump h (.inr (viewKeys_above v views).2)))

/-- A RECORD leaves the monitor converter's settings (R102, R103). -/
theorem State.Leaves.mcRecord {w} (h : s.Leaves Obj.MC_SCAN_MASK Obj.MC_STATE t) :
    s.Leaves Obj.MC_SCAN_MASK Obj.MC_STATE (t.mcRecord w) :=
  .ite (.bump h) (.foldl (.put (.poke h)) fun _ _ hu => .addEntry hu (by decide))

end Sys2Proof.Machine
end

section
/-! The monitor converter: starts and stops, outputs, the buffer and the filter (03_focal_plane_readout.md R96-R103). -/

namespace Sys2Proof.Machine

variable {s t u : State}

/-! ## Where the sequencer stands (R100, R101) -/

/-- A scan has no entries to pass over. -/
theorem State.mcSettle_of_scan (scan : s.mc.seqMode = false) (inj : s.mc.inj = none) : s.mcSettle = s := by
  unfold State.mcSettle
  simp only [scan, inj, Option.bind_none, Bool.false_eq_true, if_false, decide_true, Bool.and_self, if_true]
  have same : ({ s.mc with seqMode := false, inj := none } : Mc) = s.mc := by rw [← scan, ← inj]
  exact congrArg (fun m => { s with mc := m }) same

/-- A sequence whose first entry names a channel that exists finds it first. -/
theorem State.mcEntry_first {seq len : Nat} (some : 1 ≤ len) (first : s.nat seq < 14) : s.mcEntry seq len 0 = .some 0 := by
  obtain ⟨n, rfl⟩ : ∃ n, len = n + 1 := ⟨len - 1, by omega⟩
  simp [State.mcEntry, List.range_succ_eq_map, first]

theorem State.mcSettle_of_first (pos : s.mc.pos = 0) (inj : s.mc.inj = none) (len : 1 ≤ s.nat Obj.MC_SEQ_LEN)
    (first : s.nat Obj.MC_SEQ < 14) : s.mcSettle = s := by
  unfold State.mcSettle
  simp only [inj, pos, State.mcEntry_first len first, Option.bind_none, ite_self, decide_true, Bool.and_self, if_true]
  have same : ({ s.mc with pos := 0, inj := none } : Mc) = s.mc := by rw [← pos, ← inj]
  exact congrArg (fun m => { s with mc := m }) same

/-- MC_STATE while the scan or the regular sequence runs. -/
theorem State.mcView_running (run : s.mc.running = true) (inj : s.mc.inj = none) (cal : s.mc.calStep = 0) :
    s.mcView = s.put Obj.MC_STATE 1 := by
  simp [State.mcView, run, inj, cal]

/-- The sequencer at the start of a scan or of the regular sequence. -/
def Mc.begun (m : Mc) (seq : Bool) (pos beats : Nat) (l : Landing) : Mc :=
  { m with running := true, seqMode := seq, stopping := false, inj := none, outs := 0, pos := pos, deadline := l.next,
           entry := l.repeating, since := 96 * beats }

section
variable {l : Landing} (h : s.landing 0x28 l = some u)
include h

theorem exec_mcStart_scan (mode : u.nat Obj.MC_MODE ≠ 1) (low : 1 ≤ l.arg.toNat % 65536) (high : l.arg.toNat % 65536 < 16384)
    (cal : u.mc.calStep = 0) : exec (.mcStart l) s = .next
      ((State.put { u with mc := u.mc.begun false (lowestBit (l.arg.toNat % 65536)) u.clk.beats l } Obj.MC_SCAN_MASK
        (l.arg.toNat % 65536 : Nat)).put Obj.MC_STATE 1) := by
  have ok : (l.arg.toNat % 65536 = 0 || 16384 ≤ l.arg.toNat % 65536) = false := by simp; omega
  refine congrArg Host.Outcome.next ((State.land_of_landing h _).trans ?_)
  simp only [mode, ok, decide_false, Bool.not_false, Bool.and_false, Bool.false_eq_true, if_false]
  rw [State.mcSettle_of_scan rfl rfl]
  exact State.mcView_running rfl rfl cal

theorem exec_mcStart_sequence (mode : u.nat Obj.MC_MODE = 1) (len : 1 ≤ u.nat Obj.MC_SEQ_LEN) (first : u.nat Obj.MC_SEQ < 14)
    (cal : u.mc.calStep = 0) : exec (.mcStart l) s = .next
      ((State.put { u with mc := u.mc.begun true 0 u.clk.beats l } Obj.MC_SCAN_MASK (0 : Nat)).put Obj.MC_STATE 1) := by
  refine congrArg Host.Outcome.next ((State.land_of_landing h _).trans ?_)
  simp only [mode, decide_true, Bool.not_true, Bool.false_and, Bool.false_eq_true, if_false, if_true]
  rw [State.mcSettle_of_first rfl rfl]
  · exact State.mcView_running rfl rfl cal
  · rw [State.put_nat_other _ (by decide)]
    exact len
  · rw [State.put_nat_other _ (by decide)]
    exact first

theorem exec_mcStart_refused (mode : u.nat Obj.MC_MODE ≠ 1)
    (bad : l.arg.toNat % 65536 = 0 ∨ 16384 ≤ l.arg.toNat % 65536) : exec (.mcStart l) s = .next (u.bump Obj.MC_REFUSED) := by
  refine congrArg Host.Outcome.next ((State.land_of_landing h _).trans ?_)
  simp [mode, bad]

end

/-- What a start leaves: the sequencer, the mask and the state have changed, nothing else. -/
theorem State.begun_alone (u : State) (m : Mc) {v : Nat} (hv : v < 65536) :
    let t := (State.put { u with mc := m } Obj.MC_SCAN_MASK v).put Obj.MC_STATE 1
    t.get Obj.MC_SCAN_MASK = v ∧ t.get Obj.MC_STATE = 1 ∧ SameObj u t [Obj.MC_SCAN_MASK, Obj.MC_STATE] ∧
      { t with mc := u.mc, obj := u.obj } = u := by
  refine ⟨?_, State.put_get_nat (sz := 1) (v := 1) (by decide) (by decide), .put (.put .refl), rfl⟩
  rw [State.put_get_other _ (by decide), State.put_get_nat (sz := 2) (by decide) hv]

/-- MC_STOP at the landing of its stroke (R100). -/
theorem exec_mcStop {f : Fired} (hf : (s.strokes.inflight.find? fun f => f.action = 0x29) = some f)
    (h : s.landing 0x29 f.l = some u) : exec .mcStop s = .next (if !u.mc.running then u
      else if u.mc.calStep ≠ 0 then u.mcHalt else { u with mc := { u.mc with stopping := true } }) := by
  show execMcStop s = _
  rw [execMcStop, hf]
  exact congrArg Host.Outcome.next (State.land_of_landing h _)

/-- The sequencer after it has stopped; the state tells a calibration step in progress. -/
theorem State.mcHalt_alone (s : State) : s.mcHalt.mc.running = false ∧ s.mcHalt.mc.calStep = s.mc.calStep ∧
    s.mcHalt.get Obj.MC_SCAN_MASK = 0 ∧ s.mcHalt.get Obj.MC_STATE = if s.mc.calStep = 0 then 0 else 3 := by
  refine ⟨rfl, rfl, ?_, ?_⟩
  · rw [State.mcHalt, State.mcView, State.put_get_other _ (by decide)]
    exact State.put_get_nat (sz := 2) (v := 0) (by decide) (by decide)
  · by_cases h : s.mc.calStep = 0
    · rw [State.mcHalt, State.mcView, if_pos h]
      simp only [State.put_mc, h]
      exact State.put_get_nat (sz := 1) (v := 0) (by decide) (by decide)
    · rw [State.mcHalt, State.mcView, if_neg h]
      simp only [State.put_mc, ne_eq, h, not_false_eq_true, if_true]
      exact State.put_get_nat (sz := 1) (v := 3) (by decide) (by decide)

/-! ## Outputs and their records (R99, R102, R103) -/

/-- The first word of the record of an output (R102). -/
def State.mcWord (s : State) (x : Int) (ovr : Bool) : Nat :=
  s.mcChannel * 2 ^ 28 + (if ovr then 2 ^ 27 else 0) + (if s.mc.outs + 1 < s.nat Obj.MC_K then 2 ^ 26 else 0) +
    (if s.mc.inj.isSome then 2 ^ 25 else 0) +
    wrapNat 24 (mcResult (s.mcRaw s.mcChannel x) (s.get (Obj.MC_OFFSET s.mcChannel)) (s.get (Obj.MC_GAINCOEF s.mcChannel)))

theorem State.mcWord_lt (x : Int) (ovr : Bool) (ch : s.mcChannel < 14) : s.mcWord x ovr < 2 ^ 32 := by
  have := wrapNat_lt 24 (mcResult (s.mcRaw s.mcChannel x) (s.get (Obj.MC_OFFSET s.mcChannel))
    (s.get (Obj.MC_GAINCOEF s.mcChannel)))
  unfold State.mcWord
  split <;> split <;> split <;> omega

/-- The state after an output of the scan or a sequence, before what follows it: the record is made and kept in MC_LAST. -/
def State.mcOutputMade (s : State) (w : Nat) : State :=
  let s1 := (s.mcRecord w).put (Obj.MC_LAST s.mcChannel) w
  { s1 with mc := { s1.mc with outs := s.mc.outs + 1, since := s.mc.since + 3125 * s.nat Obj.MC_D } }

theorem exec_mcOutput {x : Int} {ovr : Bool} (due : s.mcDue = true) (run : s.mc.running = true) (cal : s.mc.calStep = 0)
    (settled : s.mcSettle = s) (ch : s.mcChannel < 14) :
    exec (.mcOutput x ovr) s = .next (s.mcOutputMade (s.mcWord x ovr)).mcAdvance := by
  show execMcOutput x ovr s = _
  simp only [execMcOutput, settled, due, run, cal, Nat.not_le.2 ch, decide_true, decide_false, Bool.not_true, Bool.false_and,
    Bool.or_self, Bool.true_and, Bool.false_eq_true, if_false, ne_eq, not_true]
  rfl

/-- The settings of the converter lie apart from the key of every MC_LAST. -/
theorem mcLast_above (ch : Nat) : Obj.MC_RD < Obj.MC_LAST ch := by
  have first : Obj.MC_LAST 0 ≤ Obj.MC_LAST ch := by
    unfold Obj.MC_LAST
    omega
  exact Nat.lt_of_lt_of_le (by decide) first

theorem unsignedAt_mcLast {ch : Nat} (h : ch < 14) : unsignedAt (Obj.MC_LAST ch) 4 = true := by
  have all : ∀ i : Fin 14, unsignedAt (Obj.MC_LAST i) 4 = true := by decide
  exact all ⟨ch, h⟩

theorem State.mcOutputMade_obj (s : State) (w : Nat) :
    (s.mcOutputMade w).obj = ((s.mcRecord w).put (Obj.MC_LAST s.mcChannel) w).obj := rfl

theorem State.mem_withMc (s : State) (m : Mc) : State.mem { s with mc := m } = s.mem := rfl

theorem State.mcOutputMade_mem (s : State) (w : Nat) : (s.mcOutputMade w).mem = (s.mcRecord w).mem :=
  (State.mem_withMc _ _).trans (State.put_mem ..)

/-- An output and its record leave the converter and its settings. -/
theorem State.mcRecord_put_leaves (s : State) (w : Nat) :
    s.Leaves Obj.MC_SCAN_MASK Obj.MC_STATE ((s.mcRecord w).put (Obj.MC_LAST s.mcChannel) w) :=
  .put (.mcRecord .refl) (.inr (Nat.le_trans (by decide) (Nat.le_of_lt (mcLast_above _))))

/-- But for the sequencer's counts. -/
theorem State.mcOutputMade_mc (s : State) (w : Nat) : (s.mcOutputMade w).mc =
    { s.mc with outs := s.mc.outs + 1, since := s.mc.since + 3125 * s.nat Obj.MC_D } := by
  rw [State.mcOutputMade, (s.mcRecord_put_leaves w).mc]

theorem State.mcOutputMade_setting (s : State) (w : Nat) {k : Nat} (hl : Obj.MC_SCAN_MASK ≤ k) (hh : k < Obj.MC_STATE) :
    (s.mcOutputMade w).nat k = s.nat k := by
  have left := (s.mcRecord_put_leaves w).objs k hl hh
  rw [State.nat, State.get_congr (s.mcOutputMade_obj w) k, left, State.nat]

theorem State.mcOutputMade_outputs (s : State) (w : Nat) : (s.mcOutputMade w).mcOutputs = s.mcOutputs := by
  rw [State.mcOutputs, State.mcOutputs, s.mcOutputMade_setting w (k := Obj.MC_K) (by decide) (by decide),
    s.mcOutputMade_setting w (k := Obj.MC_DWELL) (by decide) (by decide)]

/-- Within a conversion nothing follows an output. -/
theorem State.mcAdvance_within (s : State) {w : Nat} (h : s.mc.outs + 1 < s.mcOutputs) :
    (s.mcOutputMade w).mcAdvance = s.mcOutputMade w := by
  have within : (s.mcOutputMade w).mc.outs < (s.mcOutputMade w).mcOutputs := by
    rwa [s.mcOutputMade_outputs w, s.mcOutputMade_mc w]
  rw [State.mcAdvance]
  exact if_pos within

/-- The end of a conversion of a scan (R100). -/
theorem State.mcAdvance_scan (scan : t.mc.seqMode = false) (inj : t.mc.inj = none) (ended : t.mcOutputs ≤ t.mc.outs) :
    t.mcAdvance = if t.mc.stopping then t.mcHalt
      else State.mcView { t with mc := { t.mc with pos := nextChannel (t.nat Obj.MC_SCAN_MASK) t.mc.pos, outs := 0 } } := by
  unfold State.mcAdvance
  simp only [Nat.not_lt.2 ended, if_false, inj, scan, Bool.false_eq_true]
  rw [State.mcSettle_of_scan rfl rfl]

/-- A record that finds no room is lost and counted (R103). -/
theorem State.mcRecord_full {w : Nat} (full : (s.nat Obj.MC_WR + 512 - s.nat Obj.MC_RD) % 512 = 511) :
    s.mcRecord w = s.bump Obj.MC_LOST := by
  rw [State.mcRecord]
  exact if_pos full

/-- A record with room and no view that mirrors the buffer (R102, R103). -/
theorem State.mcRecord_room {w : Nat} (room : (s.nat Obj.MC_WR + 512 - s.nat Obj.MC_RD) % 512 ≠ 511)
    (views : ∀ v : Fin 16, s.nat (Obj.VW_SOURCE v) ≠ 2) : s.mcRecord w =
      (s.poke (mcBase + 8 * s.nat Obj.MC_WR) (leBytes 4 w ++ leBytes 4 (s.now.toNat / 65536))).put Obj.MC_WR
        ((s.nat Obj.MC_WR + 1) % 512 : Nat) := by
  have none : ((List.range 16).filter fun v =>
      ((s.poke (mcBase + 8 * s.nat Obj.MC_WR) (leBytes 4 w ++ leBytes 4 (s.now.toNat / 65536))).put Obj.MC_WR
        ((s.nat Obj.MC_WR + 1) % 512 : Nat)).nat (Obj.VW_SOURCE v) = 2 &&
      2 ≤ ((s.poke (mcBase + 8 * s.nat Obj.MC_WR) (leBytes 4 w ++ leBytes 4 (s.now.toNat / 65536))).put Obj.MC_WR
        ((s.nat Obj.MC_WR + 1) % 512 : Nat)).nat (Obj.VW_STATE v)) = [] := by
    refine List.filter_eq_nil_iff.2 fun v hv => ?_
    have other : Obj.VW_SOURCE v ≠ Obj.MC_WR := by
      have first : Obj.VW_SOURCE 0 ≤ Obj.VW_SOURCE v := by
        unfold Obj.VW_SOURCE
        omega
      exact (Nat.lt_of_lt_of_le (by decide) first).ne'
    rw [State.put_nat_other _ other]
    have source := views ⟨v, List.mem_range.1 hv⟩
    simp only [Bool.and_eq_true, decide_eq_true_eq, not_and]
    exact fun e => absurd e source
  unfold State.mcRecord
  simp only [room, if_false]
  rw [none]
  rfl

/-- What a record with room leaves: its eight bytes at MC_WR, which has moved on, and its first word in MC_LAST. -/
theorem State.mcOutputMade_room {w : Nat} (hw : w < 2 ^ 32) (ch : s.mcChannel < 14)
    (room : (s.nat Obj.MC_WR + 512 - s.nat Obj.MC_RD) % 512 ≠ 511) (views : ∀ v : Fin 16, s.nat (Obj.VW_SOURCE v) ≠ 2) :
    let t := s.mcOutputMade w
    let a := mcBase + 8 * s.nat Obj.MC_WR
    t.bytes a 8 = leBytes 4 w ++ leBytes 4 (s.now.toNat / 65536) ∧ t.get (Obj.MC_LAST s.mcChannel) = w ∧
      (∀ c, c < a ∨ a + 8 ≤ c → t.byte c = s.byte c) ∧ t.get Obj.MC_WR = ((s.nat Obj.MC_WR + 1) % 512 : Nat) ∧
      SameObj s t [Obj.MC_WR, Obj.MC_LAST s.mcChannel] := by
  have apart : Obj.MC_WR ≠ Obj.MC_LAST s.mcChannel :=
    (Nat.lt_of_lt_of_le (by decide) (Nat.le_of_lt (mcLast_above s.mcChannel))).ne
  have made := s.mcOutputMade_obj w
  have length : (leBytes 4 w ++ leBytes 4 (s.now.toNat / 65536)).length = 8 := by simp [length_leBytes]
  have mem : (s.mcOutputMade w).mem =
      (s.poke (mcBase + 8 * s.nat Obj.MC_WR) (leBytes 4 w ++ leBytes 4 (s.now.toNat / 65536))).mem := by
    rw [s.mcOutputMade_mem w, State.mcRecord_room room views, State.put_mem]
  rw [State.mcRecord_room room views] at made
  refine ⟨?_, ?_, fun c hc => ?_, ?_, fun k hk => ?_⟩
  · rw [State.bytes, mem, ← length]
    exact s.bytes_poke _ _
  · rw [State.get_congr made, State.put_get_nat (unsignedAt_mcLast ch) hw]
  · rw [State.byte, mem]
    exact State.byte_poke_other (by rwa [length])
  · rw [State.get_congr made, State.put_get_other _ apart, State.put_get_nat (sz := 2) (by decide) (by omega)]
  · rw [State.get_congr made]
    exact SameObj.put (.put .refl) (by simp) k hk

/-- What a record without room leaves. -/
theorem State.mcOutputMade_full {w : Nat} (full : (s.nat Obj.MC_WR + 512 - s.nat Obj.MC_RD) % 512 = 511) :
    Counted s (s.mcOutputMade w) Obj.MC_LOST ∧ SameMem s (s.mcOutputMade w) ∧
      SameObj s (s.mcOutputMade w) [Obj.MC_LOST, Obj.MC_LAST s.mcChannel] := by
  have apart : Obj.MC_LOST ≠ Obj.MC_LAST s.mcChannel :=
    (Nat.lt_of_lt_of_le (by decide) (Nat.le_of_lt (mcLast_above s.mcChannel))).ne
  have made := s.mcOutputMade_obj w
  have mem : (s.mcOutputMade w).mem = s.mem := by
    obtain ⟨o, ho⟩ := s.bump_frame Obj.MC_LOST 1
    rw [s.mcOutputMade_mem w, State.mcRecord_full full, ho]
  rw [State.mcRecord_full full] at made
  refine ⟨?_, fun a => by rw [State.byte, mem, State.byte], fun k hk => ?_⟩
  · rw [Counted, State.get_congr made, State.put_get_other _ apart]
    exact State.bump_counted (by decide)
  · rw [State.get_congr made]
    exact SameObj.put (.bump .refl) (by simp) k hk

/-! ## The read pointer and the filter (R99, R103) -/

theorem exec_mcRdWrite_taken {v : Nat} (hv : v < 512)
    (h : (v + 512 - s.nat Obj.MC_RD) % 512 ≤ (s.nat Obj.MC_WR + 512 - s.nat Obj.MC_RD) % 512) :
    exec (.mcRdWrite v) s = .next (s.put Obj.MC_RD v) := by
  show execMcRdWrite v s = _
  simp only [execMcRdWrite, State.writeMcRd, Nat.not_le.2 hv, Nat.not_lt.2 h, decide_false, Bool.or_self, Bool.false_eq_true,
    if_false]

theorem exec_mcRdWrite_refused {v : Nat}
    (h : 512 ≤ v ∨ (s.nat Obj.MC_WR + 512 - s.nat Obj.MC_RD) % 512 < (v + 512 - s.nat Obj.MC_RD) % 512) :
    exec (.mcRdWrite v) s = .next s := by
  show execMcRdWrite v s = _
  simp [execMcRdWrite, State.writeMcRd, h]

/-- A filter setting reads what is written, where the object takes it. -/
theorem State.put_mcFilter {w : McFilter} {v : Nat} (h : mcFilterOk w v = true) :
    (s.put (mcFilterKey w) v).get (mcFilterKey w) = v := by
  cases w with
  | k =>
    simp only [mcFilterOk, Bool.and_eq_true, decide_eq_true_eq] at h
    exact State.put_get_nat (sz := 1) (by decide) (by omega)
  | d =>
    simp only [mcFilterOk, Bool.and_eq_true, decide_eq_true_eq] at h
    exact State.put_get_nat (sz := 4) (by decide) (by omega)
  | gainSel ch =>
    have all : ∀ i : Fin 16, unsignedAt (Obj.MC_GAIN_SEL i) 1 = true := by decide
    simp only [mcFilterOk, Bool.and_eq_true, decide_eq_true_eq] at h
    exact State.put_get_nat (all ch) (by omega)

/-- Settles O18: an equation for each command and case; a record leaves the settings, whatever the views that mirror it do. -/
theorem monitorScanStartsStopsAndRecords : Obligations.MonitorScanStartsStopsAndRecords := by
  unfold Obligations.MonitorScanStartsStopsAndRecords
  refine ⟨fun l s u h mode low high cal => ⟨_, exec_mcStart_scan h mode low high cal, rfl, u.begun_alone _ (by omega)⟩,
    fun l s u h mode len first cal => ⟨_, exec_mcStart_sequence h mode len first cal, rfl, (u.begun_alone _ (by omega)).2⟩,
    fun l s u h mode bad => ⟨_, exec_mcStart_refused h mode bad, State.bump_alone (by decide)⟩,
    fun f s u hf h => ⟨_, exec_mcStop hf h, ?running, ?suspended, ?stopped⟩,
    fun ch x s hch => ?raw,
    fun x ovr s due run cal settled more ch room views => ⟨_, exec_mcOutput due run cal settled ch, ?within⟩,
    fun x ovr s due run cal scan inj last ch =>
      ⟨_, exec_mcOutput due run cal (State.mcSettle_of_scan scan inj) ch, ?next, ?stop⟩,
    fun x ovr s due run cal settled ch more full => ⟨_, exec_mcOutput due run cal settled ch, ?full⟩,
    fun v s hv h => ⟨_, exec_mcRdWrite_taken hv h, State.put_alone (sz := 2) (by decide) (by omega)⟩,
    fun v s h => exec_mcRdWrite_refused h,
    fun w v s h => ⟨_, congrArg Host.Outcome.next (if_pos h), State.put_mcFilter h, SameObj.put .refl, rfl, rfl⟩,
    fun w v s h => congrArg Host.Outcome.next (if_neg (by simp [h]))⟩
  case running =>
    intro run cal
    rw [run, cal, if_neg (by decide), if_neg (by decide)]
    exact ⟨rfl, rfl⟩
  case suspended =>
    intro run cal
    simp only [run, cal, Bool.not_true, Bool.false_eq_true, if_false, ne_eq, not_false_eq_true, if_true]
    obtain ⟨halted, step, mask, state⟩ := u.mcHalt_alone
    exact ⟨halted, step, mask, by rw [state, if_neg cal]⟩
  case stopped =>
    intro run
    simp only [run, Bool.not_false, if_true]
  case raw =>
    rw [State.mcRaw, if_neg (by omega), State.mcFullScale, if_pos hch]
  case within =>
    obtain ⟨record, last, mem, wr, objs⟩ := State.mcOutputMade_room (State.mcWord_lt x ovr ch) ch room views
    rw [State.mcAdvance_within s more]
    exact ⟨⟨record, last⟩, mem, wr, s.mcOutputMade_mc _, objs⟩
  case next =>
    intro going
    have made := s.mcOutputMade_mc (s.mcWord x ovr)
    have mask := s.mcOutputMade_setting (s.mcWord x ovr) (k := Obj.MC_SCAN_MASK) (by decide) (by decide)
    rw [State.mcAdvance_scan (by rw [made, scan]) (by rw [made, inj]) (by rw [State.mcOutputMade_outputs, made]; exact last),
      made, going, if_neg Bool.false_ne_true, mask]
    rfl
  case stop =>
    intro stopping
    have made := s.mcOutputMade_mc (s.mcWord x ovr)
    rw [State.mcAdvance_scan (by rw [made, scan]) (by rw [made, inj]) (by rw [State.mcOutputMade_outputs, made]; exact last),
      made, stopping, if_pos rfl]
    obtain ⟨halted, -, mask, state⟩ := (s.mcOutputMade (s.mcWord x ovr)).mcHalt_alone
    exact ⟨halted, mask, by rw [state, made, if_pos cal]⟩
  case full =>
    rw [State.mcAdvance_within s more]
    exact State.mcOutputMade_full full

end Sys2Proof.Machine
end

section
/-! MC_INJ_GO and the settling of the sequencer (03_focal_plane_readout.md R101). -/

namespace Sys2Proof.Machine

variable {s : State}

/-- The place that a search over a sequence finds names a channel that exists. -/
theorem State.mcEntry_exists {seq len i j : Nat} (h : s.mcEntry seq len i = some j) : s.nat (seq + j) < 14 := by
  have found := List.find?_some h
  simp only [Bool.and_eq_true, decide_eq_true_eq] at found
  exact found.2

/-- The sequencer does not stay on an entry of the regular sequence, other than the first, whose channel does not exist. -/
theorem State.mcSettle_leaves (seq : s.mc.seqMode = true) (none : 14 ≤ s.nat (Obj.MC_SEQ + s.mc.pos)) (pos : s.mc.pos ≠ 0) :
    s.mcSettle.mc.pos ≠ s.mc.pos := by
  have off {i j : Nat} (h : s.mcEntry Obj.MC_SEQ (s.nat Obj.MC_SEQ_LEN) i = some j) : j ≠ s.mc.pos := by
    rintro rfl
    exact absurd (State.mcEntry_exists h) (Nat.not_lt.2 none)
  unfold State.mcSettle
  simp only [seq, if_true]
  split
  · next h => exact off h
  · cases h : s.mcEntry Obj.MC_SEQ (s.nat Obj.MC_SEQ_LEN) 0 with
    | none => exact Ne.symm pos
    | some j => exact off h

/-- A request that the sequencer serves at once: nothing is injected, and there is no deadline (R101). -/
theorem exec_mcInjGo_free (run : s.mc.running = true) (seq : s.mc.seqMode = true) (cal : s.mc.calStep = 0)
    (inj : s.mc.inj = none) (free : s.mc.deadline = none) : exec (.mcInjGo 1) s = .next
      ((State.bump { s with mc := { s.mc with inj := some 0, outs := 0, since := 96 * s.clk.beats } }
        Obj.MC_INJ_SERVED).mcSettle.mcView.put Obj.MC_INJ_GO 1) := by
  show execMcInjGo 1 s = _
  simp [execMcInjGo, State.writeMcInjGo, State.mcUrgent, run, seq, cal, inj, free]

/-- A state whose MC_SEQ_LEN holds more than its byte: entry 3 * 2^32 of the regular sequence, where the sequencer stands, has
the key of MC_INJ_SERVED, and its channel 13 is that count. -/
def overlongSequence : State :=
  { State.reset with
    obj := [(Obj.MC_SEQ_LEN, 3 * 2 ^ 32 + 1), (Obj.MC_INJ_SERVED, 13)]
    mc := { running := true, seqMode := true, pos := 3 * 2 ^ 32 } }

/-- Refutes O19: its first clause. A state may hold numbers in its objects that their types do not. In `overlongSequence` the
request that is served counts in the very key that names the channel of the entry in progress, 13, which becomes 14: a
channel that does not exist, so that the sequencer moves on from the entry, where the clause has it stay. -/
theorem not_monitorInjectionAndCalibration : ¬ Obligations.MonitorInjectionAndCalibration := by
  unfold Obligations.MonitorInjectionAndCalibration
  rintro ⟨served, -⟩
  obtain ⟨t, ht, hmc, -⟩ := served overlongSequence rfl rfl rfl rfl (by decide) (by decide) (by decide) (by decide)
    (fun _ h => nomatch h)
  rw [exec_mcInjGo_free rfl rfl rfl rfl rfl] at ht
  cases ht
  refine State.mcSettle_leaves rfl ?_ (by decide) (congrArg Mc.pos hmc)
  have counted := State.bump_counted (k := Obj.MC_INJ_SERVED) (by decide)
    (s := { overlongSequence with mc := { overlongSequence.mc with
      inj := some 0, outs := 0, since := 96 * overlongSequence.clk.beats } })
  exact le_of_eq (congrArg Int.toNat counted).symm

end Sys2Proof.Machine
end

section
/-! Urgent injection (03_focal_plane_readout.md R78-R83) and SUN_TRIPPED (R92). -/

namespace Sys2Proof.Machine

variable {s t u : State}

/-! ## What one quadrant does (R80) -/

section
variable {c : Scan} {f : Frame} {js : List Slot} {k : Slot} {rest : List Slot}

/-- In the gap: served at the next modulator cycle, or dropped for the deadline. -/
theorem State.scanRequest_idle (h : c.todo = []) : s.scanRequest c f js =
    if Dlt.reached f.deadline (s.dltAt (nextMod f c.start s.clk.beats + js.length * f.slotTenths))
    then ({ todo := js, start := nextMod f c.start s.clk.beats }, 1) else (c, 2) := by
  simp only [State.scanRequest, h]

/-- While an injected slot is converted: dropped as busy. -/
theorem State.scanRequest_busy (h : c.todo = k :: rest) (inj : k.inj = true) : s.scanRequest c f js = (c, 3) := by
  simp only [State.scanRequest, h, inj, if_true]

/-- While a position is converted: served before what is left, or dropped for the deadline. -/
theorem State.scanRequest_position (h : c.todo = k :: rest) (inj : k.inj = false) (pos : k.isJ = false) : s.scanRequest c f js =
    if Dlt.reached f.deadline (s.dltAt (nextMod f c.start s.clk.beats + (c.todo.length + js.length) * f.slotTenths))
    then ({ todo := js ++ k :: rest, start := nextMod f c.start s.clk.beats }, 1) else (c, 2) := by
  simp only [State.scanRequest, h, inj, pos, Bool.false_and, Bool.false_eq_true, if_false]

/-- A quadrant whose scan and counters follow `scanRequest` does what R80 and R81 say. -/
theorem RequestedIn.of_scanRequest {q : Fin 4} (scan : t.focal.scans[q] = (s.scanRequest s.focal.scans[q] f js).1)
    (count : Counted s t (injCounter q (s.scanRequest s.focal.scans[q] f js).2)) : RequestedIn f js s t q := by
  refine ⟨fun h fits => ?_, fun h fits => ?_, fun k rest h inj => ?_, fun k rest h inj pos fits => ?_,
    fun k rest h inj pos fits => ?_⟩
  · simp only [h, List.length_nil, zero_add] at fits
    rw [State.scanRequest_idle h, if_pos fits] at scan count
    exact ⟨scan, count⟩
  · simp only [h, List.length_nil, zero_add] at fits
    rw [State.scanRequest_idle h, fits, if_neg Bool.false_ne_true] at scan count
    exact ⟨scan, count⟩
  · rw [State.scanRequest_busy h inj] at scan count
    exact ⟨scan, count⟩
  · rw [State.scanRequest_position h inj pos, if_pos fits] at scan count
    exact ⟨scan, count⟩
  · rw [State.scanRequest_position h inj pos, fits, if_neg Bool.false_ne_true] at scan count
    exact ⟨scan, count⟩

/-- Every request has an outcome. -/
theorem State.scanRequest_outcome (s : State) (c : Scan) (f : Frame) (js : List Slot) : (s.scanRequest c f js).2 ≠ 0 := by
  unfold State.scanRequest
  dsimp only
  split
  · split <;> exact Nat.noConfusion
  · split
    · exact Nat.noConfusion
    · split <;> split <;> exact Nat.noConfusion

end

/-! ## The counters of the outcomes (R81) -/

theorem injCounter_ne {p q : Nat} (hp : p < 4) (hq : q < 4) (h : p ≠ q) (m n : Nat) : injCounter p m ≠ injCounter q n := by
  unfold injCounter Obj.INJ_SERVED Obj.INJ_DROP_DEADLINE Obj.INJ_DROP_BUSY
  split_ifs <;> omega

theorem unsignedAt_injCounter (q : Fin 4) (n : Nat) : unsignedAt (injCounter q n) 4 = true := by
  have served : ∀ i : Fin 4, unsignedAt (Obj.INJ_SERVED i) 4 = true := by decide
  have deadline : ∀ i : Fin 4, unsignedAt (Obj.INJ_DROP_DEADLINE i) 4 = true := by decide
  have busy : ∀ i : Fin 4, unsignedAt (Obj.INJ_DROP_BUSY i) 4 = true := by decide
  unfold injCounter
  split
  · exact served q
  · split
    · exact deadline q
    · exact busy q

/-- Each quadrant's outcome counts, 0 for none. -/
def State.countOutcomes (outs : Nat → Nat) (s : State) (qs : List Nat) : State :=
  qs.foldl (fun t q => if outs q = 0 then t else t.bump (injCounter q (outs q))) s

section
variable {outs : Nat → Nat}

theorem State.countOutcomes_frame (s : State) (qs : List Nat) : ∃ o, s.countOutcomes outs qs = { s with obj := o } := by
  refine List.foldlRecOn (motive := fun t : State => ∃ o, t = { s with obj := o }) _ _ ⟨s.obj, rfl⟩ ?_
  rintro _ ⟨o, rfl⟩ q -
  split
  · exact ⟨o, rfl⟩
  · exact State.bump_frame { s with obj := o } _ _

/-- An object that counts no outcome of the quadrants listed reads as before. -/
theorem State.countOutcomes_get {k : Nat} {qs : List Nat} (h : ∀ q ∈ qs, ∀ n, k ≠ injCounter q n) :
    (s.countOutcomes outs qs).get k = s.get k := by
  refine List.foldlRecOn (motive := fun t : State => t.get k = s.get k) _ _ rfl fun t ht q hq => ?_
  split
  · exact ht
  · rw [State.bump_get_other (h q hq _), ht]

/-- Each outcome counts once. -/
theorem State.countOutcomes_counted {q : Fin 4} {qs : List Nat} (lt : ∀ p ∈ qs, p < 4) (nodup : qs.Nodup) (mem : q.val ∈ qs)
    (some : outs q ≠ 0) : Counted s (s.countOutcomes outs qs) (injCounter q (outs q)) := by
  induction qs generalizing s with
  | nil => cases mem
  | cons p qs ih =>
    obtain ⟨fresh, nodup⟩ := List.nodup_cons.1 nodup
    have apart {r : Nat} (hr : r ∈ p :: qs) (ne : q.val ≠ r) (n : Nat) : injCounter q (outs q) ≠ injCounter r n :=
      injCounter_ne q.isLt (lt r hr) ne _ n
    rw [State.countOutcomes, List.foldl_cons]
    by_cases h : q.val = p
    · subst h
      rw [if_neg some, Counted, ← State.countOutcomes, State.countOutcomes_get fun r hr n =>
        apart (by simp [hr]) (fun e => fresh (e ▸ hr)) n]
      exact State.bump_counted (unsignedAt_injCounter q _)
    · have later := ih (s := if outs p = 0 then s else s.bump (injCounter p (outs p)))
        (fun r hr => lt r (by simp [hr])) nodup (by simpa [h] using mem)
      rw [Counted] at later ⊢
      rw [← State.countOutcomes, later]
      split
      · rfl
      · rw [State.bump_get_other (apart (by simp) h _)]

end

/-! ## A request (R78, R79) -/

theorem setBits_ne_nil {v : Nat} (some : v ≠ 0) (small : v < 256) : setBits 8 v ≠ [] := by
  obtain ⟨i, hi⟩ := Nat.exists_testBit_of_ne_zero some
  have le := Nat.ge_two_pow_of_testBit hi
  have lt : i < 8 := by
    by_contra h
    have := Nat.pow_le_pow_right (n := 2) (by omega) (Nat.not_lt.1 h)
    omega
  exact List.ne_nil_of_mem (List.mem_filter.2 ⟨List.mem_range.2 lt, hi⟩)

/-- The slots of a request outside sequence mode: the channels named, in ascending order. -/
theorem State.requestSlots_channels {f : Frame} {chans : Nat} {l : Landing} (mode : s.nat (Obj.P_SCAN_MODE f.profile) ≠ 1)
    (level : l.level = 5) : (s.requestSlots f chans l).map (·.n) = setBits 8 chans ∧
      ∀ j ∈ s.requestSlots f chans l, j.isJ = true ∧ j.inj = true ∧ j.target = l := by
  have other : l.level ≠ 4#4 := by rw [level]; decide
  simp [State.requestSlots, mode, other, Function.comp_def]

/-- What the quadrants do with a request, each its scan and its outcome; 0 where the request does not concern it. -/
def State.quadRequests (s : State) (f : Frame) (l : Landing) (js : List Slot) : List (Scan × Nat) :=
  (List.range 4).map fun q =>
    let c := s.focal.scans.toList.getD q {}
    if ((List.range 4).map fun q => l.hitsQuad q).getD q false then s.scanRequest c f js else (c, 0)

theorem State.quadRequests_getD (f : Frame) (l : Landing) (js : List Slot) (q : Fin 4) :
    (s.quadRequests f l js).getD q ({}, 0) =
      if l.hitsQuad q then s.scanRequest s.focal.scans[q] f js else (s.focal.scans[q], 0) := by
  simp [State.quadRequests, List.getD]

/-- A REQUEST THAT IS ALONE IN ITS BEAT: the scans follow it, and its outcomes count. -/
theorem State.request_alone {f : Frame} {fs : List Frame} {chans : Nat} {l : Landing} {trig : Bool}
    (hf : s.focal.frames = f :: fs) (none : s.focal.inj = none) (some : s.requestSlots f chans l ≠ []) (level : l.level = 5) :
    ∃ x, s.request chans l trig =
      State.countOutcomes (fun q => ((s.quadRequests f l (s.requestSlots f chans l)).getD q ({}, 0)).2)
        { s with focal := { s.focal with
          scans := Vector.ofFn fun q => ((s.quadRequests f l (s.requestSlots f chans l)).getD q ({}, 0)).1, inj := x } }
        (List.range 4) := by
  have empty : (s.requestSlots f chans l).isEmpty = false := by simpa using some
  have other : decide (l.level = 4) = false := by rw [level]; decide
  unfold State.request
  simp only [hf, none, Option.filter_none, empty, other, Bool.not_false, Bool.true_and, Bool.false_or]
  exact ⟨_, rfl⟩

/-- A request of channels that is alone in its beat does in every quadrant that it concerns what R80 and R81 say. -/
theorem State.request_requestedIn {f : Frame} {fs : List Frame} {chans : Nat} {l : Landing} {trig : Bool}
    (hf : s.focal.frames = f :: fs) (none : s.focal.inj = none) (some : s.requestSlots f chans l ≠ []) (level : l.level = 5) :
    let t := s.request chans l trig
    (∀ q : Fin 4, l.hitsQuad q = true → RequestedIn f (s.requestSlots f chans l) s t q) ∧
      (∀ q : Fin 4, l.hitsQuad q = false → t.focal.scans[q] = s.focal.scans[q]) ∧
      { t with focal := s.focal, obj := s.obj } = s ∧ t.focal.frames = s.focal.frames ∧
      ∀ k, (∀ q < 4, ∀ n, k ≠ injCounter q n) → t.get k = s.get k := by
  obtain ⟨x, e⟩ := State.request_alone (trig := trig) hf none some level
  dsimp only
  rw [e]
  set outs := fun q => ((s.quadRequests f l (s.requestSlots f chans l)).getD q ({}, 0)).2 with houts
  set s1 : State := { s with focal := { s.focal with
    scans := Vector.ofFn fun q => ((s.quadRequests f l (s.requestSlots f chans l)).getD q ({}, 0)).1, inj := x } } with hs1
  obtain ⟨o, ho⟩ := s1.countOutcomes_frame (outs := outs) (List.range 4)
  have scan (q : Fin 4) : (s1.countOutcomes outs (List.range 4)).focal.scans[q] =
      ((s.quadRequests f l (s.requestSlots f chans l)).getD q ({}, 0)).1 := by
    rw [ho]
    simp [hs1]
  refine ⟨fun q hit => RequestedIn.of_scanRequest ?_ ?_, fun q miss => ?_, by rw [ho], by rw [ho], fun k hk => ?_⟩
  · rw [scan, State.quadRequests_getD, if_pos hit]
  · have out : outs q = (s.scanRequest s.focal.scans[q] f (s.requestSlots f chans l)).2 := by
      rw [houts]
      dsimp only
      rw [State.quadRequests_getD, if_pos hit]
    rw [← out]
    exact State.countOutcomes_counted (s := s1) (fun p => List.mem_range.1) List.nodup_range (List.mem_range.2 q.isLt)
      (by rw [out]; exact s.scanRequest_outcome _ _ _)
  · rw [scan, State.quadRequests_getD, if_neg (by simp [miss])]
  · exact State.countOutcomes_get fun q hq => hk q (List.mem_range.1 hq)

/-! ## INJECT, INJ_TRIG and SUN_TRIPPED (R78, R92) -/

theorem exec_inject {l : Landing} (h : s.landing 0x22 l = some u) (level : l.level = 5) :
    exec (.inject l) s = .next (u.request (l.arg.toNat % 256) l false) := by
  have other : decide (l.level = 4) = false := by rw [level]; decide
  refine congrArg Host.Outcome.next ((State.land_of_landing h _).trans ?_)
  simp only [other, Bool.false_and, Bool.false_eq_true, if_false]

theorem exec_injTrigEdge (mask : s.nat Obj.INJ_TRIG_MASK ≠ 0)
    (source : (s.request (s.nat Obj.INJ_TRIG_MASK) {} true).nat Obj.MC_INJ_SRC ≠ 1) :
    exec .injTrigEdge s = .next (s.request (s.nat Obj.INJ_TRIG_MASK) {} true) := by
  show execInjTrigEdge s = _
  simp only [execInjTrigEdge, mask, if_false, source]

theorem injSource_ne_injCounter {q : Nat} (hq : q < 4) (n : Nat) : Obj.MC_INJ_SRC ≠ injCounter q n := by
  unfold Obj.MC_INJ_SRC injCounter Obj.INJ_SERVED Obj.INJ_DROP_DEADLINE Obj.INJ_DROP_BUSY
  split_ifs <;> omega

/-- Settles O17: one request decides every quadrant that it concerns, and each outcome has its own counter. -/
theorem urgentRequestsAreServedOrDropped : Obligations.UrgentRequestsAreServedOrDropped := by
  unfold Obligations.UrgentRequestsAreServedOrDropped
  refine ⟨fun l f fs s u h hf none level chans mode => ⟨_, exec_inject h level, ?inject⟩,
    fun f fs s hf none mask small mode source => ?edge,
    fun s => ⟨_, rfl, State.put_alone (sz := 1) (v := 0) (by decide) (by decide)⟩,
    fun v s hv => congrArg Host.Outcome.next (if_neg hv)⟩
  case inject =>
    obtain ⟨channels, slots⟩ := State.requestSlots_channels (chans := l.arg.toNat % 256) mode level
    have some : u.requestSlots f (l.arg.toNat % 256) l ≠ [] := fun e =>
      setBits_ne_nil chans (Nat.mod_lt _ (by omega)) (by rw [← channels, e, List.map_nil])
    obtain ⟨hit, miss, rest, frames, -⟩ := State.request_requestedIn (trig := false) hf none some level
    refine ⟨_, channels, fun j hj => ?_, hit, miss, rest, frames⟩
    obtain ⟨isJ, inj, target⟩ := slots j hj
    exact ⟨isJ, inj, by rw [target, level]⟩
  case edge =>
    obtain ⟨channels, slots⟩ := State.requestSlots_channels (chans := s.nat Obj.INJ_TRIG_MASK) (l := {}) mode rfl
    have some : s.requestSlots f (s.nat Obj.INJ_TRIG_MASK) {} ≠ [] := fun e =>
      setBits_ne_nil mask small (by rw [← channels, e, List.map_nil])
    obtain ⟨hit, -, rest, frames, objs⟩ := State.request_requestedIn (trig := true) hf none some rfl
    have all : ∀ q : Fin 4, ({} : Landing).hitsQuad q = true := by decide
    have kept := objs Obj.MC_INJ_SRC fun q hq => injSource_ne_injCounter hq
    exact ⟨_, exec_injTrigEdge mask (by rwa [State.nat, kept]), _, channels, slots, fun q => hit q (all q), rest, frames⟩

end Sys2Proof.Machine
end

section
/-! Conversions and the end of a slot (03_focal_plane_readout.md R70, R71, R75-R77, R84-R87; 04 R120). -/

namespace Sys2Proof.Machine

variable {s t : State}

/-! ## The converter (R77, R84, R86) -/

section
variable {r : Nat} {x : Int} {free : BitVec 64}

/-- A steady input within 1.10 of the range never sets OVR. -/
theorem convert_within (h : 10 * x.natAbs ≤ 11 * 2 ^ (32 + r)) :
    convert r x [] free = (clampInt (roundDiv x (8192 * 2 ^ r)) (-524288) 524287, false) := by
  have silent : inBounds r x = true := decide_eq_true h
  simp [convert, overload, silent]

/-- A steady input at 1.50 of the range or beyond always does, and reads the full-scale code of its sign. -/
theorem convert_beyond (h : 3 * 2 ^ (31 + r) ≤ x.natAbs) :
    convert r x [] free = (if 0 < x then 524287 else -524288, true) := by
  have pos : 0 < 2 ^ (31 + r) := by positivity
  have double : 2 ^ (32 + r) = 2 * 2 ^ (31 + r) := by rw [← pow_succ']; congr 1; omega
  have outside : inBounds r x = false := decide_eq_false (by omega)
  have certain : beyond r x = true := decide_eq_true h
  by_cases sign : 0 < x <;> simp [convert, overload, outside, certain, sign]

theorem convertJ4_eq (x : Int) : convertJ4 x = (clampInt (roundDiv x 8192) (-524288) 524287,
    decide (524287 < roundDiv x 8192 ∨ roundDiv x 8192 < -524288)) := by
  unfold convertJ4 clampInt
  dsimp only
  split_ifs <;> simp <;> omega

end

section
variable {k : Slot} {x : Sample} {i : Nat}

/-- Pixels and J0 to J3 are converted in their quadrant's range. -/
theorem State.converted_input (h : k.isJ = false ∨ k.n < 4) : s.converted k x i =
    convert (s.nat (Obj.RANGE_SEL (quadOfCu x.cu))) x.x x.runs (Config.freeBits (s.free + i)) := by
  have j4 : (k.isJ && k.n = 4) = false := by
    rcases h with h | h
    · simp [h]
    · simp [h.ne]
  have j5 : (k.isJ && 5 ≤ k.n) = false := by
    rcases h with h | h
    · simp [h]
    · simp [show k.n < 5 by omega]
  simp only [State.converted, j4, j5, Bool.false_eq_true, if_false]

theorem State.converted_j4 (isJ : k.isJ = true) (n : k.n = 4) : s.converted k x i = convertJ4 x.x := by
  simp [State.converted, isJ, n]

/-- The result of a live CU carries OVR and SET as they are found (R85, R87). -/
theorem State.slotResult_live {f : Frame} {q : Nat} (live : s.otp.deadCus.contains x.cu = false) (hq : quadOfCu x.cu = q) :
    s.slotResult f k x i = ((s.converted k x i).1,
      (if (s.converted k x i).2 then 1 else 0) + (if f.set2.getLsbD q || f.set3 then 2 else 0)) := by
  simp only [State.slotResult, live, Bool.false_eq_true, if_false, hq, tagOVR, tagSET]

end

/-! ## The next slot (R70, R71) -/

/-- Quadrant `q` begins the slots `rest` one slot time of `f` later. -/
def State.nextSlot (s : State) (q : Fin 4) (rest : List Slot) (f : Frame) : State :=
  { s with focal := { s.focal with
    scans := s.focal.scans.set q { todo := rest, start := s.focal.scans[q].start + f.slotTenths } } }

theorem State.nextSlot_same (s : State) (q : Fin 4) (rest : List Slot) (f : Frame) :
    (s.nextSlot q rest f).focal.scans[q] = { todo := rest, start := s.focal.scans[q].start + f.slotTenths } :=
  Vector.getElem_set_self ..

theorem State.nextSlot_other {p q : Fin 4} (rest : List Slot) (f : Frame) (h : p ≠ q) :
    (s.nextSlot q rest f).focal.scans[p] = s.focal.scans[p] :=
  Vector.getElem_set_ne q.isLt p.isLt fun e => h (Fin.ext e.symm)

theorem State.slotsRunning_of {q : Fin 4} (h : s.focal.scans[q].todo ≠ []) : s.slotsRunning = true := by
  unfold State.slotsRunning
  rw [Vector.any_eq_true]
  exact ⟨q, q.isLt, by simpa using h⟩

section
variable {q : Fin 4} {x : Sample} {k : Slot} {rest : List Slot} {f : Frame} {fs : List Frame}
  (todo : s.focal.scans[q].todo = k :: rest) (more : rest ≠ []) (frames : s.focal.frames = f :: fs) (cu : x.cu < 30720)
  (quad : quadOfCu x.cu = q.val) (takes : k.takes x.cu = true)
  (due : s.focal.scans[q].start + f.slotTenths ≤ 10 * s.clk.beats)
include todo more frames cu quad takes due

/-- The end of a slot with one sample, after which slots remain: the results are those of `u`. -/
theorem exec_slotEnd {u : State} (hu : (if k.isJ then (s.nextSlot q rest f).jResult f k x.cu (s.slotResult f k x 0)
      else if rest.any fun r => !r.isJ && r.n = k.n then s.nextSlot q rest f else (s.nextSlot q rest f).deliver f k [x]) = u)
    (scans : u.focal.scans = (s.nextSlot q rest f).focal.scans) : exec (.slotEnd q [x]) s = .next u.drawn := by
  have mine : [x].filter (fun x => x.cu < 30720 && quadOfCu x.cu = q.val && k.takes x.cu) = [x] := by
    simp [cu, quad, takes]
  have running : (u.drawn 1).slotsRunning = true := by
    refine State.slotsRunning_of (q := q) ?_
    rw [State.drawn_focal, scans, State.nextSlot_same]
    exact more
  show execSlotEnd q [x] s = _
  unfold execSlotEnd
  refine congrArg Host.Outcome.next ?_
  dsimp only
  split
  case h_1 k' rest' f' fs' todo' frames' =>
    obtain ⟨rfl, rfl⟩ := List.cons.inj (todo.symm.trans todo')
    obtain ⟨rfl, rfl⟩ := List.cons.inj (frames.symm.trans frames')
    rw [if_neg (Nat.not_lt.2 due), mine]
    have ended : ((if k.isJ then (s.nextSlot q rest f).jResult f k x.cu (s.slotResult f k x 0)
      else if rest.any fun r => !r.isJ && r.n = k.n then s.nextSlot q rest f
      else (s.nextSlot q rest f).deliver f k [x]).drawn 1).slotsRunning = true := by rw [hu]; exact running
    rw [← hu]
    exact if_pos (by rw [Bool.or_eq_true]; exact .inl ended)
  case h_2 none' => exact absurd frames (none' k rest f fs todo)

end

/-! ## Results of a J slot (R76) -/

/-- The word of a J result. -/
def jResultWord (f : Frame) (k : Slot) (r : Int × Nat) : Nat :=
  (if k.inj then 2 ^ 31 else 0) + f.num.toNat % 128 * 2 ^ 24 + r.2 * 2 ^ 20 + wrapNat 20 r.1

section
variable {f : Frame} {k : Slot} {cu : Nat} {r : Int × Nat}

theorem jResultWord_lt (h : r.2 < 16) : jResultWord f k r < 2 ^ 32 := by
  have := wrapNat_lt 20 r.1
  unfold jResultWord
  split <;> omega

theorem State.jResult_scans : (s.jResult f k cu r).focal.scans = s.focal.scans := rfl

/-- The frame-state stores lie below J_RESULTS. -/
theorem jState_below {n : Nat} (hcu : cu < 30720) (hn : n < 8) : jState cu n + 4 ≤ jBase := by
  unfold jState fstBase jBase regionOfCu
  omega

end

/-! ## Values of a tile position (R75, R120) -/

theorem State.storeWord_held {f : Frame} {g b : Nat} {row col : Int} {word : Nat} {y : RFrame}
    (here : (s.region g).rframe f.num = some y) (kept : y.discarded = false) (buf : s.rowBuf g f.num row = some b) :
    s.storeWord f g row col word = s.poke (lineAddr g b col) (leBytes 4 word) := by
  simp [State.storeWord, here, kept, State.takeBuf, buf]

/-- One value without OVR is stored in the row buffer that holds its row. -/
theorem State.deliver_one {f : Frame} {k : Slot} {x : Sample} {b : Nat} {y : RFrame} {v : Int} {tag : Nat}
    (result : s.slotResult f k x 0 = (v, tag)) (silent : tag.testBit 0 = false)
    (here : (s.region (regionOfCu x.cu)).rframe f.num = some y) (kept : y.discarded = false)
    (buf : s.rowBuf (regionOfCu x.cu) f.num ((32 * (x.cu / 192 % 20) + k.n / 32 : Nat) : Int) = some b) :
    s.deliver f k [x] = s.poke (lineAddr (regionOfCu x.cu) b ((32 * (x.cu % 192 % 24) + k.n % 32 : Nat) : Int))
      (leBytes 4 (2 ^ 24 + f.num.toNat % 128 * 2 ^ 25 + tag * 2 ^ 20 + wrapNat 20 v)) := by
  have none : (List.range 64).filter ([] : List Nat).contains = [] := by simp
  simp only [State.deliver, List.zipIdx_cons, List.zipIdx_nil, List.foldl_cons, List.foldl_nil, result, silent,
    Bool.false_eq_true, if_false, none]
  exact State.storeWord_held here kept buf

/-! ## O15 -/

theorem slotEnd_j {q : Fin 4} {x : Sample} {k : Slot} {rest : List Slot} {f : Frame} {fs : List Frame}
    (todo : s.focal.scans[q].todo = k :: rest) (more : rest ≠ []) (frames : s.focal.frames = f :: fs) (isJ : k.isJ = true)
    (cu : x.cu < 30720) (quad : quadOfCu x.cu = q.val) (takes : k.takes x.cu = true)
    (due : s.focal.scans[q].start + f.slotTenths ≤ 10 * s.clk.beats) :
    exec (.slotEnd q [x]) s = .next (((s.nextSlot q rest f).jResult f k x.cu (s.slotResult f k x 0)).drawn 1) :=
  exec_slotEnd todo more frames cu quad takes due (if_pos isJ) State.jResult_scans

/-- A J result stands in both stores and changes no other byte. -/
theorem State.jResult_stored {f : Frame} {k : Slot} {cu : Nat} {r : Int × Nat} (tag : r.2 < 16)
    (hcu : cu < 30720) (hn : k.n < 8) :
    (s.jResult f k cu r).le (jBase + 32 * cu + 4 * k.n) 4 = jResultWord f k r ∧
      (s.jResult f k cu r).le (jState cu k.n) 4 = jResultWord f k r ∧
      ∀ a, (a < jBase + 32 * cu + 4 * k.n ∨ jBase + 32 * cu + 4 * k.n + 4 ≤ a) →
        (a < jState cu k.n ∨ jState cu k.n + 4 ≤ a) → (s.jResult f k cu r).byte a = s.byte a := by
  have below := jState_below hcu hn
  have small := jResultWord_lt (f := f) (k := k) tag
  refine ⟨?_, ?_, fun a first second => ?_⟩
  · exact (State.le_poke_other 4 (.inr (by rw [length_leBytes]; omega))).trans (s.le_poke_word _ small)
  · exact State.le_poke_word _ _ small
  · exact (State.byte_poke_other (by rwa [length_leBytes])).trans (State.byte_poke_other (by rwa [length_leBytes]))

/-- Settles O15: of a slot with one sample the end is that sample's result, and the converter's cases are R84's. -/
theorem slotEndStoresItsConversions : Obligations.SlotEndStoresItsConversions := by
  refine ⟨fun k x i s input steady => ⟨fun within => ?_, fun beyond => ?_⟩, fun k x i s isJ n => ?_, ?_, ?_⟩
  · rw [State.converted_input input, steady]
    exact convert_within within
  · rw [State.converted_input input, steady]
    exact convert_beyond beyond
  · rw [State.converted_j4 isJ n]
    exact convertJ4_eq _
  · intro q x k rest f fs s todo more frames isJ hn cu quad takes live due
    refine ⟨_, slotEnd_j todo more frames isJ cu quad takes due, ?_⟩
    have result := State.slotResult_live (k := k) (i := 0) (f := f) live quad
    obtain ⟨inResults, inState, others⟩ := State.jResult_stored (s := s.nextSlot q rest f) (f := f) (k := k)
      (r := s.slotResult f k x 0) (by rw [result]; dsimp only; split_ifs <;> decide) cu hn
    refine ⟨s.nextSlot_same q rest f, fun r other => s.nextSlot_other rest f other, rfl, inResults.trans ?_,
      inState.trans ?_, others, rfl⟩ <;> rw [jResultWord, result]
  · intro q x k rest f fs b y s todo more frames isJ regular _ once cu quad steady within live here kept buf due
    have takes : k.takes x.cu = true := by simp [Slot.takes, regular]
    have last : (rest.any fun r => !r.isJ && r.n = k.n) = false := by
      simpa [List.any_eq_false] using once
    have value : s.converted k x 0 =
        (clampInt (roundDiv x.x (8192 * 2 ^ s.nat (Obj.RANGE_SEL q))) (-524288) 524287, false) := by
      rw [State.converted_input (.inl isJ), steady, quad]
      exact convert_within within
    have result : (s.nextSlot q rest f).slotResult f k x 0 = _ := State.slotResult_live (f := f) live quad
    rw [show (s.nextSlot q rest f).converted k x 0 = s.converted k x 0 from rfl, value] at result
    simp only [Bool.false_eq_true, if_false, Nat.zero_add] at result
    have stored := State.deliver_one result (by split_ifs <;> rfl) here kept buf
    refine ⟨_, exec_slotEnd (u := (s.nextSlot q rest f).deliver f k [x]) todo more frames cu quad takes due
      (by simp [isJ, last]) (by rw [stored]; rfl), ?_⟩
    rw [stored]
    have small := wrapNat_lt 20 (clampInt (roundDiv x.x (8192 * 2 ^ s.nat (Obj.RANGE_SEL q))) (-524288) 524287)
    refine ⟨s.nextSlot_same q rest f, fun r other => s.nextSlot_other rest f other, rfl, ⟨?_, fun c apart => ?_⟩, rfl⟩
    · refine (State.le_poke_word _ _ (by split <;> omega)).trans ?_
      split <;> simp
    · exact State.byte_poke_other (by rwa [length_leBytes])

end Sys2Proof.Machine
end

section
/-! The gate of a frame (03_focal_plane_readout.md R68; 06_correction_pipeline.md R194, R209). -/

namespace Sys2Proof.Machine

variable {s t : State} {lo hi : Nat}

/-! ## What the steps of a gate leave -/

theorem State.Leaves.refc {r} (h : s.Leaves lo hi t) :
    s.Leaves lo hi { t with focal := { t.focal with refc := r } } :=
  ⟨h.clk, h.mc, h.scans, h.started, h.clt, h.newest, h.objs⟩

theorem State.Leaves.updateRefc (h : s.Leaves lo hi t) : s.Leaves lo hi t.updateRefc := by
  unfold State.updateRefc
  exact .refc h

theorem State.Leaves.clearRule3 {f} (h : s.Leaves lo hi t) : s.Leaves lo hi (t.clearRule3 f) :=
  .foldl h fun _ _ hu => .ite hu (.foldl hu fun _ _ hv => .foldl hv fun _ _ hw => .ite (.poke hw) hw)

theorem State.Leaves.sceneZero {g} (h : s.Leaves lo hi t) : s.Leaves lo hi (t.sceneZero g) := .wipe h

theorem State.Leaves.sceneGate {f gimbal} (h : s.Leaves lo hi t) (above : Obj.SCENE_STATE < lo ∨ hi ≤ Obj.SCENE_FRAMES) :
    s.Leaves lo hi (t.sceneGate f gimbal).1 := by
  have order : Obj.SCENE_FRAMES < Obj.SCENE_STATE := by decide
  unfold State.sceneGate
  exact .via (.put (.ite (.update h) (.foldl (.update h) fun _ _ hu => .sceneZero hu)) (by omega)) fun h1 =>
    .iteFst h1 (.ite (.update (.bump h1 (by omega))) (.bump h1 (by omega)))

theorem State.Leaves.toneStale {f} (h : s.Leaves lo hi t) (apart : Obj.TONE_STALE < lo ∨ hi ≤ Obj.TONE_STALE) :
    s.Leaves lo hi (t.toneStale f) := .ite (.bump h apart) h

/-- The window that holds FRAME_COUNT alone. -/
abbrev State.LeavesCount (s t : State) : Prop := s.Leaves Obj.FRAME_COUNT (Obj.FRAME_COUNT + 1) t

theorem State.Leaves.gateUpdate {n} (h : s.LeavesCount t) : s.LeavesCount (t.gateUpdate n) :=
  .ite (.update (.put (.mapFrame h fun _ => rfl))) h

theorem State.Leaves.startLoad {x} (h : s.LeavesCount t) : s.LeavesCount (t.startLoad x) := by
  unfold State.startLoad
  refine .put (.put (.owePorts (by decide) (.owe (by decide) ?_)))
  exact .holdPorts (.foldl (.update h) fun _ _ hu => .bankView (.setVerified hu) (by decide))

theorem State.Leaves.bootLoad (h : s.LeavesCount t) : s.LeavesCount t.bootLoad := by
  unfold State.bootLoad
  refine .ite h (.ite (.put h) ?_)
  split
  · exact .bell h
  · exact .startLoad h

theorem State.Leaves.gateStages {f} (h : s.LeavesCount t) : s.LeavesCount (t.gateStages f) :=
  .via (.ite (.bootLoad (.putLe (.put h))) h) fun h1 => .ite (.putLe (.put h1)) h1

/-! ## The parts of a gate -/

/-- The thermometer readings of a gate (R68). -/
def State.readTemps (s : State) (temps : List (Nat × Nat)) : State :=
  { s with focal := { s.focal with
    clt := temps.foldl (fun (m : Store) e => if e.1 < 1920 then Cells.set m e.1 ((e.2 % 2 ^ 20 : Nat) : Int) 0 else m)
      s.focal.clt } }

/-- The gate of `f` up to its pages: REFC, an offset update that applies from here, the stages. -/
def State.gateOpens (s : State) (f : Frame) : State × Frame :=
  let s2 := s.updateRefc.gateUpdate f.num
  let f1 := (s2.frame? f.num).getD f
  ((if f.set3 && !f1.set3 then s2.clearRule3 f1 else s2).gateStages f1, f1)

/-- Frame `n` is past its gate. -/
def State.gatePassed (s : State) (n : BitVec 32) : State :=
  s.mapFrame n fun x => { x with gateDone := true, quality := s.nat Obj.STARTUP_STAGE < 5 }

/-- The page of `f` is written. -/
def State.gatePaged (s : State) (f : Frame) (n : BitVec 32) : State :=
  let r := s.sceneGate f (s.newPage f).gimbal
  State.toneStale { r.1 with pipe := { r.1.pipe with pages := { s.newPage f with scene := r.2 } :: r.1.pipe.pages } } n

/-- What the gate of `f` does before the regions are gated. -/
def State.gateWritten (s : State) (f : Frame) : State × Frame :=
  let r := s.gateOpens f
  let t := r.1.gatePassed f.num
  let f2 := (t.frame? f.num).getD r.2
  (t.gatePaged f2 f.num, f2)

theorem exec_frameGate {temps : List (Nat × Nat)} {f : Frame} {rest : List Frame} (frames : s.focal.frames = f :: rest)
    (fresh : f.gateDone = false) (converted : s.convertedOver f = true) :
    exec (.frameGate temps) s = .next (
      let r := (s.readTemps temps).gateWritten f
      (r.1.gateHeld ((r.1.frame? f.num).getD r.2)).updateOver) := by
  show execFrameGate temps s = _
  unfold execFrameGate
  refine congrArg Host.Outcome.next ?_
  split
  case h_1 none => exact absurd (frames.symm.trans none) (List.cons_ne_nil _ _)
  case h_2 f0 rest0 frames0 =>
    obtain ⟨rfl, -⟩ := List.cons.inj (frames.symm.trans frames0)
    rw [if_neg (by simp [fresh, converted])]
    rfl

theorem State.Leaves.gateOpens {f} (h : s.LeavesCount t) : s.LeavesCount (t.gateOpens f).1 :=
  .via (.gateUpdate (.updateRefc h)) fun h1 => .gateStages (.ite (.clearRule3 h1) h1)

theorem State.Leaves.gatePaged {f n} (h : s.Leaves lo hi t) (scene : Obj.SCENE_STATE < lo ∨ hi ≤ Obj.SCENE_FRAMES)
    (tone : Obj.TONE_STALE < lo ∨ hi ≤ Obj.TONE_STALE) : s.Leaves lo hi (t.gatePaged f n) :=
  .toneStale (.update (.sceneGate h scene)) tone

/-! ## The newest frame by its number -/

theorem State.frame?_of_head {f : Frame} (h : s.focal.frames.head? = some f) : s.frame? f.num = some f := by
  obtain ⟨rest, frames⟩ : ∃ rest, s.focal.frames = f :: rest := by
    cases e : s.focal.frames with
    | nil => rw [e] at h; cases h
    | cons x xs => rw [e] at h; exact ⟨xs, by rw [Option.some.inj h]⟩
  rw [State.frame?, frames, List.find?_cons_of_pos (by simp)]

/-- Where the newest frame is left, it still is the frame of its number. -/
theorem State.Leaves.frame?_newest {f : Frame} (h : s.Leaves lo hi t) (head : s.focal.frames.head? = some f) :
    ∃ f', t.focal.frames.head? = some f' ∧ t.frame? f.num = some f' ∧ f'.core = f.core := by
  have same := h.newest
  rw [head] at same
  obtain ⟨f', head', core⟩ := Option.map_eq_some_iff.1 same
  have num : f'.num = f.num := congrArg Prod.fst core
  exact ⟨f', head', num ▸ State.frame?_of_head head', core⟩

theorem State.frame?_mapFrame {n : BitVec 32} {h : Frame → Frame} (num : ∀ x, (h x).num = x.num) :
    (s.mapFrame n h).frame? n = (s.frame? n).map h := by
  unfold State.frame? State.mapFrame
  induction s.focal.frames with
  | nil => rfl
  | cons x xs ih =>
    by_cases e : x.num = n
    · simp [e, num]
    · simpa [List.find?_cons, e] using ih

/-! ## The gates of the regions (R194) -/

/-- What decides whether a region may be gated. -/
structure State.SameGates (s t : State) : Prop where
  may : ∀ g n, t.mayGate g n = s.mayGate g n
  pipe : t.pipe = s.pipe

theorem State.setRegion_frames {g : Nat} {r : Region} (h : r.frames = (s.region g).frames) (g' : Nat) :
    ((s.setRegion g r).region g').frames = (s.region g').frames := by
  unfold State.region at *
  rw [State.setRegion_regions, Vector.toList_setIfInBounds, List.getElem?_set]
  split
  case isTrue e =>
    subst e
    split
    · exact h
    · rw [List.getElem?_eq_none (by omega)]
  case isFalse => rfl

theorem State.gateRegion_sameGates (g : Nat) (n : BitVec 32) : s.SameGates (s.gateRegion g n) := by
  refine ⟨fun g' n' => ?_, rfl⟩
  have frames : ((s.gateRegion g n).region g').frames = (s.region g').frames := State.setRegion_frames (by rfl) g'
  have cal : (s.gateRegion g n).cal = s.cal := rfl
  rw [State.mayGate, State.mayGate, frames, cal]

theorem State.gateRegion_frame? (g : Nat) (n : BitVec 32) : (s.gateRegion g n).frame? n =
    (s.frame? n).map fun x => { x with gated := x.gated ||| BitVec.ofNat 64 (2 ^ g) } :=
  State.frame?_mapFrame fun _ => rfl

/-- Frame `f` of `s` in `t`, where the regions below `k` have had their turn at its gate. -/
structure State.GatedTo (s : State) (f : Frame) (k : Nat) (t : State) : Prop where
  same : s.SameGates t
  frame : ∃ f', t.frame? f.num = some f' ∧ f'.gateDone = true ∧
    (∀ g, f.gated.getLsbD g = true → f'.gated.getLsbD g = true) ∧
    ∀ g < k, f'.gated.getLsbD g = true ∨ s.mayGate g f.num = false

/-- The turn of one region. -/
theorem State.GatedTo.step {f : Frame} {k : Nat} (h : s.GatedTo f k t) (hk : k < 64) :
    s.GatedTo f (k + 1) (if !f.gated.getLsbD k && t.mayGate k f.num then t.gateRegion k f.num else t) := by
  obtain ⟨same, f', here, done, kept, turn⟩ := h
  split
  case isTrue =>
    have more := t.gateRegion_sameGates k f.num
    refine ⟨⟨fun g n => (more.may g n).trans (same.may g n), more.pipe.trans same.pipe⟩, _,
      (t.gateRegion_frame? k f.num).trans (congrArg _ here), done, fun g hg => ?_, fun g hg => ?_⟩
    · simp [kept g hg]
    · rcases Nat.lt_succ_iff_lt_or_eq.1 hg with below | rfl
      · exact (turn g below).imp (fun b => by simp [b]) id
      · refine .inl ?_
        rw [BitVec.getLsbD_or, BitVec.getLsbD_ofNat, Nat.testBit_two_pow_self, decide_eq_true hk, Bool.and_true, Bool.or_true]
  case isFalse passed =>
    refine ⟨same, f', here, done, kept, fun g hg => ?_⟩
    rcases Nat.lt_succ_iff_lt_or_eq.1 hg with below | rfl
    · exact turn g below
    · rw [same.may, Bool.and_eq_true, not_and_or, Bool.not_eq_true', Bool.not_eq_false, Bool.not_eq_true] at passed
      exact passed.imp (kept g) id

theorem State.gateHeld_gatedTo {f : Frame} (here : s.frame? f.num = some f) (done : f.gateDone = true) :
    s.GatedTo f 64 (s.gateHeld f) := by
  have turns : ∀ k ≤ 64, s.GatedTo f k ((List.range k).foldl (fun (t : State) g =>
      if !f.gated.getLsbD g && t.mayGate g f.num then t.gateRegion g f.num else t) s) := by
    intro k
    induction k with
    | zero => exact fun _ => ⟨⟨fun _ _ => rfl, rfl⟩, f, here, done, fun _ => id, fun _ h => absurd h (Nat.not_lt_zero _)⟩
    | succ k ih =>
      intro hk
      rw [List.range_succ, List.foldl_append]
      exact (ih (by omega)).step (by omega)
  unfold State.gateHeld
  rw [done]
  exact turns 64 le_rfl

theorem State.updateOver_sameGates (s : State) : s.SameGates s.updateOver := by
  unfold State.updateOver
  split
  case isTrue ended =>
    have none : s.cal.update = some [] := of_decide_eq_true (Bool.and_eq_true_iff.1 ended).2
    exact ⟨fun g n => by simp [State.mayGate, none, State.region], rfl⟩
  case isFalse => exact ⟨fun _ _ => rfl, rfl⟩

theorem State.updateOver_frame? (s : State) (n : BitVec 32) : s.updateOver.frame? n = s.frame? n := by
  unfold State.updateOver
  split <;> rfl

/-! ## The gate as a whole -/

theorem State.toneStale_pipe (s : State) (n : BitVec 32) : (s.toneStale n).pipe = s.pipe := by
  have bumped : (s.bump Obj.TONE_STALE).pipe = s.pipe := by
    obtain ⟨o, h⟩ := s.bump_frame Obj.TONE_STALE 1
    rw [h]
  unfold State.toneStale
  dsimp only
  rw [apply_ite State.pipe, bumped, ite_self]

theorem State.gatePaged_page (s : State) (f : Frame) (n : BitVec 32) : ∃ p rest, (s.gatePaged f n).pipe.pages = p :: rest ∧
    p.frame = f.num ∧ p.clt = s.focal.clt ∧ p.sites = BitVec.ofNat 64 (s.nat Obj.ACTIVE_SITES) :=
  ⟨_, _, congrArg (·.pages) (State.toneStale_pipe _ n), rfl, rfl, rfl⟩

/-- What a gate comes to: the frame past its gate, its page, and what stays. -/
structure State.Gated (s : State) (f : Frame) (t : State) : Prop where
  clk : t.clk = s.clk
  count : t.get Obj.FRAME_COUNT = s.get Obj.FRAME_COUNT
  clt : t.focal.clt = s.focal.clt
  frame : ∃ f', t.frame? f.num = some f' ∧ f'.gateDone = true ∧
    ∀ g : Fin 64, f'.gated.getLsbD g = true ∨ t.mayGate g f.num = false
  page : ∃ p rest, t.pipe.pages = p :: rest ∧ p.frame = f.num ∧ p.clt = t.focal.clt ∧
    p.sites = BitVec.ofNat 64 (t.nat Obj.ACTIVE_SITES)

theorem State.gatePassed_head {n : BitVec 32} {f : Frame} (head : s.focal.frames.head? = some f) (num : f.num = n) :
    ∃ f', (s.gatePassed n).focal.frames.head? = some f' ∧ f'.num = n ∧ f'.gateDone = true := by
  refine ⟨{ f with gateDone := true, quality := s.nat Obj.STARTUP_STAGE < 5 }, ?_, num, rfl⟩
  rw [State.gatePassed, State.mapFrame, List.head?_map, head]
  exact congrArg some (if_pos num)

/-- The regions' gates, from a state that stands past its pages. -/
theorem State.gateHeld_gated {f : Frame} {n : BitVec 32} (here : s.frame? n = some f) (num : f.num = n)
    (done : f.gateDone = true) : (s.gateHeld f).updateOver.pipe = s.pipe ∧
      ∃ f', (s.gateHeld f).updateOver.frame? n = some f' ∧ f'.gateDone = true ∧
        ∀ g : Fin 64, f'.gated.getLsbD g = true ∨ (s.gateHeld f).updateOver.mayGate g n = false := by
  subst num
  obtain ⟨same, f', here', done', -, turns⟩ := State.gateHeld_gatedTo here done
  have ended := (s.gateHeld f).updateOver_sameGates
  refine ⟨ended.pipe.trans same.pipe, f', (State.updateOver_frame? _ _).trans here', done', fun g => ?_⟩
  rw [ended.may, same.may]
  exact turns g g.isLt

/-- From a state that is past its gate, the pages and the regions' gates. -/
theorem State.gatePaged_gated {f : Frame} {n : BitVec 32} (head : s.focal.frames.head? = some f) (num : f.num = n)
    (done : f.gateDone = true) :
    s.Gated f ((s.gatePaged f n).gateHeld (((s.gatePaged f n).frame? n).getD f)).updateOver := by
  subst num
  have leaves {lo hi : Nat} (scene : Obj.SCENE_STATE < lo ∨ hi ≤ Obj.SCENE_FRAMES)
      (tone : Obj.TONE_STALE < lo ∨ hi ≤ Obj.TONE_STALE) : s.Leaves lo hi (s.gatePaged f f.num) :=
    .gatePaged .refl scene tone
  have count : s.LeavesCount (s.gatePaged f f.num) := leaves (by decide) (by decide)
  have sites : s.Leaves Obj.ACTIVE_SITES (Obj.ACTIVE_SITES + 1) (s.gatePaged f f.num) := leaves (by decide) (by decide)
  obtain ⟨f', -, here', core'⟩ := count.frame?_newest head
  obtain ⟨pipe, gated⟩ := State.gateHeld_gated here' (congrArg Prod.fst core')
    ((congrArg (fun c => c.2.2.2) core').trans done)
  obtain ⟨p, rest, pages, frame, clt, active⟩ := s.gatePaged_page f f.num
  rw [here', Option.getD_some]
  have counted : s.LeavesCount ((s.gatePaged f f.num).gateHeld f').updateOver := .updateOver (.gateHeld count)
  have sited : s.Leaves Obj.ACTIVE_SITES (Obj.ACTIVE_SITES + 1) ((s.gatePaged f f.num).gateHeld f').updateOver :=
    .updateOver (.gateHeld sites)
  refine ⟨counted.clk, counted.objs _ le_rfl (Nat.lt_succ_self _), counted.clt, gated, p, rest, ?_, frame, ?_, ?_⟩
  · rw [pipe, pages]
  · rw [clt, counted.clt]
  · rw [active, State.nat, State.nat, sited.objs _ le_rfl (Nat.lt_succ_self _)]

theorem State.gateWritten_gated {f : Frame} (head : s.focal.frames.head? = some f) :
    s.Gated f ((s.gateWritten f).1.gateHeld (((s.gateWritten f).1.frame? f.num).getD (s.gateWritten f).2)).updateOver := by
  have opens : s.LeavesCount (s.gateOpens f).1 := .gateOpens .refl
  unfold State.gateWritten
  generalize s.gateOpens f = o at opens ⊢
  obtain ⟨f1, head1, -, core1⟩ := opens.frame?_newest head
  have num1 : f1.num = f.num := congrArg Prod.fst core1
  obtain ⟨f2, head2, num2, done2⟩ := State.gatePassed_head head1 num1
  have passed := State.frame?_of_head head2
  rw [num2] at passed
  dsimp only
  rw [passed, Option.getD_some]
  obtain ⟨clk, count, clt, frame, page⟩ := State.gatePaged_gated head2 num2 done2
  rw [num2] at frame page
  exact ⟨clk.trans opens.clk, count.trans (opens.objs _ le_rfl (Nat.lt_succ_self _)), clt.trans opens.clt, frame, page⟩

theorem State.readTemps_one {c v : Nat} (hc : c < 1920) (hv : v < 2 ^ 20) :
    Cells.get (s.readTemps [(c, v)]).focal.clt c 0 = v := by
  have clt : (s.readTemps [(c, v)]).focal.clt = Cells.set s.focal.clt c ((v % 2 ^ 20 : Nat) : Int) 0 := if_pos hc
  rw [clt, Cells.get_set_same, Nat.mod_eq_of_lt hv]

/-- A FRAME_GATE for a frame past its gate, or before its conversions are over, changes nothing. -/
theorem exec_frameGate_other {temps : List (Nat × Nat)} {f : Frame} {rest : List Frame} (frames : s.focal.frames = f :: rest)
    (other : f.gateDone = true ∨ s.convertedOver f = false) : exec (.frameGate temps) s = .next s := by
  show execFrameGate temps s = _
  unfold execFrameGate
  refine congrArg Host.Outcome.next ?_
  split
  case h_1 => rfl
  case h_2 f0 rest0 frames0 =>
    obtain ⟨rfl, -⟩ := List.cons.inj (frames.symm.trans frames0)
    exact if_pos (by simpa using other)

/-- Settles O16: the frame's number and the Drumline count run unchanged through every step of a gate, and each region has its
turn. -/
theorem gateIsPassedOnce : Obligations.GateIsPassedOnce := by
  refine ⟨fun ts f rest s frames fresh converted => ?_, fun ts f rest s frames other => ?_, fun ts s frames => ?_⟩
  · refine ⟨_, exec_frameGate frames fresh converted, ?_⟩
    obtain ⟨clk, count, clt, frame, page⟩ :=
      State.gateWritten_gated (s := s.readTemps ts) (f := f) (congrArg List.head? frames)
    refine ⟨frame, page, fun c v one hc hv => ?_, clk, count⟩
    subst one
    rw [clt]
    exact State.readTemps_one hc hv
  · refine exec_frameGate_other frames (other.imp id fun early => ?_)
    obtain ⟨running, early⟩ := early
    simp [State.convertedOver, running, early]
  · show execFrameGate ts s = _
    unfold execFrameGate
    rw [frames]

end Sys2Proof.Machine
end

section
/-! What comes into force at a landing that launches a frame leaves the clock (03_focal_plane_readout.md R71; 04 R130, R136,
R139; 08 R262; 07 R255, R259). -/

namespace Sys2Proof.Machine

variable {s t u : State}

/-- `State.Leaves` with no object in its window. -/
abbrev State.LeavesNewest (s t : State) : Prop := s.Leaves 0 0 t

theorem State.Leaves.each {lo hi : Nat} {α : Type} {xs : List α} {f : State → α → State} (h : s.Leaves lo hi t)
    (hf : ∀ u x, s.Leaves lo hi u → s.Leaves lo hi (f u x)) : s.Leaves lo hi (t.each xs f) := .foldl h hf

/-! ## Rolls (R262, R264) -/

theorem State.Leaves.remoteWrite {lo hi : Nat} {region off bytes slot} (h : s.Leaves lo hi t) :
    s.Leaves lo hi (t.remoteWrite region off bytes slot) := .ite h (.poke h)

theorem State.Leaves.sendSeam {b} (h : s.LeavesNewest t) : s.LeavesNewest (t.sendSeam b) :=
  .ite (.remoteWrite (.spend h)) (.update (.stallRoll (Nat.zero_le _) h))

theorem State.Leaves.drainSeam (h : s.LeavesNewest t) : s.LeavesNewest t.drainSeam :=
  .foldl (.update h) fun _ _ hu => .sendSeam hu

theorem State.Leaves.payOwed (h : s.LeavesNewest t) : s.LeavesNewest t.payOwed :=
  .foldl h fun _ _ hu => .update (.spendSome (Nat.zero_le _) hu)

theorem State.Leaves.refill (h : s.LeavesNewest t) : s.LeavesNewest t.refill := .each (.update h) fun _ _ hu => .putLe hu

theorem State.Leaves.refillAgain (h : s.LeavesNewest t) : s.LeavesNewest t.refillAgain :=
  .drainSeam (.payOwed (.refill (.putLe (.putLe h))))

theorem State.Leaves.mapRuns {lo hi : Nat} {f} (h : s.Leaves lo hi t) : s.Leaves lo hi (t.mapRuns f) := .update h

theorem State.Leaves.mapDone {lo hi : Nat} {f} (h : s.Leaves lo hi t) : s.Leaves lo hi (t.mapDone f) := .update h

theorem State.Leaves.rollback {r} (h : s.LeavesNewest t) : s.LeavesNewest (t.rollback r) := by
  unfold State.rollback
  refine .ite (.mapDone (.mapRuns h)) (.ite ?_ ?_)
  · exact .foldl h fun _ _ hu => .ite (.setRegion hu) hu
  · exact .ite (.bankView (.setVerified h) (Nat.zero_le _)) (.mapRuns h)

theorem State.Leaves.endLease {r} (h : s.LeavesNewest t) : s.LeavesNewest (t.endLease r) :=
  .ite (.bell (.bump (.setLease (.rollback h)))) (.bump (.setLease h))

theorem State.Leaves.expireLeases (h : s.LeavesNewest t) : s.LeavesNewest t.expireLeases :=
  .foldl h fun _ _ hu => .ite (.endLease hu) (.ite (.setLease hu) hu)

/-- An idle roll counts and marks frames, whose core it leaves. -/
theorem State.Leaves.bumpMapFrames {k} {f : Frame → Frame} (h : s.LeavesNewest t) (core : ∀ x, (f x).core = x.core) :
    s.LeavesNewest { t.bump k with focal := { t.focal with frames := t.focal.frames.map f } } := by
  have bumped : s.LeavesNewest (t.bump k) := .bump h
  obtain ⟨o, e⟩ := t.bump_frame k 1
  rw [e] at bumped ⊢
  exact bumped.mapFrames core

theorem Frame.core_throttled {f : Frame} {c : Prop} [Decidable c] :
    (if c then { f with throttled := true } else f).core = f.core := by
  split <;> rfl

theorem State.Leaves.boundaryWork {beat} (h : s.LeavesNewest t) : s.LeavesNewest (t.boundaryWork beat) := by
  unfold State.boundaryWork
  exact .via (.ite (.put (.update (.each (.update h) fun _ _ hu => .put hu))) (.update h)) fun h1 =>
    .expireLeases (.drainSeam (.payOwed (.refill (.put (.mapWaits (.ite (.bumpMapFrames h1 fun _ => Frame.core_throttled) h1))))))

theorem State.Leaves.newRollUs (h : s.LeavesNewest t) : s.LeavesNewest t.newRollUs :=
  .ite h (.ite (.refillAgain (.put h)) (.boundaryWork (.put (.put h))))

/-! ## Calibration (07 R228, R242, R259) -/

/-- A stroke that starts no frame leaves the count running or not, as it is. -/
theorem State.Leaves.fire {lo hi : Nat} {action l order} (h : s.Leaves lo hi t) (other : action ≠ 0x20 := by decide) :
    s.Leaves lo hi (t.fire action l order) := by
  refine ⟨Eq.trans ?_ h.clk, h.mc, h.scans, h.started, h.clt, h.newest, h.objs⟩
  rw [State.fire, beq_eq_false_iff_ne.2 other, Bool.or_false]

theorem State.Leaves.calOpen {lo hi : Nat} (h : s.Leaves lo hi t) : s.Leaves lo hi t.calOpen := by
  unfold State.calOpen
  split
  · exact h
  · exact .ite h (.fire (.update h))

theorem State.Leaves.freePorts {lo hi : Nat} {code} (h : s.Leaves lo hi t) : s.Leaves lo hi (t.freePorts code) :=
  .foldl h fun _ _ hu => .setLease hu

theorem State.Leaves.calFail {code} (h : s.LeavesNewest t) : s.LeavesNewest (t.calFail code) := by
  unfold State.calFail State.calIdle
  split
  · exact h
  · refine .bell (.put (.put (.put ?_)))
    exact .freePorts (.ite (.put (.update (.calOpen h))) (.update (.calOpen h)))

theorem State.Leaves.calAccept {kind point boot} (h : s.LeavesNewest t) : s.LeavesNewest (t.calAccept kind point boot) :=
  .put (.put (.put (.update h)))

theorem State.Leaves.askRefresh {boot} (h : s.LeavesNewest t) : s.LeavesNewest (t.askRefresh boot) :=
  .ite (.put (.update h)) (.calAccept h)

theorem State.Leaves.startRefresh {rule3 boot wasDeferring} (h : s.LeavesNewest t) :
    s.LeavesNewest (t.startRefresh rule3 boot wasDeferring) := by
  unfold State.startRefresh
  refine .ite ?_ (.ite (.calAccept (.update h)) h)
  split
  · exact .ite (.calAccept h) (.update h)
  · exact .askRefresh h

theorem State.Leaves.calFrameStart {lo hi : Nat} {set2} (h : s.Leaves lo hi t) : s.Leaves lo hi (t.calFrameStart set2).1 := by
  unfold State.calFrameStart
  split
  · exact h
  · exact .iteFst (.update h) (.iteFst h h)

/-! ## Captured values, swaps, engine clocks and spares (04, 06) -/

theorem State.Leaves.inForce {c} (h : s.LeavesNewest t) : s.LeavesNewest (t.inForce c) := by
  unfold State.inForce
  split
  · exact .update h
  · exact .ite (.update h) (.put h)
  · exact .put h

theorem State.Leaves.applyCaptures (h : s.LeavesNewest t) : s.LeavesNewest t.applyCaptures :=
  .update (.foldl h fun _ _ hu => .inForce hu)

theorem State.Leaves.bootSwaps (h : s.LeavesNewest t) : s.LeavesNewest t.bootSwaps.1 :=
  .iteFst (.put (.update (.foldl h fun _ _ hu => .update (.setRegion hu)))) h

theorem State.Leaves.swapRegion {g} (h : s.LeavesNewest t) : s.LeavesNewest (t.swapRegion g).1 :=
  .ite (.bump (.bankView (.setRegion h) (Nat.zero_le _))) (.setRegion h)

theorem State.Leaves.swapAll (h : s.LeavesNewest t) : s.LeavesNewest t.swapAll.1 :=
  .put (.put (.foldlFst h fun _ _ hu => .swapRegion hu))

theorem State.Leaves.dropUpdate {lo hi : Nat} {swapped} (h : s.Leaves lo hi t) : s.Leaves lo hi (t.dropUpdate swapped) :=
  .updateOver (.update h)

theorem State.Leaves.runAt {q f} (h : s.LeavesNewest t) : s.LeavesNewest (t.runAt q f) := .put (.update h)

theorem State.Leaves.switchEngine {q} (h : s.LeavesNewest t) : s.LeavesNewest (t.switchEngine q) := by
  unfold State.switchEngine
  split
  · exact h
  · exact .ite (.put (.update h)) (.ite h (.ite (.ite h (.bell (.update h))) (.put (.runAt h))))

theorem State.Leaves.takeSpare {lo hi : Nat} {frame n} (h : s.Leaves lo hi t) : s.Leaves lo hi (t.takeSpare frame n) := by
  unfold State.takeSpare
  split
  · exact .update h
  · exact .setEngine (.wipe (.update h))

theorem State.Leaves.liveChange (h : s.LeavesNewest t) : s.LeavesNewest t.liveChange := .ite h (.bell (.put (.update h)))

theorem State.Leaves.sparesTakeOver {frame} (h : s.LeavesNewest t) : s.LeavesNewest (t.sparesTakeOver frame) := by
  unfold State.sparesTakeOver
  exact .via (.ite h (.liveChange (.foldl (.update h) fun _ _ hu => .takeSpare hu))) fun h1 => .ite (.update h1) h1

theorem State.Leaves.intoForce {num} (h : s.LeavesNewest t) : s.LeavesNewest (t.intoForce num).1 := by
  unfold State.intoForce
  extract_lets +onlyGivenNames commit bit6 s1 changed s2
  have h1 : s.LeavesNewest s1 := .newRollUs (.applyCaptures h)
  have h2 : s.LeavesNewest s2 := .ite (.calFail h1) h1
  split
  rename_i s3 boot e3
  split
  rename_i s4 swapped e4
  have h4 : s.LeavesNewest s4 := .fst (.swapAll (.fst (.bootSwaps h2) e3)) e4
  extract_lets +onlyGivenNames banks s5 s6
  have h5 : s.LeavesNewest s5 := .dropUpdate h4
  have h6 : s.LeavesNewest s6 := by
    unfold s6
    split
    · exact .ite (.calFail h5) h5
    · exact h5
  dsimp only
  exact .sparesTakeOver (.foldl (.ite (.update h6) h6) fun _ _ hu => .switchEngine hu)

theorem State.Leaves.frameObjects {f} (h : s.LeavesNewest t) : s.LeavesNewest (t.frameObjects f) :=
  .put (.put (.put (.put (.put (.put (.put h))))))

end Sys2Proof.Machine
end

section
/-! The launch of a frame, and a FRAME_START that launches none (03_focal_plane_readout.md R71, R73, R74; 15 R435). -/

namespace Sys2Proof.Machine

variable {s t u : State} {lo hi : Nat}

/-! ## What a frame's beginning leaves (04 R109, R279) -/

theorem State.Leaves.placeGrid (h : s.LeavesNewest t) : s.LeavesNewest t.placeGrid := by
  unfold State.placeGrid
  split
  · exact .bell (.poke (.update h))
  · exact h

theorem State.Leaves.mapRFrame {g f h'} (h : s.Leaves lo hi t) : s.Leaves lo hi (t.mapRFrame g f h') := .setRegion h

theorem State.Leaves.freeRows {fr g} (h : s.Leaves lo hi t) : s.Leaves lo hi (t.freeRows fr g) := .setRegion h

theorem State.Leaves.formStats {g f} (h : s.LeavesNewest t) : s.LeavesNewest (t.formStats g f) := by
  have put : s.LeavesNewest (t.putStats g { t.stats g f with valid := t.histValid g f }) := .update h
  exact .setRegion (.update (.putBytes put))

theorem State.Leaves.lastRow {fr g} (h : s.LeavesNewest t) : s.LeavesNewest (t.lastRow fr g) := by
  unfold State.lastRow
  split
  · exact .ite (.bell (.bumpLe (.setRegion h))) (.setRegion h)
  · exact .setRegion h

theorem State.Leaves.finishFrame {fr g} (h : s.LeavesNewest t) : s.LeavesNewest (t.finishFrame fr g) := by
  unfold State.finishFrame
  refine .placeGrid ?_
  split
  · exact .gateHeld (.mapRFrame h)
  · exact .mapRFrame h

theorem State.Leaves.afterItem {fr g} (h : s.LeavesNewest t) : s.LeavesNewest (t.afterItem fr g) := by
  unfold State.afterItem
  dsimp only
  split
  · exact .freeRows h
  · refine .ite (.freeRows h) ?_
    exact .via (.ite (.freeRows h) (.lastRow (.formStats (.freeRows h)))) fun h1 =>
      .ite (.finishFrame h1) (.ite h1 (.setRegion h1))

theorem State.Leaves.discardFrame {fr g} (h : s.LeavesNewest t) : s.LeavesNewest (t.discardFrame fr g) := by
  unfold State.discardFrame
  split
  · exact h
  · refine .ite h (.afterItem (.bell (.put (.bumpLe (.mapFrame (.update (.setRegion (.mapRFrame h))) fun _ => rfl)))))

theorem State.Leaves.framesInRegions {f} (h : s.LeavesNewest t) : s.LeavesNewest (t.framesInRegions f) :=
  .foldl h fun _ _ hu => .ite (.discardFrame (.setRegion hu)) (.setRegion hu)

theorem State.Leaves.entriesDue {num} (h : s.Leaves lo hi t) : s.Leaves lo hi (t.entriesDue num) :=
  .foldl h fun _ _ hu => .setEngine hu

theorem State.Leaves.calClear {f} (h : s.Leaves lo hi t) : s.Leaves lo hi (t.calClear f) :=
  .foldl h fun _ _ hu => .foldl (.wipe hu) fun _ _ hv => .wipe hv

/-! ## Contexts and views (09) -/

theorem State.Leaves.radiometry {c} (h : s.LeavesNewest t) : s.LeavesNewest (t.radiometry c) := .put (.put (.drawn (.drawn h)))

theorem State.Leaves.applyContexts {f} (h : s.LeavesNewest t) : s.LeavesNewest (t.applyContexts f) :=
  .foldl h fun _ _ hu => .ite hu (.radiometry (.update (.foldl hu fun _ _ hv => .put hv)))

theorem State.Leaves.dropFrame {v} (h : s.LeavesNewest t) : s.LeavesNewest (t.dropFrame v) := .mapView (.bump h)

theorem State.Leaves.takeFrame {v f} (h : s.LeavesNewest t) : s.LeavesNewest (t.takeFrame v f) := by
  unfold State.takeFrame
  split
  · exact .ite (.dropFrame h) (.mapView (.put (.put (.put h))))
  · exact .bump (.dropFrame h)

theorem State.Leaves.viewsAtStart {f} (h : s.LeavesNewest t) : s.LeavesNewest (t.viewsAtStart f) := by
  unfold State.viewsAtStart
  refine .put (.foldl h fun _ _ hu => ?_)
  exact .via (.ite (.mapView (.put hu)) hu) fun h1 => .ite h1 (.ite (.takeFrame h1) h1)

/-! ## Frames that nothing refers to any more are forgotten, never the newest -/

theorem State.Leaves.prune (h : s.Leaves lo hi t) : s.Leaves lo hi t.prune := by
  refine ⟨h.clk, h.mc, h.scans, h.started, h.clt, Eq.trans ?_ h.newest, h.objs⟩
  unfold State.prune
  cases e : t.focal.frames with
  | nil => rfl
  | cons f fs =>
    have recent : (f.num - f.num).toNat ≤ 3 := by rw [sub_self]; exact Nat.zero_le _
    simp only [List.head?_cons, Option.map_some, Option.getD_some]
    rw [List.filter_cons_of_pos (by simp only [recent, decide_true, Bool.true_or])]
    rfl

theorem State.Leaves.chop (h : s.LeavesNewest t) : s.LeavesNewest t.chop := by
  unfold State.chop
  dsimp only
  split <;> exact .put (.put h)

theorem State.Leaves.digests (h : s.LeavesNewest t) : s.LeavesNewest t.digests := .put (.update h)

/-! ## The launch (R71) -/

/-- Frame `f` is the newest, and the scans have begun at its landing, which is now. -/
structure State.Launched (u t : State) (l : Landing) : Prop where
  frame : ∃ f rest, t.focal.frames = f :: rest ∧ f.num = BitVec.ofNat 32 (u.nat Obj.FRAME_COUNT + 1) ∧ f.landing = u.now ∧
    f.profile = l.arg.toNat
  started : t.focal.started = true
  scans : ∀ q : Fin 4, u.clk.copies[q] = u.now → t.focal.scans[q].start = 10 * u.clk.beats

/-- A quadrant whose copy of the count agrees begins its first slot in the beat of the landing. -/
theorem State.scanStart_of_agrees {q : Fin 4} (h : s.clk.copies[q] = s.now) : s.scanStart q = 10 * s.clk.beats := by
  have none : (0 : Dlt).toInt = 0 := rfl
  rw [State.scanStart, h, Dlt.diff, sub_self, none]
  omega

theorem State.Launched.leaves {l : Landing} {v : State} (h : u.Launched t l) (more : t.LeavesNewest v) : u.Launched v l := by
  obtain ⟨⟨f, rest, frames, num, landing, profile⟩, started, scans⟩ := h
  obtain ⟨f', head, -, core⟩ := more.frame?_newest (f := f) (by rw [frames]; rfl)
  obtain ⟨rest', frames'⟩ := List.head?_eq_some_iff.1 head
  refine ⟨⟨f', rest', frames', ?_, ?_, ?_⟩, more.started.trans started, fun q agrees => ?_⟩
  · exact (congrArg (·.1) core).trans num
  · exact (congrArg (·.2.1) core).trans landing
  · exact (congrArg (·.2.2.1) core).trans profile
  · rw [more.scans]
    exact scans q agrees

theorem State.launch_launched (u : State) (l : Landing) : u.Launched (u.launch l) l := by
  unfold State.launch
  extract_lets +onlyGivenNames num wasDeferring
  split
  rename_i s1 swapped boot changed e1
  have h1 : u.LeavesNewest s1 := .fst (.intoForce .refl) e1
  extract_lets +onlyGivenNames f0 s2
  split
  rename_i s3 kind first e3
  have h3 : u.LeavesNewest s3 := .fst (.calFrameStart (.startRefresh (.frameObjects h1))) e3
  extract_lets +onlyGivenNames calChange f focal s4 s4' s5 s6
  have begun : u.Launched s4 l := by
    refine ⟨⟨f, s3.focal.frames, rfl, rfl, congrArg Clock.dlt h1.clk, rfl⟩, rfl, fun q agrees => ?_⟩
    have start : s4.focal.scans[q].start = s3.scanStart q := by
      simp only [s4, Fin.getElem_fin, Vector.getElem_ofFn]
    rw [start, State.scanStart_of_agrees (by rw [State.now, h3.clk]; exact agrees), h3.clk]
  refine begun.leaves (.digests (.chop (.placeGrid (.prune ?_))))
  refine .viewsAtStart (.applyContexts (.entriesDue (.framesInRegions ?_)))
  exact .ite (.calClear (.mapWaits .refl)) (.mapWaits .refl)

/-! ## FRAME_START (R71, R73, R435) -/

/-- A launch refused for cause `c` (R73). -/
def State.frameRefused (s : State) (c : Nat) : State :=
  ((s.bump Obj.FRAME_REFUSED).put Obj.REFUSE_CAUSE c).bell 0x0301 c

/-- A landing that is not refused counts for the throttle (R435). -/
def State.landingCounted (s : State) : State := { s with power := { s.power with landings := s.power.landings + 1 } }

section
variable {l : Landing} (h : s.landing 0x20 l = some u) (trims : u.power.trims = true)
include h trims

theorem exec_frameStart_refused (cause : u.startCause l.arg.toNat ≠ 0) :
    exec (.frameStart l) s = .next (u.frameRefused (u.startCause l.arg.toNat)) := by
  refine congrArg Host.Outcome.next ((State.land_of_landing h _).trans ?_)
  simp only [trims, Bool.not_true, Bool.false_eq_true, if_false]
  rfl

theorem exec_frameStart_unrefused (cause : u.startCause l.arg.toNat = 0) : exec (.frameStart l) s = .next
    (if suppressed u.power.landings (u.nat Obj.THROTTLE_LEVEL)
      then u.landingCounted.bump Obj.THROTTLE_SKIPS else u.landingCounted.launch l) := by
  refine congrArg Host.Outcome.next ((State.land_of_landing h _).trans ?_)
  dsimp only
  rw [if_neg (by simp [trims]), cause]
  rfl

end

theorem unsignedAt_throttleSkips : unsignedAt Obj.THROTTLE_SKIPS 4 = true := by decide +kernel

theorem State.landingCounted_get (k : Nat) : s.landingCounted.get k = s.get k := State.get_congr rfl k

theorem State.landingCounted_power : s.landingCounted.power.landings = s.power.landings + 1 := rfl

/-- A suppressed launch counts twice and does nothing else. -/
theorem State.landing_suppressed (s : State) : Counted s (s.landingCounted.bump Obj.THROTTLE_SKIPS) Obj.THROTTLE_SKIPS ∧
    SameObj s (s.landingCounted.bump Obj.THROTTLE_SKIPS) [Obj.THROTTLE_SKIPS] ∧
    (s.landingCounted.bump Obj.THROTTLE_SKIPS).power.landings = s.power.landings + 1 ∧
    { s.landingCounted.bump Obj.THROTTLE_SKIPS with obj := s.obj, power := s.power } = s := by
  obtain ⟨counted, objs, -⟩ := State.bump_alone (s := s.landingCounted) unsignedAt_throttleSkips
  obtain ⟨o, bumped⟩ := s.landingCounted.bump_frame Obj.THROTTLE_SKIPS 1
  refine ⟨?_, fun k hk => (objs k hk).trans (State.landingCounted_get k), ?_⟩
  · exact counted.trans (by rw [State.landingCounted_get])
  · rw [bumped]
    exact ⟨State.landingCounted_power, rfl⟩

theorem State.startCause_eq {arg : Nat} (h : s.startCause arg ≠ 0) :
    s.startCause arg = (if s.slotsRunning then 1 else 2) := by
  unfold State.startCause at *
  split_ifs at * <;> simp_all

theorem State.startCause_lt (arg : Nat) : s.startCause arg < 2 ^ (8 * 1) := by
  unfold State.startCause
  split_ifs <;> decide

theorem State.frameRefused_counts {c : Nat} (hc : c < 2 ^ (8 * 1)) : Counted s (s.frameRefused c) Obj.FRAME_REFUSED ∧
    (s.frameRefused c).get Obj.REFUSE_CAUSE = c ∧
    SameObj s (s.frameRefused c) [Obj.FRAME_REFUSED, Obj.REFUSE_CAUSE, Obj.BELL_NEXT_SEQ, Obj.BELL_LOST] := by
  refine ⟨?_, ?_, .bell (.put (.bump .refl))⟩
  · rw [Counted, State.frameRefused, State.bell_get (by decide) (by decide), State.put_get_other _ (by decide)]
    exact State.bump_counted (by decide)
  · rw [State.frameRefused, State.bell_get (by decide) (by decide)]
    exact State.put_get_nat (by decide) hc

theorem State.frameRefused_rest (c : Nat) : (s.frameRefused c).focal = s.focal ∧ SameMem s (s.frameRefused c) ∧
    Rings s (s.frameRefused c) 0x0301 c := by
  obtain ⟨o, bumped⟩ := s.bump_frame Obj.FRAME_REFUSED 1
  obtain ⟨o', d, rung, -⟩ := State.bell_frame (s := (s.bump Obj.FRAME_REFUSED).put Obj.REFUSE_CAUSE c) 0x0301 c
  have seq : ((s.bump Obj.FRAME_REFUSED).put Obj.REFUSE_CAUSE c).nat Obj.BELL_NEXT_SEQ = s.nat Obj.BELL_NEXT_SEQ :=
    (State.put_nat_other _ (by decide) _).trans (State.bump_nat_other (by decide) _)
  refine ⟨?_, fun a => ?_, fun room => ?_⟩
  · rw [State.frameRefused, rung, State.put_focal, bumped]
  · rw [State.frameRefused, rung, State.byte, State.byte, State.put_mem, bumped]
  · have same : ((s.bump Obj.FRAME_REFUSED).put Obj.REFUSE_CAUSE c).dict = s.dict := by rw [State.put_dict, bumped]
    have now : ((s.bump Obj.FRAME_REFUSED).put Obj.REFUSE_CAUSE c).now = s.now := by rw [State.put_now, bumped]; rfl
    rw [State.frameRefused, State.bell_of_room (by rw [same]; exact room), seq, same, now]

/-- Settles O13: a launch keeps its own frame newest through the frame's beginning, and a refusal or a suppression changes
objects alone. -/
theorem frameStartLaunchesOrIsRefused : Obligations.FrameStartLaunchesOrIsRefused := by
  refine ⟨fun l s u h trims cause => ⟨_, exec_frameStart_refused h trims cause, ?_⟩,
    fun l s u h trims cause throttled => ⟨_, exec_frameStart_unrefused h trims cause, ?_⟩,
    fun l s u h trims idle arg free => ?_⟩
  · obtain ⟨counts, holds, objs⟩ := State.frameRefused_counts (s := u) (u.startCause_lt l.arg.toNat)
    obtain ⟨focal, mem, rings⟩ := u.frameRefused_rest (u.startCause l.arg.toNat)
    exact ⟨counts, holds, State.startCause_eq cause, focal, mem, objs, rings⟩
  · rw [if_pos throttled]
    exact u.landing_suppressed
  · have cause : u.startCause l.arg.toNat = 0 := by simp [State.startCause, idle, arg]
    refine ⟨_, exec_frameStart_unrefused h trims cause, ?_⟩
    rw [if_neg (by simp [free])]
    obtain ⟨⟨f, rest, frames, num, landing, profile⟩, started, scans⟩ := u.landingCounted.launch_launched l
    rw [State.nat, State.landingCounted_get] at num
    exact ⟨f, rest, frames, num, landing, profile, started, scans⟩

end Sys2Proof.Machine
end

section
/-! What the engine fabric's proofs need of the shared operations (04_engine_fabric.md): what an unsigned object's bits read
after a put, one bit put into a number, and a region replaced among the others. -/

namespace Sys2Proof.Machine

variable {s t u : State}

/-! ## Bits of unsigned objects -/

/-- PUTTING ONE BIT of a number changes that bit alone. -/
theorem testBit_putBit (w i : Nat) (b : Bool) (j : Nat) : (putBit w i b).testBit j = if j = i then b else w.testBit j := by
  have split : putBit w i b = 2 ^ i * (2 * (w / 2 ^ i / 2) + b.toNat) + w % 2 ^ i := by
    have whole := Nat.div_add_mod w (2 ^ i)
    have half := Nat.div_add_mod (w / 2 ^ i) 2
    have value : putBit w i b = w - w / 2 ^ i % 2 * 2 ^ i + b.toNat * 2 ^ i := by
      cases b <;> simp [putBit, putBits, bits, Nat.shiftLeft_eq, Nat.shiftRight_eq_div_pow]
    rw [value]
    generalize w / 2 ^ i / 2 = hi at *
    generalize w / 2 ^ i % 2 = c at *
    generalize w % 2 ^ i = lo at *
    rw [← whole, ← half]
    have e : 2 ^ i * (2 * hi + c) = 2 ^ i * (2 * hi) + c * 2 ^ i := by ring
    rw [e, Nat.mul_add, Nat.mul_comm (2 ^ i) b.toNat]
    omega
  rw [split, Nat.testBit_two_pow_mul_add _ (Nat.mod_lt _ (Nat.two_pow_pos i))]
  rcases Nat.lt_trichotomy j i with below | rfl | above
  · rw [if_pos below, if_neg below.ne, Nat.testBit_mod_two_pow, decide_eq_true below, Bool.true_and]
  · rw [if_neg (lt_irrefl j), if_pos rfl, Nat.sub_self, Nat.testBit_zero]
    cases b <;> simp
  · obtain ⟨d, rfl⟩ := Nat.exists_eq_add_of_lt above
    rw [if_neg (by omega), if_neg (by omega), show i + d + 1 - i = d + 1 by omega, Nat.testBit_succ,
      show (2 * (w / 2 ^ i / 2) + b.toNat) / 2 = w / 2 ^ i / 2 by have := b.toNat_lt; omega, ← Nat.testBit_succ,
      Nat.testBit_div_two_pow]
    congr 1
    omega

/-- The bits that an unsigned object holds are those that were put. -/
theorem State.put_testBit {k sz j : Nat} (h : unsignedAt k sz = true) (hj : j < 8 * sz) (v : Nat) :
    ((s.put k v).nat k).testBit j = v.testBit j := by
  obtain ⟨r, hr, hb, hs, rfl⟩ := unsignedAt_row h
  have wrapped : (s.put k v).nat k = v % 2 ^ (8 * r.size) := by
    rw [State.put_nat]
    simp only [objWrap, hr, hb, ObjRow.wrap, hs, wrapNat, if_false, Bool.false_eq_true, Int.toNat_natCast]
    norm_cast
  rw [wrapped, Nat.testBit_mod_two_pow, decide_eq_true hj, Bool.true_and]

/-- One bit of an unsigned object is put, and the others read as before. -/
theorem State.put_putBit {k sz j w : Nat} (h : unsignedAt k sz = true) (hj : j < 8 * sz) (i : Nat) (b : Bool) :
    ((s.put k (putBit w i b : Nat)).nat k).testBit j = if j = i then b else w.testBit j :=
  (State.put_testBit h hj _).trans (testBit_putBit w i b j)

/-- A bell rung after changes that leave the queue, the time and the next SEQ (R359). -/
theorem State.bell_rings {code arg : Nat} (dict : t.dict = s.dict) (now : t.now = s.now)
    (seq : t.nat Obj.BELL_NEXT_SEQ = s.nat Obj.BELL_NEXT_SEQ) : Rings s (t.bell code arg) code arg := fun room => by
  rw [State.bell_of_room (by rw [dict]; exact room), dict, now, seq]

/-! ## Regions -/

/-- REPLACING A REGION leaves every other region. -/
theorem State.region_setRegion_other (s : State) {g j : Nat} (h : j ≠ g) (r : Region) :
    (s.setRegion g r).region j = s.region j := by
  simp [State.region, Ne.symm h]

/-- A region that was replaced. -/
theorem State.region_setRegion_same (s : State) {g : Nat} (h : g < 64) (r : Region) : (s.setRegion g r).region g = r := by
  simp [State.region, h]

/-- What the new region has of the old one, every region keeps. -/
theorem State.region_setRegion_keeps {α : Type} {g : Nat} {r : Region} (f : Region → α) (h : f r = f (s.region g)) (j : Nat) :
    f ((s.setRegion g r).region j) = f (s.region j) := by
  by_cases here : j = g
  · subst here
    by_cases inside : j < 64
    · rw [State.region_setRegion_same _ inside, h]
    · simp [State.region, inside]
  · rw [State.region_setRegion_other _ here]

theorem State.setRegion_setRegion (s : State) (g : Nat) (r r' : Region) : (s.setRegion g r).setRegion g r' = s.setRegion g r' := by
  simp [State.setRegion]

section
variable (s : State) (g : Nat) (r : Region)

theorem State.setRegion_checks : (s.setRegion g r).fab.checks = s.fab.checks := rfl
theorem State.setRegion_done : (s.setRegion g r).fab.done = s.fab.done := rfl
theorem State.setRegion_reruns : (s.setRegion g r).fab.reruns = s.fab.reruns := rfl
theorem State.setRegion_engine (p : Nat) : (s.setRegion g r).engine p = s.engine p := rfl

end

end Sys2Proof.Machine
end

section
/-! Engine clocks (04_engine_fabric.md R139, R140). -/

namespace Sys2Proof.Machine

variable {s : State}

/-! ## The objects of the four dies -/

theorem unsignedAt_engineClocks (q : Fin 4) : unsignedAt (Obj.F_ENG_ACTIVE q) 2 = true ∧ unsignedAt (Obj.VDDE_MEAS q) 2 = true := by
  revert q
  decide

theorem engineClocks_ne (q r : Fin 4) : Obj.F_ENG_ACTIVE q ≠ Obj.VDDE_MEAS r ∧ Obj.F_ENG_ACTIVE q ≠ Obj.BELL_NEXT_SEQ ∧
    Obj.F_ENG_ACTIVE q ≠ Obj.BELL_LOST ∧ Obj.VDDE_MEAS q ≠ Obj.BELL_NEXT_SEQ ∧ Obj.VDDE_MEAS q ≠ Obj.BELL_LOST := by
  revert q r
  decide

theorem engineClock_ne {q r : Fin 4} (h : r ≠ q) : Obj.F_ENG_ACTIVE r ≠ Obj.F_ENG_ACTIVE q := by
  revert q r
  decide

/-! ## What each command does -/

theorem exec_fEngWrite_taken {q : Fin 4} {v : Nat} (low : 50 ≤ v) (high : v ≤ 400) (step : v % 5 = 0) :
    exec (.fEngWrite q v) s = .next (s.writeFEng q v) := by
  show execFEngWrite q v s = _
  simp [execFEngWrite, low, high, step]

theorem exec_fEngWrite_refused {q : Fin 4} {v : Nat} (h : v < 50 ∨ 400 < v ∨ v % 5 ≠ 0) : exec (.fEngWrite q v) s = .next s := by
  show execFEngWrite q v s = _
  simp only [execFEngWrite, Bool.and_eq_true, decide_eq_true_eq]
  rw [if_neg (by omega)]

theorem exec_vddeMeasure_enough {q : Fin 4} {mv : Nat} (h : vddeMin (s.fEng q) ≤ mv + 20) :
    exec (.vddeMeasure q mv) s = .next (s.put (Obj.VDDE_MEAS q) mv) := by
  have clock : (s.put (Obj.VDDE_MEAS q) mv).fEng q = s.fEng q := State.put_nat_other _ (engineClocks_ne q q).1 _
  show execVddeMeasure q mv s = _
  simp only [execVddeMeasure, clock]
  rw [if_neg (by omega)]

theorem vddeMin_le (f : Nat) : vddeMin f ≤ 830 := by
  unfold vddeMin
  split_ifs <;> omega

/-- The table of R140 holds a frequency for a voltage of 550 mV or more, and its search finds the highest. -/
theorem State.vddeBest_highest {mv : Nat} (h : 550 ≤ mv) : ∃ f ∈ [100, 200, 250, 300, 350, 400], s.vddeBest mv = (f, s) ∧
    vddeMin f ≤ mv ∧ ∀ f' ∈ [100, 200, 250, 300, 350, 400], vddeMin f' ≤ mv → f' ≤ f := by
  have lowest : vddeMin 100 ≤ mv := h
  obtain ⟨f, found⟩ := Option.isSome_iff_exists.1 (List.find?_isSome.2
    (⟨100, by decide, decide_eq_true lowest⟩ : ∃ x ∈ [400, 350, 300, 250, 200, 100], decide (vddeMin x ≤ mv) = true))
  obtain ⟨allowed, above, below, list, higher⟩ := List.find?_eq_some_iff_append.1 found
  have mem : f ∈ [400, 350, 300, 250, 200, 100] := List.mem_of_find?_eq_some found
  refine ⟨f, List.mem_reverse.2 mem, by simp only [State.vddeBest, found],
    of_decide_eq_true allowed, fun f' mem' ok => ?_⟩
  have falling : (above ++ f :: below).Pairwise (· ≥ ·) := list ▸ (by decide)
  have mem'' : f' ∈ above ++ f :: below := list ▸ List.mem_reverse.1 mem'
  rcases List.mem_append.1 mem'' with passed | rest
  · exact absurd ok (by simpa using higher f' passed)
  · rcases List.mem_cons.1 rest with rfl | later
    · exact le_rfl
    · exact (List.pairwise_cons.1 (List.pairwise_append.1 falling).2.1).1 f' later

/-- The die runs at `f` at once, with bell 0x0416. -/
theorem exec_vddeMeasure_low {q : Fin 4} {mv f : Nat} (h : mv + 20 < vddeMin (s.fEng q))
    (best : (s.put (Obj.VDDE_MEAS q) mv).vddeBest mv = (f, s.put (Obj.VDDE_MEAS q) mv)) :
    exec (.vddeMeasure q mv) s = .next (((s.put (Obj.VDDE_MEAS q) mv).runAt q f).bell 0x0416) := by
  have clock : (s.put (Obj.VDDE_MEAS q) mv).fEng q = s.fEng q := State.put_nat_other _ (engineClocks_ne q q).1 _
  show execVddeMeasure q mv s = _
  simp only [execVddeMeasure, clock, best]
  rw [if_pos h]

/-- A write is staged for its die, and clears the die's READY bit. -/
theorem State.writeFEng_staged (s : State) (q : Fin 4) (v : Nat) :
    ((s.writeFEng q v).shadow.staged.filter fun e => e.1 == Obj.F_ENG q) = [(Obj.F_ENG q, (v : Int))] ∧
    ∀ e : Nat × Int, e.1 ≠ Obj.F_ENG q → (e ∈ (s.writeFEng q v).shadow.staged ↔ e ∈ s.shadow.staged) := by
  have staged : (s.writeFEng q v).shadow.staged =
      (s.shadow.staged.filter fun e => e.1 ≠ Obj.F_ENG q) ++ [(Obj.F_ENG q, (v : Int))] := rfl
  rw [staged]
  generalize Obj.F_ENG q = k
  refine ⟨?_, fun e other => ?_⟩
  · rw [List.filter_append, List.filter_eq_nil_iff.2 (by simp)]
    simp
  · have new : e ≠ (k, (v : Int)) := fun h => other (congrArg Prod.fst h)
    simp [other, new]

theorem State.runAt_get_other {q f k : Nat} (h : k ≠ Obj.F_ENG_ACTIVE q) : (s.runAt q f).get k = s.get k :=
  (State.put_get_other _ h _).trans (State.get_congr rfl k)

/-- A put, and a change of the clock of a die, leave everything but the objects and the fabric. -/
theorem State.put_runAt_frame (s : State) (k : Nat) (v : Int) (q f : Nat) :
    ∃ o fab, (s.put k v).runAt q f = { s with obj := o, fab := fab } := ⟨_, _, rfl⟩

/-- An undervoltage by more than 20 mV (R140). -/
theorem State.undervoltage (s : State) (q : Fin 4) {mv f : Nat} (hmv : mv < 2 ^ (8 * 2)) (hf : f < 2 ^ (8 * 2)) :
    let t := ((s.put (Obj.VDDE_MEAS q) mv).runAt q f).bell 0x0416
    t.get (Obj.F_ENG_ACTIVE q) = f ∧ t.get (Obj.VDDE_MEAS q) = mv ∧
    (∀ r : Fin 4, r ≠ q → t.get (Obj.F_ENG_ACTIVE r) = s.get (Obj.F_ENG_ACTIVE r)) ∧ SameMem s t ∧ Rings s t 0x0416 0 := by
  obtain ⟨clock, clockSeq, clockLost, voltSeq, voltLost⟩ := engineClocks_ne q q
  obtain ⟨clockHolds, voltHolds⟩ := unsignedAt_engineClocks q
  obtain ⟨o, fab, switched⟩ := s.put_runAt_frame (Obj.VDDE_MEAS q) mv q f
  refine ⟨?_, ?_, fun r other => ?_, fun a => ?_, State.bell_rings (by rw [switched]) (by rw [switched]; rfl) ?_⟩
  · rw [State.bell_get clockSeq clockLost]
    exact State.put_get_nat clockHolds hf
  · rw [State.bell_get voltSeq voltLost, State.runAt_get_other clock.symm]
    exact State.put_get_nat voltHolds hmv
  · obtain ⟨volt, seq, lost, -, -⟩ := engineClocks_ne r q
    rw [State.bell_get seq lost, State.runAt_get_other (engineClock_ne other)]
    exact State.put_get_other _ volt _
  · obtain ⟨o', d, rung, -⟩ := State.bell_frame ((s.put (Obj.VDDE_MEAS q) mv).runAt q f) 0x0416 0
    rw [rung, switched]
    rfl
  · rw [State.nat, State.runAt_get_other clockSeq.symm]
    exact State.put_nat_other _ voltSeq.symm _

/-- Settles O23: an equation for each command; the READY bit is one bit put into its object. -/
theorem engineClocksFollowPllAndVoltage : Obligations.EngineClocksFollowPllAndVoltage := by
  have ready : unsignedAt Obj.F_ENG_READY 1 = true := by decide
  refine ⟨fun q v s low high step => ⟨_, exec_fEngWrite_taken low high step, ?write⟩,
    fun q v s outside => exec_fEngWrite_refused outside,
    fun q s => ⟨_, rfl, ?lock⟩,
    fun q mv s hmv enough =>
      ⟨_, exec_vddeMeasure_enough enough, State.put_alone (unsignedAt_engineClocks q).2 (sz := 2) (by omega)⟩,
    fun q mv s some low => ?under⟩
  case write =>
    obtain ⟨staged, others⟩ := s.writeFEng_staged q v
    exact ⟨staged, others, (State.put_putBit ready (by omega) _ _).trans (if_pos rfl),
      fun r other => (State.put_putBit ready (by omega) _ _).trans (if_neg (by omega)), .put .refl, rfl⟩
  case lock =>
    exact ⟨(State.put_putBit ready (by omega) _ _).trans (if_pos rfl),
      fun r other => (State.put_putBit ready (by omega) _ _).trans (if_neg (by omega)), Vector.getElem_set_self .., .put .refl, rfl⟩
  case under =>
    obtain ⟨f, mem, best, allowed, highest⟩ := (s.put (Obj.VDDE_MEAS q) mv).vddeBest_highest some
    have hmv := vddeMin_le (s.fEng q)
    have hf : f ≤ 400 := (by decide : ∀ f ∈ [100, 200, 250, 300, 350, 400], f ≤ 400) f mem
    obtain ⟨clock, volt, others, mem', rings⟩ := s.undervoltage q (mv := mv) (f := f) (by omega) (by omega)
    exact ⟨_, exec_vddeMeasure_low low best, ⟨f, clock, mem, allowed, highest⟩, volt, others, mem', rings⟩

end Sys2Proof.Machine
end

section
/-! Runs that start (04_engine_fabric.md R112-R114, R117, R133; 05_engine_instructions.md R143). -/

namespace Sys2Proof.Machine

variable {s : State} {p : Fin 272} {g : Nat}

/-! ## The engine that starts (R143) -/

/-- An engine at the start of a run: fresh registers, with EVP and what outlives a run kept. -/
def Engine.fresh (e : Engine) (pc : Nat) (x : Run) (s0 : Word) : Engine :=
  { evp := e.evp, evLand := e.evLand, entryDue := e.entryDue, lastFault := e.lastFault, pc := pc
    stMin := 2 ^ 31 - 1, stMax := -(2 ^ 31), stNew := true
    s := ((Vector.replicate 16 0).set 0 s0).set 1 x.item.frame, run := some x }

theorem State.startRun_engine (s : State) (p : Fin 272) (k : Nat) (x : Run) (s0 : Word) (j : Nat) :
    (s.startRun p k x s0).engine j =
      if j = p.val then (s.engine p).fresh (s.slotEntry x.slot k) x s0 else s.engine j :=
  s.engine_setEngine p _ j

/-- A run that starts changes the engines alone. -/
theorem State.startRun_frame (s : State) (p k : Nat) (x : Run) (s0 : Word) :
    ∃ es, s.startRun p k x s0 = { s with fab := { s.fab with engines := es } } := ⟨_, rfl⟩

theorem State.setEngine_frame (s : State) (p : Nat) (e : Engine) :
    ∃ es, s.setEngine p e = { s with fab := { s.fab with engines := es } } := ⟨_, rfl⟩

section
variable (s : State) (p : Nat) (e : Engine) (i k : Nat)

theorem State.startRun_region (x : Run) (s0 : Word) (j : Nat) : (s.startRun p k x s0).region j = s.region j := rfl
theorem State.setEngine_slotEntry : (s.setEngine p e).slotEntry i k = s.slotEntry i k := rfl

end

section
variable (e : Engine) (pc : Nat) (x : Run) (s0 : Word)

theorem Engine.fresh_s0 : (e.fresh pc x s0).s[0] = s0 := rfl

theorem Engine.fresh_s1 : (e.fresh pc x s0).s[1] = x.item.frame := rfl

theorem Engine.fresh_above (i : Fin 16) (h : 2 ≤ i.val) : (e.fresh pc x s0).s[i] = 0 := by
  have h0 : 0 ≠ i.val := by omega
  have h1 : 1 ≠ i.val := by omega
  simp [Engine.fresh, h0, h1]

end

/-- A RUN STARTS in a state `u` that differs from `s` in the fabric, though not in its engines. -/
theorem State.startRun_startsRun {u : State} (outside : { u with fab := s.fab } = s) (same : u.fab.engines = s.fab.engines)
    (k : Nat) (kind : RunKind) (it : Item) (slot : Nat) (first : Option Nat) (primary other : Nat) (s0 : Word) :
    StartsRun s (u.startRun p k
      { kind := kind, item := it, slot := slot, grant := u.nat Obj.ROLL_COUNT, first := first, primary := primary, other := other }
      s0) p kind it slot k := by
  have engine : ∀ j, u.engine j = s.engine j := fun j => by rw [State.engine, State.engine, same]
  have roll : u.nat Obj.ROLL_COUNT = s.nat Obj.ROLL_COUNT := by rw [← outside]; rfl
  have entry : u.slotEntry slot k = s.slotEntry slot k := by rw [← outside]; rfl
  unfold StartsRun
  simp only [State.startRun_engine, if_true, engine]
  exact ⟨⟨_, rfl, rfl, rfl, rfl, rfl, rfl, rfl, rfl, roll⟩, entry, Engine.fresh_s1 .., fun i hi => Engine.fresh_above _ _ _ _ i hi,
    rfl, rfl, fun j other => if_neg other, outside⟩

/-! ## FRAME_ENTRY (R117) -/

theorem exec_frameEntryRun {f : BitVec 32} (idle : s.idleMember p = some g) (due : (s.engine p).entryDue = some f) :
    exec (.frameEntryRun p) s = .next
      (let t := s.setEngine p { s.engine p with entryDue := none }
       if s.slotEntry (s.ranSlot g f) 2 = 0 then t
       else t.startRun p 2 { kind := .frameEntry, item := { region := g, row := 0x3FE, frame := f }, slot := s.ranSlot g f
                             grant := s.nat Obj.ROLL_COUNT } (startS0 false false g 0x3FE f)) := by
  show execFrameEntryRun p s = _
  simp only [execFrameEntryRun, idle, due]

/-- Settles O14: the engine starts afresh at the slot's entry, or only its mark is cleared. -/
theorem frameEntryRunsOnceForEachEngine : Obligations.FrameEntryRunsOnceForEachEngine := by
  refine ⟨fun p g f s idle due named => ⟨_, exec_frameEntryRun idle due, ?_⟩,
    fun p g f s idle due none => ⟨_, exec_frameEntryRun idle due, ?_⟩⟩
  · dsimp only
    rw [if_neg named]
    simp only [State.startRun_engine, State.engine_setEngine, State.setEngine_slotEntry, if_true]
    refine ⟨⟨_, rfl, rfl, rfl, rfl, rfl, rfl, rfl⟩, rfl, Engine.fresh_s1 .., fun i hi => Engine.fresh_above _ _ _ _ i hi,
      rfl, rfl, fun j other => ?_, ?_⟩
    · rw [if_neg other, if_neg other]
    · obtain ⟨es, started⟩ := State.startRun_frame (s.setEngine p { s.engine p with entryDue := none }) p 2
        { kind := .frameEntry, item := { region := g, row := 0x3FE, frame := f }, slot := s.ranSlot g f
          grant := s.nat Obj.ROLL_COUNT } (startS0 false false g 0x3FE f)
      obtain ⟨es', marked⟩ := s.setEngine_frame p { s.engine p with entryDue := none }
      rw [started, marked]
  · dsimp only
    rw [if_pos none]
    simp only [State.engine_setEngine, if_true]
    exact ⟨trivial, fun j other => if_neg other, rfl⟩

end Sys2Proof.Machine
end

section
/-! Items: their release and their claims (04_engine_fabric.md R110, R113, R114, R117, R133). -/

namespace Sys2Proof.Machine

variable {s : State} {p : Fin 272} {g h : Nat} {it : Item}

/-! ## Release (R110) -/

theorem exec_itemRelease {g : Fin 64} {row : Nat} {f : Frame}
    (due : (s.focal.frames.reverse.find? fun fr => s.releasable fr g row) = some f) : exec (.itemRelease g row) s = .next
      (let t := s.mapRFrame g f.num fun x => { x with released := row :: x.released }
       t.setRegion g { t.region g with queue := (t.region g).queue ++ [{ region := g, row := row, frame := f.num }] }) := by
  show execItemRelease g row s = _
  simp only [execItemRelease, due]

theorem exec_itemRelease_none {g : Fin 64} {row : Nat}
    (none : (s.focal.frames.reverse.find? fun fr => s.releasable fr g row) = none) : exec (.itemRelease g row) s = .next s := by
  show execItemRelease g row s = _
  simp only [execItemRelease, none]

/-! ## What an engine claims next (R114) -/

section
variable (thirds : s.fab.thirds = []) (reruns : s.fab.reruns = [])
include thirds reruns

theorem State.nextClaim_check {p0 : Nat} {rest : List (Item × Nat)} (checks : s.fab.checks = (it, p0) :: rest)
    (other : p0 ≠ p.val) (die : quadOfRegion it.region = dieOfEngine p) (fresh : s.ranItem p it = false) :
    s.nextClaim p g = some (.check it p0) := by
  simp [State.nextClaim, thirds, reruns, checks, other, die, fresh]

/-- The head of the queue of the engine's region, or of its partner's where its own is empty. -/
theorem State.nextClaim_head {rest : List Item} (checks : s.fab.checks = []) (place : h = g ∨ (h = g ^^^ 1 ∧ (s.region g).queue = []))
    (queue : (s.region h).queue = it :: rest) (fresh : s.ranItem p it = false) : s.nextClaim p g = some (.head h it) := by
  have head : s.headFor p h = some (.head h it) := by simp [State.headFor, queue, fresh, State.faultOf, reruns]
  rcases place with rfl | ⟨rfl, empty⟩
  · simp [State.nextClaim, thirds, reruns, checks, head]
  · have own : s.headFor p g = none := by simp [State.headFor, empty]
    simp [State.nextClaim, thirds, reruns, checks, head, own]

end

/-- Where no run is to be repeated, none is taken from those. -/
theorem State.filterReruns_of_empty {u : State} (empty : u.fab.reruns = []) (q : Item × Nat × RunKind → Bool) :
    { u with fab := { u.fab with reruns := u.fab.reruns.filter q } } = u := by
  have same : u.fab.reruns.filter q = u.fab.reruns := by rw [empty, List.filter_nil]
  rw [same]

/-! ## ITEM_CLAIM and END_ENTRY_RUN (R114, R117, R133) -/

/-- The list of the items whose check run is still to be claimed, replaced. -/
def State.withChecks (s : State) (cs : List (Item × Nat)) : State := { s with fab := { s.fab with checks := cs } }

section
variable (idle : s.idleMember p = some g) (ready : s.entryWaits p g = false)
include idle ready

theorem exec_itemClaim_check {p0 : Nat} (next : s.nextClaim p g = some (.check it p0)) : exec (.itemClaim p) s = .next
    ((s.withChecks (s.fab.checks.filter (· ≠ (it, p0)))).startItem p it .check none p0 272) := by
  show execItemClaim p s = _
  simp only [execItemClaim, idle, ready, next, Bool.false_eq_true, if_false, State.withChecks]

theorem exec_itemClaim_head (next : s.nextClaim p g = some (.head h it)) (item : it.endEntry = false)
    (reruns : s.fab.reruns = []) : exec (.itemClaim p) s = .next
      ((s.setRegion h { s.region h with queue := (s.region h).queue.tail }).startPrimary p it none) := by
  have fault : s.faultOf it = none := by simp [State.faultOf, reruns]
  show execItemClaim p s = _
  simp only [execItemClaim, idle, ready, next, item, fault, Bool.false_eq_true, if_false]
  rw [State.filterReruns_of_empty]
  exact reruns

theorem exec_endEntryRun (next : s.nextClaim p g = some (.head h it)) (last : it.endEntry = true) : exec (.endEntryRun p) s = .next
    ((s.setRegion h { s.region h with queue := (s.region h).queue.tail, claimed := (s.region h).claimed ++ [(it, p.val)] }).startRun
      p 3 { kind := .endEntry, item := it, slot := s.ranSlot h it.frame, grant := s.nat Obj.ROLL_COUNT }
        (startS0 false false h 0x3FF it.frame)) := by
  show execEndEntryRun p s = _
  simp only [execEndEntryRun, idle, ready, next, last, Bool.false_eq_true, Bool.not_true, if_false]

end

/-- S0 of a run that is only compared has CHECK set (R143). -/
theorem startS0_check {frameEnd : Bool} {row : Nat} (hg : g < 64) (hrow : row < 640) (f : BitVec 32) :
    (startS0 true frameEnd g row f).getLsbD 31 = true := by
  have low : (if frameEnd then 2 ^ 30 else 0) + g * 2 ^ 24 + row * 2 ^ 14 + f.toNat % 128 * 2 ^ 7 < 2 ^ 31 := by
    split <;> omega
  have bit : (startS0 true frameEnd g row f).toNat = 2 ^ 31 +
      ((if frameEnd then 2 ^ 30 else 0) + g * 2 ^ 24 + row * 2 ^ 14 + f.toNat % 128 * 2 ^ 7) := by
    simp only [startS0, BitVec.toNat_ofNat, if_true]
    omega
  rw [BitVec.getLsbD, bit, Nat.testBit_two_pow_add_eq, Nat.testBit_lt_two_pow low, Bool.not_false]

theorem region_lt_of_die (h : quadOfRegion g = dieOfEngine p) : g < 64 := by
  have hp := p.isLt
  unfold quadOfRegion dieOfEngine quadOfRegion at h
  split at h <;> omega

theorem State.ranSlot_congr {t : State} {f : BitVec 32} (focal : t.focal = s.focal)
    (slot : (t.region g).slot = (s.region g).slot) : t.ranSlot g f = s.ranSlot g f := by
  rw [State.ranSlot, State.ranSlot, State.frame?, State.frame?, focal, slot]

/-- AN ITEM RUN STARTS in a state `u` that differs from `s` in the fabric, though not in its engines or the slot in force. -/
theorem State.startItem_startsRun {u : State} (outside : { u with fab := s.fab } = s) (same : u.fab.engines = s.fab.engines)
    (slot : (u.region it.region).slot = (s.region it.region).slot) (kind : RunKind) (first : Option Nat) (primary other : Nat) :
    StartsRun s (u.startItem p it kind first primary other) p kind it (s.ranSlot it.region it.frame) 1 := by
  rw [← State.ranSlot_congr (t := u) (by rw [← outside]) slot]
  exact State.startRun_startsRun outside same ..

theorem State.startItem_s0 (u : State) (it : Item) (kind : RunKind) (first : Option Nat) (primary other : Nat) : ∃ frameEnd,
    ((u.startItem p it kind first primary other).engine p).s[0] = startS0 kind.comparing frameEnd it.region it.row it.frame :=
  ⟨((u.frame? it.frame).map fun f => f.frameEnd it.region it.row).getD false, by
    rw [State.startItem, State.startRun_engine, if_pos rfl, Engine.fresh_s0]⟩

section
variable (s : State) (cs : List (Item × Nat))

theorem State.withChecks_checks : (s.withChecks cs).fab.checks = cs := rfl
theorem State.withChecks_region (j : Nat) : (s.withChecks cs).region j = s.region j := rfl
theorem State.withChecks_engines : (s.withChecks cs).fab.engines = s.fab.engines := rfl

/-- The checks and a region replaced change the fabric alone. -/
theorem State.setRegion_withChecks_outside (g : Nat) (r : Region) : { (s.setRegion g r).withChecks cs with fab := s.fab } = s := by
  obtain ⟨fab, replaced⟩ : ∃ fab, s.setRegion g r = { s with fab := fab } := ⟨_, rfl⟩
  rw [replaced, State.withChecks]

theorem State.withChecks_outside : { s.withChecks cs with fab := s.fab } = s := rfl

theorem State.setRegion_regions_outside (g : Nat) (r : Region) :
    { s.setRegion g r with fab := { (s.setRegion g r).fab with regions := s.fab.regions } } = s := rfl

theorem State.setRegion_outside (g : Nat) (r : Region) : { s.setRegion g r with fab := s.fab } = s := rfl

end

section
variable (s : State) (p : Nat) (it : Item) (kind : RunKind) (first : Option Nat) (primary other j : Nat)

theorem State.startItem_region : (s.startItem p it kind first primary other).region j = s.region j := rfl
theorem State.startItem_checks : (s.startItem p it kind first primary other).fab.checks = s.fab.checks := rfl
theorem State.startItem_regions : (s.startItem p it kind first primary other).fab.regions = s.fab.regions := rfl

end

/-- THE PRIMARY RUN OF AN ITEM records its claim and, of a checked item that has no run to compare with, asks for its check run
(R113, R133). -/
theorem State.startPrimary_eq (u : State) (p : Nat) (it : Item) (first : Option Nat) : ∃ checks,
    u.startPrimary p it first = ((u.setRegion it.region { u.region it.region with
      claimed := (u.region it.region).claimed ++ [(it, p)] }).withChecks checks).startItem p it .item first 272 272 ∧
    (checkedItem it = false → checks = u.fab.checks) ∧
    (checkedItem it = true → u.fab.done = [] → u.fab.reruns = [] → (∀ e : Fin 272, (u.engine e).run = none) →
      checks = (u.fab.checks.filter fun c => c.1 ≠ it) ++ [(it, p)]) := by
  generalize has : ((u.fab.done.any fun d => d.item = it && d.kind = .check) ||
    (u.fab.engines.any fun e => (e.run.map fun (x : Run) => x.item = it && x.kind = .check).getD false) ||
    (u.fab.reruns.any fun c => c.1 = it && c.2.2 = .check)) = found
  have start : u.startPrimary p it first = ((u.setRegion it.region { u.region it.region with
      claimed := (u.region it.region).claimed ++ [(it, p)] }).withChecks (if checkedItem it && !found then
        (u.fab.checks.filter fun c => c.1 ≠ it) ++ [(it, p)] else u.fab.checks)).startItem p it .item first 272 272 := by
    unfold State.startPrimary
    simp only [has]
    split <;> rfl
  refine ⟨_, start, fun unchecked => by simp [unchecked], fun checked done reruns idle => ?_⟩
  have engines : (u.fab.engines.any fun e => (e.run.map fun (x : Run) => x.item = it && x.kind = .check).getD false) = false := by
    refine Vector.any_eq_false.2 fun i hi => ?_
    have engine : (u.fab.engines[i]).run = none := by simpa [State.engine, hi] using idle ⟨i, hi⟩
    simp [engine]
  rw [done, reruns, engines] at has
  simp [checked, ← has]

/-- What the claim of the head of region `h`'s queue leaves of the queues. -/
theorem State.claimHead {rest : List Item} (hh : h < 64) (queue : (s.region h).queue = it :: rest) (here : it.region = h)
    (reruns : s.fab.reruns = []) (checks : s.fab.checks = []) :
    let t := (s.setRegion h { s.region h with queue := (s.region h).queue.tail }).startPrimary p it none
    StartsRun s t p .item it (s.ranSlot h it.frame) 1 ∧ (t.region h).queue = rest ∧
    (t.region h).claimed = (s.region h).claimed ++ [(it, p.val)] ∧ (∀ k, k ≠ h → t.region k = s.region k) ∧
    (checkedItem it = false → t.fab.checks = []) ∧
    (checkedItem it = true → s.fab.done = [] → (∀ e : Fin 272, (s.engine e).run = none) → t.fab.checks = [(it, p.val)]) := by
  subst here
  have tail : (s.region it.region).queue.tail = rest := by rw [queue, List.tail_cons]
  rw [tail]
  obtain ⟨cs, start, unchecked, checked⟩ :=
    (s.setRegion it.region { s.region it.region with queue := rest }).startPrimary_eq p it none
  rw [State.region_setRegion_same _ hh, State.setRegion_setRegion] at start
  dsimp only
  rw [start]
  simp only [State.startItem_region, State.startItem_checks, State.withChecks_region, State.withChecks_checks,
    State.region_setRegion_same _ hh]
  refine ⟨State.startItem_startsRun (State.setRegion_withChecks_outside ..) ?engines ?slot .., trivial, trivial,
    fun k other => s.region_setRegion_other other _, fun c => (unchecked c).trans checks, fun c done idle => ?asked⟩
  case engines => rw [State.withChecks_engines, State.setRegion_engines]
  case slot => rw [State.withChecks_region, State.region_setRegion_same _ hh]
  case asked =>
    have asked := checked c (by rw [State.setRegion_done, done]) (by rw [State.setRegion_reruns, reruns])
      fun e => by rw [State.setRegion_engine, idle]
    rw [State.setRegion_checks, checks] at asked
    exact asked

/-! ## The END_ENTRY of a frame (R117) -/

/-- Once nothing of a discarded frame is left in the region, its END_ENTRY joins the end of the queue. -/
theorem State.afterItem_joins {f : Frame} {g : Fin 64} {x : RFrame} (here : (s.region g).rframe f.num = some x)
    (running : x.endDone = false) (gone : x.discarded = true) (done : s.openItems f g = [])
    (named : s.slotEntry (s.ranSlot g f.num) 3 ≠ 0) (queue : ∀ it ∈ (s.region g).queue, it.endEntry = false)
    (claimed : ∀ c ∈ (s.region g).claimed, c.1.endEntry = false) : ((s.afterItem f g).region g).queue =
      (s.region g).queue ++ [{ region := g, row := 0x3FF, frame := f.num, endEntry := true }] := by
  obtain ⟨bs, own⟩ : ∃ bs, (s.freeRows f g).region g = { s.region g with bufs := bs } :=
    ⟨_, s.region_setRegion_same g.isLt _⟩
  have here' : ((s.freeRows f g).region g).rframe f.num = some x := by rw [own]; exact here
  have done' : (s.freeRows f g).openItems f g = [] := by
    rw [← done, State.openItems, State.openItems, here', here]
    simp only [State.itemPending, own]
    rfl
  have slot : (s.freeRows f g).ranSlot g f.num = s.ranSlot g f.num := State.ranSlot_congr rfl (by rw [own])
  have named' : (s.freeRows f g).slotEntry ((s.freeRows f g).ranSlot g f.num) 3 ≠ 0 := by rw [slot]; exact named
  have waits : (((s.freeRows f g).region g).queue.contains { region := g, row := 0x3FF, frame := f.num, endEntry := true } ||
      ((s.freeRows f g).region g).claimed.any
        fun c => c.1 = { region := g.val, row := 0x3FF, frame := f.num, endEntry := true }) = false := by
    rw [own, Bool.or_eq_false_iff, List.contains_eq_mem, decide_eq_false_iff_not, List.any_eq_false]
    refine ⟨fun mem => absurd (queue _ mem) (by simp), fun c hc same => ?_⟩
    have item := claimed c hc
    rw [of_decide_eq_true same] at item
    cases item
  simp only [State.afterItem, here', running, gone, done', List.isEmpty_nil, Bool.not_true, Bool.or_false, Bool.false_eq_true,
    if_false, if_true, named', waits]
  rw [State.region_setRegion_same _ g.isLt, own]

/-- Settles O20: what an engine claims next decides which run starts, and each start is said once above. -/
theorem itemsAreReleasedAndClaimedInOrder : Obligations.ItemsAreReleasedAndClaimedInOrder := by
  refine ⟨fun g row f s due => ⟨_, exec_itemRelease due, ?release⟩, fun g row s none => exec_itemRelease_none none,
    fun p g it p0 rest s idle ready thirds reruns checks other die hrow fresh =>
      ⟨_, exec_itemClaim_check idle ready (State.nextClaim_check thirds reruns checks other die fresh), ?check⟩,
    fun p g it rest s idle hg ready thirds reruns checks queue here item fresh =>
      ⟨_, exec_itemClaim_head idle ready (State.nextClaim_head thirds reruns checks (.inl rfl) queue fresh) item reruns, ?own⟩,
    fun p g it rest s idle hg ready thirds reruns checks empty queue here item fresh =>
      ⟨_, exec_itemClaim_head idle ready (State.nextClaim_head thirds reruns checks (.inr ⟨rfl, empty⟩) queue fresh) item reruns,
        ?partner⟩,
    fun p g h it rest s idle hh ready thirds reruns checks place queue last fresh =>
      ⟨_, exec_endEntryRun idle ready (State.nextClaim_head thirds reruns checks place queue fresh) last, ?last⟩,
    fun f g x s here open' gone done named queue claimed => State.afterItem_joins here open' gone done named queue claimed⟩
  case release =>
    simp only [State.mapRFrame, State.setRegion_setRegion, State.region_setRegion_same _ g.isLt]
    exact ⟨trivial, trivial, fun k other => State.region_setRegion_other _ other _, s.setRegion_regions_outside ..⟩
  case check =>
    obtain ⟨frameEnd, s0⟩ := State.startItem_s0 (p := p) (s.withChecks (s.fab.checks.filter (· ≠ (it, p0))))
      it .check none p0 272
    refine ⟨State.startItem_startsRun (s.withChecks_outside _) (s.withChecks_engines _) (by rw [State.withChecks_region]) ..,
      ?_, fun c kept => ?_, State.startItem_regions ..⟩
    · rw [s0]
      exact startS0_check (region_lt_of_die die) hrow _
    · rw [State.startItem_checks, State.withChecks_checks, checks, List.mem_filter, List.mem_cons] at kept
      exact kept.1.resolve_left (by simpa using kept.2)
  case own => exact State.claimHead hg queue here reruns checks
  case partner =>
    obtain ⟨starts, left, -⟩ := State.claimHead (p := p) hg queue here reruns checks
    exact ⟨starts, left⟩
  case last =>
    simp only [State.startRun_region, State.region_setRegion_same _ hh]
    refine ⟨State.startRun_startsRun (s.setRegion_outside ..) (State.setRegion_engines ..) .., ?_, trivial,
      fun k other => s.region_setRegion_other other _⟩
    rw [queue, List.tail_cons]

end Sys2Proof.Machine
end

section
/-! Halo words and seam links (04_engine_fabric.md R125-R127; 08_rolls_budgets_drain.md R270). -/

namespace Sys2Proof.Machine

variable {s : State}

/-! ## What a charge leaves (R265, R270, R271) -/

theorem State.bumpLe_frame (s : State) (k off n c : Nat) : ∃ o, s.bumpLe k off n c = { s with obj := o } :=
  s.putBytes_frame _ k off

/-- `t` differs from `s` in the objects and the budgets alone. -/
def State.OnlyCharged (s t : State) : Prop := ∃ o r, t = { s with obj := o, rolls := r }

theorem State.OnlyCharged.refl : s.OnlyCharged s := ⟨s.obj, s.rolls, rfl⟩

theorem State.stallRoll_onlyCharged (s : State) (i c : Nat) : s.OnlyCharged (s.stallRoll i c) := by
  unfold State.stallRoll
  dsimp only
  split
  · exact .refl
  · obtain ⟨o, counted⟩ := State.bumpLe_frame { s with rolls := { s.rolls with stalled := (16 * i + c) :: s.rolls.stalled } }
      Obj.STALL_ROLLS (4 * (16 * i + c)) 4 1
    exact ⟨o, _, counted⟩

theorem State.OnlyCharged.trans {t u : State} (h : s.OnlyCharged t) (h' : t.OnlyCharged u) : s.OnlyCharged u := by
  obtain ⟨o, r, rfl⟩ := h
  obtain ⟨o', r', rfl⟩ := h'
  exact ⟨o', r', rfl⟩

theorem State.spendSome_onlyCharged (s : State) (i c n : Nat) : s.OnlyCharged (s.spendSome i c n).1 := by
  have spent : s.OnlyCharged (s.spend i c (min n (s.unitsLeft i c))) := by
    obtain ⟨r, spent⟩ := s.spend_frame i c (min n (s.unitsLeft i c))
    exact ⟨s.obj, r, spent⟩
  unfold State.spendSome
  dsimp only
  split
  · exact .refl
  · split
    · exact spent
    · exact spent.trans (State.stallRoll_onlyCharged ..)

theorem State.owe_onlyCharged (s : State) (i c n : Nat) : s.OnlyCharged (s.owe i c n) := by
  obtain ⟨o, r, spent⟩ := s.spendSome_onlyCharged i c n
  unfold State.owe
  dsimp only
  split
  · exact ⟨o, r, spent⟩
  · rw [spent]
    exact ⟨o, _, rfl⟩

/-- The state after the blocks `es` have been charged to the frame path's class (R126, R263). -/
def State.oweBlocks (s : State) (es : List (Nat × Nat)) : State := es.foldl (fun (t : State) e => t.owe (128 + e.1) 0 e.2) s

theorem State.oweBlocks_onlyCharged (s : State) (es : List (Nat × Nat)) : s.OnlyCharged (s.oweBlocks es) :=
  List.foldlRecOn (motive := fun t => s.OnlyCharged t) _ _ .refl fun _ h _ _ => h.trans (State.owe_onlyCharged ..)

/-! ## HALO_ARRIVAL of one word (R125, R126) -/

/-- The words that frame `f` still lacks in region `g` and that stand so in their source rows. -/
def State.haloFit (s : State) (g : Nat) (row : Int) (words : List (Int × Word)) (f : Frame) : List (Int × Word) :=
  match (s.region g).rframe f.num with
  | none => []
  | some x => words.filter fun w =>
    (haloCols f.rho row).contains w.1 && !x.halos.contains (row, w.1) && s.haloComes f g row w.1 &&
    match haloSource g row w.1 with
    | none => false
    | some (h, r, c) => s.rowHeld f h r && s.lineWord h f.num r c = w.2.toNat

theorem exec_haloArrival (g : Fin 64) (row : Int) (words : List (Int × Word)) : exec (.haloArrival g row words) s = .next
    (match s.focal.frames.reverse.find? fun f => !(s.haloFit g row words f).isEmpty with
    | none => s
    | some f => match (haloBlocks g row (s.haloFit g row words f)).find? fun e => !s.maySpend (128 + e.1) 0 with
      | some e => s.stallRoll (128 + e.1) 0
      | none => (s.haloFit g row words f).foldl (fun (t : State) w =>
          (t.storeWord f g row w.1 w.2.toNat).mapRFrame g f.num fun x => { x with halos := (row, w.1) :: x.halos })
          (s.oweBlocks (haloBlocks g row (s.haloFit g row words f)))) := by
  show execHaloArrival g row words s = _
  unfold execHaloArrival State.haloFit State.oweBlocks
  rfl

/-- Words of the same die cross no seam. -/
theorem haloBlocks_same_die {g h r k : Nat} {row c : Int} {w : Word} (source : haloSource g row c = some (h, r, k))
    (die : quadOfRegion h = quadOfRegion g) : haloBlocks g row [(c, w)] = [] := by
  refine List.flatMap_eq_nil_iff.2 fun q _ => ?_
  by_cases here : q = quadOfRegion g
  · subst here
    simp [seamSlots]
  · simp [source, die, Ne.symm here]

section
variable {g : Fin 64} {row c : Int} {w : Word} {f : Frame} {x : RFrame} {h r k : Nat} (frames : s.focal.frames = [f])
  (here : (s.region g).rframe f.num = some x) (column : (haloCols f.rho row).contains c = true)
  (missing : x.halos.contains (row, c) = false) (comes : s.haloComes f g row c = true)
  (source : haloSource g row c = some (h, r, k)) (held : s.rowHeld f h r = true) (word : s.lineWord h f.num r k = w.toNat)
include frames here column missing comes source held word

/-- A word that its source row holds is delivered once every seam that it crosses has a stick, and waits before. -/
theorem exec_haloArrival_one : exec (.haloArrival g row [(c, w)]) s = .next
    (match (haloBlocks g row [(c, w)]).find? fun e => !s.maySpend (128 + e.1) 0 with
    | some e => s.stallRoll (128 + e.1) 0
    | none => ((s.oweBlocks (haloBlocks g row [(c, w)])).storeWord f g row c w.toNat).mapRFrame g f.num
        fun y => { y with halos := (row, c) :: y.halos }) := by
  have fits : s.haloFit g row [(c, w)] f = [(c, w)] := by
    simp only [State.haloFit, here, List.filter_singleton, column, missing, comes, source, held, word, decide_true, Bool.not_false,
      Bool.and_true, cond_true]
  have found : [f].find? (fun fr => !(s.haloFit g row [(c, w)] fr).isEmpty) = some f := by rw [List.find?_cons, fits]; rfl
  rw [exec_haloArrival, frames, List.reverse_singleton, found]
  simp only [fits]
  rfl

theorem exec_haloArrival_delivers (sticks : ∀ e ∈ haloBlocks g row [(c, w)], s.maySpend (128 + e.1) 0 = true) :
    exec (.haloArrival g row [(c, w)]) s = .next
      (((s.oweBlocks (haloBlocks g row [(c, w)])).storeWord f g row c w.toNat).mapRFrame g f.num
        fun y => { y with halos := (row, c) :: y.halos }) := by
  have none : (haloBlocks g row [(c, w)]).find? (fun e => !s.maySpend (128 + e.1) 0) = none :=
    List.find?_eq_none.2 fun e he => by simp [sticks e he]
  rw [exec_haloArrival_one frames here column missing comes source held word, none]

theorem exec_haloArrival_waits (stall : ∃ e ∈ haloBlocks g row [(c, w)], s.maySpend (128 + e.1) 0 = false) :
    ∃ e, exec (.haloArrival g row [(c, w)]) s = .next (s.stallRoll (128 + e) 0) := by
  obtain ⟨e, he, empty⟩ := stall
  obtain ⟨e', found⟩ := Option.isSome_iff_exists.1
    (List.find?_isSome (p := fun e => !s.maySpend (128 + e.1) 0).2 ⟨e, he, by simp [empty]⟩)
  exact ⟨e'.1, by rw [exec_haloArrival_one frames here column missing comes source held word, found]⟩

end

/-- A change of a frame's record is read back. -/
theorem Region.rframe_map {r : Region} {n : BitVec 32} {x : RFrame} {fn : RFrame → RFrame} (here : r.rframe n = some x)
    (num : ∀ y, (fn y).num = y.num) :
    (Region.rframe { r with frames := r.frames.map fun y => if y.num = n then fn y else y } n) = some (fn x) := by
  unfold Region.rframe at *
  have number : x.num = n := by simpa using List.find?_some here
  have same : ((fun y : RFrame => decide (y.num = n)) ∘ fun y => if y.num = n then fn y else y) = fun y => decide (y.num = n) := by
    funext y
    by_cases e : y.num = n <;> simp [e, num]
  rw [List.find?_map, same, here]
  simp [number]

/-- What a word that is delivered leaves, once the blocks that carry it are charged. -/
theorem State.haloStored {g : Fin 64} {row c : Int} {w : Word} {f : Frame} {x : RFrame} {b : Nat} {es : List (Nat × Nat)}
    (here : (s.region g).rframe f.num = some x) (kept : x.discarded = false) (buf : s.rowBuf g f.num row = some b) :
    let t := ((s.oweBlocks es).storeWord f g row c w.toNat).mapRFrame g f.num fun y => { y with halos := (row, c) :: y.halos }
    t.le (lineAddr g b c) 4 = w.toNat ∧ (∀ a, a < lineAddr g b c ∨ lineAddr g b c + 4 ≤ a → t.byte a = s.byte a) ∧
    (∃ y, (t.region g).rframe f.num = some y ∧ y.halos = (row, c) :: x.halos) ∧ (∀ j, j ≠ g.val → t.region j = s.region j) ∧
    (es = [] → t.obj = s.obj) := by
  have free : es = [] → (s.oweBlocks es).obj = s.obj := fun none => by rw [none]; rfl
  obtain ⟨o, r, charged⟩ := s.oweBlocks_onlyCharged es
  rw [charged] at free ⊢
  rw [State.storeWord_held (s := { s with obj := o, rolls := r }) here kept buf]
  refine ⟨State.le_poke_word _ _ w.isLt, fun a apart => State.byte_poke_other (by rwa [length_leBytes]),
    ⟨{ x with halos := (row, c) :: x.halos }, ?_, rfl⟩,
    fun j other => State.region_setRegion_other _ other _, free⟩
  rw [State.mapRFrame, State.region_setRegion_same _ g.isLt]
  exact Region.rframe_map here fun _ => rfl

/-! ## Seam links (R127) -/

theorem unsignedAt_seams (l : Fin 4) : unsignedAt (Obj.SEAM_STATE l) 1 = true ∧ unsignedAt (Obj.SEAM_RETRIES l) 4 = true ∧
    Obj.SEAM_STATE l ≠ Obj.BELL_NEXT_SEQ ∧ Obj.SEAM_STATE l ≠ Obj.BELL_LOST := by
  revert l
  decide

section
variable {l : Fin 4} (up : s.fab.seamDown[l] = false)
include up

theorem exec_seamBlockReceive_good : exec (.seamBlockReceive l true) s =
    .next { s with fab := { s.fab with seamFails := s.fab.seamFails.set l 0 } } := by
  show execSeamBlockReceive l true s = _
  simp [execSeamBlockReceive, up]

theorem exec_seamBlockReceive_bad : exec (.seamBlockReceive l false) s = .next
    (let t : State := { s with fab := { s.fab with seamFails := s.fab.seamFails.set l (s.fab.seamFails[l] + 1) } }
     if s.fab.seamFails[l] + 1 = 16 then t.seamLinkDown l else t.bump (Obj.SEAM_RETRIES l)) := by
  show execSeamBlockReceive l false s = _
  simp only [execSeamBlockReceive, up, Bool.false_eq_true, if_false]

end

/-- A block sent again is counted. -/
theorem State.seamRetried (l : Fin 4) :
    let t := State.bump { s with fab := { s.fab with seamFails := s.fab.seamFails.set l (s.fab.seamFails[l] + 1) } } (Obj.SEAM_RETRIES l)
    t.fab.seamFails[l] = s.fab.seamFails[l] + 1 ∧ t.fab.seamDown = s.fab.seamDown ∧ Counted s t (Obj.SEAM_RETRIES l) ∧
    SameObj s t [Obj.SEAM_RETRIES l] ∧ { t with fab := s.fab, obj := s.obj } = s := by
  obtain ⟨-, retries, -, -⟩ := unsignedAt_seams l
  obtain ⟨o, bumped⟩ := State.bump_frame
    { s with fab := { s.fab with seamFails := s.fab.seamFails.set l (s.fab.seamFails[l] + 1) } } (Obj.SEAM_RETRIES l) 1
  refine ⟨?_, ?_, ?_, .bump fun k _ => State.get_congr rfl k, ?_⟩
  · rw [bumped]
    exact Vector.getElem_set_self ..
  · rw [bumped]
  · exact State.bump_counted retries
  · rw [bumped]

/-- A put leaves the memory. -/
theorem State.put_byte (k : Nat) (v : Int) (a : Nat) : (s.put k v).byte a = s.byte a := rfl

/-- The gong line pulled for a cause, and a bell (R420, R359). -/
theorem State.gongAndBell (s : State) (cause code : Nat) :
    let t := (s.pullGong (some cause)).bell code
    t.fab = s.fab ∧ t.lands.gongOwn = true ∧ t.ens.gongCause = some (BitVec.ofNat 16 cause) ∧ SameMem s t ∧
    SameObj s t [Obj.BELL_NEXT_SEQ, Obj.BELL_LOST] ∧ Rings s t code 0 := by
  obtain ⟨o, d, rung, -⟩ := State.bell_frame (s.pullGong (some cause)) code 0
  refine ⟨by rw [rung]; rfl, by rw [rung]; rfl, by rw [rung]; rfl, fun a => by rw [rung]; rfl,
    .bell fun k _ => State.get_congr rfl k, State.bell_rings rfl rfl rfl⟩

/-- A link that goes down (R127). -/
theorem State.seamLost (l : Fin 4) :
    let t := State.seamLinkDown { s with fab := { s.fab with seamFails := s.fab.seamFails.set l (s.fab.seamFails[l] + 1) } } l
    t.fab.seamDown[l] = true ∧ (∀ k : Fin 4, k ≠ l → t.fab.seamDown[k] = s.fab.seamDown[k]) ∧ t.get (Obj.SEAM_STATE l) = 1 ∧
    t.lands.gongOwn = true ∧ t.ens.gongCause = some 0x31 ∧ SameMem s t ∧ Rings s t 0x0417 0 := by
  obtain ⟨state, -, seq, lost⟩ := unsignedAt_seams l
  generalize s.fab.seamFails.set l (s.fab.seamFails[l] + 1) = fails
  let v : State := { s with fab := { s.fab with seamFails := fails, seamDown := s.fab.seamDown.setIfInBounds l true } }
  obtain ⟨fab, own, cause, mem, objs, rings⟩ := State.gongAndBell (v.put (Obj.SEAM_STATE l) 1) 0x31 0x0417
  have down : (State.seamLinkDown { s with fab := { s.fab with seamFails := fails } } l) =
    ((v.put (Obj.SEAM_STATE l) 1).pullGong (some 0x31)).bell 0x0417 := rfl
  dsimp only
  rw [down]
  generalize ((v.put (Obj.SEAM_STATE l) 1).pullGong (some 0x31)).bell 0x0417 = t at *
  refine ⟨?_, fun k other => ?_, ?_, own, cause, fun a => (mem a).trans (State.put_byte ..), fun room => ?_⟩
  · rw [fab, State.put_fab]
    simp [v]
  · have apart : l.val ≠ k.val := fun e => other (Fin.ext e.symm)
    rw [fab, State.put_fab]
    simp [v, apart]
  · rw [objs _ (by simp [seq, lost])]
    exact State.put_get_nat (v := 1) state (by decide)
  · rw [rings (by rw [State.put_dict]; exact room), State.put_dict, State.put_now, State.put_nat_other _ seq.symm]
    rfl

end Sys2Proof.Machine
end

section
/-! Program slots and the table area (04_engine_fabric.md R119, R128, R129). -/

namespace Sys2Proof.Machine

variable {s : State}

/-- The check of a slot reads memory alone. -/
theorem State.slotCheck_congr {t : State} (mem : t.mem = s.mem) (i : Nat) : t.slotCheck i = s.slotCheck i := by
  have reads : t.slotCheck i = State.slotCheck { s with mem := t.mem } i := rfl
  rw [reads, mem]

/-- The bytes of a write as a slot stores them (R12, R128). -/
def slotBytes (off : Nat) (bs : List Byte) : List Byte :=
  (List.range bs.length).map fun k => headerByte (off + k) (bs.getD k 0)

theorem length_slotBytes (off : Nat) (bs : List Byte) : (slotBytes off bs).length = bs.length := by simp [slotBytes]

theorem getD_slotBytes {off k : Nat} {bs : List Byte} (h : k < bs.length) :
    (slotBytes off bs).getD k 0 = headerByte (off + k) (bs.getD k 0) := by simp [slotBytes, h]

/-- What a write leaves of the note which slots hold the ROM image. -/
def State.romForgets (s : State) (i : Nat) : State :=
  { s with pipe := { s.pipe with romSlot := match s.pipe.romSlot with
    | some 2 => some (1 - i)
    | some k => if k = i then none else some k
    | none => none } }

section
variable {i : Fin 2} {off : Nat} {bs : List Byte} (fits : off + bs.length ≤ 32768)
include fits

theorem exec_progSlotWrite_stored (free : s.slotBusy i = false) : exec (.progSlotWrite i off bs) s = .next
    (let t := (s.poke (progBase i + off) (slotBytes off bs)).romForgets i
     t.put Obj.SLOT_VALID (putBit (t.nat Obj.SLOT_VALID) i (t.slotCheck i) : Nat)) := by
  show execProgSlotWrite i off bs s = _
  simp only [execProgSlotWrite, State.writeProg, free]
  rw [if_neg (by omega)]
  rfl

theorem exec_progSlotWrite_refused (busy : s.slotBusy i = true) :
    exec (.progSlotWrite i off bs) s = .next (s.bump Obj.PROG_REFUSED) := by
  show execProgSlotWrite i off bs s = _
  simp only [execProgSlotWrite, State.writeProg, busy, if_true]
  rw [if_neg (by omega)]

end

theorem exec_tableAreaWrite {off : Nat} {bs : List Byte} (fits : off + bs.length ≤ 131072) :
    exec (.tableAreaWrite off bs) s = .next (s.poke (tableBase + off) bs) := by
  show execTableAreaWrite off bs s = _
  simp only [execTableAreaWrite, State.writeTable]
  rw [if_neg (by omega)]

/-- The bytes stored read back. -/
theorem State.byte_poke_stored {a k : Nat} {bs : List Byte} (h : k < bs.length) : (s.poke a bs).byte (a + k) = bs.getD k 0 := by
  rw [State.byte_poke, if_pos (by omega), Nat.add_sub_cancel_left]

/-- A write that is taken leaves everything but the bytes, the check and the note of the ROM image. -/
theorem State.slotStored (i : Fin 2) (off : Nat) (bs : List Byte) (v : Int) :
    let t := ((s.poke (progBase i + off) (slotBytes off bs)).romForgets i).put Obj.SLOT_VALID v
    (∀ k, k < bs.length → t.byte (progBase i + off + k) = headerByte (off + k) (bs.getD k 0)) ∧
    (∀ a, a < progBase i + off ∨ progBase i + off + bs.length ≤ a → t.byte a = s.byte a) ∧
    SameObj s t [Obj.SLOT_VALID] ∧ t.fab = s.fab ∧ t.focal = s.focal := by
  have bytes : ∀ a, (((s.poke (progBase i + off) (slotBytes off bs)).romForgets i).put Obj.SLOT_VALID v).byte a =
      (s.poke (progBase i + off) (slotBytes off bs)).byte a := fun a => State.put_byte ..
  refine ⟨fun k hk => ?_, fun a apart => ?_, .put fun k _ => State.get_congr rfl k, ?_, ?_⟩
  · rw [bytes, State.byte_poke_stored (by rwa [length_slotBytes]), getD_slotBytes hk]
  · rw [bytes, State.byte_poke_other (by rwa [length_slotBytes])]
  · rw [State.put_fab]
    rfl
  · rw [State.put_focal]
    rfl

/-- Settles O22: the halo words through `exec_haloArrival`, a seam block by the link's failures, and a slot by its check. -/
theorem halosSeamsAndProgramMemory : Obligations.HalosSeamsAndProgramMemory := by
  refine ⟨fun g row c w f x h r k b s frames here kept column missing comes source held word buf sticks =>
      ⟨_, exec_haloArrival_delivers frames here column missing comes source held word sticks, ?arrives⟩,
    fun g row c w f x h r k s frames here column missing comes source held word stall => ?waits,
    fun l s up => ⟨_, exec_seamBlockReceive_good up, Vector.getElem_set_self .., rfl⟩,
    fun l s up fails => ⟨_, exec_seamBlockReceive_bad up, ?bad⟩,
    fun l s up fails => ⟨_, exec_seamBlockReceive_bad up, ?down⟩,
    fun i off bs s fits free => ⟨_, exec_progSlotWrite_stored fits free, ?stored⟩,
    fun i off bs s fits busy => ⟨_, exec_progSlotWrite_refused fits busy, State.bump_alone (by decide)⟩,
    fun off bs s fits => ⟨_, exec_tableAreaWrite fits, fun k hk => State.byte_poke_stored hk,
      fun a apart => State.byte_poke_other apart, rfl⟩⟩
  case arrives =>
    obtain ⟨le, others, halos, regions, objs⟩ := State.haloStored (g := g) (row := row) (c := c) (w := w) here kept buf
    exact ⟨le, others, halos, regions, fun die => objs (haloBlocks_same_die source die)⟩
  case waits =>
    obtain ⟨e, waits⟩ := exec_haloArrival_waits frames here column missing comes source held word stall
    obtain ⟨o, r, stalled⟩ := s.stallRoll_onlyCharged (128 + e) 0
    refine ⟨_, waits, ?_⟩
    rw [stalled]
    exact ⟨fun a => rfl, rfl, rfl⟩
  case bad =>
    dsimp only
    rw [if_neg (by omega)]
    exact State.seamRetried l
  case down =>
    dsimp only
    rw [if_pos (by omega)]
    exact State.seamLost l
  case stored =>
    obtain ⟨bytes, others, objs, fab, focal⟩ := s.slotStored i off bs _
    refine ⟨bytes, others, ?_, objs, fab, focal⟩
    refine (State.put_putBit (sz := 1) (by decide) (by omega) _ _).trans ((if_pos rfl).trans ?_)
    exact (State.slotCheck_congr (State.put_mem ..) i).symm

end Sys2Proof.Machine
end

section
/-! What the end of an item leaves (04_engine_fabric.md R115, R117, R133; 06_pixel_pipeline.md R194, R210-R212). -/

namespace Sys2Proof.Machine

variable {gates : Bool} {s t : State} {fr : Frame} {g : Nat}

/-! ## The relation -/

/-- `t` has the engines, the waiting runs and the check counts of `s`; where no region is gated (`gates` is false), it also has
the frames of `s`, and the memory below the table area. -/
structure State.EndLeaves (gates : Bool) (s t : State) : Prop where
  engines : t.fab.engines = s.fab.engines
  thirds : t.fab.thirds = s.fab.thirds
  done : t.fab.done = s.fab.done
  counts : ∀ k, Obj.CHECK_RUNS ≤ k → k ≤ Obj.CHECK_MISMATCH → t.get k = s.get k
  frames : gates = false → t.focal.frames = s.focal.frames
  store : gates = false → ∀ a, a < tableBase → t.byte a = s.byte a

theorem State.EndLeaves.refl : s.EndLeaves gates s := ⟨rfl, rfl, rfl, fun _ _ _ => rfl, fun _ => rfl, fun _ _ _ => rfl⟩

theorem State.EndLeaves.ite {u : State} {c : Prop} [Decidable c] (ht : s.EndLeaves gates t) (hu : s.EndLeaves gates u) :
    s.EndLeaves gates (if c then t else u) := by
  split <;> assumption

/-- An intermediate state that several branches go on from. -/
theorem State.EndLeaves.via {u : State} (h : s.EndLeaves gates t) (hu : s.EndLeaves gates t → s.EndLeaves gates u) :
    s.EndLeaves gates u := hu h

theorem State.EndLeaves.foldl {α : Type} {f : State → α → State} {l : List α} (h : s.EndLeaves gates t)
    (step : ∀ u x, s.EndLeaves gates u → s.EndLeaves gates (f u x)) : s.EndLeaves gates (l.foldl f t) :=
  List.foldlRecOn _ _ h fun u hu x _ => step u x hu

/-- A record update of any other fields. -/
theorem State.EndLeaves.update {pending free otp banks eccBad clk strokes mc pix shadow pipe cal rolls views lanes eye dict
    ports act ens lands power} (h : s.EndLeaves gates t) :
    s.EndLeaves gates ⟨pending, free, otp, t.obj, t.mem, banks, eccBad, clk, strokes, t.focal, mc, t.fab, pix, shadow, pipe, cal,
      rolls, views, lanes, eye, dict, ports, act, ens, lands, power⟩ :=
  ⟨h.engines, h.thirds, h.done, h.counts, h.frames, h.store⟩

/-! ## Objects, memory, frames and regions -/

theorem State.EndLeaves.put {k : Nat} {v : Int} (h : s.EndLeaves gates t) (apart : k < Obj.CHECK_RUNS ∨ Obj.CHECK_MISMATCH < k) :
    s.EndLeaves gates (t.put k v) :=
  ⟨h.engines, h.thirds, h.done, fun j low high => (t.put_get_other (by omega) v).trans (h.counts j low high), h.frames, h.store⟩

theorem State.EndLeaves.putBytes {bs : List Byte} {k off : Nat} (h : s.EndLeaves gates t) (above : Obj.CHECK_MISMATCH < k) :
    s.EndLeaves gates (t.putBytes k off bs) := by
  induction bs generalizing t off with
  | nil => exact h
  | cons b bs ih => exact ih (h.put (.inr (by omega)))

theorem State.EndLeaves.bell {code arg : Nat} (h : s.EndLeaves gates t) : s.EndLeaves gates (t.bell code arg) := by
  have rung : s.EndLeaves gates (t.put Obj.BELL_NEXT_SEQ ((t.nat Obj.BELL_NEXT_SEQ : Int) + 1)) := h.put (.inl (by decide))
  unfold State.bell
  dsimp only
  split
  · exact .update rung
  · rcases State.bump_cases (t.put Obj.BELL_NEXT_SEQ ((t.nat Obj.BELL_NEXT_SEQ : Int) + 1)) Obj.BELL_LOST 1 with e | ⟨v, e⟩ <;>
      rw [e]
    · exact rung
    · exact rung.put (.inl (by decide))

theorem State.EndLeaves.poke {a : Nat} {bs : List Byte} (h : s.EndLeaves gates t) (above : gates = false → tableBase ≤ a) :
    s.EndLeaves gates (t.poke a bs) :=
  ⟨h.engines, h.thirds, h.done, h.counts, h.frames, fun calm b low =>
    (State.byte_poke_other (.inl (by have := above calm; omega))).trans (h.store calm b low)⟩

theorem State.EndLeaves.setRegion {r : Region} (h : s.EndLeaves gates t) : s.EndLeaves gates (t.setRegion g r) :=
  ⟨h.engines, h.thirds, h.done, h.counts, h.frames, h.store⟩

theorem State.EndLeaves.mapRFrame {n : BitVec 32} {f : RFrame → RFrame} (h : s.EndLeaves gates t) :
    s.EndLeaves gates (t.mapRFrame g n f) := .setRegion h

/-- The gate of a region changes its frame-state store and the frame. -/
theorem State.EndLeaves.gateRegion {n : BitVec 32} (h : s.EndLeaves true t) : s.EndLeaves true (t.gateRegion g n) :=
  ⟨h.engines, h.thirds, h.done, h.counts, by simp, by simp⟩

theorem State.EndLeaves.gateHeld {f : Frame} (h : s.EndLeaves true t) : s.EndLeaves true (t.gateHeld f) :=
  .ite h (.foldl h fun _ _ hu => .ite (.gateRegion hu) hu)

/-! ## The end of a frame in a region, and of an item (R115, R117, R194) -/

theorem State.EndLeaves.placeGrid (h : s.EndLeaves gates t) : s.EndLeaves gates t.placeGrid := by
  unfold State.placeGrid
  split
  · exact .bell (.poke (.update h) fun _ => by omega)
  · exact h

theorem State.EndLeaves.formStats {n : BitVec 32} (h : s.EndLeaves gates t) : s.EndLeaves gates (t.formStats g n) := by
  have put : s.EndLeaves gates (t.putStats g { t.stats g n with valid := t.histValid g n }) := .update h
  exact .setRegion (.update (.putBytes put (by decide)))

theorem State.EndLeaves.lastRow (h : s.EndLeaves gates t) : s.EndLeaves gates (t.lastRow fr g) := by
  unfold State.lastRow
  split
  · exact .ite (.bell (.putBytes (.setRegion h) (by decide))) (.setRegion h)
  · exact .setRegion h

section
variable (calm : gates = false → s.frame? (fr.num + 2) = none)
include calm

theorem State.EndLeaves.finishFrame (h : s.EndLeaves gates t) : s.EndLeaves gates (t.finishFrame fr g) := by
  have marked : s.EndLeaves gates (t.mapRFrame g fr.num fun x => { x with endDone := true }) := .mapRFrame h
  unfold State.finishFrame
  refine .placeGrid ?_
  split
  case h_1 n waits =>
    cases gates with
    | true => exact .gateHeld marked
    | false =>
      rw [State.frame?, marked.frames rfl] at waits
      exact absurd waits (by rw [← State.frame?, calm rfl]; simp)
  case h_2 => exact marked

theorem State.EndLeaves.afterItem (h : s.EndLeaves gates t) : s.EndLeaves gates (t.afterItem fr g) := by
  have freed : s.EndLeaves gates (t.freeRows fr g) := .setRegion h
  unfold State.afterItem
  dsimp only
  split
  · exact freed
  · exact .ite freed (.via (.ite freed (.lastRow (.formStats freed))) fun last =>
      .ite (.finishFrame calm last) (.ite last (.setRegion last)))

end

/-! ## The windows, and the row record (R210-R212) -/

theorem State.EndLeaves.finishTarget {f : Frame} {p : Page} {i : Nat} {w : Win} (h : s.EndLeaves gates t) :
    s.EndLeaves gates (t.finishTarget f p i w) := by
  have kept : ∀ x, s.EndLeaves gates (t.putTrack i x) := fun _ => .update h
  exact .update (.update (.putBytes (kept _) (by simp only [Obj.TRK_RESULT, Obj.CHECK_MISMATCH]; omega)))

theorem State.EndLeaves.finishFocus {f : Frame} {i : Nat} {w : Win} (h : s.EndLeaves gates t) :
    s.EndLeaves gates (t.finishFocus f i w) := by
  have kept : ∀ x, s.EndLeaves gates (t.putFocus i x) := fun _ => .update h
  exact .update (.putBytes (kept _) (by simp only [Obj.FOCUS_RESULT, Obj.CHECK_MISMATCH]; omega))

theorem State.EndLeaves.finishWindows {f : Frame} {p : Page} (h : s.EndLeaves gates t) :
    s.EndLeaves gates (t.finishWindows f p) :=
  .foldl (.foldl h fun _ _ hu => .ite (.finishTarget hu) hu) fun _ _ hu => .ite (.finishFocus hu) hu

theorem State.EndLeaves.collect {row : Nat} {n : BitVec 32} (h : s.EndLeaves gates t) :
    s.EndLeaves gates (t.collect g row n) := by
  have put : ∀ x, s.EndLeaves gates (t.putStats g x) := fun _ => .update h
  unfold State.collect
  exact .ite h (.foldl (.foldl (.ite (.update (put _)) (put _)) fun _ _ hu => .update hu) fun _ _ hu => .update hu)

section
variable (calm : gates = false → s.frame? (fr.num + 2) = none)
include calm

theorem State.EndLeaves.endItem {it : Item} (h : s.EndLeaves gates t) : s.EndLeaves gates (t.endItem fr it) := by
  unfold State.endItem
  dsimp only
  split
  · exact .finishWindows (.afterItem calm (.mapRFrame h))
  · exact .afterItem calm (.mapRFrame h)

/-- What a commit adds to the stores of the run (R115, R187, R210). -/
theorem State.EndLeaves.commitItem {x : Run} (emits : x.emits = []) (h : s.EndLeaves gates
      (x.writes.foldl (fun (t : State) c => t.poke (fstBase x.item.region + c.1) [c.2]) t)) :
    s.EndLeaves gates (t.commitItem fr x) := by
  unfold State.commitItem
  rw [emits]
  exact .endItem calm (.collect (.foldl h fun _ _ hu => .bell hu))

/-- What a commit of a checked run leaves (R134). -/
theorem State.EndLeaves.commitChk {x : Run} (emits : x.emits = []) (h : s.EndLeaves gates t) :
    s.EndLeaves gates (t.commitChk fr x) := by
  unfold State.commitChk
  rw [emits]
  exact .endItem calm (.setRegion h)

end

end Sys2Proof.Machine
end

section
/-! Runs that have ended: their commit and their comparison (04_engine_fabric.md R115, R133, R134). -/

namespace Sys2Proof.Machine

variable {s : State} {p : Fin 272} {x : Run} {f : Frame}

/-! ## The engine becomes idle -/

theorem State.idle_frame (s : State) (p : Nat) (x : Run) : ∃ fab, s.idle p x = { s with fab := fab } := ⟨_, rfl⟩

theorem State.idle_engine (s : State) (p : Fin 272) (x : Run) (j : Nat) :
    (s.idle p x).engine j = if j = p.val then { s.engine p with run := none } else s.engine j :=
  s.engine_setEngine p _ j

theorem State.idle_frame? (s : State) (p : Nat) (x : Run) (n : BitVec 32) : (s.idle p x).frame? n = s.frame? n := by
  obtain ⟨fab, idle⟩ := s.idle_frame p x
  rw [idle, State.frame?, State.frame?]

/-! ## ITEM_COMMIT (R115) -/

section
variable {us : List Nat} (run : (s.engine p).run = some x) (fault : x.fault = 0) (ended : x.ended = true)
  (leasing : x.leasing = none) (here : s.frame? x.item.frame = some f)
include run fault ended leasing here

theorem exec_itemCommit_frameEntry (kind : x.kind = .frameEntry) : exec (.itemCommit ⟨p, us⟩) s = .next (s.idle p x) := by
  show execItemCommit ⟨p, us⟩ s = _
  simp [execItemCommit, run, fault, ended, leasing, State.endRun, State.idle_frame?, here, kind]

theorem exec_itemCommit_item (kind : x.kind = .item) (first : x.first = none) (unchecked : checkedItem x.item = false) :
    exec (.itemCommit ⟨p, us⟩) s = .next ((s.idle p x).commitItem f x) := by
  show execItemCommit ⟨p, us⟩ s = _
  simp [execItemCommit, run, fault, ended, leasing, State.endRun, State.idle_frame?, here, kind, first, unchecked]

end

/-- The one byte that an item's run has written stands in the frame-state store once the item has ended. -/
theorem State.commitItem_byte {o : Nat} {v : Byte} (emits : x.emits = []) (writes : x.writes = [(o, v)])
    (calm : s.frame? (f.num + 2) = none) (place : fstBase x.item.region + o < tableBase) :
    (s.commitItem f x).byte (fstBase x.item.region + o) = v ∧ (s.commitItem f x).fab.engines = s.fab.engines := by
  have stored : State.EndLeaves false (s.poke (fstBase x.item.region + o) [v])
      (x.writes.foldl (fun (t : State) c => t.poke (fstBase x.item.region + c.1) [c.2]) s) := by
    rw [writes]
    exact .refl
  have later : (s.poke (fstBase x.item.region + o) [v]).frame? (f.num + 2) = none := calm
  have ends := stored.commitItem (fun _ => later) emits
  exact ⟨(ends.store rfl _ place).trans (State.byte_poke_stored (bs := [v]) (k := 0) (by simp)), ends.engines⟩

/-! ## CHECK_COMPARE (R133, R134) -/

theorem unsignedAt_checkCounts : unsignedAt Obj.CHECK_RUNS 4 = true ∧ unsignedAt Obj.CHECK_MISMATCH 4 = true := by decide

/-- A third run of an item is due (R134). -/
def State.withThird (s : State) (third : Item × Nat × Nat) : State :=
  { s with fab := { s.fab with thirds := s.fab.thirds ++ [third] } }

theorem State.withThird_get (s : State) (third : Item × Nat × Nat) (k : Nat) : (s.withThird third).get k = s.get k := rfl

theorem State.withThird_thirds (s : State) (third : Item × Nat × Nat) :
    (s.withThird third).fab.thirds = s.fab.thirds ++ [third] := rfl

theorem State.withThird_done (s : State) (third : Item × Nat × Nat) : (s.withThird third).fab.done = s.fab.done := rfl

/-- The counts of a comparison of differing runs, with bell 0x0410 (R133, R134). -/
theorem State.mismatchCounted (s : State) :
    let t := ((s.bump Obj.CHECK_RUNS).bump Obj.CHECK_MISMATCH).bell 0x0410
    Counted s t Obj.CHECK_RUNS ∧ Counted s t Obj.CHECK_MISMATCH ∧ t.fab = s.fab := by
  obtain ⟨o, d, rung, -⟩ := ((s.bump Obj.CHECK_RUNS).bump Obj.CHECK_MISMATCH).bell_frame 0x0410 0
  obtain ⟨o', mismatch⟩ := (s.bump Obj.CHECK_RUNS).bump_frame Obj.CHECK_MISMATCH 1
  obtain ⟨o'', runs⟩ := s.bump_frame Obj.CHECK_RUNS 1
  refine ⟨?_, ?_, by rw [rung, mismatch, runs]⟩
  · rw [Counted, State.bell_get (by decide) (by decide), State.bump_get_other (by decide)]
    exact State.bump_counted unsignedAt_checkCounts.1
  · rw [Counted, State.bell_get (by decide) (by decide), State.bump_counted unsignedAt_checkCounts.2,
      State.bump_get_other (by decide)]

section
variable {g : Fin 64} {row : Nat} {d c : DoneRun} (done : s.fab.done = [d, c]) (primary : d.kind = .item) (check : c.kind = .check)
  (same : d.item = c.item) (region : d.item.region = g.val) (hrow : d.item.row = row) (here : s.frame? d.item.frame = some f)
  (unended : (((s.region g).rframe d.item.frame).any fun x => x.ended.contains row) = false)
include done primary check

theorem State.doneRun_third : s.doneRun d.item .third = none := by
  simp [State.doneRun, done, primary, check]

include same

theorem State.doneRun_check : s.doneRun d.item .check = some c := by
  simp [State.doneRun, done, primary, check, same]

include region hrow here unended

theorem exec_checkCompare : exec (.checkCompare g row) s = .next
    (if d.sig = c.sig then ((s.bump Obj.CHECK_RUNS).dropDone d.item).commitItem f d.run
     else ((((s.bump Obj.CHECK_RUNS).bump Obj.CHECK_MISMATCH).bell 0x0410).withThird
       (d.item, d.engine, c.engine)).commitChk f d.run) := by
  have found : s.doneRun d.item .check = some c := State.doneRun_check done primary check same
  have third : s.doneRun d.item .third = none := State.doneRun_third done primary check
  have first : (s.fab.done.find? fun e => e.kind = .item && e.item.region = g.val && e.item.row = row &&
      (s.doneRun e.item .check).isSome) = some d := by
    rw [done, List.find?_cons_of_pos]
    simp [primary, region, hrow, found]
  show execCheckCompare g row s = _
  simp only [execCheckCompare, first, here, State.compare, found, third, region, hrow, unended, Bool.false_eq_true, if_false,
    State.withThird]

end

/-- What the comparison of differing runs leaves (R134). -/
theorem State.compared_differ {x : Run} (emits : x.emits = []) (third : Item × Nat × Nat) :
    let t := ((((s.bump Obj.CHECK_RUNS).bump Obj.CHECK_MISMATCH).bell 0x0410).withThird third).commitChk f x
    Counted s t Obj.CHECK_RUNS ∧ Counted s t Obj.CHECK_MISMATCH ∧ t.fab.thirds = s.fab.thirds ++ [third] ∧
    t.fab.done = s.fab.done := by
  obtain ⟨runs, mismatch, fab⟩ := s.mismatchCounted
  dsimp only
  generalize ((s.bump Obj.CHECK_RUNS).bump Obj.CHECK_MISMATCH).bell 0x0410 = u at *
  have ends : State.EndLeaves true (u.withThird third) ((u.withThird third).commitChk f x) := .commitChk (by simp) emits .refl
  refine ⟨?_, ?_, ?_, ?_⟩
  · exact (ends.counts _ (by decide) (by decide)).trans ((u.withThird_get ..).trans runs)
  · exact (ends.counts _ (by decide) (by decide)).trans ((u.withThird_get ..).trans mismatch)
  · rw [ends.thirds, State.withThird_thirds, fab]
  · rw [ends.done, State.withThird_done, fab]

/-- What the comparison of equal runs leaves, when no other run waits (R133). -/
theorem State.compared_equal {x : Run} {it : Item} (emits : x.emits = []) (done : ∀ d ∈ s.fab.done, d.item = it) :
    let t := ((s.bump Obj.CHECK_RUNS).dropDone it).commitItem f x
    Counted s t Obj.CHECK_RUNS ∧ t.get Obj.CHECK_MISMATCH = s.get Obj.CHECK_MISMATCH ∧ t.fab.thirds = s.fab.thirds ∧
    t.fab.done = [] := by
  obtain ⟨o, bumped⟩ := s.bump_frame Obj.CHECK_RUNS 1
  have ends : State.EndLeaves true ((s.bump Obj.CHECK_RUNS).dropDone it) (((s.bump Obj.CHECK_RUNS).dropDone it).commitItem f x) :=
    .commitItem (by simp) emits (.foldl .refl fun _ _ hu => .poke hu (by simp))
  have read : ∀ k, ((s.bump Obj.CHECK_RUNS).dropDone it).get k = (s.bump Obj.CHECK_RUNS).get k := State.get_congr rfl
  refine ⟨?_, ?_, ?_, ?_⟩
  · exact (ends.counts _ (by decide) (by decide)).trans ((read _).trans (State.bump_counted unsignedAt_checkCounts.1))
  · exact (ends.counts _ (by decide) (by decide)).trans ((read _).trans (State.bump_get_other (by decide) 1))
  · rw [ends.thirds, State.dropDone, bumped]
  · rw [ends.done, State.dropDone, bumped]
    exact List.filter_eq_nil_iff.2 fun d mem => by simp [done d mem]

end Sys2Proof.Machine
end

section
/-! Faults and claims that time out (04_engine_fabric.md R116, R138; 05_engine_instructions.md R190). -/

namespace Sys2Proof.Machine

variable {s u : State} {p : Fin 272} {x : Run}

/-! ## A run that is abandoned (R115, R275) -/

/-- The lease records, replaced. -/
def State.withLeases (s : State) (ls : List (Nat × Lease)) : State := { s with fab := { s.fab with leases := ls } }

/-- Two changes that leave everything outside the fabric. -/
theorem State.outside_trans {t : State} (first : { t with fab := s.fab } = s) (second : { u with fab := t.fab } = t) :
    { u with fab := s.fab } = s := by
  have both : ({ u with fab := s.fab } : State) = { ({ u with fab := t.fab } : State) with fab := s.fab } := rfl
  rw [both, second, first]

section
variable (s : State) (p : Nat) (e : Engine)

theorem State.setEngine_region (g : Nat) : (s.setEngine p e).region g = s.region g := rfl
theorem State.setEngine_reruns : (s.setEngine p e).fab.reruns = s.fab.reruns := rfl
theorem State.setEngine_outside : { s.setEngine p e with fab := s.fab } = s := rfl

end

section
variable (s : State) (ls : List (Nat × Lease))

theorem State.withLeases_self : s.withLeases s.fab.leases = s := rfl
theorem State.withLeases_outside : { s.withLeases ls with fab := s.fab } = s := rfl

theorem State.withLeases_engine (j : Nat) : (s.withLeases ls).engine j = s.engine j := rfl
theorem State.withLeases_region (g : Nat) : (s.withLeases ls).region g = s.region g := rfl
theorem State.withLeases_reruns : (s.withLeases ls).fab.reruns = s.fab.reruns := rfl

end

/-- A fold that puts lease records changes nothing else. -/
theorem State.foldl_leases {f : State → Nat × Lease → State} (put : ∀ t e, ∃ ls, f t e = t.withLeases ls)
    (es : List (Nat × Lease)) (s : State) : ∃ ls, es.foldl f s = s.withLeases ls := by
  induction es generalizing s with
  | nil => exact ⟨s.fab.leases, rfl⟩
  | cons e es ih =>
    obtain ⟨ls, one⟩ := put s e
    obtain ⟨ls', rest⟩ := ih (f s e)
    exact ⟨ls', by rw [List.foldl_cons, rest, one]; rfl⟩

/-- The lease record of one resource after engine `p` has abandoned run `x`. -/
def Lease.abandoned (p : Nat) (x : Run) (e : Nat × Lease) : Lease :=
  { e.2 with bad := e.2.bad || (e.2.holder = p && x.used.contains e.1), waiting := e.2.waiting.filter fun w => w.1 ≠ p }

/-- The region's record after engine `p` has abandoned run `x`. -/
def Region.abandoned (r : Region) (p : Nat) (x : Run) : Region :=
  { x.hists.foldl (fun (r : Region) b => r.badHist x.item.frame b) r with
    claimed := (x.hists.foldl (fun (r : Region) b => r.badHist x.item.frame b) r).claimed.filter fun c => c.2 ≠ p }

theorem Region.queue_badHist (r : Region) (n : BitVec 32) (b : Nat) : (r.badHist n b).queue = r.queue := by
  unfold Region.badHist
  split <;> rfl

theorem Region.queue_abandoned (r : Region) (p : Nat) (x : Run) : (r.abandoned p x).queue = r.queue :=
  List.foldlRecOn (motive := fun (r' : Region) => r'.queue = r.queue) x.hists _ rfl
    fun _ kept _ _ => (Region.queue_badHist ..).trans kept

theorem State.abandon_eq (run : (s.engine p).run = some x) : s.abandon p =
    (let t := (s.setRegion x.item.region ((s.region x.item.region).abandoned p x)).fab.leases.foldl
       (fun (t : State) e => t.setLease e.1 (Lease.abandoned p x e))
       (s.setRegion x.item.region ((s.region x.item.region).abandoned p x))
     t.setEngine p { t.engine p with run := none }) := by
  unfold State.abandon
  rw [run]
  rfl

/-- A RUN THAT IS ABANDONED leaves its engine idle, and every queue. -/
theorem State.abandon_leaves (run : (s.engine p).run = some x) :
    (∀ j, (s.abandon p).engine j = if j = p.val then { s.engine p with run := none } else s.engine j) ∧
    (s.abandon p).fab.reruns = s.fab.reruns ∧ (∀ g, ((s.abandon p).region g).queue = (s.region g).queue) ∧
    { s.abandon p with fab := s.fab } = s := by
  have kept := Region.queue_abandoned (s.region x.item.region) p x
  rw [State.abandon_eq run]
  generalize (s.region x.item.region).abandoned p x = r at kept
  obtain ⟨ls, marked⟩ := State.foldl_leases (f := fun t e => t.setLease e.1 (Lease.abandoned p x e)) (fun _ _ => ⟨_, rfl⟩)
    (s.setRegion x.item.region r).fab.leases (s.setRegion x.item.region r)
  dsimp only
  rw [marked, State.withLeases_engine, State.setRegion_engine]
  refine ⟨fun j => ?_, ?_, fun g => ?_, ?_⟩
  · rw [State.engine_setEngine, State.withLeases_engine, State.setRegion_engine]
  · rw [State.setEngine_reruns, State.withLeases_reruns, State.setRegion_reruns]
  · rw [State.setEngine_region, State.withLeases_region]
    exact State.region_setRegion_keeps Region.queue kept g
  · exact State.outside_trans (State.outside_trans (s.setRegion_outside ..) (State.withLeases_outside ..))
      (State.setEngine_outside ..)

/-! ## The first fault of an item (R116) -/

/-- The runs to repeat, with one more. -/
def State.withRerun (s : State) (c : Item × Nat × RunKind) : State := { s with fab := { s.fab with reruns := s.fab.reruns ++ [c] } }

section
variable (s : State) (c : Item × Nat × RunKind) (k n j : Nat)

theorem State.requeue_get (it : Item) : (s.requeue it).get k = s.get k := rfl
theorem State.withRerun_get : (s.withRerun c).get k = s.get k := rfl
theorem State.withRerun_engine : (s.withRerun c).engine j = s.engine j := rfl
theorem State.withRerun_region : (s.withRerun c).region j = s.region j := rfl
theorem State.withRerun_reruns : (s.withRerun c).fab.reruns = s.fab.reruns ++ [c] := rfl

theorem State.bump_engine : (s.bump k n).engine j = s.engine j := by
  obtain ⟨o, bumped⟩ := s.bump_frame k n
  rw [bumped, State.engine, State.engine]

theorem State.bump_region : (s.bump k n).region j = s.region j := by
  obtain ⟨o, bumped⟩ := s.bump_frame k n
  rw [bumped, State.region, State.region]

theorem State.bump_reruns : (s.bump k n).fab.reruns = s.fab.reruns := by
  obtain ⟨o, bumped⟩ := s.bump_frame k n
  rw [bumped]

end

/-- THE FIRST FAULT OF AN ITEM: it goes back to the head of its queue, and its run is to be repeated on another engine. -/
theorem State.handleFault_eq {count : Nat} (item : x.kind = .item) (first : x.first = none) :
    s.handleFault p x count = (((s.abandon p).bump count).withRerun (x.item, p.val, .item)).requeue x.item := by
  simp only [State.handleFault, item, first, if_true, State.withRerun]

/-- What counting a fault, noting the run to repeat and putting its item back leave of a state `u` that differs from `s` in the
fabric. -/
theorem State.requeued {it : Item} {count : Nat} {c : Item × Nat × RunKind} (counts : unsignedAt count 4 = true)
    (outside : { u with fab := s.fab } = s) :
    let t := ((u.bump count).withRerun c).requeue it
    (∀ j, t.engine j = u.engine j) ∧ t.fab.reruns = u.fab.reruns ++ [c] ∧
    (it.region < 64 → (t.region it.region).queue = it :: (u.region it.region).queue) ∧ Counted s t count ∧
    SameObj s t [count] ∧
    { t with fab := s.fab, obj := s.obj } = s := by
  have objs : u.obj = s.obj := by
    rw [← outside]
  have read : ∀ k, (((u.bump count).withRerun c).requeue it).get k = (u.bump count).get k := fun k => by
    rw [State.requeue_get, State.withRerun_get]
  have counted : Counted u (u.bump count) count := State.bump_counted counts
  refine ⟨fun j => ?_, ?_, fun inside => ?_, ?_, fun k other => ?_, ?_⟩
  · rw [State.requeue, State.setRegion_engine, State.withRerun_engine, State.bump_engine]
  · rw [State.requeue, State.setRegion_reruns, State.withRerun_reruns, State.bump_reruns]
  · rw [State.requeue, State.region_setRegion_same _ inside, State.withRerun_region, State.bump_region]
  · rw [Counted, read, counted, State.get_congr objs]
  · rw [read, State.bump_get_other (by simpa using other), State.get_congr objs]
  · obtain ⟨o, bumped⟩ := u.bump_frame count 1
    rw [bumped]
    exact congrArg (fun v : State => ({ v with obj := s.obj } : State)) outside

/-- The fault of a first item run, where the engine's record and the leases may have changed before. -/
theorem State.handleFault_item {count : Nat} {e : Engine} (ls : List (Nat × Lease)) (counts : unsignedAt count 4 = true)
    (run : e.run = some x) (item : x.kind = .item) (first : x.first = none) :
    let t := ((s.setEngine p e).withLeases ls).handleFault p x count
    t.engine p = { e with run := none } ∧ (∀ j, j ≠ p.val → t.engine j = s.engine j) ∧ Counted s t count ∧
    t.fab.reruns = s.fab.reruns ++ [(x.item, p.val, .item)] ∧ SameObj s t [count] ∧
    (x.item.region < 64 → (t.region x.item.region).queue = x.item :: (s.region x.item.region).queue) ∧
    { t with fab := s.fab, obj := s.obj } = s := by
  have engine : ((s.setEngine p e).withLeases ls).engine p = e := by
    rw [State.withLeases_engine, State.engine_setEngine, if_pos rfl]
  have running : (((s.setEngine p e).withLeases ls).engine p).run = some x := by rw [engine, run]
  obtain ⟨engines, reruns, queues, outside⟩ := State.abandon_leaves running
  have whole := State.outside_trans (State.outside_trans (s.setEngine_outside p e) (State.withLeases_outside _ ls)) outside
  dsimp only
  rw [State.handleFault_eq item first]
  obtain ⟨engine', reruns', queue, counted, objs, rest⟩ :=
    State.requeued (it := x.item) (c := (x.item, p.val, .item)) counts whole
  refine ⟨?_, fun j other => ?_, counted, ?_, objs, fun inside => ?_, rest⟩
  · rw [engine', engines, if_pos rfl, engine]
  · rw [engine', engines, if_neg other, State.withLeases_engine, State.engine_setEngine, if_neg other]
  · rw [reruns', reruns, State.withLeases_reruns, State.setEngine_reruns]
  · rw [queue inside, queues, State.withLeases_region, State.setEngine_region]

/-! ## ENGINE_FAULT and CLAIM_TIMEOUT (R116, R138, R190) -/

theorem State.markLeases_leases (s : State) (p : Nat) : ∃ ls, s.markLeases p = s.withLeases ls :=
  State.foldl_leases (fun t e => by
    split
    · exact ⟨_, rfl⟩
    · exact ⟨t.fab.leases, rfl⟩) s.fab.leases s

section
variable (run : (s.engine p).run = some x) (item : x.kind = .item) (first : x.first = none)
include run

theorem exec_engineFault (met : x.fault ≠ 0) : exec (.engineFault p x.fault) s = .next
    ((s.setEngine p { s.engine p with lastFault := x.fault, run := some x }).handleFault p x Obj.ENG_FAULTS) := by
  show execEngineFault p x.fault s = _
  simp [execEngineFault, run, met]

include item

theorem exec_claimTimeout (running : x.ended = false) (old : x.grant + s.nat Obj.CLAIM_ROLLS ≤ s.nat Obj.ROLL_COUNT) :
    exec (.claimTimeout p) s = .next
      (((s.setEngine p { s.engine p with lastFault := 0x50 }).markLeases p).handleFault p x Obj.CLAIM_TIMEOUTS) := by
  have late : ¬ s.nat Obj.ROLL_COUNT < x.grant + s.nat Obj.CLAIM_ROLLS := by omega
  show execClaimTimeout p s = _
  simp [execClaimTimeout, run, item, running, late]

end

/-- Settles O21: what the end of an item leaves (`State.EndLeaves`) gives the commit and the comparison, and
`State.handleFault_item` the two faults. -/
theorem runsCommitCompareFaultAndTimeOut : Obligations.RunsCommitCompareFaultAndTimeOut := by
  have faults : unsignedAt Obj.ENG_FAULTS 4 = true := by decide
  have timeouts : unsignedAt Obj.CLAIM_TIMEOUTS 4 = true := by decide
  refine ⟨fun p us x f s run kind fault ended leasing here _ =>
      ⟨_, exec_itemCommit_frameEntry run fault ended leasing here kind, ?entry⟩,
    fun p us x f o v s run kind fault ended leasing here first unchecked calm writes ho emits hg =>
      ⟨_, exec_itemCommit_item run fault ended leasing here kind first unchecked, ?commit⟩,
    fun g row d c f s done primary check same region hrow here differ _ emits unended =>
      ⟨_, exec_checkCompare done primary check same region hrow here unended, ?differ⟩,
    fun g row d c f s done primary check same region hrow here equal _ emits unended =>
      ⟨_, exec_checkCompare done primary check same region hrow here unended, ?equal⟩,
    fun p x code s run item fault met first => ?fault,
    fun p x s run item running first old => ⟨_, exec_claimTimeout run item running old, ?timeout⟩⟩
  case entry =>
    obtain ⟨fab, idle⟩ := s.idle_frame p x
    refine ⟨(s.idle_engine p x p).trans (if_pos rfl), fun j other => (s.idle_engine p x j).trans (if_neg other), ?_⟩
    rw [idle]
  case commit =>
    have place : fstBase x.item.region + o < tableBase := by simp only [fstBase, tableBase]; omega
    obtain ⟨byte, engines⟩ := State.commitItem_byte emits writes ((s.idle_frame? p x _).trans calm) place
    refine ⟨?_, byte⟩
    rw [State.engine, engines, ← State.engine, State.idle_engine, if_pos rfl]
  case differ =>
    rw [if_neg differ]
    exact State.compared_differ emits _
  case equal =>
    rw [if_pos equal]
    exact State.compared_equal emits (by simp [done, same])
  case fault =>
    subst fault
    have handled := State.handleFault_item (s := s) (p := p) (e := { s.engine p with lastFault := x.fault, run := some x })
      (s.setEngine p { s.engine p with lastFault := x.fault, run := some x }).fab.leases faults rfl item first
    rw [State.withLeases_self] at handled
    obtain ⟨engine, others, counted, reruns, objs, queue, rest⟩ := handled
    exact ⟨_, exec_engineFault run met, by rw [engine], by rw [engine], counted, reruns, others, queue, objs, rest⟩
  case timeout =>
    obtain ⟨ls, marked⟩ := (s.setEngine p { s.engine p with lastFault := 0x50 }).markLeases_leases p
    rw [marked]
    obtain ⟨engine, -, counted, reruns, objs, queue, rest⟩ := State.handleFault_item (s := s) (p := p)
      (e := { s.engine p with lastFault := 0x50 }) ls timeouts run item first
    exact ⟨by rw [engine], by rw [engine], counted, reruns, objs, queue, rest⟩

end Sys2Proof.Machine
end

section
/-! What the engine instructions' proofs need of an engine's registers and of issue (05_engine_instructions.md R144, R147, R149,
R151, R155, R162, R190). -/

namespace Sys2Proof.Machine

/-! ## Fields and registers (R10, R147, R149) -/

theorem bits_lt (w hi lo : Nat) : bits w hi lo < 2 ^ (hi + 1 - lo) := Nat.mod_lt _ (Nat.two_pow_pos _)

theorem Vector.getD_toList_setIfInBounds {α : Type} {n : Nat} (v : Vector α n) (x d : α) {i : Nat} (h : i < n) (j : Nat) :
    (v.setIfInBounds i x).toList.getD j d = if j = i then x else v.toList.getD j d := by
  rw [Vector.toList_setIfInBounds, List.getD_eq_getElem?_getD, List.getElem?_set]
  by_cases same : i = j
  · subst same
    simp [h]
  · rw [if_neg same, if_neg (Ne.symm same), List.getD_eq_getElem?_getD]

section
variable (e : Engine) {i k : Nat}

theorem Engine.sr_putS (h : i < 16) (v : Word) (j : Nat) : (e.putS i v).sr j = if j = i then v else e.sr j :=
  Vector.getD_toList_setIfInBounds e.s v 0 h j

theorem Engine.vr_putV (h : i < 32) (r : VReg) (j : Nat) : (e.putV i r).vr j = if j = i then r else e.vr j :=
  Vector.getD_toList_setIfInBounds e.v r {} h j

/-- A WRITE TO A MASK: M0 reads all ones and takes no write. -/
theorem Engine.mask_putMask (h : k < 8) (v : Word) (j : Nat) :
    (e.putMask k v).mask j = if j = k ∧ k ≠ 0 then v else e.mask j := by
  unfold Engine.putMask Engine.mask
  by_cases m0 : k = 0
  · simp [m0]
  · rw [if_neg m0]
    by_cases j0 : j = 0
    · rw [if_pos j0, if_pos j0, if_neg (by omega)]
    · rw [if_neg j0, if_neg j0, Vector.getD_toList_setIfInBounds e.m v 0 h]
      simp [m0]

theorem Engine.putMask_frame (k : Nat) (v : Word) : ∃ m, e.putMask k v = { e with m := m } := by
  unfold Engine.putMask
  split
  · exact ⟨e.m, rfl⟩
  · exact ⟨_, rfl⟩

theorem Engine.putFlag_frame (i : Nat) (b : Bool) : ∃ fl, e.putFlag i b = { e with fl := fl } := ⟨_, rfl⟩

/-- PUTTING A FLAG leaves the others. -/
theorem Engine.flag_putFlag (h : i < 32) (b : Bool) (j : Nat) : (e.putFlag i b).flag j = if j = i then b else e.flag j := by
  unfold Engine.putFlag Engine.flag
  by_cases wide : j < 32
  · rw [BitVec.getLsbD_ofNat, testBit_putBit, decide_eq_true wide, Bool.true_and, BitVec.testBit_toNat]
  · rw [BitVec.getLsbD_of_ge _ _ (by omega), BitVec.getLsbD_of_ge _ _ (by omega), if_neg (by omega)]

end

/-! ## Instructions that change nothing but registers -/

section
variable {s t u : State}

theorem RegistersOnly.eq (h : RegistersOnly s t) :
    { t with fab := { t.fab with engines := s.fab.engines }, rolls := s.rolls } = s := h

theorem RegistersOnly.trans (first : RegistersOnly s t) (second : RegistersOnly t u) : RegistersOnly s u := by
  have both : { u with fab := { u.fab with engines := s.fab.engines }, rolls := s.rolls } =
      { ({ u with fab := { u.fab with engines := t.fab.engines }, rolls := t.rolls } : State) with
        fab := { u.fab with engines := s.fab.engines }, rolls := s.rolls } := rfl
  have fab : ({ u.fab with engines := t.fab.engines } : Fabric) = t.fab := (congrArg State.fab (RegistersOnly.eq second) :)
  have swap : ({ u.fab with engines := s.fab.engines } : Fabric) =
      { ({ u.fab with engines := t.fab.engines } : Fabric) with engines := s.fab.engines } := rfl
  unfold RegistersOnly at *
  rw [both, second, swap, fab, first]

theorem RegistersOnly.setEngine (s : State) (p : Nat) (e : Engine) : RegistersOnly s (s.setEngine p e) := rfl

theorem RegistersOnly.obj (h : RegistersOnly s t) : t.obj = s.obj := (congrArg State.obj (RegistersOnly.eq h) :)
theorem RegistersOnly.mem (h : RegistersOnly s t) : t.mem = s.mem := (congrArg State.mem (RegistersOnly.eq h) :)
theorem RegistersOnly.banks (h : RegistersOnly s t) : t.banks = s.banks := (congrArg State.banks (RegistersOnly.eq h) :)
theorem RegistersOnly.dict (h : RegistersOnly s t) : t.dict = s.dict := (congrArg State.dict (RegistersOnly.eq h) :)
theorem RegistersOnly.leases (h : RegistersOnly s t) : t.fab.leases = s.fab.leases :=
  (congrArg (·.fab.leases) (RegistersOnly.eq h) :)

theorem RegistersOnly.byte (h : RegistersOnly s t) (a : Nat) : t.byte a = s.byte a := by
  rw [State.byte, State.byte, RegistersOnly.mem h]

theorem RegistersOnly.lease (h : RegistersOnly s t) (r : Nat) : t.lease r = s.lease r := by
  rw [State.lease, State.lease, RegistersOnly.leases h]

/-- What lies outside the fabric and the budgets, where the state `t` of the body has left it. -/
theorem RegistersOnly.outside (h : RegistersOnly t u) (body : { t with fab := s.fab, rolls := s.rolls } = s) :
    { u with fab := s.fab, rolls := s.rolls } = s := by
  have both : ({ u with fab := s.fab, rolls := s.rolls } : State) =
      { ({ u with fab := { u.fab with engines := t.fab.engines }, rolls := t.rolls } : State) with
        fab := s.fab, rolls := s.rolls } := rfl
  rw [both, RegistersOnly.eq h, body]

end

/-- An engine put back as it is. -/
theorem State.setEngine_self (s : State) (p : Fin 272) : s.setEngine p (s.engine p) = s := by
  have same : s.fab.engines.setIfInBounds p (s.engine p) = s.fab.engines := by
    refine Vector.ext fun i hi => ?_
    rw [Vector.getElem_setIfInBounds]
    split
    · next here =>
      subst here
      simp [State.engine]
    · rfl
  rw [State.setEngine, same]

/-! ## The way of a run (R151, R163) -/

/-- The registers `e'` stand where `e` stands: at the same PC, call depth and loops. -/
def Engine.OnPath (e e' : Engine) : Prop := e'.pc = e.pc ∧ e'.calls = e.calls ∧ e'.loops = e.loops

theorem Engine.OnPath.advance {e e' : Engine} (h : e.OnPath e') : (e'.advance e.pc).pc = (e.advance e.pc).pc := by
  obtain ⟨-, calls, loops⟩ := h
  unfold Engine.advance
  rw [loops, calls]
  cases e.loops with
  | nil => rfl
  | cons l rest =>
    dsimp only
    split
    · split <;> rfl
    · rfl

/-- The new run of an engine that goes on executes the same slot and has not ended. -/
def Run.OnPath (x x' : Run) : Prop := x'.slot = x.slot ∧ x'.ended = x.ended

/-! ## What an issued instruction does (R144, R155, R190) -/

/-- Engine `p` has the registers `e'`, every other engine those of `s`, and `t` differs from `u` in engines and budgets alone. -/
def Becomes (s u t : State) (p : Fin 272) (e' : Engine) : Prop :=
  t.engine p = e' ∧ (∀ j, j ≠ p.val → t.engine j = s.engine j) ∧ RegistersOnly u t

section
variable {s u : State} {p : Fin 272} {op : Nat} {f : BitVec 26} {e e' : Engine} {x x' : Run} {cycles : Nat}
  {takes legal : Bool} {body : Engine → Run → Eff}

/-- The word of an engine that issues lies in the program. -/
theorem State.issues_inProgram (h : s.issues p op f = some (e, x)) : s.inProgram x.slot e.pc = true := by
  unfold State.issues at h
  dsimp only at h
  split at h
  · cases h
  · split at h
    · next ready =>
      obtain ⟨rfl, rfl⟩ := Prod.mk.inj (Option.some.inj h)
      simp only [Bool.and_eq_true] at ready
      exact ready.1.2
    · cases h

/-- An instruction with sticks, or after its PFX word, and of a legal form reaches its body. -/
theorem State.instr_retires (hi : s.issues p op f = some (e, x))
    (sticks : x.pfx?.isSome = true ∨ s.maySpend ((s.regionOfEngine p).getD 0) x.kind.cls = true)
    (prefixed : x.pfx? = none ∨ takes = true) (hl : legal = true) :
    s.instr p op f cycles takes legal body = State.retire (body e x) p e.pc cycles true := by
  have go : (x.pfx?.isNone && !s.maySpend ((s.regionOfEngine p).getD 0) x.kind.cls) = false := by
    rcases sticks with h | h
    · simp [Option.isNone_eq_false_iff.2 h]
    · simp [h]
  have ok : ((x.pfx?.isSome && !takes) || !legal) = false := by
    rcases prefixed with h | h <;> simp [h, hl]
  simp [State.instr, hi, go, ok]

/-- AN INSTRUCTION THAT GOES ON to an address of the program, from the state `u` that its body leaves. -/
theorem State.instr_goesOn (hi : s.issues p op f = some (e, x))
    (sticks : x.pfx?.isSome = true ∨ s.maySpend ((s.regionOfEngine p).getD 0) x.kind.cls = true)
    (prefixed : x.pfx? = none ∨ takes = true) (hl : legal = true) (hb : body e x = (u, .next))
    (engines : ∀ j, u.engine j = if j = p.val then e' else s.engine j) (run : e'.run = some x') (going : x'.ended = false)
    (inside : u.inProgram x'.slot (e'.advance e.pc).pc = true) :
    Becomes s u (s.instr p op f cycles takes legal body) p
      { e'.advance e.pc with icount := e'.icount + 1, run := some { x' with pfx? := none } } := by
  obtain ⟨r, eq⟩ := State.instr_next (cycles := cycles) hi sticks prefixed hl hb ((engines p).trans (if_pos rfl)) run going inside
  rw [eq]
  refine ⟨(u.engine_setEngine p _ p).trans (if_pos rfl), fun j other => (u.engine_setEngine p _ j).trans ?_, rfl⟩
  rw [if_neg other, engines j, if_neg other]

/-- An issued instruction that stays on the way of its run: its body leaves the state `u` with the registers `e'` in the run `x'`. -/
theorem Issues.goesOn (h : Issues s p op f e x) (prefixed : x.pfx? = none ∨ takes = true) (hl : legal = true)
    (hb : body e x = (u, .next)) (engines : ∀ j, u.engine j = if j = p.val then e' else s.engine j)
    (run : e'.run = some x') (path : e.OnPath e') (way : x.OnPath x') (prog : u.slotLen x.slot = s.slotLen x.slot) :
    GoesOn s (s.instr p op f cycles takes legal body) p e' x' ∧ RegistersOnly u (s.instr p op f cycles takes legal body) := by
  obtain ⟨hi, sticks, inside⟩ := h
  obtain ⟨-, -, going, -⟩ := State.issues_run hi
  have inside' : u.inProgram x'.slot (e'.advance e.pc).pc = true := by
    rw [State.inProgram, way.1, path.advance, prog, ← inside, State.inProgram]
  obtain ⟨own, others, only⟩ := State.instr_goesOn (cycles := cycles) hi sticks prefixed hl hb engines run (way.2.trans going) inside'
  exact ⟨⟨by rw [own, path.1], others⟩, only⟩

/-- An instruction whose body leaves every engine as it is. -/
theorem Issues.keeps (h : Issues s p op f e x) (prefixed : x.pfx? = none ∨ takes = true) (hl : legal = true)
    (hb : body e x = (u, .next)) (engines : ∀ j, u.engine j = s.engine j) (prog : u.slotLen x.slot = s.slotLen x.slot) :
    GoesOn s (s.instr p op f cycles takes legal body) p e x ∧ RegistersOnly u (s.instr p op f cycles takes legal body) := by
  obtain ⟨own, run, -, -⟩ := State.issues_run h.1
  refine Issues.goesOn h prefixed hl hb (fun j => (engines j).trans ?_) run ⟨rfl, rfl, rfl⟩ ⟨rfl, rfl⟩ prog
  split
  · next here => rw [here, own]
  · rfl

/-- An instruction that puts the registers `e'` and goes on. -/
theorem Issues.registers (h : Issues s p op f e x) (prefixed : x.pfx? = none ∨ takes = true) (hl : legal = true)
    (hb : body e x = (s.setEngine p e', .next)) (run : e'.run = some x')
    (path : e.OnPath e' := by exact ⟨rfl, rfl, rfl⟩) (way : x.OnPath x' := by exact ⟨rfl, rfl⟩) :
    GoesOn s (s.instr p op f cycles takes legal body) p e' x' ∧ RegistersOnly s (s.instr p op f cycles takes legal body) := by
  obtain ⟨goes, only⟩ := Issues.goesOn h (cycles := cycles) prefixed hl hb (s.engine_setEngine p e') run path way rfl
  exact ⟨goes, RegistersOnly.trans (RegistersOnly.setEngine s p e') only⟩

/-- An instruction that changes its run alone. -/
theorem Issues.mapsRun (h : Issues s p op f e x) (prefixed : x.pfx? = none ∨ takes = true) (hl : legal = true) {g : Run → Run}
    (hb : body e x = (s.mapRun p g, .next)) (way : x.OnPath (g x) := by exact ⟨rfl, rfl⟩) :
    GoesOn s (s.instr p op f cycles takes legal body) p { e with run := some (g x) } (g x) ∧
      RegistersOnly s (s.instr p op f cycles takes legal body) := by
  obtain ⟨own, run, -, -⟩ := State.issues_run h.1
  have changed : s.mapRun p g = s.setEngine p { e with run := some (g x) } := by
    rw [State.mapRun, own, run]
    rfl
  exact Issues.registers h prefixed hl (hb.trans (by rw [changed])) rfl ⟨rfl, rfl, rfl⟩ way

/-- An instruction that leaves the state as it is and goes on. -/
theorem Issues.idles (h : Issues s p op f e x) (prefixed : x.pfx? = none ∨ takes = true) (hl : legal = true)
    (hb : body e x = (s, .next)) :
    GoesOn s (s.instr p op f cycles takes legal body) p e x ∧ RegistersOnly s (s.instr p op f cycles takes legal body) := by
  exact Issues.keeps h prefixed hl hb (fun _ => rfl) rfl

/-- An instruction of `regInstr` that answers the registers `e'`. -/
theorem Issues.regInstr {regs : Engine → Run → Except Nat Engine} (h : Issues s p op f e x)
    (prefixed : x.pfx? = none ∨ takes = true) (hl : legal = true) (hb : regs e x = .ok e') (run : e'.run = e.run)
    (path : e.OnPath e') :
    GoesOn s (s.regInstr p op f cycles takes legal regs) p e' x ∧
      RegistersOnly s (s.regInstr p op f cycles takes legal regs) := by
  obtain ⟨-, running, -, -⟩ := State.issues_run h.1
  exact Issues.registers h prefixed hl (by simp only [hb]) (run.trans running) path ⟨rfl, rfl⟩

/-- THE ENGINE GOES ON after an instruction whose body leaves the state `u`, or stops where its run has ended. -/
theorem State.retire_next {pc : Nat} {counts : Bool} (own : u.engine p = e') (run : e'.run = some x')
    (inside : (x'.ended || u.inProgram x'.slot (e'.advance pc).pc) = true) :
    Becomes u u (State.retire (u, .next) p pc cycles counts) p { (if x'.ended then e' else e'.advance pc) with
      icount := e'.icount + (if counts then 1 else 0), run := some (if counts then { x' with pfx? := none } else x') } := by
  have moved : State.retire (u, .next) p pc cycles counts = (u.setEngine p { (if x'.ended then e' else e'.advance pc) with
      icount := e'.icount + (if counts then 1 else 0), run := some (if counts then { x' with pfx? := none } else x') }).spend
        ((u.regionOfEngine p).getD 0) x'.kind.cls cycles := by
    unfold State.retire
    cases ended : x'.ended <;> simp only [ended, Bool.false_or, Bool.true_or] at inside
    · simp only [own, run, ended, Bool.false_eq_true, if_false, Bool.false_or, inside, if_true, Engine.advance_icount]
    · simp only [own, run, ended, if_true, Bool.true_or]
  rw [moved]
  obtain ⟨r, eq⟩ := State.spend_frame (u.setEngine p _) ((u.regionOfEngine p).getD 0) x'.kind.cls cycles
  rw [eq]
  exact ⟨(u.engine_setEngine p _ p).trans (if_pos rfl), fun j other => (u.engine_setEngine p _ j).trans (if_neg other), rfl⟩

/-- A TAKEN BRANCH into the program, not to the second word of a pair. -/
theorem State.instr_jumps {target : Nat} (hi : s.issues p op f = some (e, x)) (plain : x.pfx? = none)
    (sticks : s.maySpend ((s.regionOfEngine p).getD 0) x.kind.cls = true) (hl : legal = true)
    (hb : body e x = (s.setEngine p e', .jump target)) (run : e'.run = some x) (inside : s.inProgram x.slot target = true)
    (whole : s.pairSecond x.slot target = false) :
    Becomes s s (s.instr p op f cycles takes legal body) p { e' with pc := target, icount := e'.icount + 1 } := by
  have own : (s.setEngine p e').engine p = e' := (s.engine_setEngine p e' p).trans (if_pos rfl)
  have jumped : ∃ r, s.instr p op f cycles takes legal body = { (s.setEngine p e').setEngine p
      { e' with pc := target, icount := e'.icount + 1, run := some { x with pfx? := none } } with rolls := r } := by
    rw [State.instr_retires hi (.inr sticks) (.inl plain) hl, hb, State.retire]
    simp only [own, run, show (s.setEngine p e').inProgram x.slot target = true from inside,
      show (s.setEngine p e').pairSecond x.slot target = false from whole, Bool.not_false, Bool.and_self, if_true]
    exact State.spend_frame _ _ _ _
  obtain ⟨r, eq⟩ := jumped
  rw [eq]
  refine ⟨((s.setEngine p e').engine_setEngine p _ p).trans ?_, fun j other => ?_, rfl⟩
  · rw [if_pos rfl, ← plain, ← run]
  · refine ((s.setEngine p e').engine_setEngine p _ j).trans ?_
    rw [if_neg other, s.engine_setEngine, if_neg other]

/-- AN INSTRUCTION THAT FAULTS without effect: the run keeps its registers and its code (R190). -/
theorem State.instr_faults {code : Nat} (hi : s.issues p op f = some (e, x)) (plain : x.pfx? = none)
    (sticks : s.maySpend ((s.regionOfEngine p).getD 0) x.kind.cls = true) (hl : legal = true)
    (hb : body e x = Eff.fail s code) :
    Becomes s s (s.instr p op f cycles takes legal body) p
      { e with lastFault := code, run := some { x with fault := code } } := by
  obtain ⟨own, run, -, -⟩ := State.issues_run hi
  have faulted : s.instr p op f cycles takes legal body =
      s.setEngine p { e with lastFault := code, run := some { x with fault := code } } := by
    rw [State.instr_retires hi (.inr sticks) (.inl plain) hl, hb]
    change s.faultRun p code = _
    rw [State.faultRun, own, run]
    rfl
  rw [faulted]
  exact ⟨(s.engine_setEngine p _ p).trans (if_pos rfl), fun j other => (s.engine_setEngine p _ j).trans (if_neg other), rfl⟩

end

end Sys2Proof.Machine
end

section
/-! Scalar arithmetic, moves and control flow of the engines (05_engine_instructions.md R149, R153, R154, R160-R164). -/

namespace Sys2Proof.Machine

variable {s : State} {p : Fin 272} {op : Nat} {f : BitVec 26} {e : Engine} {x : Run}

/-! ## The result of a scalar instruction (R149, R160) -/

section
variable (e : Engine) (d : Option Nat) (r : Word) (c v : Option Bool)

/-- A flag that an instruction puts, or leaves. -/
def Engine.putFlag? (e : Engine) (i : Nat) : Option Bool → Engine
  | some b => e.putFlag i b
  | none => e

/-- A register that an instruction puts, or none. -/
def Engine.putS? (e : Engine) (v : Word) : Option Nat → Engine
  | some i => e.putS i v
  | none => e

/-- The registers after a scalar instruction: the result in its register, Z and N, and C and V where they are given. -/
def Engine.scalarResult : Engine := (((e.flagsZN r).putFlag? flC c).putFlag? flV v).putS? r d

theorem Engine.flagsZN_eq (r : Word) : e.flagsZN r = e.scalarResult none r none none := rfl

theorem Engine.flagsShift_eq (r : Word) (c : Bool) : (e.flagsZN r).putFlag flC c = e.scalarResult none r (some c) none := rfl

theorem Engine.flagsAdd_eq (a b : Word) : e.flagsAdd a b = e.scalarResult none (a + b)
    (some (decide (2 ^ 32 ≤ a.toNat + b.toNat))) (some (decide (a.toInt + b.toInt ≠ (a + b).toInt))) := rfl

theorem Engine.flagsSub_eq (a b : Word) : e.flagsSub a b = e.scalarResult none (a - b)
    (some (decide (b.toNat ≤ a.toNat))) (some (decide (a.toInt - b.toInt ≠ (a - b).toInt))) := rfl

theorem Engine.flag_putFlag? {i : Nat} (h : i < 32) (b : Option Bool) (j : Nat) :
    (e.putFlag? i b).flag j = if j = i then b.getD (e.flag i) else e.flag j := by
  cases b with
  | some b => exact e.flag_putFlag h b j
  | none =>
    split
    · next same => rw [same]; rfl
    · rfl

theorem Engine.putFlag?_frame (i : Nat) (b : Option Bool) : ∃ fl, e.putFlag? i b = { e with fl := fl } := by
  cases b with
  | some b => exact ⟨_, rfl⟩
  | none => exact ⟨e.fl, rfl⟩

theorem Engine.flags_frame : ∃ fl, ((e.flagsZN r).putFlag? flC c).putFlag? flV v = { e with fl := fl } := by
  have zn : ∃ fl, e.flagsZN r = { e with fl := fl } := ⟨_, rfl⟩
  obtain ⟨a, zn⟩ := zn
  rw [zn]
  obtain ⟨b, carry⟩ := Engine.putFlag?_frame { e with fl := a } flC c
  rw [carry]
  exact Engine.putFlag?_frame { e with fl := b } flV v

theorem Engine.scalarResult_frame : ∃ ss fl, e.scalarResult d r c v = { e with s := ss, fl := fl } := by
  obtain ⟨fl, flags⟩ := e.flags_frame r c v
  rw [Engine.scalarResult, flags]
  cases d with
  | some i => exact ⟨_, fl, rfl⟩
  | none => exact ⟨e.s, fl, rfl⟩

theorem Engine.sr_scalarResult (hd : ∀ i, d = some i → i < 16) (i : Nat) :
    (e.scalarResult d r c v).sr i = if some i = d then r else e.sr i := by
  obtain ⟨fl, flags⟩ := e.flags_frame r c v
  rw [Engine.scalarResult, flags]
  cases d with
  | none => rfl
  | some k =>
    rw [Engine.putS?, Engine.sr_putS _ (hd k rfl)]
    simp only [Option.some.injEq]
    rfl

theorem Engine.flag_scalarResult (i : Nat) : (e.scalarResult d r c v).flag i =
    if i = 3 then v.getD (e.flag 3) else if i = 2 then c.getD (e.flag 2) else
    if i = 1 then r.msb else if i = 0 then decide (r = 0) else e.flag i := by
  have kept (e' : Engine) : (e'.putS? r d).flag i = e'.flag i := by cases d <;> rfl
  have put (e' : Engine) {k : Nat} (h : k < 32) (b : Bool) := e'.flag_putFlag h b
  have put? (e' : Engine) {k : Nat} (h : k < 32) (b : Option Bool) := e'.flag_putFlag? h b
  simp [Engine.scalarResult, Engine.flagsZN, kept, put, put?, flZ, flN, flC, flV]

end

theorem Issues.scalarDone {d : Option Nat} {b r : Word} {c v : Option Bool} {legal : Bool} {g : Engine → Nat → Word → Word → Engine}
    (h : Issues s p op f e x) (operand : e.srOperand x f.toNat = some b) (prefixed : bit f.toNat 25 = true ∨ x.pfx? = none)
    (hl : legal = true)
    (result : g e (bits f.toNat 24 21) (e.sr (bits f.toNat 20 17)) b = e.scalarResult d r c v) (hd : ∀ i, d = some i → i < 16) :
    ScalarDone s (s.scalarOp p op f legal g) p e x d r c v := by
  obtain ⟨ss, fl, frame⟩ := e.scalarResult_frame d r c v
  have flag := e.flag_scalarResult d r c v
  have done : GoesOn s (s.scalarOp p op f legal g) p (e.scalarResult d r c v) x ∧ RegistersOnly s (s.scalarOp p op f legal g) :=
    Issues.regInstr h prefixed.symm hl (by simp only [operand, result]) (by rw [frame]) (by rw [frame]; exact ⟨rfl, rfl, rfl⟩)
  obtain ⟨goes, only⟩ := done
  refine ⟨_, goes, only, by rw [frame], fun i _ => e.sr_scalarResult d r c v hd i, by simp [flag], by simp [flag], by simp [flag],
    by simp [flag], fun i hi => ?_⟩
  rw [flag, if_neg (by omega), if_neg (by omega), if_neg (by omega), if_neg (by omega)]

/-- Settles O24: each instruction's registers are a `scalarResult`, whose flags and registers are read once for all. -/
theorem scalarArithmeticAndFlags : Obligations.ScalarArithmeticAndFlags := by
  intro p f e x b s operand prefixed
  have sd : ∀ i, some (bits f.toNat 24 21) = some i → i < 16 := fun i h => Option.some.inj h ▸ bits_lt _ 24 21
  refine ⟨fun h => ⟨_, rfl, ?_⟩, fun h => ⟨_, rfl, ?_⟩, fun h => ⟨_, rfl, ?_⟩, fun h => ⟨_, rfl, ?_⟩, fun h => ⟨_, rfl, ?_⟩,
    fun h => ⟨_, rfl, ?_⟩, fun h zero => ⟨_, rfl, ?_⟩⟩
  case refine_7 => exact Issues.scalarDone h operand prefixed (decide_eq_true zero) (e.flagsSub_eq _ _) nofun
  case refine_1 => exact Issues.scalarDone h operand prefixed rfl (congrArg (Engine.putS · _ _) (e.flagsAdd_eq _ _)) sd
  case refine_2 => exact Issues.scalarDone h operand prefixed rfl (congrArg (Engine.putS · _ _) (e.flagsSub_eq _ _)) sd
  case refine_3 => exact Issues.scalarDone h operand prefixed rfl (congrArg (Engine.putS · _ _) (e.flagsZN_eq _)) sd
  case refine_4 => exact Issues.scalarDone h operand prefixed rfl (congrArg (Engine.putS · _ _) (e.flagsZN_eq _)) sd
  case refine_5 => exact Issues.scalarDone h operand prefixed rfl (congrArg (Engine.putS · _ _) (e.flagsShift_eq _ _)) sd
  case refine_6 => exact Issues.scalarDone h operand prefixed rfl (congrArg (Engine.putS · _ _) (e.flagsShift_eq _ _)) sd

/-! ## Moves (R154, R161) -/

/-- An instruction that puts one scalar register and leaves the flags. -/
theorem Issues.putsScalar {d cycles : Nat} {v : Word} {takes legal : Bool} {regs : Engine → Run → Except Nat Engine}
    (h : Issues s p op f e x) (prefixed : x.pfx? = none ∨ takes = true) (hl : legal = true) (hd : d < 16)
    (hb : regs e x = .ok (e.putS d v)) : ∃ e', GoesOn s (s.regInstr p op f cycles takes legal regs) p e' x ∧
      RegistersOnly s (s.regInstr p op f cycles takes legal regs) ∧ { e' with s := e.s } = e ∧
      ∀ i, i < 16 → e'.sr i = if i = d then v else e.sr i := by
  obtain ⟨goes, only⟩ := Issues.regInstr (cycles := cycles) h prefixed hl hb rfl ⟨rfl, rfl, rfl⟩
  exact ⟨_, goes, only, rfl, fun i _ => e.sr_putS hd v i⟩

theorem State.smovKind_scalar {k : Nat} (kind : bits f.toNat 16 13 = k)
    (form : k = 0 ∧ bits f.toNat 12 0 = 0 ∨ k = 1 ∧ bits f.toNat 12 0 = 0x70 ∨ k = 5 ∧ bits f.toNat 9 0 = 0) :
    s.smovKind p e x f.toNat = .ok (e.putS (bits f.toNat 24 21)
      (if bits f.toNat 16 13 = 0 then e.sr (bits f.toNat 20 17) else if bits f.toNat 16 13 = 1 then e.evp
        else e.mask (bits f.toNat 12 10))) := by
  unfold State.smovKind
  rcases form with ⟨rfl, zero⟩ | ⟨rfl, index⟩ | ⟨rfl, zero⟩
  · simp [kind, zero]
  · have parts : bits f.toNat 3 0 = 0 ∧ bits f.toNat 12 4 = 7 := by
      simp only [bits, Nat.shiftRight_eq_div_pow] at index ⊢
      omega
    simp [kind, parts, State.special]
  · simp [kind, zero]

theorem exec_smov_putsMask (h : Issues s p 0x00 f e x) (register : bit f.toNat 25 = false) (plain : x.pfx? = none)
    (kind : bits f.toNat 16 13 = 6) (zero : bits f.toNat 9 0 = 0) :
    Gives (.smov p f) s fun t => ∃ e', GoesOn s t p e' x ∧ RegistersOnly s t ∧ { e' with m := e.m } = e ∧ ∀ k, k < 8 →
      e'.mask k = if k = 0 then 0xFFFFFFFF else if k = bits f.toNat 12 10 then e.sr (bits f.toNat 20 17) else e.mask k := by
  obtain ⟨m, frame⟩ := e.putMask_frame (bits f.toNat 12 10) (e.sr (bits f.toNat 20 17))
  have masks := e.mask_putMask (bits_lt f.toNat 12 10) (e.sr (bits f.toNat 20 17))
  have moved : Gives (.smov p f) s fun t =>
      GoesOn s t p (e.putMask (bits f.toNat 12 10) (e.sr (bits f.toNat 20 17))) x ∧ RegistersOnly s t :=
    ⟨_, rfl, Issues.regInstr h (.inl plain) rfl (by simp [register, State.smovKind, kind, zero]) (by rw [frame])
      (by rw [frame]; exact ⟨rfl, rfl, rfl⟩)⟩
  obtain ⟨t, eq, goes, only⟩ := moved
  refine ⟨t, eq, _, goes, only, by rw [frame], fun k _ => (masks k).trans ?_⟩
  by_cases m0 : k = 0
  · rw [if_pos m0, if_neg (by omega), m0]
    rfl
  · rw [if_neg m0]
    exact if_congr ⟨And.left, fun same => ⟨same, same ▸ m0⟩⟩ rfl rfl

/-! ## Branches and loops (R162, R163) -/

/-- SBR's form: bit 13 reserved, a condition of R162, MSEL for the conditions on a mask alone. -/
theorem sbr_legal (reserved : bit f.toNat 13 = false) (code : bits f.toNat 25 22 < 14)
    (mask : bits f.toNat 25 22 = 9 ∨ bits f.toNat 25 22 = 10 ∨ bits f.toNat 16 14 = 0) :
    (!bit f.toNat 13 && bits f.toNat 25 22 < 14 &&
      (bits f.toNat 25 22 = 9 || bits f.toNat 25 22 = 10 || bits f.toNat 16 14 = 0)) = true := by
  simp [reserved, code, mask, or_assoc]

section
variable (plain : x.pfx? = none) (sticks : s.maySpend ((s.regionOfEngine p).getD 0) x.kind.cls = true)
include plain sticks

theorem exec_sbr_taken {target : Nat} (hi : s.issues p 0x08 f = some (e, x)) (reserved : bit f.toNat 13 = false)
    (code : bits f.toNat 25 22 < 14) (mask : bits f.toNat 25 22 = 9 ∨ bits f.toNat 25 22 = 10 ∨ bits f.toNat 16 14 = 0)
    (taken : e.cond (bits f.toNat 25 22) (bits f.toNat 16 14) = some true)
    (goal : target = if bit f.toNat 21 then (e.sr (bits f.toNat 20 17)).toNat % 8192 else bits f.toNat 12 0)
    (inside : s.inProgram x.slot target = true) (whole : s.pairSecond x.slot target = false) :
    Gives (.sbr p f) s fun t => t.engine p = { e with pc := target, icount := e.icount + 1, loops := leaveLoops target e.loops } ∧
      (∀ j, j ≠ p.val → t.engine j = s.engine j) ∧ RegistersOnly s t := by
  obtain ⟨-, run, -, -⟩ := State.issues_run hi
  exact ⟨_, rfl, State.instr_jumps (e' := { e with loops := leaveLoops target e.loops }) hi plain sticks
    (sbr_legal reserved code mask) (by simp only [taken, goal]) run inside whole⟩

theorem exec_sbr_notTaken (hi : s.issues p 0x08 f = some (e, x)) (reserved : bit f.toNat 13 = false)
    (code : bits f.toNat 25 22 < 14) (mask : bits f.toNat 25 22 = 9 ∨ bits f.toNat 25 22 = 10 ∨ bits f.toNat 16 14 = 0)
    (passed : e.cond (bits f.toNat 25 22) (bits f.toNat 16 14) = some false)
    (inside : s.inProgram x.slot (e.advance e.pc).pc = true) :
    Gives (.sbr p f) s fun t => GoesOn s t p e x ∧ RegistersOnly s t :=
  ⟨_, rfl, Issues.idles ⟨hi, .inr sticks, inside⟩ (.inl plain) (sbr_legal reserved code mask) (by simp only [passed])⟩

end

/-- SLOOP's count: COUNT, or Sa's low half (R163). -/
def SloopCount (f : BitVec 26) (e : Engine) (n : Nat) : Prop :=
  bit f.toNat 25 = true ∧ n = bits f.toNat 24 13 ∨
    bit f.toNat 25 = false ∧ bits f.toNat 24 21 = 0 ∧ bits f.toNat 16 13 = 0 ∧ n = (e.sr (bits f.toNat 20 17)).toNat % 65536

theorem SloopCount.legal {n : Nat} (h : SloopCount f e n) :
    (bit f.toNat 25 || (bits f.toNat 24 21 = 0 && bits f.toNat 16 13 = 0)) = true := by
  rcases h with ⟨h, -⟩ | ⟨-, h, h', -⟩ <;> simp [*]

theorem SloopCount.eq {n : Nat} (h : SloopCount f e n) :
    (if bit f.toNat 25 then bits f.toNat 24 13 else (e.sr (bits f.toNat 20 17)).toNat % 65536) = n := by
  rcases h with ⟨h, rfl⟩ | ⟨h, -, -, rfl⟩ <;> simp [h]

/-- The END of an accepted SLOOP: behind the SLOOP, in the program, no PFX word. -/
theorem sloop_accepted (after : e.pc < bits f.toNat 12 0) (inside : s.inProgram x.slot (bits f.toNat 12 0) = true)
    (whole : s.progWord x.slot (bits f.toNat 12 0) / 2 ^ 26 ≠ 0x3F) :
    (bits f.toNat 12 0 ≤ e.pc || !s.inProgram x.slot (bits f.toNat 12 0) ||
      s.progWord x.slot (bits f.toNat 12 0) / 2 ^ 26 = 0x3F) = false := by
  rw [inside, decide_eq_false whole, decide_eq_false (Nat.not_le.2 after)]
  rfl

/-- A loop begins: it is the innermost one. -/
def Engine.pushLoop (e : Engine) (l : Loop) : Engine := { e with loops := l :: e.loops }

/-- The address after a SLOOP lies in the body, unless the body ends at the SLOOP itself. -/
theorem Engine.advance_pushLoop {l : Loop} (h : e.pc ≠ l.endp) :
    (e.pushLoop l).advance e.pc = { e.pushLoop l with pc := e.pc + 1 } := if_neg (by simp [h])

section
variable (plain : x.pfx? = none) (sticks : s.maySpend ((s.regionOfEngine p).getD 0) x.kind.cls = true) {n : Nat}
  (count : SloopCount f e n) (after : e.pc < bits f.toNat 12 0) (inside : s.inProgram x.slot (bits f.toNat 12 0) = true)
  (whole : s.progWord x.slot (bits f.toNat 12 0) / 2 ^ 26 ≠ 0x3F)
include plain sticks count after inside whole

theorem exec_sloop_pushed (hi : s.issues p 0x09 f = some (e, x)) (more : n ≠ 0) (few : e.loops.length < 4) :
    Gives (.sloop p f) s fun t => t.engine p = { e with
      pc := e.pc + 1, icount := e.icount + 1, loops := ⟨e.pc + 1, bits f.toNat 12 0, n, e.calls.length⟩ :: e.loops } ∧
      RegistersOnly s t := by
  obtain ⟨-, run, going, -⟩ := State.issues_run hi
  let e' := e.pushLoop ⟨e.pc + 1, bits f.toNat 12 0, n, e.calls.length⟩
  have next : e'.advance e.pc = { e' with pc := e.pc + 1 } := Engine.advance_pushLoop after.ne
  have inside' : s.inProgram x.slot (e.pc + 1) = true := by
    have here := State.issues_inProgram hi
    simp only [State.inProgram, Bool.and_eq_true, decide_eq_true_eq] at here inside ⊢
    omega
  have pushed : Gives (.sloop p f) s fun t => Becomes s (s.setEngine p e') t p
      { e'.advance e.pc with icount := e'.icount + 1, run := some { x with pfx? := none } } :=
    ⟨_, rfl, State.instr_goesOn hi (.inr sticks) (.inl plain) count.legal
      (by simp only [count.eq, sloop_accepted after inside whole, if_neg more, if_neg (Nat.not_le.2 few)]; rfl)
      (s.engine_setEngine p e') run going (by rw [next]; exact inside')⟩
  obtain ⟨t, eq, engine, -, only⟩ := pushed
  refine ⟨t, eq, engine.trans ?_, RegistersOnly.trans (RegistersOnly.setEngine s p e') only⟩
  rw [next, ← plain, ← run]
  rfl

theorem exec_sloop_skipped (hi : s.issues p 0x09 f = some (e, x)) (none : n = 0)
    (inside' : s.inProgram x.slot (bits f.toNat 12 0 + 1) = true) : Gives (.sloop p f) s fun t =>
      t.engine p = { e with pc := bits f.toNat 12 0 + 1, icount := e.icount + 1 } ∧ RegistersOnly s t := by
  obtain ⟨own, run, -, -⟩ := State.issues_run hi
  have second : s.pairSecond x.slot (bits f.toNat 12 0 + 1) = false := by
    rw [State.pairSecond, Nat.add_sub_cancel, decide_eq_false whole, Bool.and_false]
  have skipped : Gives (.sloop p f) s fun t => Becomes s s t p { e with pc := bits f.toNat 12 0 + 1, icount := e.icount + 1 } :=
    ⟨_, rfl, State.instr_jumps hi plain sticks count.legal
      (by rw [← own, s.setEngine_self, own]; simp only [count.eq, sloop_accepted after inside whole, if_pos none]; rfl)
      run inside' second⟩
  obtain ⟨t, eq, engine, -, only⟩ := skipped
  exact ⟨t, eq, engine, only⟩

end

/-! ## PFX (R154) -/

/-- Moving on does not look at the run. -/
theorem Engine.advance_run (e : Engine) (r : Option Run) (pc : Nat) :
    ({ e with run := r } : Engine).advance pc = { e.advance pc with run := r } := by
  unfold Engine.advance
  dsimp only
  split
  · split
    · split <;> rfl
    · rfl
  · rfl

theorem exec_pfx (hi : s.issues p 0x3F f = some (e, x)) (plain : x.pfx? = none)
    (sticks : s.maySpend ((s.regionOfEngine p).getD 0) x.kind.cls = true) (inside : s.inProgram x.slot (e.advance e.pc).pc = true) :
    Gives (.pfx p f) s fun t => t.engine p = { e.advance e.pc with run := some { x with pfx? := some f } } ∧ RegistersOnly s t := by
  obtain ⟨-, -, going, -⟩ := State.issues_run hi
  let e' : Engine := { e with run := some { x with pfx? := some f } }
  have path : e.OnPath e' := ⟨rfl, rfl, rfl⟩
  have reached : execPfx p f s = .next (State.retire (s.setEngine p e', .next) p e.pc 1 false) := by
    unfold execPfx
    rw [hi]
    simp [plain, sticks, e']
  obtain ⟨engine, -, only⟩ := State.retire_next (u := s.setEngine p e') (pc := e.pc) (cycles := 1) (counts := false)
    ((s.engine_setEngine p e' p).trans (if_pos rfl)) (e' := e') rfl (Bool.or_eq_true_iff.2 (.inr (path.advance ▸ inside)))
  refine ⟨_, reached, engine.trans ?_, RegistersOnly.trans (RegistersOnly.setEngine s p e') only⟩
  rw [if_neg (by simp [going]), Engine.advance_run]
  simp [e', e.advance_icount]

/-! ## Calls (R164) -/

section
variable (plain : x.pfx? = none) (sticks : s.maySpend ((s.regionOfEngine p).getD 0) x.kind.cls = true)
include plain sticks

theorem exec_scall_pushed (hi : s.issues p 0x0A f = some (e, x)) (reserved : bits f.toNat 25 13 = 0) (room : e.calls.length < 16)
    (inside : s.inProgram x.slot (bits f.toNat 12 0) = true) (whole : s.pairSecond x.slot (bits f.toNat 12 0) = false) :
    Gives (.scall p f) s fun t => Becomes s s t p
      { e with pc := bits f.toNat 12 0, icount := e.icount + 1, calls := (e.pc + 1) :: e.calls } := by
  obtain ⟨-, run, -, -⟩ := State.issues_run hi
  exact ⟨_, rfl, State.instr_jumps (e' := { e with calls := (e.pc + 1) :: e.calls }) hi plain sticks (decide_eq_true reserved)
    (by simp only [if_neg (Nat.not_le.2 room)]) run inside whole⟩

theorem exec_scall_overflow (hi : s.issues p 0x0A f = some (e, x)) (reserved : bits f.toNat 25 13 = 0)
    (full : 16 ≤ e.calls.length) : Gives (.scall p f) s fun t =>
      Becomes s s t p { e with lastFault := 0x20, run := some { x with fault := 0x20 } } :=
  ⟨_, rfl, State.instr_faults hi plain sticks (decide_eq_true reserved) (by simp only [if_pos full])⟩

theorem exec_sret_popped {r : Nat} {rest : List Nat} (hi : s.issues p 0x0B 0 = some (e, x)) (calls : e.calls = r :: rest)
    (inside : s.inProgram x.slot r = true) (whole : s.pairSecond x.slot r = false) : Gives (.sret p 0) s fun t => Becomes s s t p
      { e with pc := r, icount := e.icount + 1, calls := rest, loops := e.loops.filter fun l => l.depth < e.calls.length } := by
  obtain ⟨-, run, -, -⟩ := State.issues_run hi
  exact ⟨_, rfl, State.instr_jumps (e' := { e with
      calls := rest, loops := e.loops.filter fun l => l.depth < e.calls.length }) hi plain sticks rfl
    (by simp only [calls]) run inside whole⟩

theorem exec_sret_ends (hi : s.issues p 0x0B 0 = some (e, x)) (calls : e.calls = []) : Gives (.sret p 0) s fun t =>
    Becomes s s t p { e with icount := e.icount + 1, run := some { x with ended := true } } := by
  let e' : Engine := { e with run := some { x with ended := true } }
  have reached : exec (.sret p 0) s = .next (State.retire (s.setEngine p e', .next) p e.pc 2 true) :=
    congrArg Host.Outcome.next ((State.instr_retires hi (.inr sticks) (.inl plain) rfl).trans (by simp only [calls, e']))
  obtain ⟨engine, others, only⟩ := State.retire_next (u := s.setEngine p e') (pc := e.pc) (cycles := 2) (counts := true)
    ((s.engine_setEngine p e' p).trans (if_pos rfl)) (e' := e') rfl rfl
  refine ⟨_, reached, engine.trans ?_, fun j other => (others j other).trans ((s.engine_setEngine p e' j).trans (if_neg other)),
    RegistersOnly.trans (RegistersOnly.setEngine s p e') only⟩
  simp [e', plain]

end

/-- Settles O33: a call and a return with an address held branch, an overflow faults, and a return on the empty stack ends the
run. -/
theorem callsPushAndReturnsPop : Obligations.CallsPushAndReturnsPop := by
  refine ⟨fun p f e x s hi plain sticks reserved => ⟨fun room inside whole => ?_, fun full => ?_⟩, fun p e x s hi plain sticks =>
    ⟨fun r rest calls inside whole => ?_, fun empty => ?_⟩⟩
  · obtain ⟨t, eq, engine, others, only⟩ := exec_scall_pushed plain sticks hi reserved room inside whole
    exact ⟨t, eq, only, others, engine⟩
  · obtain ⟨t, eq, engine, others, only⟩ := exec_scall_overflow plain sticks hi reserved full
    exact ⟨t, eq, only, others, engine⟩
  · obtain ⟨t, eq, engine, others, only⟩ := exec_sret_popped plain sticks hi calls inside whole
    refine ⟨t, eq, only, others, ?_⟩
    rw [engine]
    exact ⟨rfl, rfl, fun l => by rw [List.mem_filter, decide_eq_true_eq], rfl, List.filter_sublist, rfl⟩
  · obtain ⟨t, eq, engine, others, only⟩ := exec_sret_ends plain sticks hi empty
    exact ⟨t, eq, only, others, engine⟩

/-- Settles O25, form by form. -/
theorem movesAndControlFlow : Obligations.MovesAndControlFlow := by
  refine ⟨fun p f e x v s h immediate zero value => ⟨_, rfl, ?_⟩, fun p f e x s h register plain form => ⟨_, rfl, ?_⟩,
    fun p f e x s h register plain kind zero => exec_smov_putsMask h register plain kind zero,
    fun p f e x s hi plain sticks reserved code mask => ⟨fun taken inside whole => ?_, fun passed inside => ?_⟩,
    fun p f e x n s hi plain sticks count after inside whole => ⟨fun more few => ?_, fun none inside' => ?_⟩,
    fun p f e x s hi plain sticks inside => exec_pfx hi plain sticks inside⟩
  · exact Issues.putsScalar h (.inr immediate) rfl (bits_lt _ 24 21) (by simp only [immediate, zero, value, if_true])
  · obtain ⟨k, form, kind⟩ := form
    exact Issues.putsScalar h (.inl plain) rfl (bits_lt _ 24 21)
      (by simp only [register, Bool.false_eq_true, if_false]; exact State.smovKind_scalar kind form)
  · exact exec_sbr_taken plain sticks hi reserved code mask taken rfl inside whole
  · exact exec_sbr_notTaken plain sticks hi reserved code mask passed inside
  · exact exec_sloop_pushed plain sticks count after inside whole hi more few
  · exact exec_sloop_skipped plain sticks count after inside whole hi none inside'

end Sys2Proof.Machine
end

section
/-! LEASE, FREE and LEASE_GRANT (05_engine_instructions.md R185, R186; 08_rolls_budgets_drain.md R274, R277). -/

namespace Sys2Proof.Machine

variable {s : State} {p : Fin 272} {f : BitVec 26} {e : Engine} {x : Run} {r : Nat}

/-! ## Lease records (R274) -/

theorem Cells.get_eq_find? {α : Type} (l : List (Nat × α)) (k : Nat) (d : α) :
    Cells.get l k d = ((l.find? fun c => c.1 = k).map (·.2)).getD d := by
  induction l with
  | nil => rfl
  | cons c l ih => by_cases here : c.1 = k <;> simp [Cells.get, here, ih]

/-- PUTTING A LEASE leaves the others. -/
theorem State.lease_setLease (s : State) (r : Nat) (l : Lease) (j : Nat) :
    (s.setLease r l).lease j = if j = r then l else s.lease j := by
  unfold State.lease
  rw [← Cells.get_eq_find?, ← Cells.get_eq_find?, State.setLease_leases]
  split
  · next same => rw [same, Cells.get_set_same]
  · next other => rw [Cells.get_set_other _ other]

theorem State.setLease_outside (s : State) (r : Nat) (l : Lease) :
    { s.setLease r l with fab := s.fab, rolls := s.rolls } = s := rfl
theorem State.setLease_engine (s : State) (r : Nat) (l : Lease) (j : Nat) : (s.setLease r l).engine j = s.engine j := rfl

/-! ## FREE (R186) -/

section
variable (h : Issues s p 0x3B f e x) (plain : x.pfx? = none) (reserved : bits f.toNat 19 0 = 0)
  (target : leaseTarget p (s.leaseRegion p x) (bits f.toNat 25 24) (bits f.toNat 23 20) = some r)
include h plain reserved target

theorem exec_free_held (own : x.kind.comparing = false) (held : (s.lease r).holder = p.val) :
    Gives (.free p f) s fun t => GoesOn s t p e x ∧
      RegistersOnly (s.setLease r { s.lease r with holder := 0xFFFF, bad := false }) t :=
  ⟨_, rfl, Issues.keeps h (.inl plain) (decide_eq_true reserved)
    (by simp only [target, own, State.holds, held, decide_true, Bool.false_eq_true, if_false, if_true]) (s.setLease_engine r _) rfl⟩

theorem exec_free_notHeld (own : x.kind.comparing = false) (other : (s.lease r).holder ≠ p.val) :
    Gives (.free p f) s fun t => GoesOn s t p (e.putFlag flLF true) x ∧ RegistersOnly s t := by
  obtain ⟨-, run, -, -⟩ := State.issues_run h.1
  obtain ⟨fl, frame⟩ := e.putFlag_frame flLF true
  exact ⟨_, rfl, Issues.registers h (.inl plain) (decide_eq_true reserved)
    (by simp only [target, own, State.holds, other, decide_false, Bool.false_eq_true, if_false])
    (by rw [frame]; exact run) (by rw [frame]; exact ⟨rfl, rfl, rfl⟩) ⟨rfl, rfl⟩⟩

theorem exec_free_comparing (compares : x.kind.comparing = true) :
    Gives (.free p f) s fun t => GoesOn s t p e x ∧ RegistersOnly s t :=
  ⟨_, rfl, Issues.idles h (.inl plain) (decide_eq_true reserved) (by simp only [target, compares, if_true])⟩

end

/-- Settles O32: the holder gives the lease back, any other engine sets FL.LF, a comparing run does neither. -/
theorem freeReleasesOrSetsLf : Obligations.FreeReleasesOrSetsLf := by
  refine fun p f e x r s h plain reserved target => ⟨fun own held => ?_, fun own other => ?_, fun compares => ?_⟩
  · obtain ⟨t, eq, goes, only⟩ := exec_free_held h plain reserved target own held
    have lease (j : Nat) := (RegistersOnly.lease only j).trans (s.lease_setLease r _ j)
    exact ⟨t, eq, (lease r).trans (if_pos rfl), fun j hj => (lease j).trans (if_neg hj), goes, RegistersOnly.outside only (s.setLease_outside r _)⟩
  · obtain ⟨t, eq, goes, only⟩ := exec_free_notHeld h plain reserved target own other
    have flag := e.flag_putFlag (i := flLF) (by decide) true
    obtain ⟨fl, frame⟩ := e.putFlag_frame flLF true
    exact ⟨t, eq, _, goes, only, (flag 10).trans (if_pos rfl), by rw [frame], fun i hi => (flag i).trans (if_neg hi)⟩
  · exact exec_free_comparing h plain reserved target compares

end Sys2Proof.Machine
end

section
/-! WAITS and its releases, ENG_EVENT, LEASE, its grant and its giving up (05_engine_instructions.md R184, R185;
08_rolls_budgets_drain.md R274, R277). -/

namespace Sys2Proof.Machine

variable {s u : State} {p : Fin 272} {f : BitVec 26} {e : Engine} {x : Run} {r : Nat}

/-! ## LEASE (R185) -/

section
variable (h : Issues s p 0x3A f e x) (plain : x.pfx? = none) (own : x.kind.comparing = false) (reserved : bits f.toNat 19 16 = 0)
  (expires : bits f.toNat 7 0 ≠ 0)
  (target : leaseTarget p (s.leaseRegion p x) (bits f.toNat 25 24) (bits f.toNat 23 20) = some r)
include h plain own reserved expires target

theorem exec_lease_renewed (held : (s.lease r).holder = p.val) : Gives (.lease p f) s fun t => GoesOn s t p e x ∧
    RegistersOnly (s.setLease r { s.lease r with
      expiry := s.nat Obj.ROLL_COUNT + bits f.toNat 7 0, grant := s.nat Obj.ROLL_COUNT }) t :=
  ⟨_, rfl, Issues.keeps h (.inl plain) (by simp [reserved, expires])
    (by simp only [target, own, held, Bool.false_eq_true, if_false, if_true]) (s.setLease_engine r _) rfl⟩

theorem exec_lease_taken (free : (s.lease r).holder = 0xFFFF) (calm : (s.lease r).rolling = false)
    (first : (s.lease r).waiting = []) : Gives (.lease p f) s fun t => GoesOn s t p e x ∧
    RegistersOnly (s.setLease r { s.lease r with
      holder := p.val, expiry := s.nat Obj.ROLL_COUNT + bits f.toNat 7 0, grant := s.nat Obj.ROLL_COUNT, bad := false }) t := by
  have other : ¬ 0xFFFF = p.val := by omega
  exact ⟨_, rfl, Issues.keeps h (.inl plain) (by simp [reserved, expires])
    (by simp only [target, own, free, calm, first, other, Bool.false_eq_true, if_false, decide_true, Bool.not_false,
      List.isEmpty_nil, Bool.and_self, if_true]) (s.setLease_engine r _) rfl⟩

theorem exec_lease_queued (other : (s.lease r).holder ≠ p.val) (taken : (s.lease r).holder ≠ 0xFFFF) :
    Gives (.lease p f) s fun t => ∃ y, GoesOn s t p { e with run := some y } y ∧ y.leasing.isSome = true ∧
    RegistersOnly (s.setLease r { s.lease r with waiting := (s.lease r).waiting ++ [(p.val, bits f.toNat 7 0)] }) t := by
  obtain ⟨engine, run, -, -⟩ := State.issues_run h.1
  let y : Run := { x with leasing := some (r, bits f.toNat 7 0, if x.kind.isItem then 0 else bits f.toNat 15 8, s.nat Obj.ROLL_COUNT) }
  let u := s.setLease r { s.lease r with waiting := (s.lease r).waiting ++ [(p.val, bits f.toNat 7 0)] }
  have mapped : u.mapRun p (fun z => { z with leasing := some (r, bits f.toNat 7 0,
      if x.kind.isItem then 0 else bits f.toNat 15 8, s.nat Obj.ROLL_COUNT) }) = u.setEngine p { e with run := some y } := by
    rw [State.mapRun, s.setLease_engine, engine, run]
    rfl
  have queued : Gives (.lease p f) s fun t => GoesOn s t p { e with run := some y } y ∧
      RegistersOnly (u.setEngine p { e with run := some y }) t :=
    ⟨_, rfl, Issues.goesOn h (.inl plain) (by simp [reserved, expires])
      (by simp only [target, own, other, taken, Bool.false_eq_true, if_false, decide_false, Bool.false_and]; rw [mapped])
      (u.engine_setEngine p _) rfl ⟨rfl, rfl, rfl⟩ ⟨rfl, rfl⟩ rfl⟩
  obtain ⟨t, eq, goes, only⟩ := queued
  exact ⟨t, eq, y, goes, rfl, RegistersOnly.trans (RegistersOnly.setEngine u p _) only⟩

end

/-! ## LEASE_GRANT and LEASE_WAIT_GIVE_UP (R185, R274) -/

/-- A lease granted to `h`, the first that waits, at the roll `k` for `n` rolls. -/
def Lease.granted (l : Lease) (h n k : Nat) (rest : List (Nat × Nat)) : Lease :=
  { l with holder := h, waiting := rest, expiry := k + n, grant := k, rolling := false, bad := false }

theorem State.grantLease_eq {h n : Nat} {rest : List (Nat × Nat)} (free : (s.lease r).holder = 0xFFFF)
    (first : (s.lease r).waiting = (h, n) :: rest) :
    let t := s.setLease r ((s.lease r).granted h n (s.nat Obj.ROLL_COUNT) rest)
    s.grantLease r = if h < 272 then t.setEngine h { t.engine h with
      run := (t.engine h).run.map fun (x : Run) => { x with leasing := none } } else t := by
  rw [State.grantLease]
  simp only [free, first, ne_eq, not_true_eq_false, if_false]
  rfl

theorem exec_leaseGrant {r : Fin 1352} {h n : Nat} {rest : List (Nat × Nat)} (free : (s.lease r).holder = 0xFFFF)
    (first : (s.lease r).waiting = (h, n) :: rest) : Gives (.leaseGrant r) s fun t => (t.lease r).holder = h ∧
      (t.lease r).waiting = rest ∧ (t.lease r).expiry = s.nat Obj.ROLL_COUNT + n ∧ (∀ j, j ≠ r.val → t.lease j = s.lease j) ∧
      (∀ x, h < 272 → (s.engine h).run = some x → (t.engine h).run = some { x with leasing := none }) ∧
      (∀ j, j ≠ h → t.engine j = s.engine j) ∧ { t with fab := s.fab } = s := by
  refine ⟨_, rfl, ?_⟩
  rw [State.grantLease_eq free first]
  have lease := s.lease_setLease r ((s.lease r).granted h n (s.nat Obj.ROLL_COUNT) rest)
  have own := (lease r).trans (if_pos rfl)
  have others (j : Nat) (hj : j ≠ r.val) := (lease j).trans (if_neg hj)
  by_cases engine : h < 272
  · rw [if_pos engine]
    have put := State.engine_setEngine (s.setLease r ((s.lease r).granted h n (s.nat Obj.ROLL_COUNT) rest)) ⟨h, engine⟩
      { s.engine h with run := (s.engine h).run.map fun (x : Run) => { x with leasing := none } }
    exact ⟨congrArg Lease.holder own, congrArg Lease.waiting own, congrArg Lease.expiry own, others,
      fun x _ run => (congrArg Engine.run ((put h).trans (if_pos rfl))).trans (congrArg (Option.map _) run),
      fun j hj => (put j).trans (if_neg hj), rfl⟩
  · rw [if_neg engine]
    exact ⟨congrArg Lease.holder own, congrArg Lease.waiting own, congrArg Lease.expiry own, others,
      fun _ inside => absurd inside engine, fun _ _ => rfl, rfl⟩

theorem exec_leaseWaitGiveUp {ex w k : Nat} (run : (s.engine p).run = some x) (leasing : x.leasing = some (r, ex, w, k))
    (limited : w ≠ 0) (passed : k + w ≤ s.nat Obj.ROLL_COUNT) : Gives (.leaseWaitGiveUp p) s fun t =>
      (t.engine p).flag 10 = true ∧ (t.engine p).run = some { x with leasing := none } ∧
      (∀ q ∈ (t.lease r).waiting, q.1 ≠ p.val) ∧ (t.lease r).holder = (s.lease r).holder ∧
      (∀ j, j ≠ p.val → t.engine j = s.engine j) ∧ { t with fab := s.fab } = s := by
  let e' : Engine := { s.engine p with run := some { x with leasing := none } }
  let l : Lease := { s.lease r with waiting := (s.lease r).waiting.filter fun q => q.1 ≠ p.val }
  have due : (w = 0 || s.nat Obj.ROLL_COUNT < k + w) = false := by simp [limited, passed]
  have gaveUp : exec (.leaseWaitGiveUp p) s = .next ((s.setLease r l).setEngine p (e'.putFlag flLF true)) := by
    change execLeaseWaitGiveUp p s = _
    unfold execLeaseWaitGiveUp
    simp only [run, leasing, due, Bool.false_eq_true, if_false]
    rfl
  have put := (s.setLease r l).engine_setEngine p (e'.putFlag flLF true)
  have own := (put p).trans (if_pos rfl)
  have lease := (s.lease_setLease r l r).trans (if_pos rfl)
  obtain ⟨fl, frame⟩ := e'.putFlag_frame flLF true
  refine ⟨_, gaveUp, ?_, ?_, fun q hq => ?_, (congrArg Lease.holder lease :), fun j hj => (put j).trans (if_neg hj), rfl⟩
  · rw [own, e'.flag_putFlag (by decide), if_pos rfl]
  · rw [own, frame]
  · have waits : q ∈ l.waiting := lease ▸ hq
    simpa using (List.mem_filter.1 waits).2

/-! ## WAITS (R184) -/

/-- The events that end a WAITS of cause 0, none for the other causes. -/
def Engine.hits (e : Engine) (w : Wait) (cause : Nat) : Word := if cause = 0 then e.evp &&& w.mask else 0

/-- A WAITS that completes puts Sd, WREASON, LAND, the events and, at the timeout, TMO. -/
theorem Engine.waited_frame (e : Engine) (w : Wait) (cause : Nat) (d : Dlt) : ∃ evLand fl, e.waited w cause d =
    { e.putS w.sd (e.hits w cause) with
      wreason := BitVec.ofNat 32 cause, land := d, evLand := evLand, fl := fl
      evp := if w.clear then e.evp &&& ~~~(e.hits w cause) else e.evp } ∧ (cause ≠ 3 → fl = e.fl) ∧ (cause = 3 → fl.getLsbD 9 = true) := by
  unfold Engine.waited
  by_cases timeout : cause = 3
  · have flag := Engine.flag_putFlag e (i := flTMO) (by decide) true 9
    exact ⟨_, _, if_pos timeout, absurd timeout, fun _ => flag.trans (if_pos rfl)⟩
  · exact ⟨_, e.fl, if_neg timeout, fun _ => rfl, fun h => absurd h timeout⟩

section
variable (h : Issues s p 0x39 f e x) (plain : x.pfx? = none) (entry : x.kind.isItem = false) (reserved : bits f.toNat 10 0 = 0)
include h plain entry reserved

theorem exec_waits_pending (pending : e.evp &&& e.sr (bits f.toNat 21 18) ≠ 0) :
    Gives (.waits p f) s fun t => ∃ e', GoesOn s t p e' x ∧ RegistersOnly s t ∧
      e'.sr (bits f.toNat 25 22) = e.evp &&& e.sr (bits f.toNat 21 18) ∧ e'.wreason = 0 ∧ e'.fl = e.fl ∧ e'.v = e.v ∧
      e'.evp = (if bit f.toNat 13 then e.evp &&& ~~~(e.evp &&& e.sr (bits f.toNat 21 18)) else e.evp) := by
  obtain ⟨-, run, -, -⟩ := State.issues_run h.1
  let w : Wait := ⟨e.sr (bits f.toNat 21 18), bit f.toNat 13, bit f.toNat 12, bit f.toNat 11,
    (e.sr (bits f.toNat 17 14)).toNat, bits f.toNat 25 22, s.clk.beats, none, none⟩
  obtain ⟨evLand, fl, frame, flags, -⟩ := e.waited_frame w 0 (e.eventLand w.mask)
  have hit : Gives (.waits p f) s fun t => GoesOn s t p (e.waited w 0 (e.eventLand w.mask)) x ∧ RegistersOnly s t :=
    ⟨_, rfl, Issues.registers h (.inl plain) (decide_eq_true reserved)
      (by simp only [entry, pending, Bool.false_eq_true, if_false, if_true, ne_eq, not_false_eq_true, w])
      (by rw [frame]; exact run) (by rw [frame]; exact ⟨rfl, rfl, rfl⟩) ⟨rfl, rfl⟩⟩
  obtain ⟨t, eq, goes, only⟩ := hit
  refine ⟨t, eq, _, goes, only, ?_⟩
  rw [frame]
  exact ⟨(e.sr_putS (bits_lt _ 25 22) _ _).trans (if_pos rfl), rfl, flags (by decide), rfl, rfl⟩

theorem exec_waits_none (none : e.evp &&& e.sr (bits f.toNat 21 18) = 0) : Gives (.waits p f) s fun t => ∃ w : Wait,
      w.mask = e.sr (bits f.toNat 21 18) ∧ w.beat = s.clk.beats ∧
      GoesOn s t p { e with run := some { x with waiting := some w } } { x with waiting := some w } ∧ RegistersOnly s t := by
  let w : Wait := ⟨e.sr (bits f.toNat 21 18), bit f.toNat 13, bit f.toNat 12, bit f.toNat 11,
    (e.sr (bits f.toNat 17 14)).toNat, bits f.toNat 25 22, s.clk.beats, Option.none, Option.none⟩
  have waits : Gives (.waits p f) s fun t =>
      GoesOn s t p { e with run := some { x with waiting := some w } } { x with waiting := some w } ∧ RegistersOnly s t :=
    ⟨_, rfl, Issues.registers h (.inl plain) (decide_eq_true reserved)
      (by simp only [entry, none, Bool.false_eq_true, if_false, ne_eq, not_true_eq_false, w]) rfl ⟨rfl, rfl, rfl⟩ ⟨rfl, rfl⟩⟩
  obtain ⟨t, eq, goes, only⟩ := waits
  exact ⟨t, eq, w, rfl, rfl, goes, only⟩

end

/-! ## WAITS_RELEASE (R184) -/

section
variable {w : Wait} {cause : Fin 4} {n : Fin 32} (run : (s.engine p).run = some x) (waiting : x.waiting = some w) (sd : w.sd < 16)
include run waiting

/-- The wait that ends leaves everything but the registers of its engine. -/
theorem exec_waitsRelease (ends : s.waitOver p (s.engine p) x w cause.val n.val = true) :
    Gives (.waitsRelease p cause n) s fun t => t = s.setEngine p { (s.engine p).waited w cause.val
      (s.waitLand (s.engine p) w cause.val n.val) with run := some { x with waiting := none } } := by
  refine ⟨_, ?_, rfl⟩
  change execWaitsRelease p cause n s = _
  unfold execWaitsRelease
  simp only [run, waiting, ends, if_true]

include sd

theorem exec_waitsRelease_registers (ends : s.waitOver p (s.engine p) x w cause.val n.val = true) :
    Gives (.waitsRelease p cause n) s fun t => (t.engine p).sr w.sd = (s.engine p).hits w cause.val ∧
      (t.engine p).wreason = BitVec.ofNat 32 cause.val ∧ (t.engine p).land = s.waitLand (s.engine p) w cause.val n.val ∧
      (t.engine p).evp = (if w.clear then (s.engine p).evp &&& ~~~((s.engine p).hits w cause.val) else (s.engine p).evp) ∧
      (t.engine p).run = some { x with waiting := none } ∧ (t.engine p).pc = (s.engine p).pc ∧
      (cause.val = 3 → (t.engine p).flag 9 = true) ∧ (∀ j, j ≠ p.val → t.engine j = s.engine j) ∧ { t with fab := s.fab } = s := by
  obtain ⟨_, eq, rfl⟩ := exec_waitsRelease run waiting ends
  obtain ⟨evLand, fl, frame, -, timeout⟩ := (s.engine p).waited_frame w cause.val (s.waitLand (s.engine p) w cause.val n.val)
  rw [frame] at eq
  have put := s.engine_setEngine p
  have own (e' : Engine) : (s.setEngine p e').engine p = e' := (put e' p).trans (if_pos rfl)
  refine ⟨_, eq, ?_⟩
  dsimp only
  rw [own]
  exact ⟨((s.engine p).sr_putS sd _ _).trans (if_pos rfl), rfl, rfl, rfl, rfl, rfl, timeout,
    fun j hj => (put _ j).trans (if_neg hj), rfl⟩

/-- A release by another cause than an event: Sd takes 0 and the pending events stay. -/
theorem exec_waitsRelease_other {d : Dlt} (other : cause.val ≠ 0)
    (ends : s.waitOver p (s.engine p) x w cause.val n.val = true) (land : s.waitLand (s.engine p) w cause.val n.val = d) :
    Gives (.waitsRelease p cause n) s fun t => (t.engine p).sr w.sd = 0 ∧ (t.engine p).wreason = BitVec.ofNat 32 cause.val ∧
      (t.engine p).land = d ∧ (cause.val = 3 → (t.engine p).flag 9 = true) ∧ (t.engine p).evp = (s.engine p).evp ∧
      (t.engine p).run = some { x with waiting := none } ∧ { t with fab := s.fab } = s := by
  obtain ⟨t, eq, sr, wreason, landed, evp, run', -, timeout, -, outside⟩ := exec_waitsRelease_registers run waiting sd ends
  have none : (s.engine p).hits w cause.val = 0 := if_neg other
  refine ⟨t, eq, sr.trans none, wreason, landed.trans land, timeout, ?_, run', outside⟩
  rw [evp, none]
  split
  · exact BitVec.and_allOnes
  · rfl

end

/-! ## ENG_EVENT (R184) -/

/-- An event reaches an engine: its bit of EVP is set, with the landing timestamp of its die. -/
def Engine.evented (e : Engine) (n : Nat) (d : Dlt) : Engine :=
  { e with evp := e.evp ||| BitVec.ofNat 32 (2 ^ n), evLand := (n, d) :: e.evLand.filter (fun b => b.1 ≠ n) }

/-- The engines that an ENG_EVENT reaches in the state `u` of its landing. -/
def State.eventReaches (u : State) (l : Landing) (p : Nat) : Bool :=
  if l.level = 4 then l.hits (dieOfEngine p) else match u.regionOfEngine p with
    | some g => l.hitsRegion g
    | none => false

/-- What an ENG_EVENT does to one engine. -/
def State.eventAt (l : Landing) (u t : State) (p : Nat) : State :=
  if u.eventReaches l p then t.setEngine p ((t.engine p).evented (l.arg.toNat % 32)
    (BitVec.ofNat 64 (t.nat (Obj.LANDING_DLT (2 + dieOfEngine p))))) else t

theorem exec_engEvent_eq {l : Landing} (h : s.landing 0x30 l = some u) :
    exec (.engEvent l) s = .next ((List.range 272).foldl (State.eventAt l u) u) := by
  change Host.Outcome.next (s.land 0x30 l _) = _
  rw [State.land_of_landing h]
  rfl

/-- After the first `n` engines: those reached have the event, the others and everything else stand as before. -/
theorem State.eventAt_foldl (l : Landing) (u : State) (n : Nat) (hn : n ≤ 272) :
    (∀ j, ((List.range n).foldl (State.eventAt l u) u).engine j = if j < n ∧ u.eventReaches l j = true then
      (u.engine j).evented (l.arg.toNat % 32) (BitVec.ofNat 64 (u.nat (Obj.LANDING_DLT (2 + dieOfEngine j)))) else u.engine j) ∧
    { (List.range n).foldl (State.eventAt l u) u with fab := u.fab } = u := by
  induction n with
  | zero => exact ⟨fun j => (if_neg (by omega)).symm, rfl⟩
  | succ n ih =>
    obtain ⟨engines, outside⟩ := ih (by omega)
    rw [List.range_succ, List.foldl_append, List.foldl_cons, List.foldl_nil]
    generalize (List.range n).foldl (State.eventAt l u) u = t at *
    have obj : t.obj = u.obj := (congrArg State.obj outside :)
    have nat (k : Nat) : t.nat k = u.nat k := congrArg Int.toNat (State.get_congr obj k)
    unfold State.eventAt
    split
    · next reached =>
      refine ⟨fun j => (t.engine_setEngine ⟨n, by omega⟩ _ j).trans ?_, State.outside_trans outside rfl⟩
      by_cases here : j = n
      · subst here
        rw [if_pos rfl, if_pos ⟨by omega, reached⟩, engines, if_neg (by omega), nat]
      · rw [if_neg here, engines]
        exact if_congr (and_congr_left fun _ => by omega) rfl rfl
    · next missed =>
      refine ⟨fun j => (engines j).trans (if_congr ?_ rfl rfl), outside⟩
      by_cases here : j = n
      · simp [here, missed]
      · exact and_congr_left fun _ => by omega

/-- An engine is reached as the statement of R184 says. -/
theorem State.eventReaches_iff (u : State) (l : Landing) (p : Nat) : u.eventReaches l p = true ↔
    if l.level = 4 then l.hits (dieOfEngine p) = true else ∃ g, u.regionOfEngine p = some g ∧ l.hitsRegion g = true := by
  unfold State.eventReaches
  split
  · rfl
  · cases u.regionOfEngine p <;> simp

theorem exec_engEvent {l : Landing} (h : s.landing 0x30 l = some u) : Gives (.engEvent l) s fun t =>
    let hit (p : Fin 272) : Prop := if l.level = 4 then l.hits (dieOfEngine p) = true
      else ∃ g, u.regionOfEngine p = some g ∧ l.hitsRegion g = true
    (∀ p : Fin 272, hit p → (t.engine p).evp = (u.engine p).evp ||| BitVec.ofNat 32 (2 ^ (l.arg.toNat % 32)) ∧
      { t.engine p with evp := (u.engine p).evp, evLand := (u.engine p).evLand } = u.engine p) ∧
    (∀ p : Fin 272, ¬ hit p → t.engine p = u.engine p) ∧ { t with fab := u.fab } = u := by
  obtain ⟨engines, outside⟩ := State.eventAt_foldl l u 272 le_rfl
  refine ⟨_, exec_engEvent_eq h, fun p hit => ?_, fun p missed => ?_, outside⟩
  · rw [engines, if_pos ⟨p.isLt, (u.eventReaches_iff l p).2 hit⟩]
    exact ⟨rfl, rfl⟩
  · rw [engines, if_neg fun reached => missed ((u.eventReaches_iff l p).1 reached.2)]

/-- Settles O31: each clause is what the command's own lemma says of its registers or of its lease record. -/
theorem eventsAndLeases : Obligations.EventsAndLeases := by
  refine ⟨fun p f e x s h plain entry reserved => ⟨exec_waits_pending h plain entry reserved, exec_waits_none h plain entry reserved⟩,
    fun p n x w s run waiting sd => ⟨fun fs d land => ?_, fun rb d land => ?_, fun limit passed => ?_⟩,
    fun p n d x w s run waiting hit evLand sd => ?_, fun l s u h => exec_engEvent h,
    fun p f e x r s h plain own reserved expires target => ⟨fun held => ?_, fun free calm first => ?_, fun other taken => ?_⟩,
    fun r h n rest s free first => exec_leaseGrant free first,
    fun p x r ex w k s run leasing limited passed => exec_leaseWaitGiveUp run leasing limited passed⟩
  · obtain ⟨t, eq, sr, wreason, landed, -, kept⟩ := exec_waitsRelease_other (cause := 1) (n := n) run waiting sd (by decide)
      (by simp [State.waitOver, fs, land]) (congrArg (·.getD s.now) land)
    exact ⟨t, eq, sr, wreason, landed, kept⟩
  · obtain ⟨t, eq, sr, wreason, landed, -, kept⟩ := exec_waitsRelease_other (cause := 2) (n := n) run waiting sd (by decide)
      (by simp [State.waitOver, rb, land]) (congrArg (·.getD s.now) land)
    exact ⟨t, eq, sr, wreason, landed, kept⟩
  · obtain ⟨t, eq, sr, wreason, landed, timeout, kept⟩ := exec_waitsRelease_other (cause := 3) (n := n) run waiting sd (by decide)
      (by simp [State.waitOver, limit, passed]) rfl
    exact ⟨t, eq, sr, wreason, landed, timeout rfl, kept⟩
  · obtain ⟨t, eq, sr, wreason, landed, -, run', pc, -, others, outside⟩ :=
      exec_waitsRelease_registers (cause := 0) (n := n) run waiting sd hit
    exact ⟨t, eq, landed.trans (by simp [State.waitLand, Engine.landOf, evLand]), sr, run', pc, wreason, others, outside⟩
  · obtain ⟨t, eq, goes, only⟩ := exec_lease_renewed h plain own reserved expires target held
    have lease (j : Nat) := (RegistersOnly.lease only j).trans (s.lease_setLease r _ j)
    have renewed := (lease r).trans (if_pos rfl)
    exact ⟨t, eq, (congrArg Lease.holder renewed).trans held, congrArg Lease.expiry renewed, (congrArg Lease.waiting renewed :),
      fun j hj => (lease j).trans (if_neg hj), goes⟩
  · obtain ⟨t, eq, goes, only⟩ := exec_lease_taken h plain own reserved expires target free calm first
    have lease (j : Nat) := (RegistersOnly.lease only j).trans (s.lease_setLease r _ j)
    have taken := (lease r).trans (if_pos rfl)
    exact ⟨t, eq, congrArg Lease.holder taken, congrArg Lease.expiry taken, fun j hj => (lease j).trans (if_neg hj), goes⟩
  · obtain ⟨t, eq, y, goes, leasing, only⟩ := exec_lease_queued h plain own reserved expires target other taken
    have lease (j : Nat) := (RegistersOnly.lease only j).trans (s.lease_setLease r _ j)
    exact ⟨t, eq, (lease r).trans (if_pos rfl), fun j hj => (lease j).trans (if_neg hj), _, congrArg Engine.run goes.1, leasing⟩

end Sys2Proof.Machine
end

section
/-! Lanes of the vector registers and the values that they hold (05_engine_instructions.md R147, R148, R156-R159, R170, R171). -/

namespace Sys2Proof.Machine

/-! ## Two's complement of a width (R10, R156) -/

section
variable {w : Nat}

theorem wrapNat_natCast (n : Nat) : wrapNat w n = n % 2 ^ w := by
  rw [wrapNat]
  norm_cast

theorem wrapNat_of_nonneg {x : Int} (nonneg : 0 ≤ x) (lt : x < 2 ^ w) : wrapNat w x = x.toNat := by
  rw [wrapNat, Int.emod_eq_of_lt nonneg lt]

theorem toNat_ofNat_of_lt {n : Nat} (h : n < 2 ^ w) : (BitVec.ofNat w n).toNat = n := by
  rw [BitVec.toNat_ofNat, Nat.mod_eq_of_lt h]

theorem signedOf_mod (w n : Nat) : signedOf w (n % 2 ^ w) = signedOf w n := by rw [signedOf, signedOf, Nat.mod_mod]

variable (hw : 0 < w)
include hw

theorem signedOf_eq_bmod (n : Nat) : signedOf w n = (n : Int).bmod (2 ^ w) := by
  obtain ⟨k, rfl⟩ := Nat.exists_eq_succ_of_ne_zero hw.ne'
  rw [signedOf, Int.bmod, Nat.succ_eq_add_one, Nat.add_sub_cancel]
  norm_cast
  rw [show (2 ^ (k + 1) + 1) / 2 = 2 ^ k by omega]

/-- A number that the width holds survives being put into it. -/
theorem signedOf_wrapNat {x : Int} (low : -2 ^ (w - 1) ≤ x) (high : x < 2 ^ (w - 1)) : signedOf w (wrapNat w x) = x := by
  obtain ⟨k, rfl⟩ := Nat.exists_eq_succ_of_ne_zero hw.ne'
  rw [Nat.succ_eq_add_one, Nat.add_sub_cancel] at low high
  have nonneg : 0 ≤ x % (2 : Int) ^ (k + 1) := Int.emod_nonneg _ (by positivity)
  rw [signedOf_eq_bmod hw, wrapNat, Int.toNat_of_nonneg nonneg]
  have mod : x % (2 : Int) ^ (k + 1) = x % ((2 ^ (k + 1) : Nat) : Int) := by norm_cast
  rw [Nat.succ_eq_add_one, mod, Int.emod_bmod]
  have double : ((2 ^ (k + 1) : Nat) : Int) = 2 ^ k * 2 := by push_cast; ring
  exact Int.bmod_eq_of_le_mul_two (by omega) (by omega)

theorem signedOf_bounds (n : Nat) : -2 ^ (w - 1) ≤ signedOf w n ∧ signedOf w n < 2 ^ (w - 1) := by
  obtain ⟨k, rfl⟩ := Nat.exists_eq_succ_of_ne_zero hw.ne'
  have double : ((2 ^ (k + 1) : Nat) : Int) = 2 ^ k * 2 := by push_cast; ring
  have low := Int.le_bmod (x := n) (m := 2 ^ (k + 1)) (by positivity)
  have high := Int.bmod_lt (x := n) (m := 2 ^ (k + 1)) (by positivity)
  rw [signedOf_eq_bmod hw, Nat.succ_eq_add_one, Nat.add_sub_cancel]
  constructor <;> omega

end

/-! ## Lanes put together (R147) -/

section
variable (n w : Nat) (g : Nat → Int)

theorem packLanes_succ : packLanes (n + 1) w g = packLanes n w g + wrapNat w (g n) * 2 ^ (w * n) := by
  simp [packLanes, List.range_succ, Nat.shiftLeft_eq]

theorem packLanes_lt : packLanes n w g < 2 ^ (w * n) := by
  induction n with
  | zero => simp [packLanes]
  | succ n ih =>
    have fits : (wrapNat w (g n) + 1) * 2 ^ (w * n) ≤ 2 ^ w * 2 ^ (w * n) := Nat.mul_le_mul_right _ (wrapNat_lt w (g n))
    have wider : 2 ^ (w * (n + 1)) = 2 ^ w * 2 ^ (w * n) := by rw [← pow_add]; congr 1; ring
    rw [packLanes_succ, wider]
    linarith

/-- Each lane is found at its place. -/
theorem packLanes_lane (j : Nat) : (packLanes n w g >>> (w * j)) % 2 ^ w = if j < n then wrapNat w (g j) else 0 := by
  rw [Nat.shiftRight_eq_div_pow]
  induction n with
  | zero => simp [packLanes]
  | succ n ih =>
    rcases Nat.lt_trichotomy j n with below | rfl | above
    · have place : w * n = w * j + w * (n - j - 1) + w := by
        rw [← Nat.mul_add, ← Nat.mul_succ]
        congr 1
        omega
      have shift : wrapNat w (g n) * 2 ^ (w * n) = wrapNat w (g n) * 2 ^ (w * (n - j - 1)) * 2 ^ w * 2 ^ (w * j) := by
        rw [place]
        ring
      rw [packLanes_succ, shift, Nat.add_mul_div_right _ _ (Nat.two_pow_pos _), Nat.add_mul_mod_self_right, ih, if_pos below,
        if_pos (by omega)]
    · rw [packLanes_succ, Nat.add_mul_div_right _ _ (Nat.two_pow_pos _), Nat.div_eq_of_lt (packLanes_lt j w g), Nat.zero_add,
        Nat.mod_eq_of_lt (wrapNat_lt w (g j)), if_pos (by omega)]
    · have outside : packLanes (n + 1) w g < 2 ^ (w * j) :=
        (packLanes_lt _ w g).trans_le (Nat.pow_le_pow_right (by decide) (Nat.mul_le_mul_left w above))
      rw [Nat.div_eq_of_lt outside, Nat.zero_mod, if_neg (by omega)]

/-- A mask of one bit for each lane. -/
theorem getLsbD_packLanes_bits (c : Nat → Bool) {j : Nat} (hj : j < 32) :
    (BitVec.ofNat 32 (packLanes n 1 fun i => if c i then 1 else 0)).getLsbD j = (decide (j < n) && c j) := by
  have lane := packLanes_lane n 1 (fun i => if c i then 1 else 0) j
  rw [BitVec.getLsbD_ofNat, decide_eq_true hj, Bool.true_and, Nat.testBit_eq_decide_div_mod_eq, ← Nat.shiftRight_eq_div_pow]
  rw [Nat.one_mul, pow_one] at lane
  rw [lane]
  by_cases here : j < n <;> cases c j <;> simp [here, wrapNat]

end

/-! ## A result in a vector register (R148, R159) -/

theorem laneBits_pos (w : Bool) : 0 < laneBits w := by cases w <;> decide

theorem laneBits_mul_laneCount (w : Bool) : laneBits w * laneCount w = 512 := by cases w <;> rfl

theorem laneCount_le (w : Bool) : laneCount w ≤ 32 := by cases w <;> decide

theorem VReg.tag_lt (r : VReg) (j : Nat) : r.tag j < 16 := Nat.mod_lt _ (by decide)

theorem VReg.laneU_lt (r : VReg) (w : Bool) (j : Nat) : r.laneU w j < 2 ^ laneBits w := Nat.mod_lt _ (Nat.two_pow_pos _)

section
variable (d : VReg) (w : Bool) (act : Nat → Bool) (val : Nat → Int) (tag : Nat → Nat) {j : Nat}

theorem VReg.laneU_write (h : j < laneCount w) :
    (d.write w act val tag).laneU w j = if act j then wrapNat (laneBits w) (val j) else d.laneU w j := by
  have fits := packLanes_lt (laneCount w) (laneBits w) fun j => if act j then val j else (d.laneU w j : Int)
  rw [laneBits_mul_laneCount] at fits
  rw [VReg.laneU, VReg.write]
  simp only [toNat_ofNat_of_lt fits, packLanes_lane, if_pos h]
  split
  · rfl
  · rw [wrapNat_natCast, Nat.mod_eq_of_lt (d.laneU_lt w j)]

theorem VReg.lane_write (h : j < laneCount w) :
    (d.write w act val tag).lane w j = if act j then signedOf (laneBits w) (wrapNat (laneBits w) (val j)) else d.lane w j := by
  rw [VReg.lane, VReg.laneU_write d w act val tag h]
  split <;> rfl

theorem VReg.tag_write : (d.write w act val tag).tag j =
    if j < laneCount w then (if act j then tag j % 16 else d.tag j) else 0 := by
  have fits := packLanes_lt (laneCount w) 4 fun j => if act j then (tag j : Int) else (d.tag j : Int)
  have wide : 2 ^ (4 * laneCount w) ≤ 2 ^ 128 := Nat.pow_le_pow_right (by decide) (by have := laneCount_le w; omega)
  rw [VReg.tag, VReg.write]
  simp only [toNat_ofNat_of_lt (fits.trans_le wide), show (16 : Nat) = 2 ^ 4 by rfl, packLanes_lane]
  refine if_congr Iff.rfl ?_ rfl
  split
  · exact wrapNat_natCast _
  · rw [wrapNat_natCast]
    exact Nat.mod_eq_of_lt (d.tag_lt j)

end

theorem Engine.bTag_lt (e : Engine) (r : VR) (j : Nat) : e.bTag r j < 16 := by
  unfold Engine.bTag
  split
  · exact VReg.tag_lt _ j
  · decide

theorem Engine.tgTag_lt (e : Engine) (r : VR) (j : Nat) : e.tgTag r j < 16 := by
  unfold Engine.tgTag
  dsimp only
  split
  · exact Nat.or_lt_two_pow (n := 4) (VReg.tag_lt _ j) (e.bTag_lt r j)
  · exact VReg.tag_lt _ j
  · exact e.bTag_lt r j
  · exact VReg.tag_lt _ j

/-! ## Values that a lane holds (R157) -/

theorem clampInt_bounds {x lo hi : Int} (h : lo ≤ hi) : lo ≤ clampInt x lo hi ∧ clampInt x lo hi ≤ hi := by
  unfold clampInt
  split
  · omega
  · split <;> omega

theorem clampInt_of_mem {x lo hi : Int} (low : lo ≤ x) (high : x ≤ hi) : clampInt x lo hi = x := by
  unfold clampInt
  rw [if_neg (by omega), if_neg (by omega)]

section
variable (w : Bool)

/-- A saturated value is one of the lane. -/
theorem signedOf_satLane (x : Int) : signedOf (laneBits w) (wrapNat (laneBits w) (satLane w false x)) = satLane w false x := by
  have half : (0 : Int) < 2 ^ (laneBits w - 1) := by positivity
  obtain ⟨low, high⟩ := clampInt_bounds (x := x) (lo := -(2 ^ (laneBits w - 1))) (hi := 2 ^ (laneBits w - 1) - 1) (by omega)
  exact signedOf_wrapNat (laneBits_pos w) low (Int.lt_of_le_sub_one high)

/-- An unsigned saturated value is its own bit pattern. -/
theorem wrapNat_satLane_unsigned (x : Int) : wrapNat (laneBits w) (satLane w true x) = (satLane w true x).toNat := by
  have whole : (0 : Int) < 2 ^ laneBits w := by positivity
  obtain ⟨low, high⟩ := clampInt_bounds (x := x) (lo := 0) (hi := 2 ^ laneBits w - 1) (by omega)
  exact wrapNat_of_nonneg low (Int.lt_of_le_sub_one high)

theorem signedOf_signedOf (n : Nat) : signedOf (laneBits w) (wrapNat (laneBits w) (signedOf (laneBits w) n)) =
    signedOf (laneBits w) n := by
  obtain ⟨low, high⟩ := signedOf_bounds (laneBits_pos w) n
  exact signedOf_wrapNat (laneBits_pos w) low high

theorem signedOf_wrapNat_natCast (n : Nat) : signedOf (laneBits w) (wrapNat (laneBits w) n) = signedOf (laneBits w) n := by
  rw [wrapNat_natCast, signedOf_mod]

end

/-- A value of `k + 1` bits stays one when it is shifted right, rounded or not. -/
theorem fdiv_two_pow_bounds {x up : Int} {k m : Nat} (low : -2 ^ k ≤ x) (high : x < 2 ^ k) (nonneg : 0 ≤ up) (small : up < 2 ^ m) :
    -2 ^ k ≤ (x + up).fdiv (2 ^ m) ∧ (x + up).fdiv (2 ^ m) < 2 ^ k := by
  have hm : (0 : Int) < 2 ^ m := by positivity
  have hk : (0 : Int) < 2 ^ k := by positivity
  rw [Int.fdiv_eq_ediv_of_nonneg _ hm.le, Int.le_ediv_iff_mul_le hm, Int.ediv_lt_iff_lt_mul hm]
  constructor <;> nlinarith

/-- `x` shifted right by `m` bits, to the nearest number or down (R157, R170). -/
def shiftRight (rnd : Bool) (x : Int) (m : Nat) : Int := if rnd then roundDown x m else x.fdiv (2 ^ m)

theorem shiftRight_bounds {x : Int} {k : Nat} (rnd : Bool) (m : Nat) (low : -2 ^ k ≤ x) (high : x < 2 ^ k) :
    -2 ^ k ≤ shiftRight rnd x m ∧ shiftRight rnd x m < 2 ^ k := by
  have down := fdiv_two_pow_bounds low high le_rfl (show (0 : Int) < 2 ^ m by positivity)
  rw [add_zero] at down
  unfold shiftRight roundDown
  split
  · split
    · exact ⟨low, high⟩
    · exact fdiv_two_pow_bounds low high (by positivity) (pow_lt_pow_right₀ (by decide) (by omega))
  · exact down

/-- VSHR to the right by up to 31 bits (R170). -/
theorem shiftLane_right (w rnd : Bool) (v : Int) (u : Nat) {sh : Int} (low : 0 ≤ sh) (high : sh ≤ 31) :
    shiftLane w false rnd v u sh = shiftRight rnd v sh.toNat := by
  rw [shiftLane, clampInt_of_mem (by omega) (by omega), if_neg (by omega)]
  rfl

/-- The second factor of VMUL and VMAC as R170 words it. -/
theorem Engine.factor_eq (e : Engine) (x : Run) (r : VR) (j : Nat) : e.factor x r j =
    if r.sub / 4 = 1 then ((e.bU r x.pfx? j % 65536 : Nat) : Int) else signedOf 16 (e.bU r x.pfx? j) := by
  rw [Engine.factor]
  exact if_congr Iff.rfl rfl (signedOf_mod 16 _)

end Sys2Proof.Machine
end

section
/-! Reads of the memories, and accumulators (05_engine_instructions.md R147, R170, R174; 04_engine_fabric.md R118, R138). -/

namespace Sys2Proof.Machine

/-! ## Windows and the words of a read (R118, R138) -/

section
variable {a n : Nat}

theorem windowOf_table (h : a + n ≤ 0x20000) : windowOf a n = some (.table, a) := if_pos h

/-- A table that is wholly in the table area. -/
theorem State.tableAt_table (p : Nat) (aligned : a % 64 = 0) (inside : a + n ≤ 0x20000) :
    State.tableAt p a n = .ok (tableBase + a) := by
  rw [State.tableAt, windowOf_table inside]
  exact if_pos aligned

end

section
variable (s : State) (known reads : List Nat)

theorem newUpsets_nil : newUpsets known reads [] = [] := rfl
theorem State.countCorrected_nil : s.countCorrected reads [] = s := rfl
theorem State.findUpsets_nil : s.findUpsets reads [] = s := rfl
theorem State.repairWords_nil : s.repairWords reads [] = s := rfl

/-- With no bad word known and none found a read has the plain effect. -/
theorem State.readLocal_clean (clean : s.eccBad = []) (body : State → Eff) : s.readLocal reads [] body = body s := by
  rw [State.readLocal, newUpsets_nil, State.repairWords_nil]
  simp [clean]

end

/-- A look-up without interpolation gives the entry that the index names, at most the last one. -/
theorem State.vlutValue_plain (s : State) (base : Nat) (w : Bool) (i : Nat) : s.vlutValue base w 0 i =
    signedOf (laneBits w) (s.le (base + laneBits w / 8 * min 4095 i) (laneBits w / 8)) := by
  have entry : (clampInt (i : Int) 0 4095).toNat = min 4095 i := by
    unfold clampInt
    split <;> omega
  change s.tableEntry base w (clampInt (i : Int) 0 4095).toNat = _
  rw [entry, State.tableEntry]

/-! ## Accumulators (R147, R170) -/

theorem Engine.acc_setIfInBounds (e : Engine) {i : Nat} (h : i < 4) (a : AReg) (j : Nat) :
    ({ e with a := e.a.setIfInBounds i a } : Engine).acc j = if j = i then a else e.acc j :=
  Vector.getD_toList_setIfInBounds e.a a {} h j

theorem AReg.lane_packLanes (g : Nat → Int) (tags : BitVec 128) {j : Nat} (hj : j < 32) :
    AReg.lane { lanes := BitVec.ofNat 1536 (packLanes 32 48 g), tags := tags } j = signedOf 48 (wrapNat 48 (g j)) := by
  have fits := packLanes_lt 32 48 g
  simp only [Nat.reduceMul] at fits
  rw [AReg.lane, toNat_ofNat_of_lt fits, ← signedOf_mod 48, packLanes_lane, if_pos hj]

theorem AReg.lane_zero (j : Nat) : AReg.lane {} j = 0 := by
  rw [AReg.lane, show (({} : AReg).lanes).toNat = 0 from BitVec.toNat_zero, Nat.zero_shiftRight]
  rfl

theorem AReg.signedOf_lane (a : AReg) (j : Nat) : signedOf 48 (wrapNat 48 (a.lane j)) = a.lane j := by
  obtain ⟨low, high⟩ := signedOf_bounds (w := 48) (by decide) (a.lanes.toNat >>> (48 * j))
  exact signedOf_wrapNat (by decide) low high

end Sys2Proof.Machine
end

section
/-! Addresses, stores and pixels (05_engine_instructions.md R165-R168; 04_engine_fabric.md R115, R118, R128, R138). -/

namespace Sys2Proof.Machine

/-! ## Addresses (R118) -/

/-- The bytes of a window. -/
def Window.size : Window → Nat
  | .table | .scratch => 0x20000
  | .line => 0x100000
  | .active | .inactive => 0x800000
  | .fstate => 0x400000
  | .hist => 0x10000
  | .regs => 0x1000
  | .flash => 0x10000000

/-- What lies in a window lies wholly in it. -/
theorem windowOf_inside {a n o : Nat} {w : Window} (h : windowOf a n = some (w, o)) : o + n ≤ w.size := by
  unfold windowOf at h
  split_ifs at h <;> cases h <;> simp only [Window.size] <;> omega

section
variable {s : State} {p : Fin 272} {f : BitVec 26} {e : Engine} {x : Run} {may may' : Window → Bool} {w : Window} {off : Nat}

/-- An address that passes is that of a window that the instruction may reach. -/
theorem Engine.address_window (h : e.address x f may = .ok (w, off)) : ∃ o, mfOff f.toNat x.pfx? = some o ∧
    windowOf (e.sr (MF.of f).sa + o).toNat (MF.of f).size = some (w, off) := by
  unfold Engine.address at h
  dsimp only at h
  split at h
  · cases h
  · next o offset =>
    split at h
    · cases h
    · next window =>
      split_ifs at h
      cases h
      exact ⟨o, offset, window⟩

theorem Engine.address_inside (h : e.address x f may = .ok (w, off)) : off + (MF.of f).size ≤ w.size := by
  obtain ⟨_, -, window⟩ := Engine.address_window h
  exact windowOf_inside window

/-- The same address from an instruction that may not reach its window is 0x11. -/
theorem Engine.address_barred (h : e.address x f may = .ok (w, off)) (barred : may' w = false := by rfl) :
    e.address x f may' = .error 0x11 := by
  obtain ⟨o, offset, window⟩ := Engine.address_window h
  simp only [Engine.address, offset, window, barred]
  rfl

theorem Engine.stored_length (e : Engine) (m : MF) : (e.stored m).length = m.size := by
  unfold Engine.stored MF.size
  split <;> exact length_leBytes _ _

/-- A loaded value changes the registers alone. -/
theorem Engine.loaded_frame (e : Engine) (m : MF) (bs : List Byte) : ∃ ss vs, e.loaded m bs = { e with s := ss, v := vs } := by
  unfold Engine.loaded
  split
  · exact ⟨e.s, _, rfl⟩
  · exact ⟨_, e.v, rfl⟩

theorem State.stlPort_scratch (issues : s.issues p 0x15 f = some (e, x)) (address : e.address x f may = .ok (.scratch, off)) :
    s.stlPort p f = none := by
  have barred := Engine.address_barred address (may' := fun w => w = .inactive && !x.kind.isItem)
  rw [State.stlPort, issues]
  simp only [barred]

/-! ## The memory and the program (R118, R128) -/

/-- A byte put below the program slots leaves the program as it is. -/
theorem State.slotLen_poke {a : Nat} {bs : List Byte} (below : a + bs.length ≤ 6 * 2 ^ 40) (i : Nat) :
    (s.poke a bs).slotLen i = s.slotLen i := by
  rw [State.slotLen, State.slotLen, State.progWord, State.progWord, State.le_poke_other 4 (.inr ?_)]
  unfold progBase
  omega

theorem wordsOf_mem {a n c : Nat} (h : c ∈ wordsOf a n) : a ≤ c ∧ c + 4 ≤ a + n := by
  obtain ⟨i, hi, rfl⟩ := List.mem_map.1 h
  have := List.mem_range.1 hi
  omega

/-- Words of a space without uncorrectable words. -/
theorem wordsOf_clean {a n k : Nat} (clean : ∀ c ∈ s.eccBad, c / 2 ^ 40 ≠ k) (low : k * 2 ^ 40 ≤ a) (high : a + n ≤ (k + 1) * 2 ^ 40)
    (some : Nat → Bool) : ((wordsOf a n).filter some).any (fun r => s.eccBad.contains r) = false := by
  refine List.any_eq_false.2 fun c hc bad => clean c (List.contains_iff_mem.1 bad) ?_
  obtain ⟨above, below⟩ := wordsOf_mem (List.mem_filter.1 hc).1
  omega

/-! ## The frame-state store (R115, R167) -/

theorem fstBase_inside {g n : Nat} (region : g < 64) (inside : off + n ≤ Window.fstate.size) :
    2 * 2 ^ 40 ≤ fstBase g + off ∧ fstBase g + off + n ≤ 3 * 2 ^ 40 := by
  simp only [Window.size] at inside
  unfold fstBase
  omega

theorem State.fstBytes_clean {n : Nat} (region : x.item.region < 64) (inside : off + n ≤ Window.fstate.size)
    (clean : ∀ a ∈ s.eccBad, a / 2 ^ 40 ≠ 2) : s.fstBytes x off n = (List.range n).map fun i =>
      ((x.writes.find? fun c => c.1 = off + i).map (·.2)).getD (s.byte (fstBase x.item.region + off + i)) := by
  refine List.map_congr_left fun i hi => ?_
  have below := List.mem_range.1 hi
  obtain ⟨low, high⟩ := fstBase_inside region inside
  dsimp only
  rw [← Nat.add_assoc]
  cases x.writes.find? fun c => c.1 = off + i with
  | some c => rfl
  | none =>
    have good : s.eccBad.contains (fstBase x.item.region + off + i - (fstBase x.item.region + off + i) % 4) = false := by
      rw [← Bool.not_eq_true, List.contains_iff_mem]
      exact fun bad => clean _ bad (by omega)
    simp only [good]
    rfl

/-- The run with bytes put into its write buffer. -/
def Run.buffered (y : Run) (blocks : List Nat) (off : Nat) (bs : List Byte) : Run :=
  { y with writes := writeBuffer y.writes off bs, blocks := blocks }.sign 1 off bs

end

/-! ## Pixels (R165) -/

/-- The value that LDPX gives a lane is one of the lane. -/
theorem PX.signedOf_value (q : PX) (word : Nat) :
    signedOf (laneBits q.w) (wrapNat (laneBits q.w) (q.value (lineValue word))) = q.value (lineValue word) := by
  unfold PX.value
  cases q.w
  · exact signedOf_satLane false _
  · obtain ⟨low, high⟩ := signedOf_bounds (w := 20) (by decide) word
    exact signedOf_wrapNat (w := 32) (by decide) (low.trans' (by decide)) (high.trans (by decide))

/-- The registers after LDPX of the words `word`: the lanes and the mask of those that are present. -/
def Engine.pixels (e : Engine) (q : PX) (word : Nat → Nat) : Engine :=
  (e.putV q.vd ((e.vr q.vd).write q.w (e.active q.msk) (fun j => if linePresent (word j) then q.value (lineValue (word j)) else 0)
    fun j => if linePresent (word j) then lineTag (word j) else 0)).putMask q.pm
      (BitVec.ofNat 32 (packLanes (laneCount q.w) 1 fun j => if e.active q.msk j && linePresent (word j) then 1 else 0))

theorem Engine.vr_putMask (e : Engine) (k : Nat) (v : Word) (i : Nat) : (e.putMask k v).vr i = e.vr i := by
  obtain ⟨m, frame⟩ := e.putMask_frame k v
  rw [frame]
  rfl

theorem Engine.pixels_frame (e : Engine) (word : Nat → Nat) (q : PX) : ∃ vs ms, e.pixels q word = { e with v := vs, m := ms } := by
  obtain ⟨m, frame⟩ := Engine.putMask_frame (e.putV q.vd ((e.vr q.vd).write q.w (e.active q.msk)
    (fun j => if linePresent (word j) then q.value (lineValue (word j)) else 0) fun j =>
      if linePresent (word j) then lineTag (word j) else 0)) q.pm
    (BitVec.ofNat 32 (packLanes (laneCount q.w) 1 fun j => if e.active q.msk j && linePresent (word j) then 1 else 0))
  exact ⟨_, m, frame⟩

end Sys2Proof.Machine
end

section
/-! The vector instructions that put lanes, masks or accumulators (05_engine_instructions.md R154, R156-R159, R170-R174). -/

namespace Sys2Proof.Machine

section
variable {s t : State} {p : Fin 272} {op cycles : Nat} {f : BitVec 26} {e : Engine} {x : Run} {legal : VR → Bool}

/-! ## Words of form VR (R154, R156) -/

/-- A word of form VR that issues: BM names an operand, and a PFX word stands before an immediate only (R154, R156). -/
def IssuesVR (s : State) (p : Fin 272) (op : Nat) (f : BitVec 26) (e : Engine) (x : Run) : Prop :=
  Issues s p op f e x ∧ (VR.of f).bm ≠ 3 ∧ ((VR.of f).bm = 2 ∨ x.pfx? = none)

/-- A VR instruction that answers the registers `e'`. -/
theorem IssuesVR.answers {e' : Engine} {body : Engine → Run → VR → Except Nat Engine} (h : IssuesVR s p op f e x)
    (hb : body e x (VR.of f) = .ok e') (hl : legal (VR.of f) = true := by simp [*]) (run : e'.run = e.run := by rfl)
    (path : e.OnPath e' := by exact ⟨rfl, rfl, rfl⟩) :
    GoesOn s (s.vrInstr p op f cycles legal body) p e' x ∧ RegistersOnly s (s.vrInstr p op f cycles legal body) := by
  obtain ⟨issues, operand, prefixed⟩ := h
  exact Issues.regInstr issues (prefixed.symm.imp id decide_eq_true) (by rw [hl, Bool.and_true, decide_eq_true operand]) hb run path

/-! ## Lanes (R148, R158, R159) -/

/-- THE EFFECT OF A WRITE OF LANES: what the lanes and tags of the register are afterwards. -/
theorem lanesDone_of_write {vd : Nat} {w : Bool} {act : Nat → Bool} {v val : Nat → Int} {tag : Nat → Nat} (hd : vd < 32)
    (done : GoesOn s t p (e.putV vd ((e.vr vd).write w act v tag)) x ∧ RegistersOnly s t)
    (values : ∀ j, j < laneCount w → act j = true → signedOf (laneBits w) (wrapNat (laneBits w) (v j)) = val j)
    (tags : ∀ j, tag j < 16) : LanesDone s t p e x vd w act val tag := by
  have own : (e.putV vd ((e.vr vd).write w act v tag)).vr vd = (e.vr vd).write w act v tag :=
    (e.vr_putV hd _ vd).trans (if_pos rfl)
  obtain ⟨goes, only⟩ := done
  refine ⟨_, goes, only, rfl, fun i other => (e.vr_putV hd _ i).trans (if_neg other), fun j hj => ?_, fun j hj => ?_,
    fun wide j low high => ?_⟩
  · rw [own, VReg.lane_write _ _ _ _ _ hj]
    split
    · next active => exact values j hj active
    · rfl
  · rw [own, VReg.tag_write, if_pos hj, Nat.mod_eq_of_lt (tags j)]
  · subst wide
    rw [own, VReg.tag_write]
    exact if_neg (Nat.not_lt.2 low)

theorem LanesDone.congr {vd : Nat} {w : Bool} {act : Nat → Bool} {val val' : Nat → Int} {tag : Nat → Nat}
    (h : LanesDone s t p e x vd w act val tag) (same : ∀ j, j < laneCount w → val j = val' j) :
    LanesDone s t p e x vd w act val' tag := by
  obtain ⟨e', goes, only, frame, others, lanes, rest⟩ := h
  exact ⟨e', goes, only, frame, others, fun j hj => (lanes j hj).trans (by rw [same j hj]), rest⟩

/-- The result of a VR word whose lanes take `val` under MK and TG. -/
abbrev VrDone (s t : State) (p : Fin 272) (f : BitVec 26) (e : Engine) (x : Run) (val : Nat → Int) : Prop :=
  LanesDone s t p e x (VR.of f).vd (VR.of f).w (e.active (VR.of f).msk) val (e.tgTag (VR.of f))

/-- A VR instruction that answers a result under MK and TG in register Vd. -/
theorem IssuesVR.result {body : Engine → Run → VR → Except Nat Engine} {v val : Nat → Int} (h : IssuesVR s p op f e x)
    (hb : body e x (VR.of f) = .ok (e.vrResult (VR.of f) v))
    (values : ∀ j, j < laneCount (VR.of f).w → signedOf (laneBits (VR.of f).w) (wrapNat (laneBits (VR.of f).w) (v j)) = val j)
    (hl : legal (VR.of f) = true := by simp [*]) : VrDone s (s.vrInstr p op f cycles legal body) p f e x val :=
  lanesDone_of_write (bits_lt _ 25 21) (h.answers hb hl) (fun j hj _ => values j hj) (e.tgTag_lt _)

/-! ## Arithmetic (R157, R170, R171) -/

theorem State.addSub_wraps {g : Int → Int → Int} (h : IssuesVR s p op f e x) (wraps : (VR.of f).sub = 0 ∨ (VR.of f).sub = 2) :
    VrDone s (s.addSub p op f g) p f e x fun j => signedOf (laneBits (VR.of f).w)
      (wrapNat (laneBits (VR.of f).w) (g ((e.vr (VR.of f).va).lane (VR.of f).w j) (e.bS (VR.of f) x.pfx? j))) := by
  refine h.result (v := fun j => g _ _) ?_ (fun _ _ => rfl) (by rcases wraps with h | h <;> simp [h])
  rcases wraps with h | h <;> simp [h]

theorem State.addSub_saturates {g : Int → Int → Int} (h : IssuesVR s p op f e x) (signed : (VR.of f).sub = 1) :
    VrDone s (s.addSub p op f g) p f e x fun j => satLane (VR.of f).w false
      (g ((e.vr (VR.of f).va).lane (VR.of f).w j) (e.bS (VR.of f) x.pfx? j)) := by
  refine h.result ?_ fun _ _ => signedOf_satLane _ _
  simp [signed]

theorem State.addSub_saturatesUnsigned {g : Int → Int → Int} (h : IssuesVR s p op f e x) (unsigned : (VR.of f).sub = 3) :
    VrDone s (s.addSub p op f g) p f e x fun j => signedOf (laneBits (VR.of f).w)
      (satLane (VR.of f).w true (g (((e.vr (VR.of f).va).laneU (VR.of f).w j : Nat) : Int) (e.bU (VR.of f) x.pfx? j))).toNat := by
  refine h.result (v := fun j => satLane (VR.of f).w true (g _ _)) ?_ fun _ _ => by rw [wrapNat_satLane_unsigned]
  simp [unsigned]

theorem exec_vmul (h : IssuesVR s p 0x22 f e x) : Gives (.vmul p f) s fun t => VrDone s t p f e x fun j =>
    satLane (VR.of f).w false (roundDown ((e.vr (VR.of f).va).lane (VR.of f).w j * e.factor x (VR.of f) j)
      (vmulShift ((VR.of f).sub % 4))) :=
  ⟨_, rfl, h.result rfl fun _ _ => signedOf_satLane _ _⟩

/-- VMIN and VMAX: signed without SUB[0]. -/
theorem State.minMax_signed {takeA : Int → Int → Bool} (h : IssuesVR s p op f e x) (signed : (VR.of f).sub % 2 = 0) :
    VrDone s (s.minMax p op f takeA) p f e x fun j => if takeA ((e.vr (VR.of f).va).lane (VR.of f).w j) (e.bS (VR.of f) x.pfx? j)
      then (e.vr (VR.of f).va).lane (VR.of f).w j else e.bS (VR.of f) x.pfx? j := by
  refine h.result rfl fun j _ => ?_
  rw [signedOf_wrapNat_natCast, if_neg (by omega : ¬ (VR.of f).sub % 2 = 1), apply_ite (signedOf _)]
  rfl

/-- VMIN and VMAX: unsigned with SUB[0]. -/
theorem State.minMax_unsigned {takeA : Int → Int → Bool} (h : IssuesVR s p op f e x)
    (unsigned : (VR.of f).sub % 2 = 1) :
    VrDone s (s.minMax p op f takeA) p f e x fun j => signedOf (laneBits (VR.of f).w)
      (if takeA ((e.vr (VR.of f).va).laneU (VR.of f).w j) (e.bU (VR.of f) x.pfx? j)
        then (e.vr (VR.of f).va).laneU (VR.of f).w j else e.bU (VR.of f) x.pfx? j) := by
  refine h.result rfl fun j _ => ?_
  rw [signedOf_wrapNat_natCast, if_pos unsigned]

theorem exec_vabs (h : IssuesVR s p 0x28 f e x) (legal : (VR.of f).sub < 2) : Gives (.vabs p f) s fun t =>
    VrDone s t p f e x fun j => satLane (VR.of f).w false ((if (VR.of f).sub = 1 then
      (e.vr (VR.of f).va).lane (VR.of f).w j - e.bS (VR.of f) x.pfx? j else (e.vr (VR.of f).va).lane (VR.of f).w j).natAbs : Int) :=
  ⟨_, rfl, h.result rfl fun _ _ => signedOf_satLane _ _⟩

/-- VSHR FROM A REGISTER: a shift to the right keeps a lane's range. -/
theorem exec_vshr (h : IssuesVR s p 0x24 f e x) (arithmetic : (VR.of f).sub = 0 ∨ (VR.of f).sub = 2)
    (right : ∀ j, j < laneCount (VR.of f).w → 0 ≤ e.bS (VR.of f) x.pfx? j ∧ e.bS (VR.of f) x.pfx? j ≤ 31) :
    Gives (.vshr p f) s fun t => VrDone s t p f e x fun j =>
      shiftRight (decide ((VR.of f).sub = 2)) ((e.vr (VR.of f).va).lane (VR.of f).w j) (e.bS (VR.of f) x.pfx? j).toNat := by
  refine ⟨_, rfl, h.result (v := fun j => shiftLane (VR.of f).w false (decide ((VR.of f).sub = 2))
    ((e.vr (VR.of f).va).lane (VR.of f).w j) ((e.vr (VR.of f).va).laneU (VR.of f).w j) (e.bS (VR.of f) x.pfx? j)) ?_
    (fun j hj => ?_) (by rcases arithmetic with h | h <;> simp [h])⟩
  · rcases arithmetic with h | h <;> simp [h]
  · obtain ⟨low, high⟩ := right j hj
    obtain ⟨above, below⟩ := signedOf_bounds (laneBits_pos (VR.of f).w) ((e.vr (VR.of f).va).laneU (VR.of f).w j)
    obtain ⟨above, below⟩ := shiftRight_bounds (decide ((VR.of f).sub = 2)) (e.bS (VR.of f) x.pfx? j).toNat above below
    rw [shiftLane_right _ _ _ _ low high]
    exact signedOf_wrapNat (laneBits_pos _) above below

/-- VSAT IN SATURATE MODE to `b + 1` bits. -/
theorem exec_vsat (h : IssuesVR s p 0x25 f e x) (mode : (VR.of f).sub = 0) (immediate : (VR.of f).bm = 2) (plain : x.pfx? = none)
    (fits : (VR.of f).b + 1 ≤ laneBits (VR.of f).w) : Gives (.vsat p f) s fun t => VrDone s t p f e x fun j =>
      clampInt ((e.vr (VR.of f).va).lane (VR.of f).w j) (-(2 ^ (VR.of f).b)) (2 ^ (VR.of f).b - 1) := by
  have width : (VR.of f).satBits x.pfx? = ((VR.of f).b + 1 : Nat) := by
    rw [plain]
    push_cast
    rfl
  refine ⟨_, rfl, h.result (v := fun j => clampBits false ((VR.of f).b + 1) ((e.vr (VR.of f).va).lane (VR.of f).w j)) ?_
    fun j _ => ?_⟩
  · simp only [mode, width, Int.toNat_natCast]
    rw [if_neg]
    · rfl
    · simp only [Bool.or_eq_true, decide_eq_true_eq]
      omega
  · have whole : (0 : Int) < 2 ^ (VR.of f).b := by positivity
    have lane : (2 : Int) ^ (VR.of f).b ≤ 2 ^ (laneBits (VR.of f).w - 1) := pow_le_pow_right₀ (by decide) (by omega)
    obtain ⟨low, high⟩ := clampInt_bounds (x := (e.vr (VR.of f).va).lane (VR.of f).w j) (lo := -(2 ^ (VR.of f).b))
      (hi := 2 ^ (VR.of f).b - 1) (by omega)
    exact signedOf_wrapNat (laneBits_pos _) (by rw [clampBits]; exact (neg_le_neg lane).trans low)
      (by rw [clampBits]; exact (Int.lt_of_le_sub_one high).trans_le lane)

/-! ## Accumulators (R147, R170) -/

/-- THE EFFECT OF A WRITE OF AN ACCUMULATOR. -/
theorem accDone_of_write {n : Nat} {g val : Nat → Int} {tags : BitVec 128} (hn : n < 4)
    (done : GoesOn s t p { e with a := e.a.setIfInBounds n ⟨BitVec.ofNat 1536 (packLanes 32 48 g), tags⟩ } x ∧ RegistersOnly s t)
    (values : ∀ j, signedOf 48 (wrapNat 48 (g j)) = val j) :
    ∃ e', GoesOn s t p e' x ∧ RegistersOnly s t ∧ { e' with a := e.a } = e ∧ (∀ i, i ≠ n → e'.acc i = e.acc i) ∧
      ∀ j, j < 32 → (e'.acc n).lane j = val j := by
  obtain ⟨goes, only⟩ := done
  refine ⟨_, goes, only, rfl, fun i other => (e.acc_setIfInBounds hn _ i).trans (if_neg other), fun j hj => ?_⟩
  rw [e.acc_setIfInBounds hn, if_pos rfl, AReg.lane_packLanes _ _ hj, values j]

theorem exec_vmac (h : IssuesVR s p 0x23 f e x) (legal : (VR.of f).vd < 4) : Gives (.vmac p f) s fun t =>
    ∃ e', GoesOn s t p e' x ∧ RegistersOnly s t ∧ { e' with a := e.a } = e ∧ (∀ i, i ≠ (VR.of f).vd → e'.acc i = e.acc i) ∧
      ∀ j, j < 32 → (e'.acc (VR.of f).vd).lane j =
        if j < laneCount (VR.of f).w ∧ e.active (VR.of f).msk j = true then
          clampInt ((if (VR.of f).sub % 2 = 1 then 0 else (e.acc (VR.of f).vd).lane j) + (if (VR.of f).sub / 2 % 2 = 1 then -1 else 1) *
            ((e.vr (VR.of f).va).lane (VR.of f).w j * e.factor x (VR.of f) j)) (-(2 ^ 47 - 1)) (2 ^ 47 - 1)
        else if (VR.of f).sub % 2 = 1 then 0 else (e.acc (VR.of f).vd).lane j := by
  have old : ∀ j, (if (VR.of f).sub % 2 = 1 then {} else e.acc (VR.of f).vd : AReg).lane j =
      if (VR.of f).sub % 2 = 1 then 0 else (e.acc (VR.of f).vd).lane j := fun j => by
    rw [apply_ite (AReg.lane · j), AReg.lane_zero]
  refine ⟨_, rfl, accDone_of_write legal (h.answers rfl) fun j => ?_⟩
  simp only [Bool.and_eq_true, decide_eq_true_eq, ← old]
  generalize (if (VR.of f).sub % 2 = 1 then {} else e.acc (VR.of f).vd : AReg) = a
  split
  · generalize (e.vr (VR.of f).va).lane (VR.of f).w j * e.factor x (VR.of f) j = product
    have sum : (if (VR.of f).sub / 2 % 2 = 1 then a.lane j - product else a.lane j + product) =
        a.lane j + (if (VR.of f).sub / 2 % 2 = 1 then -1 else 1) * product := by
      split <;> ring
    rw [sum]
    obtain ⟨low, high⟩ := clampInt_bounds (x := a.lane j + (if (VR.of f).sub / 2 % 2 = 1 then -1 else 1) * product)
      (lo := -(2 ^ 47 - 1)) (hi := 2 ^ 47 - 1) (by decide)
    exact signedOf_wrapNat (by decide) (by omega) (by omega)
  · exact a.signedOf_lane j

/-! ## Masks (R147, R172) -/

/-- Mask `k` has the bit `c` of each of `n` lanes, and nothing else of the engine changes; M0 takes no write. -/
def MaskDone (s t : State) (p : Fin 272) (e : Engine) (x : Run) (k n : Nat) (c : Nat → Bool) : Prop :=
  ∃ e', GoesOn s t p e' x ∧ RegistersOnly s t ∧ { e' with m := e.m } = e ∧ (∀ i, i ≠ k → e'.mask i = e.mask i) ∧
    (k = 0 → e' = e) ∧ (k ≠ 0 → ∀ j, j < 32 → (e'.mask k).getLsbD j = (decide (j < n) && c j))

/-- THE EFFECT OF A WRITE OF A MASK. -/
theorem maskDone_of_write {k n : Nat} (hk : k < 8) {c : Nat → Bool}
    (done : GoesOn s t p (e.putMask k (BitVec.ofNat 32 (packLanes n 1 fun j => if c j then 1 else 0))) x ∧ RegistersOnly s t) :
    MaskDone s t p e x k n c := by
  obtain ⟨goes, only⟩ := done
  refine ⟨_, goes, only, ?_, fun i other => ?_, fun m0 => ?_, fun some j hj => ?_⟩
  · obtain ⟨m, frame⟩ := e.putMask_frame k (BitVec.ofNat 32 (packLanes n 1 fun j => if c j then 1 else 0))
    rw [frame]
  · rw [e.mask_putMask hk, if_neg fun h => other h.1]
  · rw [Engine.putMask, if_pos m0]
  · rw [e.mask_putMask hk, if_pos ⟨rfl, some⟩, getLsbD_packLanes_bits n c hj]

/-- An instruction of form VR that writes a mask stays on the way of its run. -/
theorem IssuesVR.mask {k : Nat} {body : Engine → Run → VR → Except Nat Engine} {v : Word} (h : IssuesVR s p op f e x)
    (hb : body e x (VR.of f) = .ok (e.putMask k v)) (hl : legal (VR.of f) = true := by simp [*]) :
    GoesOn s (s.vrInstr p op f cycles legal body) p (e.putMask k v) x ∧
      RegistersOnly s (s.vrInstr p op f cycles legal body) := by
  obtain ⟨m, frame⟩ := e.putMask_frame k v
  rw [frame] at hb ⊢
  exact h.answers hb hl

theorem exec_vcmp (h : IssuesVR s p 0x29 f e x) (legal : (VR.of f).vd < 8) : Gives (.vcmp p f) s fun t =>
    MaskDone s t p e x (VR.of f).vd (laneCount (VR.of f).w) fun j => e.active (VR.of f).msk j &&
      vcmpHolds (VR.of f).sub ((e.vr (VR.of f).va).lane (VR.of f).w j) (e.bS (VR.of f) x.pfx? j)
        ((e.vr (VR.of f).va).laneU (VR.of f).w j) (e.bU (VR.of f) x.pfx? j) :=
  ⟨_, rfl, maskDone_of_write legal (h.mask rfl)⟩

/-- VTAG 0: the mask of the lanes that carry a bit of the set. -/
theorem exec_vtag_mask (h : IssuesVR s p 0x2D f e x) (register : (VR.of f).bm ≠ 0) (mask : (VR.of f).sub = 0)
    (legal : (VR.of f).vd < 8) : Gives (.vtag p f) s fun t => MaskDone s t p e x (VR.of f).vd (laneCount (VR.of f).w) fun j =>
      e.active (VR.of f).msk j && decide ((e.vr (VR.of f).va).tag j &&& (e.bU (VR.of f) x.pfx? 0 % 16) ≠ 0) :=
  ⟨_, rfl, maskDone_of_write legal (h.mask (by simp only [mask]))⟩

/-! ## Selection, tags and look-up (R173, R174) -/

theorem exec_vsel (h : IssuesVR s p 0x2A f e x) : Gives (.vsel p f) s fun t => LanesDone s t p e x (VR.of f).vd (VR.of f).w
    (fun _ => true) (fun j => if e.active (VR.of f).msk j then (e.vr (VR.of f).va).lane (VR.of f).w j else e.bS (VR.of f) x.pfx? j)
    (fun j => if e.active (VR.of f).msk j then (e.vr (VR.of f).va).tag j else e.bTag (VR.of f) j) := by
  refine ⟨_, rfl, lanesDone_of_write (bits_lt _ 25 21) (h.answers rfl) (fun j _ _ => ?_) fun j => ?_⟩
  · split <;> exact signedOf_signedOf _ _
  · split
    · exact VReg.tag_lt _ j
    · exact e.bTag_lt _ j

/-- VTAG 2 AND 3: the lanes of Va with tag bits set or cleared. -/
theorem exec_vtag_puts (h : IssuesVR s p 0x2D f e x) (register : (VR.of f).bm ≠ 0) (puts : (VR.of f).sub = 2 ∨ (VR.of f).sub = 3) :
    Gives (.vtag p f) s fun t => LanesDone s t p e x (VR.of f).vd (VR.of f).w (e.active (VR.of f).msk)
      ((e.vr (VR.of f).va).lane (VR.of f).w) fun j => if (VR.of f).sub = 2 then
        (e.vr (VR.of f).va).tag j ||| e.bU (VR.of f) x.pfx? 0 % 16
      else (e.vr (VR.of f).va).tag j &&& (15 - e.bU (VR.of f) x.pfx? 0 % 16) := by
  refine ⟨_, rfl, lanesDone_of_write (bits_lt _ 25 21) (h.answers ?_ (by rcases puts with h | h <;> simp [h, register]))
    (fun j _ _ => signedOf_signedOf _ _) fun j => ?_⟩
  · rcases puts with h | h <;> simp only [h] <;> rfl
  · split
    · exact Nat.or_lt_two_pow (n := 4) (VReg.tag_lt _ j) (Nat.mod_lt _ (by decide))
    · exact Nat.and_le_left.trans_lt (VReg.tag_lt _ j)

/-- VLUT WITHOUT INTERPOLATION from the table area. -/
theorem exec_vlut (h : IssuesVR s p 0x2C f e x) (register : (VR.of f).bm = 1) (plain : (VR.of f).sub = 0) (clean : s.eccBad = [])
    (aligned : (e.sr ((VR.of f).b % 16)).toNat % 64 = 0)
    (inside : (e.sr ((VR.of f).b % 16)).toNat + 4096 * (laneBits (VR.of f).w / 8) ≤ 0x20000) :
    Gives (.vlut ⟨p, []⟩ f) s fun t => LanesDone s t p e x (VR.of f).vd (VR.of f).w (e.active (VR.of f).msk)
      (fun j => signedOf (laneBits (VR.of f).w) (s.le (tableBase + (e.sr ((VR.of f).b % 16)).toNat +
        laneBits (VR.of f).w / 8 * min 4095 ((e.vr (VR.of f).va).laneU (VR.of f).w j % 65536)) (laneBits (VR.of f).w / 8)))
      (e.tgTag (VR.of f)) := by
  obtain ⟨issues, operand, prefixed⟩ := h
  have unprefixed : x.pfx? = none := prefixed.resolve_left (by omega)
  obtain ⟨-, run, -, -⟩ := State.issues_run issues.1
  refine ⟨_, rfl, lanesDone_of_write (bits_lt _ 25 21) (v := fun j => s.vlutValue (tableBase + (e.sr ((VR.of f).b % 16)).toNat)
    (VR.of f).w (VR.of f).sub ((e.vr (VR.of f).va).laneU (VR.of f).w j % 65536))
    (Issues.registers issues (.inl unprefixed) (by simp [register, plain]) ?_ run)
    (fun j _ _ => ?_) (e.tgTag_lt _)⟩
  · simp only [State.tableAt_table p.val aligned inside, State.readLocal_clean _ _ clean]
    rfl
  · rw [plain, State.vlutValue_plain, signedOf_signedOf]

end

end Sys2Proof.Machine
end

section
/-! The loads and stores (05_engine_instructions.md R165-R168; 04_engine_fabric.md R115, R118, R138). -/

namespace Sys2Proof.Machine

section
variable {s : State} {p : Fin 272} {op cycles : Nat} {f : BitVec 26} {e : Engine} {x : Run} {legal : Bool} {may : Window → Bool} {off : Nat}

/-! ## Local memory (R168) -/

/-- The windows that LDL may reach. -/
def ldlWindow (w : Window) : Bool := w = .table || w = .scratch || w = .hist || w = .regs || w = .flash

/-- A load that puts bytes into its register. -/
theorem Issues.loads {bs : List Byte} {body : Engine → Run → Eff} (h : Issues s p op f e x)
    (hb : body e x = (s.setEngine p (e.loaded (MF.of f) bs), .next)) (hl : legal = true := by assumption) :
    GoesOn s (s.instr p op f cycles true legal body) p (e.loaded (MF.of f) bs) x ∧
      RegistersOnly s (s.instr p op f cycles true legal body) := by
  obtain ⟨-, run, -, -⟩ := State.issues_run h.1
  obtain ⟨ss, vs, frame⟩ := e.loaded_frame (MF.of f) bs
  rw [frame] at hb ⊢
  exact Issues.registers h (.inr rfl) hl hb run

theorem exec_ldl_table (h : Issues s p 0x14 f e x) (legal : MF.legal f = true) (address : e.address x f ldlWindow = .ok (.table, off)) :
    Gives (.ldl p f []) s fun t => GoesOn s t p (e.loaded (MF.of f) (s.bytes (tableBase + off) (MF.of f).size)) x ∧
      RegistersOnly s t := by
  refine ⟨_, rfl, Issues.loads h ?_⟩
  unfold ldlWindow at address
  simp only [address]
  rfl

theorem exec_ldl_scratch (h : Issues s p 0x14 f e x) (legal : MF.legal f = true)
    (address : e.address x f ldlWindow = .ok (.scratch, off)) (clean : ∀ a ∈ s.eccBad, a / 2 ^ 40 ≠ 4) :
    Gives (.ldl p f []) s fun t => GoesOn s t p (e.loaded (MF.of f) (s.bytes (scratchBase p + off) (MF.of f).size)) x ∧
      RegistersOnly s t := by
  have inside := Engine.address_inside address
  have good : (wordsOf (scratchBase p + off) (MF.of f).size).any (fun r => s.eccBad.contains r) = false := by
    have := p.isLt
    simp only [Window.size] at inside
    have none := wordsOf_clean clean (a := scratchBase p + off) (n := (MF.of f).size) (by unfold scratchBase; omega)
      (by unfold scratchBase; omega) fun _ => true
    rwa [List.filter_true] at none
  refine ⟨_, rfl, Issues.loads h ?_⟩
  unfold ldlWindow at address
  simp only [address, State.windowBase, newUpsets_nil, good, State.countCorrected_nil, List.isEmpty_nil, Bool.not_true, Bool.or_self,
    Bool.false_eq_true, if_false]

/-- The bytes that the instruction stores stand at `a`, and no other byte, register or object changes. -/
def StoredAt (s t : State) (p : Fin 272) (f : BitVec 26) (e : Engine) (x : Run) (a : Nat) : Prop :=
  (∀ i, i < (MF.of f).size → t.byte (a + i) = (e.stored (MF.of f)).getD i 0) ∧
    (∀ c, c < a ∨ a + (MF.of f).size ≤ c → t.byte c = s.byte c) ∧ GoesOn s t p e x ∧ t.obj = s.obj ∧ t.banks = s.banks

/-- A store into the byte memory below the programs. -/
theorem Issues.stores {a : Nat} {body : Engine → Run → Eff} (h : Issues s p op f e x)
    (hb : body e x = (s.poke a (e.stored (MF.of f)), .next)) (below : a + (MF.of f).size ≤ 6 * 2 ^ 40)
    (hl : legal = true := by assumption) :
    StoredAt s (s.instr p op f cycles true legal body) p f e x a := by
  unfold StoredAt
  rw [← e.stored_length] at below ⊢
  obtain ⟨goes, only⟩ := Issues.keeps h (cycles := cycles) (.inr rfl) hl hb (fun _ => rfl) (s.slotLen_poke below x.slot)
  exact ⟨fun i hi => (RegistersOnly.byte only _).trans (State.byte_poke_stored hi),
    fun c hc => (RegistersOnly.byte only c).trans (State.byte_poke_other hc), goes,
    (RegistersOnly.obj only).trans (s.poke_obj a _), (RegistersOnly.banks only).trans (s.poke_banks a _)⟩

theorem exec_stl (h : Issues s p 0x15 f e x) (legal : MF.legal f = true)
    (address : e.address x f (fun w => w = .scratch || (w = .inactive && !x.kind.isItem)) = .ok (.scratch, off)) :
    Gives (.stl p f) s fun t => StoredAt s t p f e x (scratchBase p + off) := by
  have inside := Engine.address_inside address
  have below : scratchBase p + off + (MF.of f).size ≤ 6 * 2 ^ 40 := by
    have := p.isLt
    simp only [Window.size] at inside
    unfold scratchBase
    omega
  change ∃ t, execStl p f s = .next t ∧ _
  unfold execStl
  rw [State.stlPort_scratch h.1 address]
  exact ⟨_, rfl, Issues.stores h (by simp only [address]) below⟩

/-! ## The frame-state store (R115, R167) -/

theorem exec_ldst (h : Issues s p 0x12 f e x) (legal : MF.legal f = true) (address : e.address x f (· = .fstate) = .ok (.fstate, off))
    (region : x.item.region < 64) (clean : ∀ a ∈ s.eccBad, a / 2 ^ 40 ≠ 2) : Gives (.ldst p f []) s fun t =>
      GoesOn s t p (e.loaded (MF.of f) ((List.range (MF.of f).size).map fun i =>
        ((x.writes.find? fun c => c.1 = off + i).map (·.2)).getD (s.byte (fstBase x.item.region + off + i)))) x ∧
      RegistersOnly s t := by
  have inside := Engine.address_inside address
  obtain ⟨low, high⟩ := fstBase_inside region inside
  have good := wordsOf_clean clean low high
  refine ⟨_, rfl, Issues.loads h ?_⟩
  rw [← State.fstBytes_clean region inside clean]
  simp only [address, State.findUpsets_nil, good, Bool.false_eq_true, if_false]

theorem exec_stst_item (h : Issues s p 0x13 f e x) (legal : MF.legal f = true)
    (address : e.address x f (· = .fstate) = .ok (.fstate, off)) (item : x.kind.isItem = true) (room : x.blocks.length < 384) :
    Gives (.stst p f) s fun t => ∃ blocks, GoesOn s t p { e with run := some (x.buffered blocks off (e.stored (MF.of f))) }
      (x.buffered blocks off (e.stored (MF.of f))) ∧ RegistersOnly s t := by
  have fits : ¬ 384 < (if x.blocks.contains (off / 64) then x.blocks else (off / 64) :: x.blocks).length := by
    split
    · omega
    · simp only [List.length_cons]
      omega
  refine ⟨_, rfl, _, Issues.mapsRun h (.inr rfl) legal (g := fun y => y.buffered
    (if x.blocks.contains (off / 64) then x.blocks else (off / 64) :: x.blocks) _ _) ?_⟩
  simp only [address, item, fits, Bool.not_true, Bool.false_eq_true, if_false]
  rfl

theorem exec_stst_entry (h : Issues s p 0x13 f e x) (legal : MF.legal f = true)
    (address : e.address x f (· = .fstate) = .ok (.fstate, off)) (entry : x.kind.isItem = false) (region : x.item.region < 64) :
    Gives (.stst p f) s fun t => StoredAt s t p f e x (fstBase x.item.region + off) := by
  have inside := Engine.address_inside address
  obtain ⟨-, high⟩ := fstBase_inside region inside
  refine ⟨_, rfl, Issues.stores h ?_ (high.trans (by decide))⟩
  simp only [address, entry, Bool.not_false, if_true]

/-! ## Pixels and coefficients (R165, R166) -/

theorem exec_ldpx {fr : Frame} {row : Int} (h : Issues s p 0x10 f e x) (legal : PX.legal f = true) (plain : x.pfx? = none)
    (item : x.kind.isItem = true) (frame : s.frame? x.item.frame = some fr) (reach : (PX.of f).dy.natAbs ≤ s.rho x.item.frame)
    (neighbour : fr.neighbour x.item.region x.item.row (PX.of f).dy = some row) : Gives (.ldpx p f []) s fun t =>
      GoesOn s t p (e.pixels (PX.of f) fun j =>
        s.lineWord x.item.region x.item.frame row ((e.sr (PX.of f).sc).toInt + (PX.of f).dx + j)) x ∧ RegistersOnly s t := by
  have known : (s.frame? x.item.frame).bind (fun fr => fr.neighbour x.item.region x.item.row (PX.of f).dy) = some row := by
    rw [frame]
    exact neighbour
  refine ⟨_, rfl, ?_⟩
  obtain ⟨vs, ms, pixels⟩ := e.pixels_frame
    (fun j => s.lineWord x.item.region x.item.frame row ((e.sr (PX.of f).sc).toInt + (PX.of f).dx + j)) (PX.of f)
  obtain ⟨-, run, -, -⟩ := State.issues_run h.1
  rw [pixels]
  refine Issues.registers h (.inl plain) legal ?_ run
  simp only [item, Bool.not_true, Bool.false_eq_true, if_false, Nat.not_lt.2 reach, known, State.findUpsets_nil]
  rw [← pixels]
  rfl

/-- An instruction that charges a memory port and puts the registers `e'`. -/
theorem Issues.putsCharged {i c n : Nat} {takes : Bool} {body : Engine → Run → Eff} {e' : Engine} {x' : Run}
    (h : Issues s p op f e x) (prefixed : x.pfx? = none ∨ takes = true) (hl : legal = true)
    (hb : body e x = ((s.spend i c n).setEngine p e', .next)) (run : e'.run = some x')
    (path : e.OnPath e' := by exact ⟨rfl, rfl, rfl⟩) (way : x.OnPath x' := by exact ⟨rfl, rfl⟩) :
    GoesOn s (s.instr p op f cycles takes legal body) p e' x' ∧ RegistersOnly s (s.instr p op f cycles takes legal body) := by
  obtain ⟨r, spent⟩ := s.spend_frame i c n
  rw [spent] at hb
  obtain ⟨goes, only⟩ := Issues.goesOn h (cycles := cycles) prefixed hl hb (State.engine_setEngine { s with rolls := r } p e') run
    path way rfl
  exact ⟨goes, RegistersOnly.trans (t := State.setEngine { s with rolls := r } p e') rfl only⟩

theorem exec_ldcf {fits : Bool} {get : Nat → Int} (h : Issues s p 0x11 f e x) (legal : ldcfLegal f = true)
    (field : ldcfField (bits f.toNat 15 12) = some (fits, get)) (plain : x.pfx? = none) (item : x.kind.isItem = true)
    (sticks : s.maySpend (64 + x.item.region) 0 = true) : Gives (.ldcf p f []) s fun t =>
      GoesOn s t p (e.putV (bits f.toNat 25 21) ((e.vr (bits f.toNat 25 21)).write (bit f.toNat 10) (e.active (bits f.toNat 6 4))
        (fun j => get (s.ldcfRecord (s.bankFor x.item.region x.item.frame (bit f.toNat 16)) x.item.row
          ((e.sr (bits f.toNat 20 17)).toInt + j))) fun _ => 0)) x ∧ RegistersOnly s t := by
  obtain ⟨-, run, -, -⟩ := State.issues_run h.1
  change ∃ t, execLdcf p f [] s = .next t ∧ _
  unfold execLdcf
  simp only [h.1, item, sticks, Bool.not_true, Bool.and_false, Bool.false_eq_true, if_false]
  refine ⟨_, rfl, Issues.putsCharged h (i := 64 + x.item.region) (c := 0) (n := 1) (.inl plain) legal ?_ run⟩
  simp only [item, field, Bool.not_true, Bool.false_eq_true, if_false]
  rfl

end

end Sys2Proof.Machine
end

section
/-! The instructions that gather: neighbours, histograms, statistics and moments (05_engine_instructions.md R175-R180). -/

namespace Sys2Proof.Machine

section
variable {s : State} {p : Fin 272} {f : BitVec 26} {e : Engine} {x : Run}

/-! ## Neighbours (R175-R177) -/

/-- The lane of the half that VNBR gives to lane `j`. -/
def vnbrLane (f : BitVec 26) (j : Nat) : Nat := (if bit f.toNat 10 then 16 else 0) + j

/-- The substitute of VNBR 3×3 for lane `j`. -/
def State.vnbrSubstitute (s : State) (f : BitVec 26) (e : Engine) (x : Run) (fr : Frame) (j : Nat) : Option (Int × Nat) :=
  s.substitute x fr (bit f.toNat 0) ((e.sr (bits f.toNat 15 12)).toInt + (if bit f.toNat 10 then 16 else 0 : Nat) + j)
    (nbrSelected nbr3 ((e.vr (bits f.toNat 20 16)).laneU false (vnbrLane f j) % 256))

/-- What VNBR 3×3 gives lane `j`: the substitute of an active lane, if there is one. -/
def State.vnbrGot (s : State) (f : BitVec 26) (e : Engine) (x : Run) (fr : Frame) (j : Nat) : Option (Int × Nat) :=
  if e.active (bits f.toNat 7 5) (vnbrLane f j) then s.vnbrSubstitute f e x fr j else none

theorem exec_vnbr {fr : Frame} (h : Issues s p 0x2E f e x) (plain : x.pfx? = none) (item : x.kind.isItem = true) (legal : bits f.toNat 9 8 = 0)
    (square : bit f.toNat 11 = false) (frame : s.frame? x.item.frame = some fr) : Gives (.vnbr ⟨p, []⟩ f) s fun t =>
      ∃ got : Nat → Option (Int × Nat), (∀ j, j < 16 → got j = s.vnbrGot f e x fr j) ∧
      GoesOn s t p (e.putV (bits f.toNat 25 21) ((e.vr (bits f.toNat 25 21)).write true (fun j => (got j).isSome)
        (fun j => ((got j).map (·.1)).getD 0) fun j => ((got j).map (·.2)).getD 0)) x ∧ RegistersOnly s t := by
  obtain ⟨-, run, -, -⟩ := State.issues_run h.1
  refine ⟨_, rfl, fun j => (((List.range 16).map fun i => if ((List.range 16).filter fun i =>
      e.active (bits f.toNat 7 5) (vnbrLane f i)).contains i then s.vnbrSubstitute f e x fr i else none)[j]?).join, fun j hj => ?_,
    Issues.registers h (.inl plain) (decide_eq_true legal) ?_ run⟩
  · simp [State.vnbrGot, hj]
  · simp only [item, square, frame, Bool.not_true, Bool.false_and, Bool.false_eq_true, if_false]
    rfl

/-! ## Histograms (R178) -/

/-- An instruction that stores bytes below the programs and changes its run. -/
theorem Issues.pokesAndMapsRun {op cycles a : Nat} {takes legal : Bool} {bs : List Byte} {body : Engine → Run → Eff} {g : Run → Run}
    (h : Issues s p op f e x) (prefixed : x.pfx? = none ∨ takes = true) (hl : legal = true)
    (hb : body e x = ((s.poke a bs).mapRun p g, .next)) (below : a + bs.length ≤ 6 * 2 ^ 40) (way : x.OnPath (g x)) :
    GoesOn s (s.instr p op f cycles takes legal body) p { e with run := some (g x) } (g x) ∧
      RegistersOnly (s.poke a bs) (s.instr p op f cycles takes legal body) := by
  obtain ⟨own, run, -, -⟩ := State.issues_run h.1
  have changed : (s.poke a bs).mapRun p g = (s.poke a bs).setEngine p { e with run := some (g x) } := by
    rw [State.mapRun, show (s.poke a bs).engine p = e from own, run]
    rfl
  rw [changed] at hb
  obtain ⟨goes, only⟩ := Issues.goesOn h (cycles := cycles) prefixed hl hb ((s.poke a bs).engine_setEngine p _) rfl
    ⟨rfl, rfl, rfl⟩ way (State.slotLen_poke below x.slot)
  exact ⟨goes, RegistersOnly.trans (RegistersOnly.setEngine _ p _) only⟩

theorem Run.use_onPath (y : Run) (r : Nat) : y.OnPath (y.use r) := by
  unfold Run.use
  split <;> exact ⟨rfl, rfl⟩

/-- The bin that VHIST names for lane `j`. -/
def vhistBin (f : BitVec 26) (e : Engine) (x : Run) (j : Nat) : Nat :=
  histBase x.item.region + 16384 * (VR.of f).vd + 4 * min ((e.vr (VR.of f).va).laneU false j) 4095

/-- VHIST OF ONE LANE adds its weight to one bin. -/
theorem exec_vhist {j : Nat} (h : Issues s p 0x30 f e x) (item : x.kind = .item) (immediate : (VR.of f).bm = 2)
    (bank : (VR.of f).vd < 4) (sub : (VR.of f).sub = 0) (half : (VR.of f).w = false) (plain : x.pfx? = none) (weight : 1 ≤ (VR.of f).b)
    (held : s.holds p (21 * x.item.region + (VR.of f).vd) = true) (one : (List.range 32).filter (e.counts (VR.of f)) = [j])
    (clean : s.eccBad = []) (region : x.item.region < 64) : Gives (.vhist p f []) s fun t => ∃ y,
      GoesOn s t p { e with run := some y } y ∧ RegistersOnly (s.addBin (vhistBin f e x j) (VR.of f).b) t := by
  have small : (VR.of f).b < 32 := bits_lt _ 15 11
  have below : vhistBin f e x j + 4 ≤ 6 * 2 ^ 40 := by
    unfold vhistBin histBase
    omega
  refine ⟨_, rfl, _, Issues.pokesAndMapsRun h (a := vhistBin f e x j) (bs := leBytes 4 _) (g := fun y => (Run.sign { y with
          hists := if y.hists.contains (VR.of f).vd then y.hists else (VR.of f).vd :: y.hists } 3
          (65536 * (VR.of f).vd + min ((e.vr (VR.of f).va).laneU false j) 4095) (leBytes 2 (VR.of f).b)).use
            (21 * x.item.region + (VR.of f).vd)) (.inl plain) ?_ ?_ (by rw [length_leBytes]; exact below) ?_⟩
  · simp [immediate, bank, sub, half]
  · have range : (decide ((1 : Int) ≤ (VR.of f).b) && decide (((VR.of f).b : Int) ≤ 31)) = true := by
      rw [Bool.and_eq_true, decide_eq_true_eq, decide_eq_true_eq]
      omega
    simp only [item, immediate, plain, one, RunKind.comparing, leaseNumber, held, range, State.findUpsets_nil, clean, List.map_cons,
      List.map_nil, List.any_cons, List.any_nil, List.contains_nil, Bool.or_self, Bool.not_true, Bool.not_false, Bool.and_false,
      Bool.false_eq_true, if_false, Int.toNat_natCast]
    rfl
  · exact Run.use_onPath (Run.sign { x with hists := _ } 3 _ _) _

/-! ## Statistics and moments (R179, R180) -/

/-- The lanes that take part in a statistic, read signed. -/
def Engine.counted (e : Engine) (r : VR) : List Int :=
  ((List.range (laneCount r.w)).filter (e.counts r)).map ((e.vr r.va).lane r.w)

/-- The registers after a VSTAT that begins anew, signed. -/
def Engine.gathered (e : Engine) (r : VR) : Engine :=
  { e with
    stSum := signedOf 64 (wrapNat 64 (0 + (e.counted r).sum)), stNew := false
    stSq := min (2 ^ 64 - 1) (0 + ((e.counted r).map fun v => v.natAbs * v.natAbs).sum)
    stMin := (e.counted r).foldl min (2 ^ (laneBits r.w - 1) - 1), stMax := (e.counted r).foldl max (-(2 ^ (laneBits r.w - 1)))
    stCnt := 0 + BitVec.ofNat 32 (e.counted r).length }

theorem exec_vstat (h : Issues s p 0x31 f e x) (plain : x.pfx? = none) (register : (VR.of f).bm = 0) (zero : (VR.of f).b = 0)
    (anew : (VR.of f).sub = 1) : Gives (.vstat p f) s fun t => GoesOn s t p (e.gathered (VR.of f)) x ∧ RegistersOnly s t := by
  refine ⟨_, rfl, IssuesVR.answers ⟨h, by omega, .inr plain⟩ ?_⟩
  simp only [anew]
  rfl

/-- The moments of the target after VMOM. -/
def Engine.moments (e : Engine) (r : VR) : Moment :=
  (List.range 32).foldl (fun (m : Moment) (j : Nat) => if e.counts r j && 0 ≤ (e.sr (r.b % 16)).toInt + (j : Int) &&
    (e.sr (r.b % 16)).toInt + (j : Int) ≤ 767 then m.add ((e.sr (r.b % 16)).toInt + (j : Int)).toNat ((e.vr r.va).laneU false j)
    else m) (e.mom.toList.getD r.vd {})

theorem exec_vmom (h : Issues s p 0x32 f e x) (plain : x.pfx? = none) (columns : (VR.of f).bm = 1) (half : (VR.of f).w = false) :
    Gives (.vmom p f) s fun t =>
      GoesOn s t p { e with mom := e.mom.setIfInBounds (VR.of f).vd (e.moments (VR.of f)) } x ∧ RegistersOnly s t :=
  ⟨_, rfl, IssuesVR.answers ⟨h, by omega, .inr plain⟩ rfl⟩

end

end Sys2Proof.Machine
end

section
/-! The emits and bells (05_engine_instructions.md R181-R183, R187; 04_engine_fabric.md R115). -/

namespace Sys2Proof.Machine

/-! ## What the run collects (R115, R181) -/

/-- A pixel of column `c.1` joins the run's list. -/
def Run.pixel (site : Nat) (half : Bool) (z : Run) (c : Nat × Word × Nat) : Run :=
  { z with emits := .px site c.1 c.2.1 (BitVec.ofNat 4 c.2.2) half :: z.emits }.sign 0 (site * 1024 + c.1) (pxBytes c.2.1 c.2.2)

section
variable (site : Nat) (half : Bool) (l : List (Nat × Word × Nat)) (y : Run)

theorem Run.pixels_frame : ∃ emits sig, l.foldl (Run.pixel site half) y = { y with emits := emits, sig := sig } := by
  induction l generalizing y with
  | nil => exact ⟨y.emits, y.sig, rfl⟩
  | cons c l ih =>
    obtain ⟨emits, sig, frame⟩ := ih (y.pixel site half c)
    exact ⟨emits, sig, frame⟩

end

theorem Run.use_frame (y : Run) (r : Nat) : ∃ used, y.use r = { y with used := used } := by
  unfold Run.use
  split
  · exact ⟨y.used, rfl⟩
  · exact ⟨_, rfl⟩

/-- An emission joins the run's list under the lease `r`. -/
def Run.emitted (y : Run) (m : Emit) (kind place : Nat) (bytes : List Byte) (r : Nat) : Run :=
  ({ y with emits := m :: y.emits }.sign kind place bytes).use r

theorem Run.emitted_frame (y : Run) (m : Emit) (kind place : Nat) (bytes : List Byte) (r : Nat) :
    ∃ sig used, y.emitted m kind place bytes r = { y with emits := m :: y.emits, sig := sig, used := used } := by
  obtain ⟨used, frame⟩ := Run.use_frame ({ y with emits := m :: y.emits }.sign kind place bytes) r
  exact ⟨_, used, frame⟩

section
variable {s : State} {p : Fin 272} {f : BitVec 26} {e : Engine} {x : Run}

theorem State.emit_of_kind {kind : Nat} {legal : EM → Bool} {body : Engine → Run → EM → Eff} (h : (EM.of f).kind = kind) :
    s.emit p f kind legal body =
      s.instr p 0x38 f 1 false (bits f.toNat 4 0 = 0 && legal (EM.of f)) fun e x => body e x (EM.of f) :=
  if_pos h

/-- The pixels of EMIT LINE. -/
def Engine.linePixels (e : Engine) (q : EM) : List (Nat × Word × Nat) :=
  ((List.range (laneCount q.w)).filter fun (j : Nat) => e.active q.msk j && 0 ≤ (e.sr q.sc).toInt + (j : Int) &&
    (e.sr q.sc).toInt + (j : Int) ≤ 767).map fun (j : Nat) =>
      (((e.sr q.sc).toInt + (j : Int)).toNat, BitVec.ofInt 32 ((e.vr q.vs).lane q.w j), (e.vr q.vs).tag j)

theorem exec_emitLine (h : Issues s p 0x38 f e x) (plain : x.pfx? = none) (item : x.kind.isItem = true) (kind : (EM.of f).kind = 0)
    (reserved : bits f.toNat 4 0 = 0) : Gives (.emitLine p f) s fun t =>
      let y := (e.linePixels (EM.of f)).foldl (Run.pixel (EM.of f).dest !(EM.of f).w) x
      GoesOn s t p { e with run := some y } y ∧ RegistersOnly s t := by
  have way : x.OnPath ((e.linePixels (EM.of f)).foldl (Run.pixel (EM.of f).dest !(EM.of f).w) x) := by
    obtain ⟨emits, sig, frame⟩ := Run.pixels_frame (EM.of f).dest (!(EM.of f).w) (e.linePixels (EM.of f)) x
    rw [frame]
    exact ⟨rfl, rfl⟩
  change ∃ t, execEmitLine p f s = .next t ∧ _
  unfold execEmitLine
  rw [State.emit_of_kind kind]
  refine ⟨_, rfl, Issues.mapsRun h (.inl plain) (by simp [reserved])
    (g := fun y => (e.linePixels (EM.of f)).foldl (Run.pixel (EM.of f).dest !(EM.of f).w) y) ?_ way⟩
  simp only [item, Bool.not_true, Bool.false_eq_true, if_false]
  rfl

/-- An emission of an item run that joins the run's list. -/
theorem Issues.emits {cycles : Nat} {legal : Bool} {m : Emit} {body : Engine → Run → Eff} (k place : Nat) (bytes : List Byte)
    (r : Nat) (h : Issues s p 0x38 f e x) (hl : legal = true)
    (hb : body e x = (s.mapRun p fun y => y.emitted m k place bytes r, .next)) (plain : x.pfx? = none := by assumption) :
    ∃ sig used, let y : Run := { x with emits := m :: x.emits, sig := sig, used := used }
      GoesOn s (s.instr p 0x38 f cycles false legal body) p { e with run := some y } y ∧
        RegistersOnly s (s.instr p 0x38 f cycles false legal body) := by
  obtain ⟨sig, used, frame⟩ := x.emitted_frame m k place bytes r
  refine ⟨sig, used, ?_⟩
  intro y
  have done := Issues.mapsRun (cycles := cycles) h (takes := false) (.inl plain) hl hb (by rw [frame]; exact ⟨rfl, rfl⟩)
  rwa [frame] at done

/-- The record of EMIT RECORD. -/
def Engine.record (e : Engine) (q : EM) : Emit :=
  .record (q.dest / 4) (leBytes 64 (e.vr q.vs).lanes.toNat) (BitVec.ofNat 16 (e.sr q.sc).toNat)

theorem exec_emitRecord (h : Issues s p 0x38 f e x) (plain : x.pfx? = none) (item : x.kind = .item) (kind : (EM.of f).kind = 1)
    (reserved : bits f.toNat 4 0 = 0) (half : (EM.of f).w = false) (view : (EM.of f).dest % 4 = 0)
    (held : s.holds p (21 * x.item.region + 5 + (EM.of f).dest / 4) = true) : Gives (.emitRecord p f) s fun t => ∃ sig used,
      let y : Run := { x with emits := e.record (EM.of f) :: x.emits, sig := sig, used := used }
      GoesOn s t p { e with run := some y } y ∧ RegistersOnly s t := by
  change ∃ t, execEmitRecord p f s = .next t ∧ _
  unfold execEmitRecord
  rw [State.emit_of_kind kind]
  refine ⟨_, rfl, Issues.emits 4 ((EM.of f).dest / 4) (leBytes 64 (e.vr (EM.of f).vs).lanes.toNat ++
    leBytes 2 (BitVec.ofNat 16 (e.sr (EM.of f).sc).toNat).toNat) (21 * x.item.region + 5 + (EM.of f).dest / 4) h
    (by simp [reserved, half, view]) ?_⟩
  simp only [item, leaseNumber, held, RunKind.comparing, RunKind.isItem, Bool.not_true, Bool.not_false, Bool.and_false,
    Bool.false_eq_true, if_false, if_true]
  rfl

/-- The transmit slot of link `l` from the die of engine `p` towards that of a region. -/
def remoteSlot (p region l : Nat) : Nat := 2 * l + (if dieOfEngine p < quadOfRegion region then 0 else 1)

/-- The block that EMIT REMOTE sends over link `l` in an entry run. -/
def Engine.seamBlock (e : Engine) (q : EM) (p l : Nat) : SeamBlock :=
  ⟨remoteSlot p (bits (e.sr q.sc).toNat 29 24) l, 1, bits (e.sr q.sc).toNat 29 24, bits (e.sr q.sc).toNat 21 0,
    leBytes 64 (e.vr q.vs).lanes.toNat⟩

/-- The remote write that EMIT REMOTE adds to an item run. -/
def Engine.remote (e : Engine) (q : EM) (p l : Nat) : Emit :=
  .remote (bits (e.sr q.sc).toNat 29 24) (bits (e.sr q.sc).toNat 21 0) (leBytes 64 (e.vr q.vs).lanes.toNat)
    (remoteSlot p (bits (e.sr q.sc).toNat 29 24) l)

/-- An entry run does not compare and is of activity class 1. -/
theorem RunKind.entry_plain {k : RunKind} (entry : k.isItem = false) : k.comparing = false ∧ k.cls = 1 := by
  cases k with
  | frameEntry | endEntry => exact ⟨rfl, rfl⟩
  | item | check | third => cases entry

/-! ## The instruction as a whole (R151, R183) -/

/-- Nothing but the engines and the sticks changes: no block joins or leaves a link transmitter. -/
def State.OnlyMovesOn (s t : State) : Prop := RegistersOnly s t ∧ t.rolls.seam = s.rolls.seam

section
variable {s t u : State}

theorem State.OnlyMovesOn.refl : s.OnlyMovesOn s := ⟨rfl, rfl⟩

theorem State.OnlyMovesOn.setEngine (h : s.OnlyMovesOn t) (p : Nat) (e : Engine) : s.OnlyMovesOn (t.setEngine p e) :=
  ⟨RegistersOnly.trans h.1 (RegistersOnly.setEngine t p e), h.2⟩

theorem State.OnlyMovesOn.spend (h : s.OnlyMovesOn t) (i c n : Nat) : s.OnlyMovesOn (t.spend i c n) := by
  unfold State.spend
  split
  · exact h
  · exact ⟨h.1, h.2⟩

theorem State.OnlyMovesOn.ite {c : Prop} [Decidable c] (h : s.OnlyMovesOn t) (h' : s.OnlyMovesOn u) :
    s.OnlyMovesOn (if c then t else u) := by
  split
  · exact h
  · exact h'

end

/-- GOING ON, or stopping with a fault, after an instruction. -/
theorem State.retire_onlyMovesOn (r : Eff) (p pc cycles : Nat) (counts : Bool) :
    r.1.OnlyMovesOn (State.retire r p pc cycles counts) := by
  unfold State.retire
  dsimp only
  split
  · exact .setEngine .refl p _
  · exact .refl
  · exact .ite (.spend (.setEngine .refl p _) _ _ _) (.setEngine (.spend (.setEngine .refl p _) _ _ _) p _)
  · exact .ite (.spend (.setEngine .refl p _) _ _ _) (.setEngine .refl p _)

/-! ## Remote writes (R183) -/

section
variable {l : Nat} (h : Issues s p 0x38 f e x) (plain : x.pfx? = none) (kind : (EM.of f).kind = 2) (reserved : bits f.toNat 4 0 = 0)
  (dest : (EM.of f).dest = 0)
  (joined : seamBetween (dieOfEngine p) (quadOfRegion (bits (e.sr (EM.of f).sc).toNat 29 24)) = some l)
  (aligned : bits (e.sr (EM.of f).sc).toNat 21 0 % 64 = 0)
  (held : s.holds p (1344 + remoteSlot p (bits (e.sr (EM.of f).sc).toNat 29 24) l) = true)
include h plain kind reserved dest joined aligned held

theorem exec_emitRemote_item (item : x.kind = .item) : Gives (.emitRemote p f) s fun t => ∃ sig used,
    let y : Run := { x with emits := e.remote (EM.of f) p l :: x.emits, sig := sig, used := used }
    GoesOn s t p { e with run := some y } y ∧ RegistersOnly s t := by
  change ∃ t, execEmitRemote p f s = .next t ∧ _
  unfold execEmitRemote
  rw [State.emit_of_kind kind]
  refine ⟨_, rfl, Issues.emits 5 ((e.sr (EM.of f).sc).toNat % 2 ^ 30) (leBytes 64 (e.vr (EM.of f).vs).lanes.toNat)
    (1344 + remoteSlot p (bits (e.sr (EM.of f).sc).toNat 29 24) l) h (by simp [reserved, dest]) ?_⟩
  simp only [joined]
  unfold remoteSlot at held
  simp only [item, leaseNumber, held, aligned, RunKind.comparing, RunKind.isItem, Bool.not_true, Bool.not_false, Bool.and_false,
    Bool.false_eq_true, if_false, if_true, ne_eq, not_true]
  rfl

/-- In an entry run the block goes to the link transmitter. -/
theorem exec_emitRemote_entry (entry : x.kind.isItem = false) : Gives (.emitRemote p f) s fun t =>
    ((s.mapRun p fun y => y.use (1344 + remoteSlot p (bits (e.sr (EM.of f).sc).toNat 29 24) l)).sendSeam
      (e.seamBlock (EM.of f) p l)).OnlyMovesOn t := by
  obtain ⟨hi, sticks, -⟩ := h
  have own := RunKind.entry_plain entry
  change ∃ t, execEmitRemote p f s = .next t ∧ _
  unfold execEmitRemote
  rw [State.emit_of_kind kind]
  refine ⟨_, rfl, ?_⟩
  rw [State.instr_retires hi sticks (.inl plain) (by simp [reserved, dest])]
  simp only [joined]
  unfold remoteSlot at held
  simp only [entry, own, leaseNumber, held, aligned, Bool.not_true, Bool.not_false, Bool.and_false, Bool.false_eq_true, if_false,
    ne_eq, not_true]
  exact State.retire_onlyMovesOn _ _ _ _ _

end

/-! ## Bells (R187) -/

theorem exec_engineBell_item (h : Issues s p 0x3C f e x) (plain : x.pfx? = none) (reserved : bits f.toNat 24 21 = 0)
    (zero : bits f.toNat 16 8 = 0) (item : x.kind.isItem = true) : Gives (.engineBell p f) s fun t =>
      let y : Run := { x with bells :=
        (0x0800 + if bit f.toNat 25 then bits f.toNat 7 0 else (e.sr (bits f.toNat 20 17)).toNat % 256) :: x.bells }
      GoesOn s t p { e with run := some y } y ∧ RegistersOnly s t :=
  ⟨_, rfl, Issues.mapsRun h (.inl plain) (by simp [reserved, zero]) (g := fun y => { y with bells := _ :: y.bells }) (if_pos item)⟩

theorem exec_engineBell_entry (h : Issues s p 0x3C f e x) (plain : x.pfx? = none) (reserved : bits f.toNat 24 21 = 0)
    (zero : bits f.toNat 16 8 = 0) (entry : x.kind.isItem = false) : Gives (.engineBell p f) s fun t => GoesOn s t p e x ∧
      RegistersOnly (s.bell (0x0800 + if bit f.toNat 25 then bits f.toNat 7 0 else (e.sr (bits f.toNat 20 17)).toNat % 256)) t := by
  obtain ⟨o, d, bell, -⟩ := s.bell_frame (0x0800 + if bit f.toNat 25 then bits f.toNat 7 0 else (e.sr (bits f.toNat 20 17)).toNat % 256) 0
  refine ⟨_, rfl, Issues.keeps h (.inl plain) (by simp [reserved, zero]) (if_neg (by rw [entry]; decide)) (fun j => ?_) ?_⟩
  · rw [bell]
    rfl
  · rw [bell]
    rfl

end

end Sys2Proof.Machine
end

section
/-! The vector instructions, one by one (05_engine_instructions.md R170-R174). -/

namespace Sys2Proof.Machine

/-- Settles O27: each instruction by the lemma on its result, a value that the lane holds. -/
theorem vectorArithmetic : Obligations.VectorArithmetic := by
  unfold Obligations.VectorArithmetic
  intro p f e x s r done a b operand prefixed
  refine ⟨fun h sub => ⟨_, rfl, State.addSub_wraps ⟨h, operand, prefixed⟩ sub⟩,
    fun h sub => ⟨_, rfl, State.addSub_saturates ⟨h, operand, prefixed⟩ sub⟩,
    fun h sub => ⟨_, rfl, State.addSub_wraps ⟨h, operand, prefixed⟩ sub⟩,
    fun h sub => ⟨_, rfl, State.addSub_saturatesUnsigned ⟨h, operand, prefixed⟩ sub⟩, fun h => ?_, fun h sub => ?_, fun h sub => ?_,
    fun h sub => ?_, fun h sub => exec_vabs ⟨h, operand, prefixed⟩ sub, fun h sub right => ?_, fun h sub right => ?_,
    fun h sub immediate plain fits => exec_vsat ⟨h, operand, prefixed⟩ sub immediate plain fits⟩
  · have mul := exec_vmul ⟨h, operand, prefixed⟩
    simp only [Engine.factor_eq] at mul
    exact mul
  · exact ⟨_, rfl, LanesDone.congr (State.minMax_signed ⟨h, operand, prefixed⟩ sub) fun j _ =>
      (if_congr decide_eq_true_iff rfl rfl).trans (min_def _ _).symm⟩
  · exact ⟨_, rfl, LanesDone.congr (State.minMax_signed ⟨h, operand, prefixed⟩ sub) fun j _ =>
      ((if_congr decide_eq_true_iff rfl rfl).trans (max_def' _ _).symm)⟩
  · refine ⟨_, rfl, LanesDone.congr (State.minMax_unsigned ⟨h, operand, prefixed⟩ sub) fun j _ => congrArg _ ?_⟩
    exact (if_congr (decide_eq_true_iff.trans Int.ofNat_le) rfl rfl).trans (max_def' _ _).symm
  · refine (exec_vshr ⟨h, operand, prefixed⟩ (.inl sub) right).imp fun t => And.imp_right fun d => LanesDone.congr d fun j _ => ?_
    rw [shiftRight, sub]
    rfl
  · refine (exec_vshr ⟨h, operand, prefixed⟩ (.inr sub) fun j hj => ⟨?_, (right j hj).2⟩).imp fun t =>
      And.imp_right fun d => LanesDone.congr d fun j hj => ?_
    · exact le_trans (by decide) (right j hj).1
    · have some : (b j).toNat ≠ 0 := by
        have := (right j hj).1
        omega
      rw [shiftRight, decide_eq_true sub, if_pos rfl, roundDown, if_neg some]

/-- Settles O28: each instruction by the lemma on the register it writes. -/
theorem accumulateCompareSelectTagAndLookUp : Obligations.AccumulateCompareSelectTagAndLookUp := by
  unfold Obligations.AccumulateCompareSelectTagAndLookUp
  intro p f e x s r a operand prefixed
  refine ⟨fun h legal => exec_vmac ⟨h, operand, prefixed⟩ legal, fun h legal => ?_,
    fun h => exec_vsel ⟨h, operand, prefixed⟩, fun h register puts => exec_vtag_puts ⟨h, operand, prefixed⟩ register puts,
    fun h register mask some legal => ?_,
    fun h register plain clean aligned inside => exec_vlut ⟨h, operand, prefixed⟩ register plain clean aligned inside⟩
  · obtain ⟨t, eq, e', goes, only, frame, others, m0, bits⟩ := exec_vcmp ⟨h, operand, prefixed⟩ legal
    exact ⟨t, eq, e', goes, only, frame, others, m0, fun some j hj => (bits some j hj).trans (Bool.and_assoc _ _ _).symm⟩
  · obtain ⟨t, eq, e', goes, only, frame, others, -, bits⟩ := exec_vtag_mask ⟨h, operand, prefixed⟩ register mask legal
    exact ⟨t, eq, e', goes, only, frame, others, fun j hj => (bits some.ne' j hj).trans (Bool.and_assoc _ _ _).symm⟩

end Sys2Proof.Machine
end

section
/-! What loads and stores give (05_engine_instructions.md R165-R168). -/

namespace Sys2Proof.Machine

section
variable (e : Engine) {q : PX} (word : Nat → Nat)

theorem Engine.vr_pixels (hd : q.vd < 32) (i : Nat) : (e.pixels q word).vr i = if i = q.vd then (e.vr q.vd).write q.w
    (e.active q.msk) (fun j => if linePresent (word j) then q.value (lineValue (word j)) else 0)
      (fun j => if linePresent (word j) then lineTag (word j) else 0) else e.vr i :=
  (Engine.vr_putMask _ _ _ i).trans (e.vr_putV hd _ i)

theorem Engine.mask_pixels (hm : q.pm < 8) (k : Nat) : (e.pixels q word).mask k = if k = q.pm ∧ q.pm ≠ 0 then
    BitVec.ofNat 32 (packLanes (laneCount q.w) 1 fun j => if e.active q.msk j && linePresent (word j) then 1 else 0)
    else e.mask k :=
  Engine.mask_putMask _ hm _ k

/-- What LDPX gives an active lane. -/
theorem Engine.lane_pixels (hd : q.vd < 32) (hm : q.pm < 8) {j : Nat} (hj : j < laneCount q.w) (active : e.active q.msk j = true) :
    ((e.pixels q word).vr q.vd).tag j = (if linePresent (word j) then lineTag (word j) else 0) ∧
    ((e.pixels q word).vr q.vd).lane q.w j = (if linePresent (word j) then q.value (lineValue (word j)) else 0) ∧
    (q.pm ≠ 0 → ((e.pixels q word).mask q.pm).getLsbD j = linePresent (word j)) := by
  have tag : lineTag (word j) < 16 := bits_lt _ 23 20
  rw [e.vr_pixels word hd, if_pos rfl]
  refine ⟨?_, ?_, fun some => ?_⟩
  · rw [VReg.tag_write, if_pos hj, if_pos active]
    split
    · exact Nat.mod_eq_of_lt tag
    · rfl
  · rw [VReg.lane_write _ _ _ _ _ hj, if_pos active]
    split
    · exact q.signedOf_value _
    · cases q.w <;> rfl
  · rw [e.mask_pixels word hm, if_pos ⟨rfl, some⟩, getLsbD_packLanes_bits _ _ (hj.trans_le (laneCount_le _)), decide_eq_true hj, active,
      Bool.true_and, Bool.true_and]

end

/-- Settles O26: each load and store by the lemma on it. -/
theorem loadsAndStores : Obligations.LoadsAndStores := by
  unfold Obligations.LoadsAndStores
  refine ⟨fun p f e x off s h legal w window address clean => ?_, fun p f e x off s h legal address => exec_stl h legal address,
    fun p f e x off s h legal address region clean => exec_ldst h legal address region clean,
    fun p f e x off s h legal address => ⟨fun item room => ?_, fun entry region => ?_⟩,
    fun p f e x fr row s h legal plain item frame reach neighbour => ?_,
    fun p f e x fits get s h legal field plain item sticks => ?_⟩
  · rcases window with rfl | rfl
    · rw [if_pos rfl]
      exact exec_ldl_table h legal address
    · rw [if_neg Window.noConfusion]
      exact exec_ldl_scratch h legal address (clean rfl)
  · obtain ⟨t, eq, blocks, goes, only⟩ := exec_stst_item h legal address item room
    exact ⟨t, eq, _, goes, rfl, rfl, fun a => RegistersOnly.byte only a, RegistersOnly.obj only⟩
  · obtain ⟨t, eq, own, others, goes, obj, -⟩ := exec_stst_entry h legal address entry region
    exact ⟨t, eq, goes, own, others, obj⟩
  · obtain ⟨t, eq, goes, only⟩ := exec_ldpx h legal plain item frame reach neighbour
    have hd : (PX.of f).vd < 32 := bits_lt _ 25 21
    have hm : (PX.of f).pm < 8 := bits_lt _ 9 7
    refine ⟨t, eq, _, goes, only, ?_, fun i other => (e.vr_pixels _ hd i).trans (if_neg other),
      fun k other => (e.mask_pixels _ hm k).trans (if_neg fun h => other h.1), fun j hj active => e.lane_pixels _ hd hm hj active⟩
    obtain ⟨vs, ms, pixels⟩ := e.pixels_frame _ (PX.of f)
    rw [pixels]
  · obtain ⟨t, eq, goes, only⟩ := exec_ldcf h legal field plain item sticks
    have hd : bits f.toNat 25 21 < 32 := bits_lt _ 25 21
    refine ⟨t, eq, _, goes, only, rfl, fun i other => (e.vr_putV hd _ i).trans (if_neg other), fun j hj active => ?_⟩
    rw [e.vr_putV hd, if_pos rfl, VReg.tag_write, VReg.laneU_write _ _ _ _ _ hj, if_pos hj, if_pos active, if_pos active]
    exact ⟨rfl, rfl⟩

end Sys2Proof.Machine
end

section
/-! What the gathering instructions give (05_engine_instructions.md R175-R180). -/

namespace Sys2Proof.Machine

/-! ## Neighbours (R175-R177) -/

section
variable {s : State} {p : Fin 272} {f : BitVec 26} {e : Engine} {x : Run} {fr : Frame}

/-- Without usable neighbour there is no substitute; else it is their rounded mean with SUB, and SET if one had it. -/
theorem State.substitute_eq (raw : Bool) (col : Int) (sel : List (Int × Int)) :
    s.substitute x fr raw col sel = if sel.filterMap (s.nbrValue x fr raw col) = [] then none else
      some (roundAway (((sel.filterMap (s.nbrValue x fr raw col)).map (·.1)).sum) (sel.filterMap (s.nbrValue x fr raw col)).length,
        if (sel.filterMap (s.nbrValue x fr raw col)).any fun u => u.2.testBit 1 then 6 else 4) := by
  unfold State.substitute
  cases sel.filterMap (s.nbrValue x fr raw col) with
  | nil => rfl
  | cons u us =>
    dsimp only
    rw [if_neg (List.cons_ne_nil u us)]
    split <;> rfl

theorem State.vnbrGot_none {j : Nat} (none : e.active (bits f.toNat 7 5) (vnbrLane f j) = false ∨
    (nbrSelected nbr3 ((e.vr (bits f.toNat 20 16)).laneU false (vnbrLane f j) % 256)).filterMap (s.nbrValue x fr (bit f.toNat 0)
      ((e.sr (bits f.toNat 15 12)).toInt + (if bit f.toNat 10 then 16 else 0 : Nat) + j)) = []) : s.vnbrGot f e x fr j = Option.none := by
  unfold State.vnbrGot State.vnbrSubstitute
  rcases none with inactive | unusable
  · rw [inactive]
    rfl
  · rw [State.substitute_eq, if_pos unusable, ite_self]

theorem State.vnbrGot_some {j : Nat} (active : e.active (bits f.toNat 7 5) (vnbrLane f j) = true) {us : List (Int × Nat)}
    (found : (nbrSelected nbr3 ((e.vr (bits f.toNat 20 16)).laneU false (vnbrLane f j) % 256)).filterMap (s.nbrValue x fr
      (bit f.toNat 0) ((e.sr (bits f.toNat 15 12)).toInt + (if bit f.toNat 10 then 16 else 0 : Nat) + j)) = us) (some : us ≠ []) :
    s.vnbrGot f e x fr j = Option.some (roundAway ((us.map (·.1)).sum) us.length, if us.any fun u => u.2.testBit 1 then 6 else 4) := by
  unfold State.vnbrGot State.vnbrSubstitute
  rw [if_pos active, State.substitute_eq, found, if_neg some]

end

/-- A register written where a value has been got. -/
theorem VReg.write_got (d : VReg) {got : Nat → Option (Int × Nat)} {j : Nat} (hj : j < 16) :
    let r := d.write true (fun j => (got j).isSome) (fun j => ((got j).map (·.1)).getD 0) fun j => ((got j).map (·.2)).getD 0
    (got j = none → r.lane true j = d.lane true j ∧ r.tag j = d.tag j) ∧
      ∀ v t, t < 16 → got j = some (v, t) → r.laneU true j = wrapNat 32 v ∧ r.tag j = t := by
  have here : j < laneCount true := hj
  intro r
  refine ⟨fun none => ?_, fun v t fits some => ?_⟩
  · rw [VReg.lane_write _ _ _ _ _ here, VReg.tag_write, if_pos here, none]
    exact ⟨rfl, rfl⟩
  · rw [VReg.laneU_write _ _ _ _ _ here, VReg.tag_write, if_pos here, some]
    exact ⟨rfl, Nat.mod_eq_of_lt fits⟩

/-! ## Histograms (R178) -/

theorem Engine.advance_v (e : Engine) (pc : Nat) : (e.advance pc).v = e.v := by
  unfold Engine.advance
  split
  · split
    · split <;> rfl
    · rfl
  · rfl

theorem State.le_addBin (s : State) (a weight : Nat) : (s.addBin a weight).le a 4 = min 0xFFFFFFFF (s.le a 4 + weight) :=
  State.le_poke_word s a (by omega)

theorem State.byte_addBin_other (s : State) {a c : Nat} (weight : Nat) (h : c < a ∨ a + 4 ≤ c) :
    (s.addBin a weight).byte c = s.byte c :=
  State.byte_poke_other (by rwa [length_leBytes])

/-! ## Statistics and moments (R179, R180) -/

section
variable {l : List Int} {a : Int}

/-- The least number of a list, taken in from a number that bounds the list from above. -/
theorem foldl_min_spec (bound : ∀ v ∈ l, v ≤ a) : (∀ v ∈ l, l.foldl min a ≤ v) ∧ (l ≠ [] → l.foldl min a ∈ l) := by
  obtain ⟨mem, least⟩ := List.min?_eq_some_iff.1 (List.min?_cons' (x := a) (xs := l))
  refine ⟨fun v hv => least v (List.mem_cons_of_mem a hv), fun some => ?_⟩
  obtain ⟨v, hv⟩ := List.exists_mem_of_ne_nil l some
  rcases List.mem_cons.1 mem with first | here
  · rwa [le_antisymm (least v (List.mem_cons_of_mem a hv)) ((bound v hv).trans first.ge)]
  · exact here

/-- The greatest number of a list, taken in from a number that bounds the list from below. -/
theorem foldl_max_spec (bound : ∀ v ∈ l, a ≤ v) : (∀ v ∈ l, v ≤ l.foldl max a) ∧ (l ≠ [] → l.foldl max a ∈ l) := by
  obtain ⟨mem, greatest⟩ := List.max?_eq_some_iff.1 (List.max?_cons' (x := a) (xs := l))
  refine ⟨fun v hv => greatest v (List.mem_cons_of_mem a hv), fun some => ?_⟩
  obtain ⟨v, hv⟩ := List.exists_mem_of_ne_nil l some
  rcases List.mem_cons.1 mem with first | here
  · rwa [← le_antisymm (greatest v (List.mem_cons_of_mem a hv)) (first.le.trans (bound v hv))]
  · exact here

/-- The sum of at most 32 lanes does not leave 64 bits. -/
theorem signedOf_sum (few : l.length ≤ 32) (small : ∀ v ∈ l, -2 ^ 31 ≤ v ∧ v ≤ 2 ^ 31) : signedOf 64 (wrapNat 64 (0 + l.sum)) = l.sum := by
  have low := l.card_nsmul_le_sum (-2 ^ 31) fun v hv => (small v hv).1
  have high := l.sum_le_card_nsmul (2 ^ 31) fun v hv => (small v hv).2
  rw [nsmul_eq_mul] at low high
  rw [zero_add]
  exact signedOf_wrapNat (by decide) (by omega) (by omega)

end

theorem Engine.counted_length (e : Engine) (r : VR) : (e.counted r).length ≤ 32 := by
  rw [Engine.counted, List.length_map]
  exact (List.length_filter_le _ _).trans (by rw [List.length_range]; exact laneCount_le r.w)

theorem Engine.counted_bounds (e : Engine) (r : VR) {v : Int} (h : v ∈ e.counted r) :
    -(2 ^ (laneBits r.w - 1)) ≤ v ∧ v ≤ 2 ^ (laneBits r.w - 1) - 1 := by
  obtain ⟨j, -, rfl⟩ := List.mem_map.1 h
  obtain ⟨low, high⟩ := signedOf_bounds (laneBits_pos r.w) ((e.vr r.va).laneU r.w j)
  exact ⟨low, Int.le_sub_one_of_lt high⟩

theorem Engine.gathered_spec (e : Engine) (r : VR) : (e.gathered r).stCnt.toNat = (e.counted r).length ∧
    (e.gathered r).stSum = (e.counted r).sum ∧ (∀ v ∈ e.counted r, (e.gathered r).stMin ≤ v ∧ v ≤ (e.gathered r).stMax) ∧
    (e.counted r ≠ [] → (e.gathered r).stMin ∈ e.counted r ∧ (e.gathered r).stMax ∈ e.counted r) := by
  have few := e.counted_length r
  have lane : (2 : Int) ^ (laneBits r.w - 1) ≤ 2 ^ 31 := by cases r.w <;> decide
  obtain ⟨least, minMem⟩ := foldl_min_spec fun v hv => (e.counted_bounds r hv).2
  obtain ⟨greatest, maxMem⟩ := foldl_max_spec fun v hv => (e.counted_bounds r hv).1
  refine ⟨?_, signedOf_sum few fun v hv => ?_, fun v hv => ⟨least v hv, greatest v hv⟩, fun some => ⟨minMem some, maxMem some⟩⟩
  · change (0 + BitVec.ofNat 32 (e.counted r).length).toNat = _
    rw [zero_add, toNat_ofNat_of_lt (by omega)]
  · obtain ⟨low, high⟩ := e.counted_bounds r hv
    omega

/-- THE COUNT OF A TARGET rises by one for each lane taken. -/
theorem Moment.n_foldl (take : Nat → Bool) (col weight : Nat → Nat) (l : List Nat) (m : Moment) :
    (l.foldl (fun (m : Moment) j => if take j then m.add (col j) (weight j) else m) m).n % 2 ^ 32 =
      (m.n + (l.filter take).length) % 2 ^ 32 := by
  induction l generalizing m with
  | nil => rfl
  | cons j l ih =>
    rw [List.foldl_cons, ih]
    cases taken : take j
    · rw [List.filter_cons_of_neg (by simp [taken])]
      rfl
    · rw [List.filter_cons_of_pos taken, List.length_cons, if_pos rfl, Moment.add]
      simp only [Nat.mod_add_mod]
      congr 1
      omega

theorem Engine.moments_n (e : Engine) (r : VR) : (e.moments r).n % 2 ^ 32 = ((e.mom.toList.getD r.vd {}).n + ((List.range 32).filter
    fun j => e.counts r j && decide (0 ≤ (e.sr (r.b % 16)).toInt + j ∧ (e.sr (r.b % 16)).toInt + j ≤ 767)).length) % 2 ^ 32 := by
  rw [Engine.moments, Moment.n_foldl]
  simp only [Bool.decide_and, Bool.and_assoc]

/-- Settles O29: each instruction by the lemma on what it changes. -/
theorem neighboursHistogramsAndStatistics : Obligations.NeighboursHistogramsAndStatistics := by
  unfold Obligations.NeighboursHistogramsAndStatistics
  refine ⟨fun p f e x fr s h plain item legal square frame => ?_, fun p f e x j s h item immediate bank sub half plain weight held one
    clean region => ?_, fun p f e x s h plain register zero anew => ?_, fun p f e x s h plain columns half => ?_⟩
  · obtain ⟨t, eq, got, lanes, goes, only⟩ := exec_vnbr h plain item legal square frame
    have hd : bits f.toNat 25 21 < 32 := bits_lt _ 25 21
    refine ⟨t, eq, _, goes, only, rfl, fun i other => (e.vr_putV hd _ i).trans (if_neg other), fun j hj => ?_⟩
    obtain ⟨keeps, takes⟩ := (e.vr (bits f.toNat 25 21)).write_got (got := got) hj
    rw [lanes j hj] at keeps takes
    rw [e.vr_putV hd, if_pos rfl]
    refine ⟨fun none => keeps (State.vnbrGot_none none), fun active some => ?_⟩
    exact takes _ _ (by generalize List.any _ _ = set; cases set <;> decide) (State.vnbrGot_some active rfl some)
  · obtain ⟨t, eq, y, goes, only⟩ := exec_vhist h item immediate bank sub half plain weight held one clean region
    obtain ⟨own, -⟩ := goes
    have le : t.le (vhistBin f e x j) 4 = (s.addBin (vhistBin f e x j) (VR.of f).b).le (vhistBin f e x j) 4 := by
      rw [State.le, State.le, State.bytes, State.bytes, RegistersOnly.mem only]
    refine ⟨t, eq, le.trans (s.le_addBin _ _), fun c hc => (RegistersOnly.byte only c).trans (s.byte_addBin_other _ hc), ?_, ?_,
      (RegistersOnly.obj only).trans (s.poke_obj _ _)⟩
    · rw [own]
      exact Engine.OnPath.advance (e := e) ⟨rfl, rfl, rfl⟩
    · rw [own, Engine.advance_run]
      exact e.advance_v e.pc
  · obtain ⟨t, eq, goes, only⟩ := exec_vstat h plain register zero anew
    exact ⟨t, eq, _, goes, only, rfl, e.gathered_spec (VR.of f)⟩
  · obtain ⟨t, eq, goes, only⟩ := exec_vmom h plain columns half
    have hd : (VR.of f).vd < 32 := bits_lt _ 25 21
    refine ⟨t, eq, _, goes, only, rfl, fun i other => Vector.getElem_setIfInBounds_ne _ other.symm, ?_⟩
    rw [Vector.getD_toList_setIfInBounds _ _ _ hd, if_pos rfl]
    exact e.moments_n (VR.of f)

end Sys2Proof.Machine
end

section
/-! What emits and bells give (05_engine_instructions.md R181-R183, R187; 04_engine_fabric.md R115). -/

namespace Sys2Proof.Machine

theorem Run.pixels_length (site : Nat) (half : Bool) (l : List (Nat × Word × Nat)) (y : Run) : (l.foldl (Run.pixel site half) y).emits.length = y.emits.length + l.length := by
  induction l generalizing y with
  | nil => rfl
  | cons c l ih =>
    rw [List.foldl_cons, ih, List.length_cons]
    change y.emits.length + 1 + _ = _
    omega

section
variable {s : State}

theorem State.bytes_poke_length {a n : Nat} {bs : List Byte} (length : bs.length = n) : (s.poke a bs).bytes a n = bs := by
  rw [← length, State.bytes_poke]

theorem remoteSlot_link (p region l : Nat) : remoteSlot p region l / 2 = l := by
  unfold remoteSlot
  split <;> omega

/-- A block that joins those that wait. -/
theorem State.sendSeam_waits {b : SeamBlock}
    (full : (s.maySpend (128 + b.slot) b.cls && !s.rolls.seam.any fun q => q.slot = b.slot && q.cls = b.cls) = false) :
    (s.sendSeam b).mem = s.mem ∧ (s.sendSeam b).rolls.seam = s.rolls.seam ++ [b] := by
  obtain ⟨o, r, stalled⟩ := s.stallRoll_onlyCharged (128 + b.slot) b.cls
  rw [State.sendSeam, full, if_neg Bool.false_ne_true]
  refine ⟨?_, rfl⟩
  rw [stalled]

/-- A block that its link, being up, carries at once. -/
theorem State.sendSeam_sent {b : SeamBlock}
    (free : (s.maySpend (128 + b.slot) b.cls && !s.rolls.seam.any fun q => q.slot = b.slot && q.cls = b.cls) = true)
    (up : s.fab.seamDown.toList.getD (b.slot / 2) false = false) :
    (s.sendSeam b).mem = (s.poke (fstBase b.region + b.off) b.bytes).mem ∧ (s.sendSeam b).obj = s.obj := by
  obtain ⟨r, spent⟩ := s.spend_frame (128 + b.slot) b.cls 1
  rw [State.sendSeam, if_pos free, spent, State.remoteWrite, if_neg (by rw [up]; decide)]
  exact ⟨rfl, rfl⟩

end

/-- Settles O30: each emission by the lemma on what it adds to the run, or does at once in an entry run. -/
theorem emitsAndBellsWaitForTheCommit : Obligations.EmitsAndBellsWaitForTheCommit := by
  unfold Obligations.EmitsAndBellsWaitForTheCommit
  refine ⟨fun p f e x s h plain item kind reserved => ?_, fun p f e x s h plain item kind reserved half view held => ?_,
    fun p f e x l s h plain kind reserved dest => ?_, fun p f e x s h plain reserved zero => ⟨fun item => ?_, fun entry => ?_⟩⟩
  · obtain ⟨t, eq, goes, only⟩ := exec_emitLine h plain item kind reserved
    obtain ⟨emits, sig, frame⟩ := Run.pixels_frame (EM.of f).dest (!(EM.of f).w) (e.linePixels (EM.of f)) x
    refine ⟨t, eq, _, goes, only, ?_, ?_⟩
    · rw [frame]
    · rw [Run.pixels_length, Engine.linePixels, List.length_map]
  · obtain ⟨t, eq, sig, used, goes, only⟩ := exec_emitRecord h plain item kind reserved half view held
    exact ⟨t, eq, _, goes, only, rfl, rfl⟩
  · intro sc far slot joined aligned held
    refine ⟨fun item => ?_, fun entry full => ?_, fun entry up sticks first => ?_⟩
    · obtain ⟨t, eq, sig, used, goes, only⟩ := exec_emitRemote_item h plain kind reserved dest joined aligned held item
      exact ⟨t, eq, fun a => RegistersOnly.byte only a, only, _, goes, rfl⟩
    · obtain ⟨t, eq, only, seam⟩ := exec_emitRemote_entry h plain kind reserved dest joined aligned held entry
      obtain ⟨mem, waits⟩ := State.sendSeam_waits (s := s.mapRun p fun y => y.use (1344 + slot)) (b := e.seamBlock (EM.of f) p l) full
      have same : t.mem = s.mem := (RegistersOnly.mem only).trans mem
      exact ⟨t, eq, fun a => by rw [State.byte, State.byte, same], seam.trans waits⟩
    · obtain ⟨t, eq, only, -⟩ := exec_emitRemote_entry h plain kind reserved dest joined aligned held entry
      have free : (s.maySpend (128 + slot) 1 && !s.rolls.seam.any fun q => q.slot = slot && q.cls = 1) = true := by
        rw [sticks, first]
        rfl
      have link : s.fab.seamDown.toList.getD (slot / 2) false = false := by
        rw [show slot / 2 = l from remoteSlot_link _ _ _]
        exact up
      obtain ⟨mem, obj⟩ := State.sendSeam_sent (s := s.mapRun p fun y => y.use (1344 + slot)) (b := e.seamBlock (EM.of f) p l) free link
      have stored : t.mem = (s.poke (fstBase (bits sc 29 24) + bits sc 21 0) (leBytes 64 (e.vr (EM.of f).vs).lanes.toNat)).mem :=
        (RegistersOnly.mem only).trans mem
      refine ⟨t, eq, ?_, fun a outside => ?_, (RegistersOnly.obj only).trans obj⟩
      · rw [State.bytes, stored, ← State.bytes]
        exact State.bytes_poke_length (length_leBytes _ _)
      · rw [State.byte, stored, ← State.byte]
        exact State.byte_poke_other (by rwa [length_leBytes])
  · obtain ⟨t, eq, goes, only⟩ := exec_engineBell_item h plain reserved zero item
    exact ⟨t, eq, _, goes, only, rfl⟩
  · obtain ⟨t, eq, goes, only⟩ := exec_engineBell_entry h plain reserved zero entry
    obtain ⟨o, d, bell, -⟩ := s.bell_frame (0x0800 + if bit f.toNat 25 then bits f.toNat 7 0 else (e.sr (bits f.toNat 20 17)).toNat % 256) 0
    refine ⟨t, eq, goes, fun room => ?_, fun a => (RegistersOnly.byte only a).trans ?_⟩
    · rw [RegistersOnly.dict only]
      exact State.bell_rings rfl rfl rfl room
    · rw [State.byte, bell]
      rfl

end Sys2Proof.Machine
end
